-- ==== Sys2Proof/Word.lean ====
section
/-! DEFINITION. The word types of the module and their plainest arithmetic (00_scope R5 to R8). -/

namespace Sys2Proof

/-- One byte of a store, image, descriptor or cell. -/
abbrev Byte := BitVec 8
/-- One 32-bit lane value of the vector engine (Table 5.1). -/
abbrev W32 := BitVec 32
/-- One register of a control space (R8) or one scalar register of a lane kernel (Table 5.1). -/
abbrev W64 := BitVec 64

/-- Partition P0 to P15 (R30). -/
abbrev PartId := Fin 16
/-- Compute die C0 to C3. -/
abbrev DieId := Fin 4
/-- Stack S0 to S7. -/
abbrev StackId := Fin 8
/-- Module-wide cluster index (R18). -/
abbrev ClusterId := Fin 160
/-- Module-wide tile index (R18). -/
abbrev TileId := Fin 1280
/-- Vetiver engine VE0 to VE127 (R24). -/
abbrev EngineId := Fin 128
/-- Module-wide pseudo-channel (R195). -/
abbrev PcId := Fin 256
/-- Ring 0 to 4,095 (R307). -/
abbrev RingId := Fin 4096
/-- Request slot 0 to 2,047. -/
abbrev SlotId := Fin 2048
/-- Sahvy port SL0 to SL17 (R347). -/
abbrev LinkId := Fin 18
/-- Plant port PP0 to PP3 (R374). -/
abbrev PlantId := Fin 4
/-- Plant output or check-value channel 0 to 63. -/
abbrev ChanId := Fin 64
/-- Service core SC0 to SC15 (R540). -/
abbrev CoreId := Fin 16
/-- Fault source index 0 to 255 (R465). -/
abbrev SourceId := Fin 256
/-- Video session 0 to 79 (R396). -/
abbrev SessId := Fin 80
/-- Clock island 0 to 192 (R526). -/
abbrev IslandId := Fin 193
/-- Bandwidth port 0 to 45 (R564). -/
abbrev BwId := Fin 46

end Sys2Proof
end

