-- ==== Sys2Proof/Syntax.lean ====
section
/-! DEFINITION. The commands of the module: one constructor of `Instr` per row of spec/opcode_table.json, with the row's operands. -/

namespace Sys2Proof

/-- Who makes an access to a control space (R44, R109, R221, R328, R557). -/
inductive Master where
  /-- the management controller -/
  | mgc
  /-- service core SCi -/
  | sc (i : CoreId)
  /-- any other master -/
  | other
  deriving DecidableEq, Repr

/-- The control spaces of registers (00_scope, Register descriptions). -/
inductive Space where
  | hcs
  | dcs (d : DieId)
  | bcs (m : StackId)
  deriving DecidableEq, Repr

/-- A tensor of an operator: where its elements, scales and index nibbles lie (addresses in the forms of
Table 12.7), its format (Table 7.4), layout (Table 6.2), extents and 2:4 sparsity (R176). -/
structure TRef where
  addr   : Nat
  scales : Nat
  nibs   : Nat
  fmt    : Nat
  layout : Nat
  ext    : List Nat
  sparse : Bool
  deriving DecidableEq, Repr

/-- One elementwise step of a chain: its code (Table 6.7), the source of b (0 the constant, 1 to 3 an input), the
constants b and c (R159, R178). -/
structure ChainStep where
  op  : Nat
  src : Nat
  b   : W32
  c   : W32
  deriving DecidableEq, Repr

/-- A chain: its further inputs, its steps, the rounding and saturation of its one conversion (R159). `sat` absent
means the default of R70. -/
structure Chain where
  inputs : List TRef
  steps  : List ChainStep
  rm     : Fin 4
  sat    : Option Bool
  deriving DecidableEq, Repr

/-- The parameters of a convolution or pool (Table 6.3, R158). -/
structure ConvParam where
  fh : Nat
  fw : Nat
  sh : Nat
  sw : Nat
  dh : Nat
  dw : Nat
  pt : Nat
  pb : Nat
  pl : Nat
  pr : Nat
  groups : Nat
  mode : Nat
  padValue : W32
  direct : Bool
  deriving DecidableEq, Repr

/-- The common head of a control or data cell (Tables 14.2 and 14.3, bytes 0x00 to 0x07), with what the receiving
port found of it: `bad` is 1 when a word was uncorrectable (R348), `corrected` counts corrected words and `lane` is the
lane they came on. -/
structure CellHead where
  type : Nat
  level : Nat
  vc : Fin 4
  first : Bool
  last : Bool
  hopSeq : Nat
  hops : Nat
  dst : Nat
  src : Nat
  bad : Bool
  corrected : Nat
  lane : Nat
  deriving DecidableEq, Repr

/-- A data cell (Table 14.2): head, remaining header fields, sealed payload and tag. -/
structure DataCell where
  head : CellHead
  keyId : Nat
  keyEpoch : Nat
  srcPort : Nat
  payloadLen : Nat
  notify : Nat
  seq : Nat
  dstAddr : Nat
  transfer : Nat
  index : Nat
  dtag : Nat
  sealed : List Byte
  tag : List Byte
  deriving DecidableEq, Repr

/-- A lease message (Table 19.6). -/
structure LeaseMsg where
  level : Nat
  state : Nat
  ready : Bool
  fatalHeld : Bool
  reserved : Bool
  pairId : Nat
  seq : Nat
  identity : Nat
  deriving DecidableEq, Repr

/-- The two paths of a lease message (R480). -/
inductive LeasePath where
  | sahvy
  | mgmt
  deriving DecidableEq, Repr

/-- A frame received on a plant port: its bytes from the destination MAC to the byte before the FCS, whether the FCS
is right (stage 1 of Table 15.2), and the module time of R377. -/
structure Frame where
  bytes : List Byte
  fcsOk : Bool
  time  : Nat
  deriving DecidableEq, Repr

/-- What a PTP message tells the clock (R379 to R381): an Announce, with its interval in ns; a Sync exchange with the
measured offset in ns; anything else the engine takes without effect on the clock. -/
inductive PtpMsg where
  | announce (interval : Nat)
  | sync (offset : Int)
  | ignored
  deriving DecidableEq, Repr

/-- A picture leaving the pool of a decode session, as the session's standard decoded it (R403 to R409). `planes`
are the luma and chroma samples of the cropped picture in output order. -/
structure Picture where
  width : Nat
  height : Nat
  tenBit : Bool
  fullRange : Bool
  matrix : Nat
  luma : List Nat
  cb : List Nat
  cr : List Nat
  randomAccess : Bool
  damage : Nat
  concealed : List Nat
  fromDamaged : Bool
  recovering : Bool
  arrival : Nat
  rtpTime : Nat
  deriving DecidableEq, Repr

/-- What a service core's instruction does outside the core, or inside it (R540 to R545); `data` is what a store or an AMO writes. -/
inductive ScAct where
  | retire (cycles : Nat)
  | load (addr size : Nat)
  | store (addr size : Nat) (data : W64)
  | amo (addr size : Nat) (data : W64)
  | wfi
  deriving DecidableEq, Repr

/-- Which path a management message came by (R553). -/
inductive Path where
  | mgmt
  | sdio
  deriving DecidableEq, Repr

/-- The head of a management request as MGC judges it (R552, R554): the path and, on the network, the command session that it came by (R551),
the force flag, the req_id, and whether a reserved field is nonzero or the length disagrees with the body. -/
structure Req where
  path : Path
  session : Fin 4
  force : Bool
  id : Nat
  malformed : Bool
  deriving DecidableEq, Repr

/-- One public key table entry (R426). -/
structure PubKey where
  role : Nat
  part : Nat
  key : List Byte
  digest : List Byte
  deriving DecidableEq, Repr

/-- A kernel launch buffer: tile-store address and length in bytes (R179). -/
structure BufRef where
  addr : Nat
  len  : Nat
  deriving DecidableEq, Repr

/-- The commands. Each constructor's docstring would repeat its row; LAWS.json maps it to the row's mnemonic. -/
inductive Instr where
  -- control spaces (R9, R11, R44, R595)
  | registerWrite (m : Master) (sp : Space) (off : Nat) (v : W64)
  | accessError (sp : Space) (off : Nat) (write : Bool)
  | undefinedOffsetAccess (m : Master) (sp : Space) (off : Nat) (write : Bool)
  | forbiddenMasterAccess (m : Master) (sp : Space) (off : Nat) (write : Bool)
  -- power-up, reset, boot
  | vinMate (mv : Nat)
  | powerOnResetRelease
  | moduleReset
  | ddr4TrainingDone (passed : BitVec 8)
  | runtimeCopyDone (digestsOk : Bool)
  | bootScrubDone
  | partitionBecomesEmpty (n : PartId)
  -- Nypra loader
  | verify (m : Master)
  | verifyDone
  | apply (m : Master)
  | applyScrubDone
  | applyDone
  | discard (m : Master)
  | remove (m : Master) (n : PartId)
  | removalDrainDone
  | removalTimeout
  | removalScrubDone
  | commitVersion (m : Master)
  -- tiles
  | streamCommandDone (t : TileId) (q : Fin 4)
  | tileStoreUncorrectable (quad : Bool) (unit : TileId) (word : Nat)
  | tileReloadDone (n : PartId)
  | tilePatrolPass (d : DieId) (corrected : Nat) (bad : List (Bool × TileId × Nat))
  | selftestStart (c : ClusterId)
  | tileSelftestStart (m : Master) (d : DieId) (v : W64)
  | selftestDone (c : ClusterId) (pass : Bool)
  | selftestAbortDone (c : ClusterId)
  -- lane kernels
  | kernel (n : PartId) (k : Nat) (tiles : List TileId) (ins outs : List BufRef) (consts : List W64) (args : Nat)
  | budget (t : TileId)
  | regParity (t : TileId) (g : Fin 32)
  | nop (t : TileId) (g : Fin 32) (w : W64)
  | exit (t : TileId) (g : Fin 32) (w : W64)
  | bra (t : TileId) (g : Fin 32) (w : W64)
  | brs (t : TileId) (g : Fin 32) (w : W64)
  | brp (t : TileId) (g : Fin 32) (w : W64)
  | bar (t : TileId) (g : Fin 32) (w : W64)
  | swait (t : TileId) (g : Fin 32) (w : W64)
  | fadd (t : TileId) (g : Fin 32) (w : W64)
  | fsub (t : TileId) (g : Fin 32) (w : W64)
  | fmul (t : TileId) (g : Fin 32) (w : W64)
  | ffma (t : TileId) (g : Fin 32) (w : W64)
  | fmin (t : TileId) (g : Fin 32) (w : W64)
  | fmax (t : TileId) (g : Fin 32) (w : W64)
  | fabs (t : TileId) (g : Fin 32) (w : W64)
  | fneg (t : TileId) (g : Fin 32) (w : W64)
  | fsqrt (t : TileId) (g : Fin 32) (w : W64)
  | fldexp (t : TileId) (g : Fin 32) (w : W64)
  | frint (t : TileId) (g : Fin 32) (w : W64)
  | fclamp (t : TileId) (g : Fin 32) (w : W64)
  | frcp (t : TileId) (g : Fin 32) (w : W64)
  | frsq (t : TileId) (g : Fin 32) (w : W64)
  | fdiv (t : TileId) (g : Fin 32) (w : W64)
  | fexp2 (t : TileId) (g : Fin 32) (w : W64)
  | fexp (t : TileId) (g : Fin 32) (w : W64)
  | flog2 (t : TileId) (g : Fin 32) (w : W64)
  | ftanh (t : TileId) (g : Fin 32) (w : W64)
  | fsigm (t : TileId) (g : Fin 32) (w : W64)
  | iadd (t : TileId) (g : Fin 32) (w : W64)
  | isub (t : TileId) (g : Fin 32) (w : W64)
  | imul (t : TileId) (g : Fin 32) (w : W64)
  | imad (t : TileId) (g : Fin 32) (w : W64)
  | and (t : TileId) (g : Fin 32) (w : W64)
  | or (t : TileId) (g : Fin 32) (w : W64)
  | xor (t : TileId) (g : Fin 32) (w : W64)
  | not (t : TileId) (g : Fin 32) (w : W64)
  | shl (t : TileId) (g : Fin 32) (w : W64)
  | shru (t : TileId) (g : Fin 32) (w : W64)
  | shrs (t : TileId) (g : Fin 32) (w : W64)
  | imin (t : TileId) (g : Fin 32) (w : W64)
  | imax (t : TileId) (g : Fin 32) (w : W64)
  | umin (t : TileId) (g : Fin 32) (w : W64)
  | umax (t : TileId) (g : Fin 32) (w : W64)
  | fcmp (t : TileId) (g : Fin 32) (w : W64)
  | icmp (t : TileId) (g : Fin 32) (w : W64)
  | ucmp (t : TileId) (g : Fin 32) (w : W64)
  | f32Fmt (t : TileId) (g : Fin 32) (w : W64)
  | f32S32 (t : TileId) (g : Fin 32) (w : W64)
  | f32Mxi8 (t : TileId) (g : Fin 32) (w : W64)
  | fmtF32 (t : TileId) (g : Fin 32) (w : W64)
  | s32F32 (t : TileId) (g : Fin 32) (w : W64)
  | mxi8F32 (t : TileId) (g : Fin 32) (w : W64)
  | mxscale (t : TileId) (g : Fin 32) (w : W64)
  | mov (t : TileId) (g : Fin 32) (w : W64)
  | sel (t : TileId) (g : Fin 32) (w : W64)
  | laneid (t : TileId) (g : Fin 32) (w : W64)
  | bcast (t : TileId) (g : Fin 32) (w : W64)
  | shflIdx (t : TileId) (g : Fin 32) (w : W64)
  | shflXor (t : TileId) (g : Fin 32) (w : W64)
  | shflUp (t : TileId) (g : Fin 32) (w : W64)
  | shflDown (t : TileId) (g : Fin 32) (w : W64)
  | vote (t : TileId) (g : Fin 32) (w : W64)
  | vtos (t : TileId) (g : Fin 32) (w : W64)
  | ldU8 (t : TileId) (g : Fin 32) (w : W64)
  | ldS8 (t : TileId) (g : Fin 32) (w : W64)
  | ldU16 (t : TileId) (g : Fin 32) (w : W64)
  | ldS16 (t : TileId) (g : Fin 32) (w : W64)
  | ld32 (t : TileId) (g : Fin 32) (w : W64)
  | ld128 (t : TileId) (g : Fin 32) (w : W64)
  | st8 (t : TileId) (g : Fin 32) (w : W64)
  | st16 (t : TileId) (g : Fin 32) (w : W64)
  | st32 (t : TileId) (g : Fin 32) (w : W64)
  | st128 (t : TileId) (g : Fin 32) (w : W64)
  | qld32 (t : TileId) (g : Fin 32) (w : W64)
  | qld128 (t : TileId) (g : Fin 32) (w : W64)
  | qst32 (t : TileId) (g : Fin 32) (w : W64)
  | qst128 (t : TileId) (g : Fin 32) (w : W64)
  | atomFadd (t : TileId) (g : Fin 32) (w : W64)
  | atomIadd (t : TileId) (g : Fin 32) (w : W64)
  | atomFmax (t : TileId) (g : Fin 32) (w : W64)
  | atomImax (t : TileId) (g : Fin 32) (w : W64)
  | atomXchg (t : TileId) (g : Fin 32) (w : W64)
  | atomCas (t : TileId) (g : Fin 32) (w : W64)
  | qatom (t : TileId) (g : Fin 32) (w : W64)
  | sin (t : TileId) (g : Fin 32) (w : W64)
  | sout (t : TileId) (g : Fin 32) (w : W64)
  | sadd (t : TileId) (g : Fin 32) (w : W64)
  | ssub (t : TileId) (g : Fin 32) (w : W64)
  | smul (t : TileId) (g : Fin 32) (w : W64)
  | sand (t : TileId) (g : Fin 32) (w : W64)
  | sor (t : TileId) (g : Fin 32) (w : W64)
  | sxor (t : TileId) (g : Fin 32) (w : W64)
  | sshl (t : TileId) (g : Fin 32) (w : W64)
  | sshr (t : TileId) (g : Fin 32) (w : W64)
  | ssar (t : TileId) (g : Fin 32) (w : W64)
  | smov (t : TileId) (g : Fin 32) (w : W64)
  | smovhi (t : TileId) (g : Fin 32) (w : W64)
  | sread (t : TileId) (g : Fin 32) (w : W64)
  | sld (t : TileId) (g : Fin 32) (w : W64)
  -- operators
  | matmul (n : PartId) (a b : TRef) (bias : Option TRef) (y : TRef) (transA transB : Bool) (outScale : W32)
      (epi : Option Chain)
  | conv (n : PartId) (x wt : TRef) (bias : Option TRef) (y : TRef) (p : ConvParam) (outScale : W32)
      (epi : Option Chain)
  | pool (n : PartId) (x y : TRef) (p : ConvParam) (avg countPad : Bool)
  | chain (n : PartId) (x y : TRef) (c : Chain)
  | reduce (n : PartId) (x y : TRef) (axes : BitVec 6) (fn : Fin 7)
  | softmax (n : PartId) (x y : TRef) (scale : W32)
  | norm (n : PartId) (x y : TRef) (form : Fin 3) (eps : W32) (gn : Nat) (gamma beta : Option TRef)
  | gather (n : PartId) (tb idx y : TRef)
  | scatter (n : PartId) (d idx u : TRef) (mode : Fin 3)
  | fft (n : PartId) (x y : TRef) (axes : Nat) (inverse realInput : Bool)
  | convert (n : PartId) (x y : TRef) (scale : W32) (rm : Fin 4) (sat : Option Bool) (mxAxis : Nat)
  | attnPrefill (n : PartId) (layer qHeads : Nat) (scale : W32) (q k v o : TRef)
  | attnDecode (n : PartId) (layer qHeads : Nat) (scale : W32) (mode : Fin 3) (q k v oin : TRef) (parts : List TRef)
      (o : TRef)
  -- work-image loader
  | load (m : Master) (n : PartId)
  | loadSectionsRead (n : PartId)
  | planBuilt (n : PartId)
  | weightsCopied (n : PartId)
  | replace (m : Master) (n : PartId)
  | unload (m : Master) (n : PartId)
  | unloadDone (n : PartId)
  | abort (m : Master) (n : PartId)
  | check (m : Master) (n : PartId)
  | checkDone (n : PartId)
  -- stacks and engines
  | kvWrite (n : PartId) (page tok head : Nat) (value : Bool) (vec : List (BitVec 16))
  | expandedRead (n : PartId) (t : TileId) (page first count head : Nat) (value : Bool) (dst : Nat)
  | vetiverQuery (n : PartId) (m : StackId) (bytes : List Byte)
  | queryAccepted (n : PartId) (m : StackId)
  | engineWalk (e : EngineId) (badPages : List Nat)
  | pageBufferParity (e : EngineId)
  | stackUncorrectable (pc : PcId) (word : Nat) (byPatrol : Bool)
  | stackBlockReloadDone (n : PartId)
  | stackPatrolPass (m : StackId) (corrected : Nat) (bad : List (Fin 32 × Nat))
  -- serving control and page store
  | stepCommit (n : PartId) (tokens : List (List Nat))
  | stepDiscard (n : PartId)
  | standingEditAdvance (n : PartId)
  | zeroAndCheck (head : Nat)
  | zeroAndCheckDone (head : Nat) (failed : List Nat)
  | auditSweep (start : Option Master)
  | auditSweepDone (mismatch : Option (PartId × Fin 5)) (skips : Nat)
  | pagePatrolPass (corrected : Nat) (badDesc : List Nat) (badList : List Nat) (badJournal : List Nat)
  | quarantine (m : Master) (page : Nat)
  | pageRelease (m : Master) (page : Nat)
  | fence (m : Master) (n : PartId)
  | submit (m : Master) (n : PartId)
  | cancel (m : Master) (n : PartId)
  | reqPause (m : Master) (n : PartId)
  | reqResume (m : Master) (n : PartId) (count : Nat)
  | reqRead (m : Master) (n : PartId)
  | deadlineSettlement (n : PartId)
  | recordRetry (n : PartId)
  -- rings and DMA
  | create (m : Master) (n : PartId)
  | createDone (r : RingId)
  | destroy (m : Master) (n : PartId)
  | ringPause (m : Master) (n : PartId)
  | ringResume (m : Master) (n : PartId)
  | drain (m : Master) (n : PartId)
  | ringReset (m : Master) (n : PartId)
  | ringResetDone (r : RingId)
  | ringRead (m : Master) (n : PartId)
  | producerDoorbell (m : Master) (r : RingId) (v : W64)
  | consumerDoorbell (m : Master) (r : RingId) (v : W64)
  | completionReservation (r : RingId)
  | dmaNop (r : RingId)
  | copy (r : RingId)
  | fill (r : RingId)
  | strided (r : RingId)
  | linkWrite (r : RingId)
  | descriptorComplete (r : RingId) (index : Nat)
  | entryWriteRetry (r : RingId)
  | ringAuditCheck
  | ringIrqTimer (r : RingId)
  -- DDR4 tier
  | ddr4Uncorrectable (addr : Nat) (byPatrol : Bool)
  | weightsUnitRestored (addr : Nat) (ok : Bool)
  | ddr4PatrolPass (corrected : Nat) (bad : List Nat)
  -- links
  | dataCell (p : LinkId) (c : DataCell)
  | leaseCell (p : LinkId) (c : DataCell)
  | credit (p : LinkId) (freed : List (BitVec 16)) (freedCc : BitVec 16) (lastAccepted : Nat)
  | replayReq (p : LinkId) (from_ : Nat)
  | audit (p : LinkId) (sent : List (BitVec 16))
  | auditReply (p : LinkId) (freed : List (BitVec 16))
  | negotiate (p : LinkId) (maxLevel minLevel port lanes fabricId identity : Nat) (malformed : Bool)
  | vcReset (p : LinkId) (vc : Fin 4) (sent : BitVec 16)
  | ack (p : LinkId) (h : CellHead) (transfer srcPort vc : Nat) (bytes : Nat)
  | nack (p : LinkId) (h : CellHead) (transfer srcPort vc : Nat) (status bytes : Nat)
  | creditReportTimer (p : LinkId)
  | auditPeriod (p : LinkId)
  | signalDetected (p : LinkId) (lanes : BitVec 8)
  | linkTrainingDone (p : LinkId) (good : BitVec 8)
  | linkTrainingTimeout (p : LinkId)
  | linkRetry (p : LinkId) (signal : BitVec 8)
  | negotiateTimer (p : LinkId)
  | portEnable (m : Master) (p : LinkId) (v : W64)
  | portDisable (m : Master) (p : LinkId) (v : W64)
  | retrain (m : Master) (p : LinkId) (v : W64)
  | laneLockLost (p : LinkId) (lane : Fin 8)
  | retrainDone (p : LinkId) (good : BitVec 8)
  | retrainTimeout (p : LinkId)
  | signalLost (p : LinkId)
  | ackTimeout (r : RingId) (index : Nat)
  | vcResetResend (p : LinkId) (vc : Fin 4)
  | routeEntryWrite (m : Master) (v : W64)
  -- plant
  | plantFrame (k : PlantId) (f : Frame)
  | plantLinkChange (k : PlantId) (up : Bool)
  | ptpMessage (k : PlantId) (msg : PtpMsg)
  | announceTimeout
  | poTx (m : Master) (k : ChanId) (len : BitVec 11)
  | poCopyDone (k : ChanId)
  | poPeriod (k : ChanId)
  | cvCfgWrite (m : Master) (k : ChanId) (v : W64)
  | scanStart (m : Master) (k : ChanId) (v : W64)
  | scanDone (k : ChanId)
  -- video
  | vidOpen (m : Master) (n : PartId)
  | close (m : Master) (n : PartId)
  | feed (m : Master) (n : PartId)
  | flush (m : Master) (n : PartId)
  | vidRead (m : Master) (n : PartId)
  | packetLossTimeout (s : SessId)
  | pictureDecoded (s : SessId) (pic : Picture)
  | encodeDone (s : SessId) (au : List Byte) (idr : Bool)
  -- security
  | attest (m : Master) (n : PartId)
  | keyImport (m : Master) (n : PartId)
  | keyDelete (m : Master) (n : PartId) (keyId : BitVec 16)
  | consentSubmit (m : Master) (n : PartId)
  | consentRevoke (m : Master) (n : PartId)
  | consentExpiry (n : PartId)
  -- firmware
  | writeMgmt (m : Master)
  | writeSlot (m : Master) (slot : Fin 2)
  | flashWriteDone (ok : Bool)
  | arm (m : Master) (slot : Fin 2)
  | disarm (m : Master) (slot : Fin 2)
  | confirm (m : Master)
  | commitMgmt (m : Master)
  | commitRuntime (m : Master)
  | trialExpiry
  -- faults
  | faultNPulseEnd
  | faultAck (m : Master) (i : SourceId)
  | faultClear (m : Master) (i : SourceId)
  | ackAll (m : Master)
  | faultInject (m : Master) (v : W64)
  | injectedEvent
  | amberLogClear (m : Master) (v : W64)
  -- redundancy
  | renew (path : LeasePath) (msg : LeaseMsg)
  | grant (path : LeasePath) (msg : LeaseMsg)
  | deny (path : LeasePath) (msg : LeaseMsg)
  | release (path : LeasePath) (msg : LeaseMsg)
  | renewTimer
  | leaseDoubt
  | leaseExpiry
  | takeoverTimer
  | partnerSilent
  | releaseResend
  | handover (m : Master)
  | watchdogKick (m : Master) (v : W64)
  | watchdog
  | pathSilent (path : LeasePath)
  | removalWarning
  -- power
  | sagStart (v1 v2 : Nat)
  | sagEnd (minV us : Nat)
  | supplyLoss
  | surge (v1 v2 : Nat)
  | surgeOff
  | capLvlChange (lvl : Fin 8)
  | mgmtCapWrite (m : Master) (v : W64)
  | plannerTick
  | recallDone
  | loweringSettled
  | powerWindow (mean volts amps : Nat)
  | flowReport (flow seq : BitVec 16)
  | flowStale
  | flowOff
  | temperatureSample (inA inB outA outB : Int) (spots : List (Int × Int))
  | softLimitTick
  | eoff
  | eoffRelease
  | powerBooksAudit
  | idleChoice
  | idleExit (i : IslandId)
  | idleExitDone (i : IslandId)
  | clockChangeDone (i : IslandId)
  | crossTimeout (near far : IslandId)
  -- service cores, SDIO, management
  | scInstruction (i : CoreId) (mode : Fin 3) (a : ScAct)
  | scIrqRead (m : Master) (i : CoreId)
  | consoleWrite (m : Master) (b : Byte)
  | consoleRead (m : Master)
  | trayConsoleData (bytes : List Byte)
  | bbsWrite (m : Master) (v : W64)
  | mailboxDoorbell (v : Byte) (request : List Byte)
  | recoveryStart (len : W32)
  | recoveryAbort
  | recoveryData (block : List Byte)
  | status (r : Req)
  | amberRead (r : Req) (first : Byte)
  | amberClear (r : Req)
  | fault (r : Req) (v : W64)
  | powerOn (r : Req)
  | powerOff (r : Req)
  | reset (r : Req)
  | setCap (r : Req) (w : Nat)
  | mgmtHandover (r : Req)
  | mgmtAttest (r : Req) (nonce : List Byte)
  | claim (r : Req) (root : PubKey)
  | keyEnrol (r : Req) (k : PubKey)
  | keyRemove (r : Req) (digest : List Byte) (role part : Nat)
  | unlock (r : Req) (slot : Fin 4) (sig : List Byte)
  | lifecycle (r : Req) (target : Fin 3) (slot : Fin 4) (sig : List Byte)
  | linkKeyImport (r : Req) (blob : List Byte)
  | linkKeyDelete (r : Req) (n : PartId) (keyId : BitVec 16)
  | mgmtConsentSubmit (r : Req) (token : List Byte)
  | mgmtConsentRevoke (r : Req) (n : PartId)
  | nypra (r : Req) (v : W64) (image : List Byte)
  | fwWrite (r : Req) (target : Fin 3) (off : Nat) (final : Bool) (data : List Byte)
  | fwCtrl (r : Req) (v : W64)
  | setNetwork (r : Req) (record : List Byte)
  | mgmtSessionOpen (lease : Bool) (opened : Bool) (certOk : Bool) (peer : Nat)
  | sessionIdleTimeout (i : Fin 4)
  | leaseSessionRetry (connected : Bool)
  | cellMeasure (mv : Nat)
  | cellReplaced (mv : Nat)
  -- counters and debug
  | freeze (m : Master) (n : PartId) (v : W64)
  | perfCntWrite (m : Master) (n : PartId) (j : Fin 8) (v : W64)
  | coarseUpdate
  | snap (m : Master) (v : W64)
  | bwWindow (tx rx : List Nat)
  | bwWindowWrite (m : Master) (v : W64)
  | peakClear (m : Master) (q : BwId) (v : W64)
  | extest (v : List Bool)
  | idcode
  | samplePreload (v : List Bool)
  | dtmcs (v : W32)
  | dmi (write : Bool) (addr : BitVec 9) (v : W32)
  | bypass (b : Bool)
  | unitHalt
  | unitHalted
  | unitResume
  | unitStep
  | unitMemRead
  | unitMemWrite
  | alwaysOnSupplyFail
  | supplyRestored
  deriving DecidableEq, Repr

end Sys2Proof
end

