-- ==== Sys2Proof/Decode.lean ====
section
/-! DEFINITION. The command that a word spells. spec/opcode_table.json gives no row a bit pattern: every row is a command from outside or an
event of a block, without an encoding. So no word spells one. -/

namespace Sys2Proof

/-- The command that a word of the opcode table's bits spells: none (no row has bits). -/
def decodeTableWord (_nbits _w : Nat) : Option Instr := none

end Sys2Proof
end

