-- ==== Sys2Proof/Machine/Tab.lean ====
section
/-! DEFINITION. Sparse tables: a list of (key, value) pairs with rising keys that lists no default value. Every table of the
state, the register file and the memory are such lists. The default is an argument of every operation, so that the state
holds plain data only. Bit-field and byte helpers stand here too. -/

namespace Sys2Proof.Machine

/-- A sparse table: keys with the values that differ from the default. -/
abbrev Tab (α : Type) := List (Nat × α)

/-- The value at a key: the listed one, else the default. -/
def Tab.get {α : Type} (d : α) : Tab α → Nat → α
  | [], _ => d
  | (k, v) :: t, n => if n = k then v else Tab.get d t n

/-- The table without the key. -/
def Tab.erase {α : Type} : Tab α → Nat → Tab α
  | [], _ => []
  | (k, v) :: t, n => if n = k then Tab.erase t n else (k, v) :: Tab.erase t n

/-- The entry put before the first greater key. -/
def Tab.insert {α : Type} : Tab α → Nat → α → Tab α
  | [], n, x => [(n, x)]
  | (k, v) :: t, n, x => if n < k then (n, x) :: (k, v) :: t else (k, v) :: Tab.insert t n x

/-- Writing a value: the default removes the entry, any other value lists it once, in its place. -/
def Tab.set {α : Type} [DecidableEq α] (d : α) (t : Tab α) (n : Nat) (x : α) : Tab α :=
  if x = d then Tab.erase t n else Tab.insert (Tab.erase t n) n x

/-- One entry changed by a function. -/
def Tab.upd {α : Type} [DecidableEq α] (d : α) (t : Tab α) (n : Nat) (f : α → α) : Tab α :=
  Tab.set d t n (f (Tab.get d t n))

/-- Keys strictly rising. -/
def Tab.sorted {α : Type} : Tab α → Bool
  | [] => true
  | [_] => true
  | (k, _) :: (k', v') :: t => decide (k < k') && Tab.sorted ((k', v') :: t)

/-- The canonical form: keys strictly rising, and no entry equal to the default. -/
def Tab.wf {α : Type} [DecidableEq α] (d : α) (t : Tab α) : Bool :=
  Tab.sorted t && t.all (fun p => decide (p.2 ≠ d))

/-- Every key for which the listed value satisfies the test, in rising order. -/
def Tab.keysWhere {α : Type} (t : Tab α) (p : α → Bool) : List Nat :=
  (t.filter (fun e => p e.2)).map (·.1)

/-- The entries whose keys satisfy the test. -/
def Tab.keep {α : Type} (t : Tab α) (p : Nat → Bool) : Tab α := t.filter (fun e => p e.1)

/-- Bits hi to lo of a number. -/
def bits (v hi lo : Nat) : Nat := (v >>> lo) % 2 ^ (hi + 1 - lo)

/-- One bit of a number. -/
def bit (v i : Nat) : Bool := v.testBit i

/-- A Boolean as a bit. -/
def ofBool (b : Bool) : Nat := if b then 1 else 0

/-- Counting up to a maximum (a saturating counter of 00_scope). -/
def satAdd (w v n : Nat) : Nat := min (v + n) (2 ^ w - 1)

/-- A two's complement field of w bits as an integer. -/
def toSigned (w v : Nat) : Int := if v % 2 ^ w < 2 ^ (w - 1) then (v % 2 ^ w : Nat) else ((v % 2 ^ w : Nat) : Int) - (2 ^ w : Nat)

/-- An integer as a two's complement field of w bits. -/
def ofSigned (w : Nat) (x : Int) : Nat := (x % ((2 ^ w : Nat) : Int)).toNat

/-- The value of little-endian bytes (R5). -/
def leVal : List Byte → Nat
  | [] => 0
  | b :: t => b.toNat + 256 * leVal t

/-- n little-endian bytes of a value (R5). -/
def leBytes : Nat → Nat → List Byte
  | 0, _ => []
  | n + 1, v => BitVec.ofNat 8 v :: leBytes n (v / 256)

/-- The value of big-endian bytes. -/
def beVal (bs : List Byte) : Nat := leVal bs.reverse

/-- n big-endian bytes of a value. -/
def beBytes (n v : Nat) : List Byte := (leBytes n v).reverse

/-- Bytes first to first+len-1 of a list, zero past its end. -/
def slice (bs : List Byte) (first len : Nat) : List Byte :=
  let t := (bs.drop first).take len
  t ++ List.replicate (len - t.length) 0#8

/-- A little-endian field of a byte list: `len` bytes from `first`, zero past the end. -/
def leAt (bs : List Byte) (first len : Nat) : Nat := leVal ((bs.drop first).take len)

/-- A byte list with bytes replaced from a place on; the list keeps its length. -/
def patch (bs : List Byte) (first : Nat) (new : List Byte) : List Byte :=
  bs.take first ++ (new.take (bs.length - first)) ++ bs.drop (first + new.length)

/-- Round up to a multiple. -/
def roundUp (v m : Nat) : Nat := (v + m - 1) / m * m

/-- Ceiling of a quotient. -/
def ceilDiv (v m : Nat) : Nat := (v + m - 1) / m

end Sys2Proof.Machine
end

