-- ==== Sys2Proof/Machine/CheckValue.lean ====
section
/-! DEFINITION. The check-value algorithms of Table 15.7, over bytes, with the register values as numbers. -/

namespace Sys2Proof.Machine

/-- One bit step of the reflected CRC-32C register (polynomial 0x1EDC6F41, bit-reversed 0x82F63B78). -/
def crc32Step (r : Nat) : Nat := if r % 2 = 1 then (r / 2) ^^^ 0x82F63B78 else r / 2

def crcIter (f : Nat → Nat) : Nat → Nat → Nat
  | 0, r => r
  | k + 1, r => crcIter f k (f r)

/-- CRC-32C register after one more byte. -/
def crc32Byte (r : Nat) (b : Byte) : Nat := crcIter crc32Step 8 (r ^^^ b.toNat)

/-- One bit step of the CRC-64/ECMA-182 register (polynomial 0x42F0E1EBA9EA3693, not reflected). -/
def crc64Step (r : Nat) : Nat :=
  if r.testBit 63 then ((r * 2) % 2 ^ 64) ^^^ 0x42F0E1EBA9EA3693 else r * 2

/-- CRC-64 register after one more byte. -/
def crc64Byte (r : Nat) (b : Byte) : Nat := crcIter crc64Step 8 (r ^^^ (b.toNat * 2 ^ 56))

/-- The check value of bytes (R390): the final register value XOR xorout. For CRC-32C only bits [31:0] of init and
xorout are used (R389). -/
def checkValue (algo init xorout : Nat) (bs : List Byte) : Nat :=
  if algo = 0 then (bs.foldl crc32Byte (init % 2 ^ 32)) ^^^ (xorout % 2 ^ 32)
  else (bs.foldl crc64Byte (init % 2 ^ 64)) ^^^ (xorout % 2 ^ 64)

/-- Bytes of a check value in a datagram. -/
def checkLen (algo : Nat) : Nat := if algo = 0 then 4 else 8

/-- CRC-32C with its default parameters, as the store's headers use it (Table 22.5). -/
def crc32c (bs : List Byte) : Nat := checkValue 0 0xFFFFFFFF 0xFFFFFFFF bs

end Sys2Proof.Machine
end

