-- ==== Sys2Proof/Config.lean ====
section
/-! DEFINITION. What the spec leaves open: constants without a body, so that nothing can be proved of their values. Each is
named in a log entry. -/

namespace Sys2Proof

/-- The priority and drop-eligible bits of a VLAN tag that the module sends (R374 gives the tag's id only). -/
opaque Config.vlanPriority : Nat → BitVec 4
/-- The slew rate of module time in ppm; R381 bounds it by 500. -/
opaque Config.slewPpm : Nat → Nat

/-- SHA-512 (FIPS 180-4), which the spec names and does not define. -/
opaque Config.sha512 : List Byte → List Byte
/-- ECDSA on P-521 with SHA-512 (FIPS 186-5): public key, message, signature. -/
opaque Config.ecdsaVerify : List Byte → List Byte → List Byte → Bool
/-- The module's own signature over a message by a device key (1 AK), with a fresh number. -/
opaque Config.sign : Nat → List Byte → Nat → List Byte
/-- The SHA-512 digest of the module's AK public key, which its signature blocks carry. -/
opaque Config.akDigest : List Byte → List Byte
/-- Whether a signature block over a message verifies under the firmware key with a root digest (R445): the fuses hold the digest alone. -/
opaque Config.rootVerify : List Byte → List Byte → List Byte → Bool
/-- The default settings that an image writes into its settings region (R457): the image's own matter. -/
opaque Config.defaultSettings : List Byte → List Byte
/-- P_flow between a boot and the first report or the staleness at 100 ms (R507), which the spec does not state. -/
opaque Config.firstFlow : Nat → Nat
/-- The clock step at which a partition's estimated power fits its grant (R504): draw, partition, grant. -/
opaque Config.grantStep : Nat → Nat → Nat → Nat
/-- The estimated power of a partition over the last 100 ms (PWR_PART.power_w): draw, partition. -/
opaque Config.partPower : Nat → Nat → Nat
/-- Unwrapping a link secret from an import blob with the module's KAK (R433): none when the GCM tag fails. -/
opaque Config.unwrap : List Byte → Option (List Byte)
/-- AES-256-GCM (SP 800-38D): key, IV, additional data, plaintext give ciphertext and tag; and its opening, none when the tag fails. -/
opaque Config.gcmSeal : List Byte → List Byte → List Byte → List Byte → List Byte × List Byte
opaque Config.gcmOpen : List Byte → List Byte → List Byte → List Byte → List Byte → Option (List Byte)
/-- The SP 800-108 KDF with HMAC-SHA-512: secret, label, context. -/
opaque Config.kdf : List Byte → String → List Byte → List Byte
/-- The random number generator of the root of trust (R421): the k-th number drawn. -/
opaque Config.random : Nat → BitVec 64

/-- Check 33 of Table 7.6, the only one that depends on the module's planner: work image bytes outside WEIGHTS, share. -/
opaque Config.planFits : List Byte → List Nat → Bool
/-- Where the plan puts block k of 64 KiB of an image's WEIGHTS: an address of kind 2. -/
opaque Config.planBlock : List Byte → Nat → Nat

/-- Which of the FP32 values within the accuracy of Table 3.8 a function returns: function, argument, second argument. -/
opaque Config.ulpChoice : Nat → Nat → Nat → Nat
/-- 1/√−0, log2 of +Inf and log2 of −0, which Table 3.8 does not state. -/
opaque Config.rsqNegZero : BitVec 32
opaque Config.log2Inf : BitVec 32
opaque Config.log2NegZero : BitVec 32
/-- Free choices of a plan or of arrival: a draw's number and the choice within it (R78). -/
opaque Config.choice : Nat → Nat → Nat
/-- Whether the plan of a loaded image (by digest) keeps resident data in the store word at an address (R104, R106). -/
opaque Config.residentWord : List Byte → Nat → Bool
/-- Whether the plan of a loaded image tags a 64 KiB block that is neither RESIDENT nor PAGES as STEP_LOCAL; else it is FREE (R198). -/
opaque Config.stepLocal : List Byte → Nat → Bool
/-- What SREAD gives for the launch index, by launch and tile, and for the cycles since the launch, by draw (Table 5.13). -/
opaque Config.launchIndex : Nat → Nat → BitVec 64
opaque Config.cycles : Nat → BitVec 64

end Sys2Proof
end

