-- ==== Sys2Proof/Machine/FaultTable.lean ====
section
/-! DEFINITION. The fault sources of Table 19.2: scope, unit, default n and w, and the base level of each detail code. -/

namespace Sys2Proof.Machine

/-- One row of Table 19.2: first and last index, scope code, the levels of its events in order, default n and w in ms. -/
structure SourceRow where
  first  : Nat
  last   : Nat
  scope  : Nat
  levels : List Nat
  n      : Nat
  w      : Nat
  deriving DecidableEq, Repr

/-- Table 19.2. The levels are those of Table 19.1: 1 NOTE, 2 CORRECTED, 3 DEGRADED, 4 SEVERE, 5 FATAL. -/
def sourceRows : List SourceRow :=
  [⟨0, 0, 0, [1], 65535, 1000⟩, ⟨1, 4, 0, [1], 65535, 1000⟩, ⟨5, 12, 0, [1], 65535, 1000⟩,
   ⟨13, 16, 2, [2, 3, 3], 64, 3600000⟩, ⟨17, 20, 2, [1, 4], 65535, 86400000⟩,
   ⟨21, 28, 3, [2, 3, 1], 256, 3600000⟩, ⟨29, 36, 3, [3, 4], 8, 3600000⟩,
   ⟨37, 37, 1, [2, 3, 3, 5], 256, 3600000⟩, ⟨38, 38, 0, [1, 2, 3, 3, 3], 64, 3600000⟩,
   ⟨39, 39, 0, [1, 3], 65535, 1000⟩, ⟨40, 57, 4, [2, 3, 3, 3], 32, 60000⟩,
   ⟨58, 61, 5, [2, 3], 32, 60000⟩, ⟨62, 62, 0, [1, 3], 8, 3600000⟩, ⟨63, 63, 0, [3], 65535, 1000⟩,
   ⟨64, 79, 6, [3, 3, 3], 16, 1000⟩, ⟨80, 95, 6, [4, 4, 4, 4, 4, 4, 4, 4, 4, 4, 4], 65535, 1000⟩,
   ⟨96, 96, 0, [1], 65535, 1000⟩, ⟨97, 97, 1, [2, 4], 16, 60000⟩, ⟨98, 98, 1, [3, 3], 8, 60000⟩,
   ⟨99, 99, 1, [3, 4, 5], 8, 60000⟩, ⟨100, 100, 1, [1, 3, 4, 5], 8, 60000⟩, ⟨101, 101, 1, [3], 3, 1000⟩,
   ⟨102, 102, 1, [1, 1, 3, 3, 4, 4, 1, 3], 4, 60000⟩, ⟨103, 103, 0, [3, 3, 3, 3, 4], 65535, 1000⟩,
   ⟨104, 104, 0, [3, 4, 1], 65535, 1000⟩, ⟨105, 105, 1, [4, 5], 65535, 1000⟩]

/-- The row of a source index; none for a reserved one (106 to 255). -/
def sourceRow (i : Nat) : Option SourceRow := sourceRows.find? (fun r => decide (r.first ≤ i ∧ i ≤ r.last))

/-- The base level of an event of a source (R467 step 1); the detail's low byte numbers the event. -/
def baseLevel (i detail : Nat) : Nat :=
  match sourceRow i with
  | some r => r.levels.getD (detail % 256 - 1) 0
  | none => 0

/-- The scope code of a source (R466). -/
def sourceScope (i : Nat) : Nat := match sourceRow i with | some r => r.scope | none => 0

/-- The unit number of a source's scope: its die, stack, port or partition. -/
def sourceUnit (i : Nat) : Nat :=
  match sourceRow i with
  | some r => if r.scope ≤ 1 then 0 else i - r.first
  | none => 0

/-! Source indices by name. -/

namespace Src
def accessHcs : Nat := 0
def accessDcs (d : Nat) : Nat := 1 + d
def accessBcs (m : Nat) : Nat := 5 + m
def store (d : Nat) : Nat := 13 + d
def cluster (d : Nat) : Nat := 17 + d
def stack (m : Nat) : Nat := 21 + m
def engine (m : Nat) : Nat := 29 + m
def ddr4 : Nat := 37
def pageStore : Nat := 38
def ring : Nat := 39
def link (p : Nat) : Nat := 40 + p
def plant (k : Nat) : Nat := 58 + k
def ptp : Nat := 62
def video : Nat := 63
def isolation (n : Nat) : Nat := 64 + n
def stop (n : Nat) : Nat := 80 + n
def removal : Nat := 96
def crossing : Nat := 97
def supply : Nat := 98
def coolant : Nat := 99
def thermal : Nat := 100
def cap : Nat := 101
def redundancy : Nat := 102
def boot : Nat := 103
def battery : Nat := 104
def tray : Nat := 105
end Src

end Sys2Proof.Machine
end

