-- ==== Sys2Proof/Machine/Regs.lean ====
section
/-! DEFINITION. The register map of the control spaces: every register the spec names (the identity tables of its chapters),
its space, offset and instances, and its fields with their access codes (Table 0.3), reset values and write limits. -/

namespace Sys2Proof.Machine

/-- The registers, under the manual's names without their instance letters. -/
inductive RegId where
  | NYPRA_SRC_ADDR
  | NYPRA_SRC_LEN
  | NYPRA_CMD
  | NYPRA_STATUS
  | NYPRA_ACTIVE_ID
  | NYPRA_VERSION
  | NYPRA_EVENT
  | PART_STATE
  | PART_REMOVE
  | TILE_CAP
  | REPAIR_MAP
  | CLUSTER_STATE
  | TILE_SELFTEST
  | TILE_STORE_ERR
  | TILE_PATROL
  | VEC_CAP
  | VEC_FAULT
  | WIMG_SRC_ADDR
  | WIMG_SRC_LEN
  | WIMG_CMD
  | WIMG_STATUS
  | WIMG_ACTIVE_ID
  | WIMG_EVENT
  | WIMG_CAP
  | STACK_CAP
  | STACK_ERR
  | STACK_SCRUB
  | KV_COMP_COUNT
  | VE_STATE
  | PAGE_CAP
  | PAGE_BOOKS_0
  | PAGE_BOOKS_1
  | PAGE_TRANSIT
  | PAGE_AUDIT
  | PAGE_ANOMALY
  | PAGE_CMD
  | PAGE_CMD_STATUS
  | PAGE_READ_IDX
  | PAGE_READ_LO
  | PAGE_READ_HI
  | PAGE_LIST_IDX
  | PAGE_LIST_LO
  | PAGE_LIST_HI
  | PAGE_PATROL
  | PAGE_EVENT
  | PAGE_EPOCH
  | PAGE_PBOOKS_A
  | PAGE_PBOOKS_B
  | PAGE_POLICY
  | PAGE_PSTAT
  | PAGE_PCOUNT
  | REQ_SEL
  | REQ_CMD
  | REQ_STATUS
  | REQ_EVENT
  | REQ_COUNT
  | TILLER_POLICY
  | TILLER_STAT
  | TILLER_STALL
  | TILLER_NEXT
  | REQ_DATA
  | TILLER_CAP
  | RING_CAP
  | RING_AUDIT
  | RING_SEL
  | RING_CMD
  | RING_STATUS
  | RING_EVENT
  | RING_DESC
  | RING_PI
  | RING_CI
  | RING_STATE
  | RING_COUNT
  | DDR4_CAP
  | DDR4_STATE
  | DDR4_ERR
  | DDR4_ERR_ADDR
  | DDR4_SCRUB
  | LINK_CAP
  | LINK_ID
  | LINK_CTRL
  | LINK_ROUTE_IDX
  | LINK_ROUTE_DATA
  | LINK_EVENT
  | LINK_PORT_CTRL
  | LINK_PORT_STATE
  | LINK_PORT_PEER
  | LINK_PORT_PEER_ID_LO
  | LINK_PORT_PEER_ID_HI
  | LINK_PORT_ERR
  | LINK_PORT_CREDIT
  | LINK_PORT_AUDIT
  | PLANT_CAP
  | PLANT_DEFAULT
  | PLANT_PORT_CTRL
  | PLANT_PORT_MAC
  | PLANT_PORT_IP
  | PLANT_PORT_STATE
  | PLANT_PORT_DROP
  | PLANT_INGRESS
  | PTP_CTRL
  | PTP_TIME
  | PTP_STATE
  | PO_DEST
  | PO_LINK
  | PO_BUF
  | PO_CFG
  | PO_TX
  | PO_STATE
  | CV_CFG
  | CV_DATA_ID
  | CV_INIT
  | CV_XOROUT
  | CV_SCAN_ADDR
  | CV_SCAN_LEN
  | CV_RESULT
  | CV_STAT
  | VID_CAP
  | VID_NEXT
  | VID_SEL
  | VID_CMD
  | VID_STATUS
  | VID_DATA
  | VID_STATE
  | SEC_CAP
  | SEC_STATE
  | SEC_ADDR
  | SEC_CMD
  | SEC_STATUS
  | KEY_EPOCH
  | CONSENT_NONCE
  | CONSENT_STATE
  | FW_CAP
  | FW_SRC_ADDR
  | FW_SRC_LEN
  | FW_CMD
  | FW_STATUS
  | FW_BOOT
  | FW_VERSIONS
  | FW_FLOORS
  | FAULT_CAP
  | FAULT_SUMMARY
  | FAULT_CTRL
  | FAULT_CMD
  | FAULT_CMD_STATUS
  | FAULT_INJECT
  | AMBER_STATE
  | AMBER_IDX
  | AMBER_DATA
  | FAULT_SRC_CFG
  | FAULT_SRC_STATUS
  | REDUN_CTRL
  | REDUN_CMD
  | REDUN_STATE
  | REDUN_COUNT
  | PWR_CAP
  | PWR_CTRL
  | PWR_CAP_LVL_MAP
  | PWR_LIMIT
  | PWR_INPUT
  | PWR_SUPPLY
  | PWR_COOLANT
  | PWR_BOOKS
  | PWR_EVENT
  | PWR_THERMAL
  | PWR_PART
  | PWR_HINT
  | PWR_NEXT
  | CROSS_CAP
  | CROSS_STATUS
  | ISLAND_STATE
  | BBS_CAP
  | BBS_IDX
  | BBS_DATA
  | BBS_BATTERY
  | SC_STATE
  | SC_IRQ
  | SC_CONSOLE
  | PERF_CYCLE
  | PERF_CNT
  | PERF_CFG
  | PERF_CTRL
  | PERF_SAMPLE
  | PERF_SAMPLE_INFO
  | PERF_BASE
  | PERF_LIMIT
  | OPC_IDX
  | OPC_DATA
  | BW_CTRL
  | BW_TX
  | BW_RX
  | BW_PEAK
  deriving DecidableEq, Repr

/-- Access codes of Table 0.3; RSVD fields are not listed. -/
inductive Acc where
  | rw | ro | w1c | w1s | wo | st
  deriving DecidableEq, Repr

/-- One field: its bits, access code, reset value, and the smallest and largest value a write may give it. -/
structure FieldDef where
  hi : Nat
  lo : Nat
  acc : Acc
  reset : Nat
  least : Nat
  most : Nat
  deriving DecidableEq, Repr

/-- Where a register lies: its kind of space (0 HCS, 1 DCS, 2 BCS), its base offset, and two instance strides with
their counts (the first instance of a DCS or BCS register is its space). -/
structure RegPlace where
  kind : Nat
  base : Nat
  s1 : Nat
  c1 : Nat
  s2 : Nat
  c2 : Nat
  deriving DecidableEq, Repr

/-- A field without a write limit. -/
def fd (hi lo : Nat) (acc : Acc) (reset : Nat := 0) : FieldDef := ⟨hi, lo, acc, reset, 0, 2 ^ (hi + 1 - lo) - 1⟩

/-- A field with a write limit: a write of a value outside it leaves the field as it is. -/
def fl (hi lo : Nat) (acc : Acc) (reset least most : Nat) : FieldDef := ⟨hi, lo, acc, reset, least, most⟩

/-- The offset and instances of a register (the identity table that its rule heads). -/
def RegId.place : RegId → RegPlace
  | .NYPRA_SRC_ADDR => ⟨0, 0x20000, 0x0, 1, 0x0, 1⟩  -- R52, 02
  | .NYPRA_SRC_LEN => ⟨0, 0x20008, 0x0, 1, 0x0, 1⟩  -- R52, 02
  | .NYPRA_CMD => ⟨0, 0x20010, 0x0, 1, 0x0, 1⟩  -- R52, 02
  | .NYPRA_STATUS => ⟨0, 0x20018, 0x0, 1, 0x0, 1⟩  -- R52, 02
  | .NYPRA_ACTIVE_ID => ⟨0, 0x20020, 0x0, 1, 0x0, 1⟩  -- R52, 02
  | .NYPRA_VERSION => ⟨0, 0x20028, 0x0, 1, 0x0, 1⟩  -- R52, 02
  | .NYPRA_EVENT => ⟨0, 0x20030, 0x0, 1, 0x0, 1⟩  -- R52, 02
  | .PART_STATE => ⟨0, 0x20038, 0x0, 1, 0x0, 1⟩  -- R52, 02
  | .PART_REMOVE => ⟨0, 0x20040, 0x0, 1, 0x0, 1⟩  -- R52, 02
  | .TILE_CAP => ⟨1, 0x10000, 0x0, 4, 0x0, 1⟩  -- R110, 04
  | .REPAIR_MAP => ⟨1, 0x10008, 0x0, 4, 0x8, 4⟩  -- R110, 04
  | .CLUSTER_STATE => ⟨1, 0x10100, 0x0, 4, 0x8, 40⟩  -- R110, 04
  | .TILE_SELFTEST => ⟨1, 0x10280, 0x0, 4, 0x0, 1⟩  -- R111, 04
  | .TILE_STORE_ERR => ⟨1, 0x10288, 0x0, 4, 0x0, 1⟩  -- R111, 04
  | .TILE_PATROL => ⟨1, 0x10290, 0x0, 4, 0x0, 1⟩  -- R111, 04
  | .VEC_CAP => ⟨1, 0x10300, 0x0, 4, 0x0, 1⟩  -- R138, 05
  | .VEC_FAULT => ⟨1, 0x10308, 0x0, 4, 0x0, 1⟩  -- R138, 05
  | .WIMG_SRC_ADDR => ⟨0, 0x30000, 0x40, 16, 0x0, 1⟩  -- R194, 07
  | .WIMG_SRC_LEN => ⟨0, 0x30008, 0x40, 16, 0x0, 1⟩  -- R194, 07
  | .WIMG_CMD => ⟨0, 0x30010, 0x40, 16, 0x0, 1⟩  -- R194, 07
  | .WIMG_STATUS => ⟨0, 0x30018, 0x40, 16, 0x0, 1⟩  -- R194, 07
  | .WIMG_ACTIVE_ID => ⟨0, 0x30020, 0x40, 16, 0x0, 1⟩  -- R194, 07
  | .WIMG_EVENT => ⟨0, 0x30028, 0x40, 16, 0x0, 1⟩  -- R194, 07
  | .WIMG_CAP => ⟨0, 0x31000, 0x0, 1, 0x0, 1⟩  -- R194, 07
  | .STACK_CAP => ⟨2, 0x10000, 0x0, 8, 0x0, 1⟩  -- R221, 08
  | .STACK_ERR => ⟨2, 0x10008, 0x0, 8, 0x0, 1⟩  -- R221, 08
  | .STACK_SCRUB => ⟨2, 0x10010, 0x0, 8, 0x0, 1⟩  -- R221, 08
  | .KV_COMP_COUNT => ⟨2, 0x10018, 0x0, 8, 0x0, 1⟩  -- R221, 08
  | .VE_STATE => ⟨2, 0x10020, 0x0, 8, 0x0, 1⟩  -- R221, 08
  | .PAGE_CAP => ⟨0, 0x40000, 0x0, 1, 0x0, 1⟩  -- R276, 10
  | .PAGE_BOOKS_0 => ⟨0, 0x40008, 0x0, 1, 0x0, 1⟩  -- R276, 10
  | .PAGE_BOOKS_1 => ⟨0, 0x40010, 0x0, 1, 0x0, 1⟩  -- R276, 10
  | .PAGE_TRANSIT => ⟨0, 0x40018, 0x0, 1, 0x0, 1⟩  -- R276, 10
  | .PAGE_AUDIT => ⟨0, 0x40020, 0x0, 1, 0x0, 1⟩  -- R276, 10
  | .PAGE_ANOMALY => ⟨0, 0x40028, 0x0, 1, 0x0, 1⟩  -- R276, 10
  | .PAGE_CMD => ⟨0, 0x40030, 0x0, 1, 0x0, 1⟩  -- R276, 10
  | .PAGE_CMD_STATUS => ⟨0, 0x40038, 0x0, 1, 0x0, 1⟩  -- R276, 10
  | .PAGE_READ_IDX => ⟨0, 0x40040, 0x0, 1, 0x0, 1⟩  -- R276, 10
  | .PAGE_READ_LO => ⟨0, 0x40048, 0x0, 1, 0x0, 1⟩  -- R276, 10
  | .PAGE_READ_HI => ⟨0, 0x40050, 0x0, 1, 0x0, 1⟩  -- R276, 10
  | .PAGE_LIST_IDX => ⟨0, 0x40058, 0x0, 1, 0x0, 1⟩  -- R276, 10
  | .PAGE_LIST_LO => ⟨0, 0x40060, 0x0, 1, 0x0, 1⟩  -- R276, 10
  | .PAGE_LIST_HI => ⟨0, 0x40068, 0x0, 1, 0x0, 1⟩  -- R276, 10
  | .PAGE_PATROL => ⟨0, 0x40070, 0x0, 1, 0x0, 1⟩  -- R276, 10
  | .PAGE_EVENT => ⟨0, 0x40078, 0x0, 1, 0x0, 1⟩  -- R276, 10
  | .PAGE_EPOCH => ⟨0, 0x41000, 0x40, 16, 0x0, 1⟩  -- R276, 10
  | .PAGE_PBOOKS_A => ⟨0, 0x41008, 0x40, 16, 0x0, 1⟩  -- R276, 10
  | .PAGE_PBOOKS_B => ⟨0, 0x41010, 0x40, 16, 0x0, 1⟩  -- R276, 10
  | .PAGE_POLICY => ⟨0, 0x41018, 0x40, 16, 0x0, 1⟩  -- R276, 10
  | .PAGE_PSTAT => ⟨0, 0x41020, 0x40, 16, 0x0, 1⟩  -- R276, 10
  | .PAGE_PCOUNT => ⟨0, 0x41028, 0x40, 16, 0x0, 1⟩  -- R276, 10
  | .REQ_SEL => ⟨0, 0x50000, 0x100, 16, 0x0, 1⟩  -- R306, 11
  | .REQ_CMD => ⟨0, 0x50008, 0x100, 16, 0x0, 1⟩  -- R306, 11
  | .REQ_STATUS => ⟨0, 0x50010, 0x100, 16, 0x0, 1⟩  -- R306, 11
  | .REQ_EVENT => ⟨0, 0x50018, 0x100, 16, 0x0, 1⟩  -- R306, 11
  | .REQ_COUNT => ⟨0, 0x50020, 0x100, 16, 0x0, 1⟩  -- R306, 11
  | .TILLER_POLICY => ⟨0, 0x50028, 0x100, 16, 0x0, 1⟩  -- R306, 11
  | .TILLER_STAT => ⟨0, 0x50030, 0x100, 16, 0x0, 1⟩  -- R306, 11
  | .TILLER_STALL => ⟨0, 0x50038, 0x100, 16, 0x0, 1⟩  -- R306, 11
  | .TILLER_NEXT => ⟨0, 0x50040, 0x100, 16, 0x0, 1⟩  -- R306, 11
  | .REQ_DATA => ⟨0, 0x50080, 0x100, 16, 0x8, 16⟩  -- R306, 11
  | .TILLER_CAP => ⟨0, 0x51000, 0x0, 1, 0x0, 1⟩  -- R306, 11
  | .RING_CAP => ⟨0, 0x60000, 0x0, 1, 0x0, 1⟩  -- R329, 12
  | .RING_AUDIT => ⟨0, 0x60008, 0x0, 1, 0x0, 1⟩  -- R329, 12
  | .RING_SEL => ⟨0, 0x61000, 0x40, 16, 0x0, 1⟩  -- R329, 12
  | .RING_CMD => ⟨0, 0x61008, 0x40, 16, 0x0, 1⟩  -- R329, 12
  | .RING_STATUS => ⟨0, 0x61010, 0x40, 16, 0x0, 1⟩  -- R329, 12
  | .RING_EVENT => ⟨0, 0x61018, 0x40, 16, 0x0, 1⟩  -- R329, 12
  | .RING_DESC => ⟨0, 0x61020, 0x40, 16, 0x8, 4⟩  -- R329, 12
  | .RING_PI => ⟨0, 0x80000, 0x20, 4096, 0x0, 1⟩  -- R329, 12
  | .RING_CI => ⟨0, 0x80008, 0x20, 4096, 0x0, 1⟩  -- R329, 12
  | .RING_STATE => ⟨0, 0x80010, 0x20, 4096, 0x0, 1⟩  -- R329, 12
  | .RING_COUNT => ⟨0, 0x80018, 0x20, 4096, 0x0, 1⟩  -- R329, 12
  | .DDR4_CAP => ⟨0, 0x70000, 0x0, 1, 0x0, 1⟩  -- R346, 13
  | .DDR4_STATE => ⟨0, 0x70008, 0x0, 1, 0x0, 1⟩  -- R346, 13
  | .DDR4_ERR => ⟨0, 0x70010, 0x0, 1, 0x0, 1⟩  -- R346, 13
  | .DDR4_ERR_ADDR => ⟨0, 0x70018, 0x0, 1, 0x0, 1⟩  -- R346, 13
  | .DDR4_SCRUB => ⟨0, 0x70020, 0x0, 1, 0x0, 1⟩  -- R346, 13
  | .LINK_CAP => ⟨0, 0xA0000, 0x0, 1, 0x0, 1⟩  -- R373, 14
  | .LINK_ID => ⟨0, 0xA0008, 0x0, 1, 0x0, 1⟩  -- R373, 14
  | .LINK_CTRL => ⟨0, 0xA0010, 0x0, 1, 0x0, 1⟩  -- R373, 14
  | .LINK_ROUTE_IDX => ⟨0, 0xA0018, 0x0, 1, 0x0, 1⟩  -- R373, 14
  | .LINK_ROUTE_DATA => ⟨0, 0xA0020, 0x0, 1, 0x0, 1⟩  -- R373, 14
  | .LINK_EVENT => ⟨0, 0xA0028, 0x0, 1, 0x0, 1⟩  -- R373, 14
  | .LINK_PORT_CTRL => ⟨0, 0xA1000, 0x40, 18, 0x0, 1⟩  -- R373, 14
  | .LINK_PORT_STATE => ⟨0, 0xA1008, 0x40, 18, 0x0, 1⟩  -- R373, 14
  | .LINK_PORT_PEER => ⟨0, 0xA1010, 0x40, 18, 0x0, 1⟩  -- R373, 14
  | .LINK_PORT_PEER_ID_LO => ⟨0, 0xA1018, 0x40, 18, 0x0, 1⟩  -- R373, 14
  | .LINK_PORT_PEER_ID_HI => ⟨0, 0xA1020, 0x40, 18, 0x0, 1⟩  -- R373, 14
  | .LINK_PORT_ERR => ⟨0, 0xA1028, 0x40, 18, 0x0, 1⟩  -- R373, 14
  | .LINK_PORT_CREDIT => ⟨0, 0xA1030, 0x40, 18, 0x0, 1⟩  -- R373, 14
  | .LINK_PORT_AUDIT => ⟨0, 0xA1038, 0x40, 18, 0x0, 1⟩  -- R373, 14
  | .PLANT_CAP => ⟨0, 0xB0000, 0x0, 1, 0x0, 1⟩  -- R395, 15
  | .PLANT_DEFAULT => ⟨0, 0xB0008, 0x0, 1, 0x0, 1⟩  -- R395, 15
  | .PLANT_PORT_CTRL => ⟨0, 0xB0100, 0x40, 4, 0x0, 1⟩  -- R395, 15
  | .PLANT_PORT_MAC => ⟨0, 0xB0108, 0x40, 4, 0x0, 1⟩  -- R395, 15
  | .PLANT_PORT_IP => ⟨0, 0xB0110, 0x40, 4, 0x0, 1⟩  -- R395, 15
  | .PLANT_PORT_STATE => ⟨0, 0xB0118, 0x40, 4, 0x0, 1⟩  -- R395, 15
  | .PLANT_PORT_DROP => ⟨0, 0xB0120, 0x40, 4, 0x0, 1⟩  -- R395, 15
  | .PLANT_INGRESS => ⟨0, 0xB1000, 0x40, 16, 0x0, 1⟩  -- R395, 15
  | .PTP_CTRL => ⟨0, 0xB2000, 0x0, 1, 0x0, 1⟩  -- R395, 15
  | .PTP_TIME => ⟨0, 0xB2008, 0x0, 1, 0x0, 1⟩  -- R395, 15
  | .PTP_STATE => ⟨0, 0xB2010, 0x0, 1, 0x0, 1⟩  -- R395, 15
  | .PO_DEST => ⟨0, 0xB4000, 0x40, 64, 0x0, 1⟩  -- R395, 15
  | .PO_LINK => ⟨0, 0xB4008, 0x40, 64, 0x0, 1⟩  -- R395, 15
  | .PO_BUF => ⟨0, 0xB4010, 0x40, 64, 0x0, 1⟩  -- R395, 15
  | .PO_CFG => ⟨0, 0xB4018, 0x40, 64, 0x0, 1⟩  -- R395, 15
  | .PO_TX => ⟨0, 0xB4020, 0x40, 64, 0x0, 1⟩  -- R395, 15
  | .PO_STATE => ⟨0, 0xB4028, 0x40, 64, 0x0, 1⟩  -- R395, 15
  | .CV_CFG => ⟨0, 0xB6000, 0x40, 64, 0x0, 1⟩  -- R395, 15
  | .CV_DATA_ID => ⟨0, 0xB6008, 0x40, 64, 0x0, 1⟩  -- R395, 15
  | .CV_INIT => ⟨0, 0xB6010, 0x40, 64, 0x0, 1⟩  -- R395, 15
  | .CV_XOROUT => ⟨0, 0xB6018, 0x40, 64, 0x0, 1⟩  -- R395, 15
  | .CV_SCAN_ADDR => ⟨0, 0xB6020, 0x40, 64, 0x0, 1⟩  -- R395, 15
  | .CV_SCAN_LEN => ⟨0, 0xB6028, 0x40, 64, 0x0, 1⟩  -- R395, 15
  | .CV_RESULT => ⟨0, 0xB6030, 0x40, 64, 0x0, 1⟩  -- R395, 15
  | .CV_STAT => ⟨0, 0xB6038, 0x40, 64, 0x0, 1⟩  -- R395, 15
  | .VID_CAP => ⟨0, 0xC0000, 0x0, 1, 0x0, 1⟩  -- R418, 16
  | .VID_NEXT => ⟨0, 0xC0008, 0x0, 1, 0x0, 1⟩  -- R418, 16
  | .VID_SEL => ⟨0, 0xC1000, 0x80, 16, 0x0, 1⟩  -- R418, 16
  | .VID_CMD => ⟨0, 0xC1008, 0x80, 16, 0x0, 1⟩  -- R418, 16
  | .VID_STATUS => ⟨0, 0xC1010, 0x80, 16, 0x0, 1⟩  -- R418, 16
  | .VID_DATA => ⟨0, 0xC1040, 0x80, 16, 0x8, 8⟩  -- R418, 16
  | .VID_STATE => ⟨0, 0xC2000, 0x8, 80, 0x0, 1⟩  -- R418, 16
  | .SEC_CAP => ⟨0, 0xD0000, 0x0, 1, 0x0, 1⟩  -- R443, 17
  | .SEC_STATE => ⟨0, 0xD0008, 0x0, 1, 0x0, 1⟩  -- R443, 17
  | .SEC_ADDR => ⟨0, 0xD1000, 0x40, 16, 0x0, 1⟩  -- R443, 17
  | .SEC_CMD => ⟨0, 0xD1008, 0x40, 16, 0x0, 1⟩  -- R443, 17
  | .SEC_STATUS => ⟨0, 0xD1010, 0x40, 16, 0x0, 1⟩  -- R443, 17
  | .KEY_EPOCH => ⟨0, 0xD1018, 0x40, 16, 0x0, 1⟩  -- R443, 17
  | .CONSENT_NONCE => ⟨0, 0xD1020, 0x40, 16, 0x0, 1⟩  -- R443, 17
  | .CONSENT_STATE => ⟨0, 0xD1028, 0x40, 16, 0x0, 1⟩  -- R443, 17
  | .FW_CAP => ⟨0, 0xE0000, 0x0, 1, 0x0, 1⟩  -- R463, 18
  | .FW_SRC_ADDR => ⟨0, 0xE0008, 0x0, 1, 0x0, 1⟩  -- R463, 18
  | .FW_SRC_LEN => ⟨0, 0xE0010, 0x0, 1, 0x0, 1⟩  -- R463, 18
  | .FW_CMD => ⟨0, 0xE0018, 0x0, 1, 0x0, 1⟩  -- R463, 18
  | .FW_STATUS => ⟨0, 0xE0020, 0x0, 1, 0x0, 1⟩  -- R463, 18
  | .FW_BOOT => ⟨0, 0xE0028, 0x0, 1, 0x0, 1⟩  -- R463, 18
  | .FW_VERSIONS => ⟨0, 0xE0030, 0x0, 1, 0x0, 1⟩  -- R463, 18
  | .FW_FLOORS => ⟨0, 0xE0038, 0x0, 1, 0x0, 1⟩  -- R463, 18
  | .FAULT_CAP => ⟨0, 0xF0000, 0x0, 1, 0x0, 1⟩  -- R495, 19
  | .FAULT_SUMMARY => ⟨0, 0xF0008, 0x0, 1, 0x0, 1⟩  -- R495, 19
  | .FAULT_CTRL => ⟨0, 0xF0010, 0x0, 1, 0x0, 1⟩  -- R495, 19
  | .FAULT_CMD => ⟨0, 0xF0018, 0x0, 1, 0x0, 1⟩  -- R495, 19
  | .FAULT_CMD_STATUS => ⟨0, 0xF0020, 0x0, 1, 0x0, 1⟩  -- R495, 19
  | .FAULT_INJECT => ⟨0, 0xF0028, 0x0, 1, 0x0, 1⟩  -- R495, 19
  | .AMBER_STATE => ⟨0, 0xF0030, 0x0, 1, 0x0, 1⟩  -- R495, 19
  | .AMBER_IDX => ⟨0, 0xF0038, 0x0, 1, 0x0, 1⟩  -- R495, 19
  | .AMBER_DATA => ⟨0, 0xF0040, 0x0, 1, 0x0, 1⟩  -- R495, 19
  | .FAULT_SRC_CFG => ⟨0, 0xF1000, 0x10, 256, 0x0, 1⟩  -- R495, 19
  | .FAULT_SRC_STATUS => ⟨0, 0xF1008, 0x10, 256, 0x0, 1⟩  -- R495, 19
  | .REDUN_CTRL => ⟨0, 0xF3000, 0x0, 1, 0x0, 1⟩  -- R495, 19
  | .REDUN_CMD => ⟨0, 0xF3008, 0x0, 1, 0x0, 1⟩  -- R495, 19
  | .REDUN_STATE => ⟨0, 0xF3010, 0x0, 1, 0x0, 1⟩  -- R495, 19
  | .REDUN_COUNT => ⟨0, 0xF3018, 0x0, 1, 0x0, 1⟩  -- R495, 19
  | .PWR_CAP => ⟨0, 0x100000, 0x0, 1, 0x0, 1⟩  -- R525, 20
  | .PWR_CTRL => ⟨0, 0x100008, 0x0, 1, 0x0, 1⟩  -- R525, 20
  | .PWR_CAP_LVL_MAP => ⟨0, 0x100010, 0x0, 1, 0x0, 1⟩  -- R525, 20
  | .PWR_LIMIT => ⟨0, 0x100018, 0x0, 1, 0x0, 1⟩  -- R525, 20
  | .PWR_INPUT => ⟨0, 0x100020, 0x0, 1, 0x0, 1⟩  -- R525, 20
  | .PWR_SUPPLY => ⟨0, 0x100028, 0x0, 1, 0x0, 1⟩  -- R525, 20
  | .PWR_COOLANT => ⟨0, 0x100030, 0x0, 1, 0x0, 1⟩  -- R525, 20
  | .PWR_BOOKS => ⟨0, 0x100038, 0x0, 1, 0x0, 1⟩  -- R525, 20
  | .PWR_EVENT => ⟨0, 0x100040, 0x0, 1, 0x0, 1⟩  -- R525, 20
  | .PWR_THERMAL => ⟨0, 0x100080, 0x8, 4, 0x0, 1⟩  -- R525, 20
  | .PWR_PART => ⟨0, 0x101000, 0x40, 16, 0x0, 1⟩  -- R525, 20
  | .PWR_HINT => ⟨0, 0x101008, 0x40, 16, 0x0, 1⟩  -- R525, 20
  | .PWR_NEXT => ⟨0, 0x101010, 0x40, 16, 0x0, 1⟩  -- R525, 20
  | .CROSS_CAP => ⟨0, 0x110000, 0x0, 1, 0x0, 1⟩  -- R539, 21
  | .CROSS_STATUS => ⟨0, 0x110008, 0x0, 1, 0x0, 1⟩  -- R539, 21
  | .ISLAND_STATE => ⟨0, 0x111000, 0x8, 193, 0x0, 1⟩  -- R539, 21
  | .BBS_CAP => ⟨0, 0x120000, 0x0, 1, 0x0, 1⟩  -- R557, 22
  | .BBS_IDX => ⟨0, 0x120008, 0x0, 1, 0x0, 1⟩  -- R557, 22
  | .BBS_DATA => ⟨0, 0x120010, 0x0, 1, 0x0, 1⟩  -- R557, 22
  | .BBS_BATTERY => ⟨0, 0x120018, 0x0, 1, 0x0, 1⟩  -- R557, 22
  | .SC_STATE => ⟨0, 0x121000, 0x8, 16, 0x0, 1⟩  -- R557, 22
  | .SC_IRQ => ⟨0, 0x121100, 0x8, 16, 0x0, 1⟩  -- R557, 22
  | .SC_CONSOLE => ⟨0, 0x121200, 0x0, 1, 0x0, 1⟩  -- R557, 22
  | .PERF_CYCLE => ⟨0, 0x130000, 0x100, 16, 0x0, 1⟩  -- R572, 23
  | .PERF_CNT => ⟨0, 0x130008, 0x100, 16, 0x8, 8⟩  -- R572, 23
  | .PERF_CFG => ⟨0, 0x130048, 0x100, 16, 0x8, 8⟩  -- R572, 23
  | .PERF_CTRL => ⟨0, 0x130088, 0x100, 16, 0x0, 1⟩  -- R572, 23
  | .PERF_SAMPLE => ⟨0, 0x130090, 0x100, 16, 0x0, 1⟩  -- R572, 23
  | .PERF_SAMPLE_INFO => ⟨0, 0x130098, 0x100, 16, 0x0, 1⟩  -- R572, 23
  | .PERF_BASE => ⟨0, 0x1300A0, 0x100, 16, 0x10, 2⟩  -- R572, 23
  | .PERF_LIMIT => ⟨0, 0x1300A8, 0x100, 16, 0x10, 2⟩  -- R572, 23
  | .OPC_IDX => ⟨0, 0x131000, 0x0, 1, 0x0, 1⟩  -- R572, 23
  | .OPC_DATA => ⟨0, 0x131008, 0x0, 1, 0x0, 1⟩  -- R572, 23
  | .BW_CTRL => ⟨0, 0x132000, 0x0, 1, 0x0, 1⟩  -- R572, 23
  | .BW_TX => ⟨0, 0x132100, 0x20, 46, 0x0, 1⟩  -- R572, 23
  | .BW_RX => ⟨0, 0x132108, 0x20, 46, 0x0, 1⟩  -- R572, 23
  | .BW_PEAK => ⟨0, 0x132110, 0x20, 46, 0x0, 1⟩  -- R572, 23

/-- The fields of a register (the field table its rule heads). -/
def RegId.fields : RegId → List FieldDef
  | .NYPRA_SRC_ADDR => [fd 63 12 .rw]
  | .NYPRA_SRC_LEN => [fd 13 0 .rw]
  | .NYPRA_CMD => [fd 11 8 .wo, fd 3 0 .wo]
  | .NYPRA_STATUS => [fd 63 32 .ro, fd 31 24 .ro, fd 23 16 .ro, fd 4 4 .ro, fd 3 0 .ro]
  | .NYPRA_ACTIVE_ID => [fd 63 0 .ro]
  | .NYPRA_VERSION => [fd 63 32 .ro, fd 31 0 .ro]
  | .NYPRA_EVENT => [fd 5 5 .w1c, fd 4 4 .w1c, fd 3 3 .w1c, fd 2 2 .w1c, fd 1 1 .w1c, fd 0 0 .w1c]
  | .PART_STATE => [fd 3 0 .ro 1, fd 7 4 .ro, fd 11 8 .ro, fd 15 12 .ro, fd 19 16 .ro, fd 23 20 .ro, fd 27 24 .ro,
      fd 31 28 .ro, fd 35 32 .ro, fd 39 36 .ro, fd 43 40 .ro, fd 47 44 .ro, fd 51 48 .ro, fd 55 52 .ro,
      fd 59 56 .ro, fd 63 60 .ro]
  | .PART_REMOVE => [fd 55 48 .ro, fd 47 32 .ro, fd 31 8 .ro, fd 3 0 .ro]
  | .TILE_CAP => [fd 63 60 .ro 1, fd 59 50 .ro 320, fd 49 44 .ro 40, fd 39 32 .ro, fd 28 28 .ro 1, fd 27 27 .ro 1,
      fd 26 26 .ro 1, fd 25 16 .ro 1023]
  | .REPAIR_MAP => [fd 15 15 .ro, fd 31 31 .ro, fd 47 47 .ro, fd 63 63 .ro, fd 7 4 .ro, fd 23 20 .ro, fd 39 36 .ro,
      fd 55 52 .ro, fd 2 0 .ro, fd 18 16 .ro, fd 34 32 .ro, fd 50 48 .ro]
  | .CLUSTER_STATE => [fd 46 40 .ro, fd 39 36 .ro, fd 3 0 .ro]
  | .TILE_SELFTEST => [fd 47 32 .ro, fd 31 16 .ro, fd 15 12 .ro, fd 9 9 .rw 1, fd 8 8 .wo, fd 5 0 .rw]
  | .TILE_STORE_ERR => [fd 63 48 .ro, fd 47 32 .ro, fd 31 30 .st, fd 29 21 .st, fd 20 0 .st]
  | .TILE_PATROL => [fl 15 0 .rw 60 10 600]
  | .VEC_CAP => [fd 63 60 .ro 1, fd 59 56 .ro 1, fd 55 48 .ro 64, fd 47 40 .ro 32, fd 39 24 .ro 16384, fd 23 16 .ro 8,
      fd 15 12 .ro 4]
  | .VEC_FAULT => [fd 63 60 .st, fd 59 56 .st, fd 55 47 .st, fd 46 42 .st, fd 41 29 .st, fd 15 0 .ro]
  | .WIMG_SRC_ADDR => [fd 63 12 .rw]
  | .WIMG_SRC_LEN => [fd 39 0 .rw]
  | .WIMG_CMD => [fd 3 0 .wo]
  | .WIMG_STATUS => [fd 63 48 .ro, fd 47 40 .ro, fd 39 32 .ro, fd 5 5 .ro, fd 4 4 .ro, fd 3 0 .ro]
  | .WIMG_ACTIVE_ID => [fd 63 0 .ro]
  | .WIMG_EVENT => [fd 5 5 .w1c, fd 4 4 .w1c, fd 3 3 .w1c, fd 2 2 .w1c, fd 1 1 .w1c, fd 0 0 .w1c]
  | .WIMG_CAP => [fd 63 60 .ro 1, fd 59 56 .ro 1, fd 18 0 .ro 524287]
  | .STACK_CAP => [fd 63 60 .ro 1, fd 59 52 .ro 16, fd 51 44 .ro 32, fd 43 32 .ro 1536, fd 31 16 .ro 24197, fd 9 9 .ro 1,
      fd 8 8 .ro 1, fd 7 0 .ro 64]
  | .STACK_ERR => [fd 63 48 .ro, fd 47 36 .ro, fd 34 32 .st, fd 31 27 .st, fd 26 0 .st]
  | .STACK_SCRUB => [fd 63 32 .ro, fl 16 0 .rw 3600 600 86400]
  | .KV_COMP_COUNT => [fd 63 32 .ro, fd 31 0 .ro]
  | .VE_STATE => [fd 3 0 .ro, fd 7 4 .ro, fd 11 8 .ro, fd 15 12 .ro, fd 19 16 .ro, fd 23 20 .ro, fd 27 24 .ro,
      fd 31 28 .ro, fd 35 32 .ro, fd 39 36 .ro, fd 43 40 .ro, fd 47 44 .ro, fd 51 48 .ro, fd 55 52 .ro,
      fd 59 56 .ro, fd 63 60 .ro]
  | .PAGE_CAP => [fd 63 60 .ro 1, fd 59 38 .ro 2097152, fd 37 26 .ro 2048, fd 25 9 .ro 65536]
  | .PAGE_BOOKS_0 => [fd 63 32 .ro, fd 31 0 .ro]
  | .PAGE_BOOKS_1 => [fd 63 32 .ro, fd 31 0 .ro 2097152]
  | .PAGE_TRANSIT => [fd 63 47 .ro, fd 46 30 .ro, fd 29 13 .ro, fd 6 0 .ro]
  | .PAGE_AUDIT => [fd 63 32 .ro, fd 31 16 .ro, fd 15 12 .st, fd 11 9 .st, fd 8 8 .st, fd 2 2 .ro, fd 1 1 .rw 1,
      fd 0 0 .wo]
  | .PAGE_ANOMALY => [fd 63 48 .ro, fd 47 32 .ro, fd 31 16 .ro, fd 15 0 .ro]
  | .PAGE_CMD => [fd 32 12 .wo, fd 11 8 .wo, fd 3 0 .wo]
  | .PAGE_CMD_STATUS => [fd 4 4 .ro, fd 3 0 .ro]
  | .PAGE_READ_IDX => [fd 63 63 .rw, fd 20 0 .rw]
  | .PAGE_READ_LO => [fd 63 0 .ro]
  | .PAGE_READ_HI => [fd 63 0 .ro]
  | .PAGE_LIST_IDX => [fd 63 63 .rw, fd 10 0 .rw]
  | .PAGE_LIST_LO => [fd 41 21 .ro, fd 20 0 .ro]
  | .PAGE_LIST_HI => [fd 37 17 .ro, fd 16 0 .ro]
  | .PAGE_PATROL => [fd 63 32 .ro, fl 15 0 .rw 60 10 600]
  | .PAGE_EVENT => [fd 5 5 .w1c, fd 4 4 .w1c, fd 3 3 .w1c, fd 2 2 .w1c, fd 1 1 .w1c, fd 0 0 .w1c]
  | .PAGE_EPOCH => [fd 49 49 .ro, fd 48 32 .ro, fd 31 0 .ro]
  | .PAGE_PBOOKS_A => [fd 63 32 .ro, fd 31 0 .ro]
  | .PAGE_PBOOKS_B => [fd 63 32 .ro, fd 31 0 .ro]
  | .PAGE_POLICY => [fd 56 56 .rw, fd 55 48 .rw 1, fd 47 32 .rw 64, fl 31 28 .rw 3 1 8, fl 27 16 .rw 64 1 4095,
      fd 15 0 .rw 16384]
  | .PAGE_PSTAT => [fd 43 22 .ro, fd 21 0 .ro]
  | .PAGE_PCOUNT => [fd 63 48 .ro, fd 47 32 .ro, fd 31 0 .ro]
  | .REQ_SEL => [fd 10 0 .rw]
  | .REQ_CMD => [fd 28 8 .wo, fd 3 0 .wo]
  | .REQ_STATUS => [fd 42 32 .ro, fd 31 24 .ro, fd 23 20 .ro, fd 4 4 .ro, fd 3 0 .ro]
  | .REQ_EVENT => [fd 4 4 .w1c, fd 3 3 .w1c, fd 2 2 .w1c, fd 1 1 .w1c, fd 0 0 .w1c]
  | .REQ_COUNT => [fd 59 48 .ro, fd 47 36 .ro, fd 35 24 .ro, fd 23 12 .ro, fd 11 0 .ro]
  | .TILLER_POLICY => [fd 46 46 .rw 1, fl 45 32 .rw 0 0 8192, fl 31 20 .rw 2048 1 2048, fd 15 0 .rw]
  | .TILLER_STAT => [fd 63 32 .ro, fd 31 16 .ro, fd 15 0 .ro]
  | .TILLER_STALL => [fd 63 32 .ro, fd 31 16 .ro, fd 15 0 .ro]
  | .TILLER_NEXT => [fd 63 63 .ro, fd 62 62 .ro, fd 61 0 .ro]
  | .REQ_DATA => [fd 63 0 .rw]
  | .TILLER_CAP => [fd 63 60 .ro 1, fd 59 48 .ro 2048, fd 47 44 .ro 8, fd 43 32 .ro 2048]
  | .RING_CAP => [fd 63 60 .ro 1, fd 59 47 .ro 4096, fd 46 40 .ro 48, fd 39 23 .ro 65536, fd 22 19 .ro 8, fd 4 0 .ro 31]
  | .RING_AUDIT => [fd 63 44 .ro, fd 43 24 .ro, fd 23 8 .ro, fd 0 0 .st]
  | .RING_SEL => [fd 11 0 .rw]
  | .RING_CMD => [fd 3 0 .wo]
  | .RING_STATUS => [fd 43 32 .ro, fd 31 24 .ro, fd 4 4 .ro, fd 3 0 .ro]
  | .RING_EVENT => [fd 4 4 .w1c, fd 3 3 .w1c, fd 2 2 .w1c, fd 1 1 .w1c, fd 0 0 .w1c]
  | .RING_DESC => [fd 63 0 .rw]
  | .RING_PI => [fd 31 0 .rw]
  | .RING_CI => [fd 31 0 .rw]
  | .RING_STATE => [fd 63 32 .ro, fd 20 20 .ro, fd 19 16 .ro, fd 15 12 .ro, fd 11 8 .ro, fd 4 4 .ro, fd 3 0 .ro]
  | .RING_COUNT => [fd 63 32 .ro, fd 31 15 .ro, fd 14 0 .ro]
  | .DDR4_CAP => [fd 63 60 .ro 1, fd 59 51 .ro 256, fd 50 47 .ro 8, fd 46 31 .ro 3200, fd 0 0 .ro 1]
  | .DDR4_STATE => [fd 16 16 .rw, fd 15 8 .ro, fd 3 2 .ro, fd 1 0 .ro]
  | .DDR4_ERR => [fd 63 48 .ro, fd 47 32 .ro, fd 31 16 .ro, fd 15 8 .ro, fd 7 4 .st, fd 3 2 .st, fd 0 0 .st]
  | .DDR4_ERR_ADDR => [fd 37 4 .st]
  | .DDR4_SCRUB => [fd 63 32 .ro, fl 16 0 .rw 43200 3600 86400]
  | .LINK_CAP => [fd 63 60 .ro 1, fd 59 55 .ro 18, fd 54 51 .ro 8, fd 50 48 .ro 4, fd 47 40 .ro 64, fd 39 32 .ro 192,
      fd 31 16 .ro 2125]
  | .LINK_ID => [fd 31 31 .rw, fd 9 0 .rw]
  | .LINK_CTRL => [fl 39 36 .rw 8 1 15, fl 31 16 .rw 1000 10 65535, fl 15 8 .rw 1 1 255, fd 0 0 .rw 1]
  | .LINK_ROUTE_IDX => [fd 9 0 .rw]
  | .LINK_ROUTE_DATA => [fd 15 15 .rw, fd 12 8 .rw, fd 7 7 .rw, fd 4 0 .rw]
  | .LINK_EVENT => [fd 4 4 .w1c, fd 3 3 .w1c, fd 2 2 .w1c, fd 1 1 .w1c, fd 0 0 .w1c]
  | .LINK_PORT_CTRL => [fl 23 16 .rw 64 1 255, fd 15 8 .rw 255, fd 1 1 .wo, fd 0 0 .rw]
  | .LINK_PORT_STATE => [fd 47 40 .ro, fd 39 36 .ro, fd 35 32 .ro, fd 31 24 .ro, fd 23 16 .ro, fd 3 0 .ro]
  | .LINK_PORT_PEER => [fd 23 16 .ro, fd 15 15 .ro, fd 9 0 .ro]
  | .LINK_PORT_PEER_ID_LO => [fd 63 0 .ro]
  | .LINK_PORT_PEER_ID_HI => [fd 63 0 .ro]
  | .LINK_PORT_ERR => [fd 63 48 .ro, fd 47 32 .ro, fd 31 16 .ro, fd 15 0 .ro]
  | .LINK_PORT_CREDIT => [fd 39 32 .ro, fd 47 40 .ro, fd 55 48 .ro, fd 63 56 .ro, fd 7 0 .ro, fd 15 8 .ro, fd 23 16 .ro,
      fd 31 24 .ro]
  | .LINK_PORT_AUDIT => [fd 63 48 .ro, fd 47 32 .ro, fd 31 16 .ro, fd 15 8 .ro, fd 7 4 .st, fd 0 0 .st]
  | .PLANT_CAP => [fd 63 60 .ro 1, fd 59 56 .ro 4, fd 55 48 .ro 64, fd 47 40 .ro 64]
  | .PLANT_DEFAULT => [fd 12 12 .rw, fd 11 0 .rw]
  | .PLANT_PORT_CTRL => [fl 27 16 .rw 0 1 4094, fd 1 1 .rw, fd 0 0 .rw]
  | .PLANT_PORT_MAC => [fd 47 0 .rw]
  | .PLANT_PORT_IP => [fd 31 0 .rw]
  | .PLANT_PORT_STATE => [fd 63 32 .ro, fd 31 16 .ro, fd 1 0 .ro]
  | .PLANT_PORT_DROP => [fd 63 48 .ro, fd 47 32 .ro, fd 31 16 .ro, fd 15 0 .ro]
  | .PLANT_INGRESS => [fd 12 12 .rw, fd 28 28 .rw, fd 44 44 .rw, fd 60 60 .rw, fd 11 0 .rw, fd 27 16 .rw, fd 43 32 .rw,
      fd 59 48 .rw]
  | .PTP_CTRL => [fd 14 8 .rw, fd 7 4 .rw 15, fd 0 0 .rw]
  | .PTP_TIME => [fd 63 0 .ro]
  | .PTP_STATE => [fd 63 32 .ro, fd 31 16 .ro, fd 5 4 .ro, fd 3 0 .ro]
  | .PO_DEST => [fd 63 48 .rw, fd 47 32 .rw, fd 31 0 .rw]
  | .PO_LINK => [fd 49 48 .rw, fd 47 0 .rw]
  | .PO_BUF => [fd 37 6 .rw]
  | .PO_CFG => [fd 21 16 .rw, fd 15 0 .rw]
  | .PO_TX => [fd 10 0 .wo]
  | .PO_STATE => [fd 63 48 .ro, fd 47 32 .ro, fd 31 16 .ro, fd 7 7 .ro, fd 2 0 .ro]
  | .CV_CFG => [fd 44 44 .rw, fl 43 32 .rw 0 0 1470, fd 31 16 .rw, fl 15 8 .rw 1 1 255, fd 3 3 .rw, fd 2 2 .rw,
      fd 1 0 .rw]
  | .CV_DATA_ID => [fd 31 0 .rw]
  | .CV_INIT => [fd 63 0 .rw 4294967295]
  | .CV_XOROUT => [fd 63 0 .rw 4294967295]
  | .CV_SCAN_ADDR => [fd 63 0 .rw]
  | .CV_SCAN_LEN => [fd 63 63 .wo, fd 39 0 .rw]
  | .CV_RESULT => [fd 63 0 .ro]
  | .CV_STAT => [fd 63 48 .ro, fd 47 40 .ro, fd 39 39 .ro, fd 31 16 .ro, fd 15 8 .ro, fd 7 0 .ro]
  | .VID_CAP => [fd 63 60 .ro 1, fd 59 52 .ro 64, fd 51 44 .ro 16]
  | .VID_NEXT => [fd 63 63 .ro, fd 62 0 .ro]
  | .VID_SEL => [fd 6 0 .rw]
  | .VID_CMD => [fd 2 0 .wo]
  | .VID_STATUS => [fd 15 8 .ro, fd 4 4 .ro, fd 3 0 .ro]
  | .VID_DATA => [fd 63 0 .rw]
  | .VID_STATE => [fd 63 48 .ro, fd 47 32 .ro, fd 31 16 .ro, fd 3 0 .ro]
  | .SEC_CAP => [fd 63 60 .ro 1, fd 59 51 .ro 256, fd 50 44 .ro 64, fd 43 36 .ro 64]
  | .SEC_STATE => [fd 28 20 .ro, fd 19 16 .ro, fd 15 12 .ro, fd 11 8 .ro, fd 6 6 .ro, fd 5 5 .ro, fd 4 4 .ro, fd 3 0 .ro]
  | .SEC_ADDR => [fd 63 0 .rw]
  | .SEC_CMD => [fd 31 16 .wo, fd 3 0 .wo]
  | .SEC_STATUS => [fd 15 8 .ro, fd 4 4 .ro, fd 3 0 .ro]
  | .KEY_EPOCH => [fd 63 32 .ro, fd 31 24 .ro, fd 0 0 .ro]
  | .CONSENT_NONCE => [fd 63 0 .ro]
  | .CONSENT_STATE => [fd 63 20 .ro, fd 4 4 .ro, fd 3 0 .ro]
  | .FW_CAP => [fd 63 60 .ro 1, fd 59 48 .ro 64, fd 47 40 .ro 4, fd 39 36 .ro 2, fd 35 20 .ro 600, fd 19 12 .ro]
  | .FW_SRC_ADDR => [fd 63 12 .rw]
  | .FW_SRC_LEN => [fd 31 0 .rw]
  | .FW_CMD => [fd 4 4 .wo, fd 3 0 .wo]
  | .FW_STATUS => [fd 39 32 .ro, fd 31 24 .ro, fd 4 4 .ro, fd 3 0 .ro]
  | .FW_BOOT => [fd 63 60 .ro, fd 59 56 .ro, fd 55 52 .ro, fd 51 51 .ro, fd 50 50 .ro, fd 49 49 .st, fd 48 48 .st,
      fd 47 47 .st, fd 46 46 .st, fd 39 36 .ro, fd 35 32 .ro, fd 9 0 .ro]
  | .FW_VERSIONS => [fd 63 32 .ro, fd 31 0 .ro]
  | .FW_FLOORS => [fd 63 32 .ro, fd 31 0 .ro]
  | .FAULT_CAP => [fd 63 60 .ro 1, fd 59 51 .ro 106, fd 50 41 .ro 256, fd 40 40 .ro]
  | .FAULT_SUMMARY => [fd 63 56 .ro, fd 55 53 .ro, fd 47 40 .ro, fd 39 32 .ro, fd 31 16 .ro, fd 0 0 .ro]
  | .FAULT_CTRL => [fd 1 1 .ro, fd 0 0 .rw]
  | .FAULT_CMD => [fd 15 8 .wo, fd 3 0 .wo]
  | .FAULT_CMD_STATUS => [fd 15 8 .ro, fd 3 0 .ro]
  | .FAULT_INJECT => [fd 63 63 .wo, fd 55 48 .rw, fl 47 45 .rw 0 1 5, fd 44 29 .rw, fd 12 0 .rw]
  | .AMBER_STATE => [fd 63 48 .ro, fd 47 39 .ro, fd 38 33 .ro]
  | .AMBER_IDX => [fd 63 63 .wo, fd 7 0 .rw]
  | .AMBER_DATA => [fd 63 0 .ro]
  | .FAULT_SRC_CFG => [fl 63 48 .rw 0 1 65535, fl 47 21 .rw 0 1 86400000, fl 20 18 .rw 3 1 4, fd 17 17 .rw 1, fd 10 8 .ro,
      fd 4 0 .ro]
  | .FAULT_SRC_STATUS => [fd 63 48 .ro, fd 47 32 .ro, fd 28 16 .ro, fd 8 8 .ro, fd 7 7 .ro, fd 6 6 .ro, fd 5 3 .ro]
  | .REDUN_CTRL => [fd 31 16 .rw, fd 2 2 .wo, fd 0 0 .rw]
  | .REDUN_CMD => [fd 3 0 .wo]
  | .REDUN_STATE => [fd 63 32 .ro, fd 27 24 .ro, fd 15 15 .ro, fd 14 14 .ro, fd 13 13 .ro, fd 12 12 .ro, fd 11 11 .ro,
      fd 7 4 .ro, fd 1 0 .ro]
  | .REDUN_COUNT => [fd 63 48 .ro, fd 47 32 .ro, fd 31 16 .ro, fd 15 0 .ro]
  | .PWR_CAP => [fd 63 60 .ro 1, fd 59 48 .ro 2000, fd 47 36 .ro 250, fd 35 28 .ro 32, fd 27 24 .ro 4]
  | .PWR_CTRL => [fl 47 36 .rw 2000 250 2000, fl 35 28 .rw 100 85 105, fl 27 16 .rw 20 1 4095, fd 3 3 .rw]
  | .PWR_CAP_LVL_MAP => [fl 7 0 .rw 200 25 200, fl 15 8 .rw 175 25 200, fl 23 16 .rw 150 25 200, fl 31 24 .rw 125 25 200,
      fl 39 32 .rw 100 25 200, fl 47 40 .rw 75 25 200, fl 55 48 .rw 50 25 200, fl 63 56 .rw 25 25 200]
  | .PWR_LIMIT => [fd 63 52 .ro, fd 51 40 .ro, fd 39 36 .ro, fd 35 33 .ro, fd 32 32 .ro, fd 31 28 .st, fd 27 16 .ro,
      fd 15 4 .ro]
  | .PWR_INPUT => [fd 63 48 .ro, fd 47 32 .ro, fd 31 20 .ro, fd 19 8 .ro]
  | .PWR_SUPPLY => [fd 63 48 .ro, fd 47 32 .st, fd 31 16 .st, fd 15 8 .ro, fl 7 0 .rw 44 40 52]
  | .PWR_COOLANT => [fd 63 52 .ro, fd 51 40 .ro, fd 39 28 .ro, fd 27 27 .ro, fd 26 26 .ro, fd 25 25 .ro, fd 24 24 .ro,
      fd 23 16 .ro]
  | .PWR_BOOKS => [fd 63 52 .ro, fd 51 40 .ro, fd 39 28 .ro, fd 27 12 .ro, fd 0 0 .st]
  | .PWR_EVENT => [fd 7 7 .w1c, fd 6 6 .w1c, fd 5 5 .w1c, fd 4 4 .w1c, fd 3 3 .w1c, fd 2 2 .w1c, fd 1 1 .w1c, fd 0 0 .w1c]
  | .PWR_THERMAL => [fd 63 52 .ro, fd 51 47 .ro, fd 46 46 .ro, fd 45 40 .ro, fd 39 32 .ro, fd 31 0 .ro]
  | .PWR_PART => [fd 63 52 .ro, fd 51 40 .ro, fd 39 28 .ro, fd 27 12 .ro, fd 10 8 .ro, fl 6 4 .rw 2 0 4, fd 2 0 .ro]
  | .PWR_HINT => [fd 63 63 .rw, fd 62 0 .rw]
  | .PWR_NEXT => [fd 63 63 .ro, fd 62 0 .ro]
  | .CROSS_CAP => [fd 63 60 .ro 1, fd 59 52 .ro 193, fd 51 44 .ro 160, fd 43 36 .ro 10]
  | .CROSS_STATUS => [fd 63 48 .ro, fd 47 32 .ro, fd 31 24 .st, fd 23 16 .st, fd 8 8 .st]
  | .ISLAND_STATE => [fd 15 9 .ro, fd 8 8 .ro, fd 7 6 .ro, fd 5 5 .st, fd 4 4 .st, fd 3 0 .ro]
  | .BBS_CAP => [fd 63 60 .ro 1, fd 59 47 .ro 4096]
  | .BBS_IDX => [fd 8 0 .rw]
  | .BBS_DATA => [fd 63 0 .rw]
  | .BBS_BATTERY => [fd 63 48 .ro, fd 47 32 .ro, fd 31 8 .ro, fd 1 1 .st, fd 0 0 .ro]
  | .SC_STATE => [fd 39 36 .ro, fd 31 16 .ro, fd 3 0 .ro]
  | .SC_IRQ => [fd 63 63 .ro, fd 62 62 .st, fd 11 0 .ro]
  | .SC_CONSOLE => [fd 63 48 .ro, fd 17 17 .ro, fd 15 8 .ro, fd 7 0 .wo]
  | .PERF_CYCLE => [fd 63 0 .ro]
  | .PERF_CNT => [fd 47 0 .rw]
  | .PERF_CFG => [fd 33 32 .rw, fd 31 24 .rw 255, fd 22 16 .rw 127, fd 10 8 .rw 7, fd 7 0 .rw]
  | .PERF_CTRL => [fd 19 16 .rw, fd 8 8 .w1c, fd 9 9 .w1c, fd 10 10 .w1c, fd 11 11 .w1c, fd 12 12 .w1c, fd 13 13 .w1c,
      fd 14 14 .w1c, fd 15 15 .w1c, fd 1 1 .rw, fd 0 0 .rw]
  | .PERF_SAMPLE => [fd 63 0 .ro]
  | .PERF_SAMPLE_INFO => [fd 47 16 .ro, fd 3 0 .ro]
  | .PERF_BASE => [fd 63 0 .rw]
  | .PERF_LIMIT => [fd 63 0 .rw]
  | .OPC_IDX => [fd 63 63 .wo, fd 10 10 .rw, fd 9 0 .rw]
  | .OPC_DATA => [fd 63 0 .ro]
  | .BW_CTRL => [fd 63 32 .ro, fl 19 0 .rw 1000 1 1000000]
  | .BW_TX => [fd 63 0 .ro]
  | .BW_RX => [fd 63 0 .ro]
  | .BW_PEAK => [fd 63 63 .wo, fd 62 0 .ro]

/-- All registers, in the order of the spec. -/
def RegId.all : List RegId :=
  [.NYPRA_SRC_ADDR, .NYPRA_SRC_LEN, .NYPRA_CMD, .NYPRA_STATUS, .NYPRA_ACTIVE_ID, .NYPRA_VERSION, .NYPRA_EVENT, .PART_STATE,
   .PART_REMOVE, .TILE_CAP, .REPAIR_MAP, .CLUSTER_STATE, .TILE_SELFTEST, .TILE_STORE_ERR, .TILE_PATROL, .VEC_CAP,
   .VEC_FAULT, .WIMG_SRC_ADDR, .WIMG_SRC_LEN, .WIMG_CMD, .WIMG_STATUS, .WIMG_ACTIVE_ID, .WIMG_EVENT, .WIMG_CAP,
   .STACK_CAP, .STACK_ERR, .STACK_SCRUB, .KV_COMP_COUNT, .VE_STATE, .PAGE_CAP, .PAGE_BOOKS_0, .PAGE_BOOKS_1,
   .PAGE_TRANSIT, .PAGE_AUDIT, .PAGE_ANOMALY, .PAGE_CMD, .PAGE_CMD_STATUS, .PAGE_READ_IDX, .PAGE_READ_LO, .PAGE_READ_HI,
   .PAGE_LIST_IDX, .PAGE_LIST_LO, .PAGE_LIST_HI, .PAGE_PATROL, .PAGE_EVENT, .PAGE_EPOCH, .PAGE_PBOOKS_A, .PAGE_PBOOKS_B,
   .PAGE_POLICY, .PAGE_PSTAT, .PAGE_PCOUNT, .REQ_SEL, .REQ_CMD, .REQ_STATUS, .REQ_EVENT, .REQ_COUNT,
   .TILLER_POLICY, .TILLER_STAT, .TILLER_STALL, .TILLER_NEXT, .REQ_DATA, .TILLER_CAP, .RING_CAP, .RING_AUDIT,
   .RING_SEL, .RING_CMD, .RING_STATUS, .RING_EVENT, .RING_DESC, .RING_PI, .RING_CI, .RING_STATE,
   .RING_COUNT, .DDR4_CAP, .DDR4_STATE, .DDR4_ERR, .DDR4_ERR_ADDR, .DDR4_SCRUB, .LINK_CAP, .LINK_ID,
   .LINK_CTRL, .LINK_ROUTE_IDX, .LINK_ROUTE_DATA, .LINK_EVENT, .LINK_PORT_CTRL, .LINK_PORT_STATE, .LINK_PORT_PEER, .LINK_PORT_PEER_ID_LO,
   .LINK_PORT_PEER_ID_HI, .LINK_PORT_ERR, .LINK_PORT_CREDIT, .LINK_PORT_AUDIT, .PLANT_CAP, .PLANT_DEFAULT, .PLANT_PORT_CTRL, .PLANT_PORT_MAC,
   .PLANT_PORT_IP, .PLANT_PORT_STATE, .PLANT_PORT_DROP, .PLANT_INGRESS, .PTP_CTRL, .PTP_TIME, .PTP_STATE, .PO_DEST] ++
  [.PO_LINK, .PO_BUF, .PO_CFG, .PO_TX, .PO_STATE, .CV_CFG, .CV_DATA_ID, .CV_INIT,
   .CV_XOROUT, .CV_SCAN_ADDR, .CV_SCAN_LEN, .CV_RESULT, .CV_STAT, .VID_CAP, .VID_NEXT, .VID_SEL,
   .VID_CMD, .VID_STATUS, .VID_DATA, .VID_STATE, .SEC_CAP, .SEC_STATE, .SEC_ADDR, .SEC_CMD,
   .SEC_STATUS, .KEY_EPOCH, .CONSENT_NONCE, .CONSENT_STATE, .FW_CAP, .FW_SRC_ADDR, .FW_SRC_LEN, .FW_CMD,
   .FW_STATUS, .FW_BOOT, .FW_VERSIONS, .FW_FLOORS, .FAULT_CAP, .FAULT_SUMMARY, .FAULT_CTRL, .FAULT_CMD,
   .FAULT_CMD_STATUS, .FAULT_INJECT, .AMBER_STATE, .AMBER_IDX, .AMBER_DATA, .FAULT_SRC_CFG, .FAULT_SRC_STATUS, .REDUN_CTRL,
   .REDUN_CMD, .REDUN_STATE, .REDUN_COUNT, .PWR_CAP, .PWR_CTRL, .PWR_CAP_LVL_MAP, .PWR_LIMIT, .PWR_INPUT,
   .PWR_SUPPLY, .PWR_COOLANT, .PWR_BOOKS, .PWR_EVENT, .PWR_THERMAL, .PWR_PART, .PWR_HINT, .PWR_NEXT,
   .CROSS_CAP, .CROSS_STATUS, .ISLAND_STATE, .BBS_CAP, .BBS_IDX, .BBS_DATA, .BBS_BATTERY, .SC_STATE,
   .SC_IRQ, .SC_CONSOLE, .PERF_CYCLE, .PERF_CNT, .PERF_CFG, .PERF_CTRL, .PERF_SAMPLE, .PERF_SAMPLE_INFO,
   .PERF_BASE, .PERF_LIMIT, .OPC_IDX, .OPC_DATA, .BW_CTRL, .BW_TX, .BW_RX, .BW_PEAK]

/-- A field of a register, by its name in the spec: the register and its bits. -/
structure Fld where
  reg : RegId
  hi : Nat
  lo : Nat
  deriving DecidableEq, Repr

namespace F
def NYPRA_SRC_ADDR_addr : Fld := ⟨.NYPRA_SRC_ADDR, 63, 12⟩
def NYPRA_SRC_LEN_len : Fld := ⟨.NYPRA_SRC_LEN, 13, 0⟩
def NYPRA_CMD_partition : Fld := ⟨.NYPRA_CMD, 11, 8⟩
def NYPRA_CMD_op : Fld := ⟨.NYPRA_CMD, 3, 0⟩
def NYPRA_STATUS_structure_epoch : Fld := ⟨.NYPRA_STATUS, 63, 32⟩
def NYPRA_STATUS_failed_section : Fld := ⟨.NYPRA_STATUS, 31, 24⟩
def NYPRA_STATUS_failed_check : Fld := ⟨.NYPRA_STATUS, 23, 16⟩
def NYPRA_STATUS_busy : Fld := ⟨.NYPRA_STATUS, 4, 4⟩
def NYPRA_STATUS_state : Fld := ⟨.NYPRA_STATUS, 3, 0⟩
def NYPRA_ACTIVE_ID_image_id : Fld := ⟨.NYPRA_ACTIVE_ID, 63, 0⟩
def NYPRA_VERSION_floor : Fld := ⟨.NYPRA_VERSION, 63, 32⟩
def NYPRA_VERSION_active : Fld := ⟨.NYPRA_VERSION, 31, 0⟩
def NYPRA_EVENT_removal_timeout : Fld := ⟨.NYPRA_EVENT, 5, 5⟩
def NYPRA_EVENT_removal_done : Fld := ⟨.NYPRA_EVENT, 4, 4⟩
def NYPRA_EVENT_cmd_rejected : Fld := ⟨.NYPRA_EVENT, 3, 3⟩
def NYPRA_EVENT_refused : Fld := ⟨.NYPRA_EVENT, 2, 2⟩
def NYPRA_EVENT_apply_done : Fld := ⟨.NYPRA_EVENT, 1, 1⟩
def NYPRA_EVENT_verify_done : Fld := ⟨.NYPRA_EVENT, 0, 0⟩
def PART_STATE_state (n : Nat) : Fld := ⟨.PART_STATE, 4 * n + 3, 4 * n⟩
def PART_REMOVE_channels_reset : Fld := ⟨.PART_REMOVE, 55, 48⟩
def PART_REMOVE_auth_discards : Fld := ⟨.PART_REMOVE, 47, 32⟩
def PART_REMOVE_inflight : Fld := ⟨.PART_REMOVE, 31, 8⟩
def PART_REMOVE_partition : Fld := ⟨.PART_REMOVE, 3, 0⟩
def TILE_CAP_level : Fld := ⟨.TILE_CAP, 63, 60⟩
def TILE_CAP_tiles_usable : Fld := ⟨.TILE_CAP, 59, 50⟩
def TILE_CAP_clusters : Fld := ⟨.TILE_CAP, 49, 44⟩
def TILE_CAP_spares_used : Fld := ⟨.TILE_CAP, 39, 32⟩
def TILE_CAP_window_path : Fld := ⟨.TILE_CAP, 28, 28⟩
def TILE_CAP_transform_path : Fld := ⟨.TILE_CAP, 27, 27⟩
def TILE_CAP_sparse_2_4 : Fld := ⟨.TILE_CAP, 26, 26⟩
def TILE_CAP_formats : Fld := ⟨.TILE_CAP, 25, 16⟩
def REPAIR_MAP_used (s : Nat) : Fld := ⟨.REPAIR_MAP, 16 * s + 15, 16 * s + 15⟩
def REPAIR_MAP_cluster (s : Nat) : Fld := ⟨.REPAIR_MAP, 16 * s + 7, 16 * s + 4⟩
def REPAIR_MAP_tile (s : Nat) : Fld := ⟨.REPAIR_MAP, 16 * s + 2, 16 * s⟩
def CLUSTER_STATE_clock_step : Fld := ⟨.CLUSTER_STATE, 46, 40⟩
def CLUSTER_STATE_partition : Fld := ⟨.CLUSTER_STATE, 39, 36⟩
def CLUSTER_STATE_state : Fld := ⟨.CLUSTER_STATE, 3, 0⟩
def TILE_SELFTEST_tests_aborted : Fld := ⟨.TILE_SELFTEST, 47, 32⟩
def TILE_SELFTEST_tests_done : Fld := ⟨.TILE_SELFTEST, 31, 16⟩
def TILE_SELFTEST_result : Fld := ⟨.TILE_SELFTEST, 15, 12⟩
def TILE_SELFTEST_auto_enable : Fld := ⟨.TILE_SELFTEST, 9, 9⟩
def TILE_SELFTEST_start : Fld := ⟨.TILE_SELFTEST, 8, 8⟩
def TILE_SELFTEST_cluster : Fld := ⟨.TILE_SELFTEST, 5, 0⟩
def TILE_STORE_ERR_corrected : Fld := ⟨.TILE_STORE_ERR, 63, 48⟩
def TILE_STORE_ERR_uncorrectable : Fld := ⟨.TILE_STORE_ERR, 47, 32⟩
def TILE_STORE_ERR_store : Fld := ⟨.TILE_STORE_ERR, 31, 30⟩
def TILE_STORE_ERR_unit : Fld := ⟨.TILE_STORE_ERR, 29, 21⟩
def TILE_STORE_ERR_word : Fld := ⟨.TILE_STORE_ERR, 20, 0⟩
def TILE_PATROL_period_s : Fld := ⟨.TILE_PATROL, 15, 0⟩
def VEC_CAP_level : Fld := ⟨.VEC_CAP, 63, 60⟩
def VEC_CAP_isa_version : Fld := ⟨.VEC_CAP, 59, 56⟩
def VEC_CAP_max_vregs : Fld := ⟨.VEC_CAP, 55, 48⟩
def VEC_CAP_max_groups : Fld := ⟨.VEC_CAP, 47, 40⟩
def VEC_CAP_kernel_mem : Fld := ⟨.VEC_CAP, 39, 24⟩
def VEC_CAP_tokens : Fld := ⟨.VEC_CAP, 23, 16⟩
def VEC_CAP_barriers : Fld := ⟨.VEC_CAP, 15, 12⟩
def VEC_FAULT_cause : Fld := ⟨.VEC_FAULT, 63, 60⟩
def VEC_FAULT_partition : Fld := ⟨.VEC_FAULT, 59, 56⟩
def VEC_FAULT_tile : Fld := ⟨.VEC_FAULT, 55, 47⟩
def VEC_FAULT_group : Fld := ⟨.VEC_FAULT, 46, 42⟩
def VEC_FAULT_pc : Fld := ⟨.VEC_FAULT, 41, 29⟩
def VEC_FAULT_cvt_nan : Fld := ⟨.VEC_FAULT, 15, 0⟩
def WIMG_SRC_ADDR_addr : Fld := ⟨.WIMG_SRC_ADDR, 63, 12⟩
def WIMG_SRC_LEN_len : Fld := ⟨.WIMG_SRC_LEN, 39, 0⟩
def WIMG_CMD_op : Fld := ⟨.WIMG_CMD, 3, 0⟩
def WIMG_STATUS_reason : Fld := ⟨.WIMG_STATUS, 63, 48⟩
def WIMG_STATUS_check : Fld := ⟨.WIMG_STATUS, 47, 40⟩
def WIMG_STATUS_progress : Fld := ⟨.WIMG_STATUS, 39, 32⟩
def WIMG_STATUS_below_envelope : Fld := ⟨.WIMG_STATUS, 5, 5⟩
def WIMG_STATUS_busy : Fld := ⟨.WIMG_STATUS, 4, 4⟩
def WIMG_STATUS_run_state : Fld := ⟨.WIMG_STATUS, 3, 0⟩
def WIMG_ACTIVE_ID_image_id : Fld := ⟨.WIMG_ACTIVE_ID, 63, 0⟩
def WIMG_EVENT_check_done : Fld := ⟨.WIMG_EVENT, 5, 5⟩
def WIMG_EVENT_stopped : Fld := ⟨.WIMG_EVENT, 4, 4⟩
def WIMG_EVENT_cmd_rejected : Fld := ⟨.WIMG_EVENT, 3, 3⟩
def WIMG_EVENT_unload_done : Fld := ⟨.WIMG_EVENT, 2, 2⟩
def WIMG_EVENT_refused : Fld := ⟨.WIMG_EVENT, 1, 1⟩
def WIMG_EVENT_load_done : Fld := ⟨.WIMG_EVENT, 0, 0⟩
def WIMG_CAP_level : Fld := ⟨.WIMG_CAP, 63, 60⟩
def WIMG_CAP_max_image_level : Fld := ⟨.WIMG_CAP, 59, 56⟩
def WIMG_CAP_caps : Fld := ⟨.WIMG_CAP, 18, 0⟩
def STACK_CAP_level : Fld := ⟨.STACK_CAP, 63, 60⟩
def STACK_CAP_engines : Fld := ⟨.STACK_CAP, 59, 52⟩
def STACK_CAP_pseudo_channels : Fld := ⟨.STACK_CAP, 51, 44⟩
def STACK_CAP_pc_mib : Fld := ⟨.STACK_CAP, 43, 32⟩
def STACK_CAP_frames_per_pc : Fld := ⟨.STACK_CAP, 31, 16⟩
def STACK_CAP_kv8 : Fld := ⟨.STACK_CAP, 9, 9⟩
def STACK_CAP_kv4 : Fld := ⟨.STACK_CAP, 8, 8⟩
def STACK_CAP_max_rows : Fld := ⟨.STACK_CAP, 7, 0⟩
def STACK_ERR_corrected : Fld := ⟨.STACK_ERR, 63, 48⟩
def STACK_ERR_uncorrectable : Fld := ⟨.STACK_ERR, 47, 36⟩
def STACK_ERR_tag : Fld := ⟨.STACK_ERR, 34, 32⟩
def STACK_ERR_pc : Fld := ⟨.STACK_ERR, 31, 27⟩
def STACK_ERR_word : Fld := ⟨.STACK_ERR, 26, 0⟩
def STACK_SCRUB_passes : Fld := ⟨.STACK_SCRUB, 63, 32⟩
def STACK_SCRUB_period_s : Fld := ⟨.STACK_SCRUB, 16, 0⟩
def KV_COMP_COUNT_nonfinite : Fld := ⟨.KV_COMP_COUNT, 63, 32⟩
def KV_COMP_COUNT_saturated : Fld := ⟨.KV_COMP_COUNT, 31, 0⟩
def VE_STATE_state (e : Nat) : Fld := ⟨.VE_STATE, 4 * e + 3, 4 * e⟩
def PAGE_CAP_level : Fld := ⟨.PAGE_CAP, 63, 60⟩
def PAGE_CAP_pages : Fld := ⟨.PAGE_CAP, 59, 38⟩
def PAGE_CAP_slots : Fld := ⟨.PAGE_CAP, 37, 26⟩
def PAGE_CAP_journal_entries : Fld := ⟨.PAGE_CAP, 25, 9⟩
def PAGE_BOOKS_0_allocated : Fld := ⟨.PAGE_BOOKS_0, 63, 32⟩
def PAGE_BOOKS_0_free : Fld := ⟨.PAGE_BOOKS_0, 31, 0⟩
def PAGE_BOOKS_1_recompute : Fld := ⟨.PAGE_BOOKS_1, 63, 32⟩
def PAGE_BOOKS_1_quarantined : Fld := ⟨.PAGE_BOOKS_1, 31, 0⟩
def PAGE_TRANSIT_journal_used : Fld := ⟨.PAGE_TRANSIT, 63, 47⟩
def PAGE_TRANSIT_journal_peak : Fld := ⟨.PAGE_TRANSIT, 46, 30⟩
def PAGE_TRANSIT_deferred : Fld := ⟨.PAGE_TRANSIT, 29, 13⟩
def PAGE_TRANSIT_transit : Fld := ⟨.PAGE_TRANSIT, 6, 0⟩
def PAGE_AUDIT_sweeps : Fld := ⟨.PAGE_AUDIT, 63, 32⟩
def PAGE_AUDIT_skipped : Fld := ⟨.PAGE_AUDIT, 31, 16⟩
def PAGE_AUDIT_mismatch_partition : Fld := ⟨.PAGE_AUDIT, 15, 12⟩
def PAGE_AUDIT_mismatch_book : Fld := ⟨.PAGE_AUDIT, 11, 9⟩
def PAGE_AUDIT_mismatch : Fld := ⟨.PAGE_AUDIT, 8, 8⟩
def PAGE_AUDIT_running : Fld := ⟨.PAGE_AUDIT, 2, 2⟩
def PAGE_AUDIT_auto_enable : Fld := ⟨.PAGE_AUDIT, 1, 1⟩
def PAGE_AUDIT_start : Fld := ⟨.PAGE_AUDIT, 0, 0⟩
def PAGE_ANOMALY_double_free : Fld := ⟨.PAGE_ANOMALY, 63, 48⟩
def PAGE_ANOMALY_sram_corrected : Fld := ⟨.PAGE_ANOMALY, 47, 32⟩
def PAGE_ANOMALY_zero_check_fail : Fld := ⟨.PAGE_ANOMALY, 31, 16⟩
def PAGE_ANOMALY_sram_uncorrectable : Fld := ⟨.PAGE_ANOMALY, 15, 0⟩
def PAGE_CMD_page : Fld := ⟨.PAGE_CMD, 32, 12⟩
def PAGE_CMD_partition : Fld := ⟨.PAGE_CMD, 11, 8⟩
def PAGE_CMD_op : Fld := ⟨.PAGE_CMD, 3, 0⟩
def PAGE_CMD_STATUS_busy : Fld := ⟨.PAGE_CMD_STATUS, 4, 4⟩
def PAGE_CMD_STATUS_result : Fld := ⟨.PAGE_CMD_STATUS, 3, 0⟩
def PAGE_READ_IDX_view : Fld := ⟨.PAGE_READ_IDX, 63, 63⟩
def PAGE_READ_IDX_page : Fld := ⟨.PAGE_READ_IDX, 20, 0⟩
def PAGE_READ_LO_desc_lo : Fld := ⟨.PAGE_READ_LO, 63, 0⟩
def PAGE_READ_HI_desc_hi : Fld := ⟨.PAGE_READ_HI, 63, 0⟩
def PAGE_LIST_IDX_view : Fld := ⟨.PAGE_LIST_IDX, 63, 63⟩
def PAGE_LIST_IDX_slot : Fld := ⟨.PAGE_LIST_IDX, 10, 0⟩
def PAGE_LIST_LO_tail : Fld := ⟨.PAGE_LIST_LO, 41, 21⟩
def PAGE_LIST_LO_head : Fld := ⟨.PAGE_LIST_LO, 20, 0⟩
def PAGE_LIST_HI_len : Fld := ⟨.PAGE_LIST_HI, 37, 17⟩
def PAGE_LIST_HI_rows : Fld := ⟨.PAGE_LIST_HI, 16, 0⟩
def PAGE_PATROL_passes : Fld := ⟨.PAGE_PATROL, 63, 32⟩
def PAGE_PATROL_period_s : Fld := ⟨.PAGE_PATROL, 15, 0⟩
def PAGE_EVENT_zero_check_fail : Fld := ⟨.PAGE_EVENT, 5, 5⟩
def PAGE_EVENT_sram_uncorrectable : Fld := ⟨.PAGE_EVENT, 4, 4⟩
def PAGE_EVENT_anomaly : Fld := ⟨.PAGE_EVENT, 3, 3⟩
def PAGE_EVENT_audit_mismatch : Fld := ⟨.PAGE_EVENT, 2, 2⟩
def PAGE_EVENT_cmd_rejected : Fld := ⟨.PAGE_EVENT, 1, 1⟩
def PAGE_EVENT_cmd_done : Fld := ⟨.PAGE_EVENT, 0, 0⟩
def PAGE_EPOCH_in_flight : Fld := ⟨.PAGE_EPOCH, 49, 49⟩
def PAGE_EPOCH_pending : Fld := ⟨.PAGE_EPOCH, 48, 32⟩
def PAGE_EPOCH_epoch : Fld := ⟨.PAGE_EPOCH, 31, 0⟩
def PAGE_PBOOKS_A_allocated : Fld := ⟨.PAGE_PBOOKS_A, 63, 32⟩
def PAGE_PBOOKS_A_free : Fld := ⟨.PAGE_PBOOKS_A, 31, 0⟩
def PAGE_PBOOKS_B_recompute : Fld := ⟨.PAGE_PBOOKS_B, 63, 32⟩
def PAGE_PBOOKS_B_quarantined : Fld := ⟨.PAGE_PBOOKS_B, 31, 0⟩
def PAGE_POLICY_evict_unit : Fld := ⟨.PAGE_POLICY, 56, 56⟩
def PAGE_POLICY_min_keep_rows : Fld := ⟨.PAGE_POLICY, 55, 48⟩
def PAGE_POLICY_low_water : Fld := ⟨.PAGE_POLICY, 47, 32⟩
def PAGE_POLICY_ema_shift : Fld := ⟨.PAGE_POLICY, 31, 28⟩
def PAGE_POLICY_half_life : Fld := ⟨.PAGE_POLICY, 27, 16⟩
def PAGE_POLICY_init_score : Fld := ⟨.PAGE_POLICY, 15, 0⟩
def PAGE_PSTAT_rows_free : Fld := ⟨.PAGE_PSTAT, 43, 22⟩
def PAGE_PSTAT_rows_usable : Fld := ⟨.PAGE_PSTAT, 21, 0⟩
def PAGE_PCOUNT_spec_rows_returned : Fld := ⟨.PAGE_PCOUNT, 63, 48⟩
def PAGE_PCOUNT_error_rows : Fld := ⟨.PAGE_PCOUNT, 47, 32⟩
def PAGE_PCOUNT_evicted_rows : Fld := ⟨.PAGE_PCOUNT, 31, 0⟩
def REQ_SEL_slot : Fld := ⟨.REQ_SEL, 10, 0⟩
def REQ_CMD_count : Fld := ⟨.REQ_CMD, 28, 8⟩
def REQ_CMD_op : Fld := ⟨.REQ_CMD, 3, 0⟩
def REQ_STATUS_slot : Fld := ⟨.REQ_STATUS, 42, 32⟩
def REQ_STATUS_reason : Fld := ⟨.REQ_STATUS, 31, 24⟩
def REQ_STATUS_slot_state : Fld := ⟨.REQ_STATUS, 23, 20⟩
def REQ_STATUS_busy : Fld := ⟨.REQ_STATUS, 4, 4⟩
def REQ_STATUS_result : Fld := ⟨.REQ_STATUS, 3, 0⟩
def REQ_EVENT_no_pages : Fld := ⟨.REQ_EVENT, 4, 4⟩
def REQ_EVENT_completion_wait : Fld := ⟨.REQ_EVENT, 3, 3⟩
def REQ_EVENT_pending_done : Fld := ⟨.REQ_EVENT, 2, 2⟩
def REQ_EVENT_refused : Fld := ⟨.REQ_EVENT, 1, 1⟩
def REQ_EVENT_cmd_done : Fld := ⟨.REQ_EVENT, 0, 0⟩
def REQ_COUNT_closing : Fld := ⟨.REQ_COUNT, 59, 48⟩
def REQ_COUNT_paused : Fld := ⟨.REQ_COUNT, 47, 36⟩
def REQ_COUNT_decode : Fld := ⟨.REQ_COUNT, 35, 24⟩
def REQ_COUNT_prefill : Fld := ⟨.REQ_COUNT, 23, 12⟩
def REQ_COUNT_queued : Fld := ⟨.REQ_COUNT, 11, 0⟩
def TILLER_POLICY_spec_enable : Fld := ⟨.TILLER_POLICY, 46, 46⟩
def TILLER_POLICY_prefill_reserve : Fld := ⟨.TILLER_POLICY, 45, 32⟩
def TILLER_POLICY_max_batch : Fld := ⟨.TILLER_POLICY, 31, 20⟩
def TILLER_POLICY_token_budget : Fld := ⟨.TILLER_POLICY, 15, 0⟩
def TILLER_STAT_steps : Fld := ⟨.TILLER_STAT, 63, 32⟩
def TILLER_STAT_rows_last : Fld := ⟨.TILLER_STAT, 31, 16⟩
def TILLER_STAT_segments_last : Fld := ⟨.TILLER_STAT, 15, 0⟩
def TILLER_STALL_page_stalls : Fld := ⟨.TILLER_STALL, 63, 32⟩
def TILLER_STALL_cancel_late : Fld := ⟨.TILLER_STALL, 31, 16⟩
def TILLER_STALL_progress_dropped : Fld := ⟨.TILLER_STALL, 15, 0⟩
def TILLER_NEXT_runnable : Fld := ⟨.TILLER_NEXT, 63, 63⟩
def TILLER_NEXT_valid : Fld := ⟨.TILLER_NEXT, 62, 62⟩
def TILLER_NEXT_time : Fld := ⟨.TILLER_NEXT, 61, 0⟩
def REQ_DATA_data : Fld := ⟨.REQ_DATA, 63, 0⟩
def TILLER_CAP_level : Fld := ⟨.TILLER_CAP, 63, 60⟩
def TILLER_CAP_slots : Fld := ⟨.TILLER_CAP, 59, 48⟩
def TILLER_CAP_max_spec : Fld := ⟨.TILLER_CAP, 47, 44⟩
def TILLER_CAP_max_batch : Fld := ⟨.TILLER_CAP, 43, 32⟩
def RING_CAP_level : Fld := ⟨.RING_CAP, 63, 60⟩
def RING_CAP_rings : Fld := ⟨.RING_CAP, 59, 47⟩
def RING_CAP_engines : Fld := ⟨.RING_CAP, 46, 40⟩
def RING_CAP_max_size : Fld := ⟨.RING_CAP, 39, 23⟩
def RING_CAP_max_in_flight : Fld := ⟨.RING_CAP, 22, 19⟩
def RING_CAP_forms : Fld := ⟨.RING_CAP, 4, 0⟩
def RING_AUDIT_reserved_total : Fld := ⟨.RING_AUDIT, 63, 44⟩
def RING_AUDIT_expected_total : Fld := ⟨.RING_AUDIT, 43, 24⟩
def RING_AUDIT_checks : Fld := ⟨.RING_AUDIT, 23, 8⟩
def RING_AUDIT_mismatch : Fld := ⟨.RING_AUDIT, 0, 0⟩
def RING_SEL_ring : Fld := ⟨.RING_SEL, 11, 0⟩
def RING_CMD_op : Fld := ⟨.RING_CMD, 3, 0⟩
def RING_STATUS_ring : Fld := ⟨.RING_STATUS, 43, 32⟩
def RING_STATUS_reason : Fld := ⟨.RING_STATUS, 31, 24⟩
def RING_STATUS_busy : Fld := ⟨.RING_STATUS, 4, 4⟩
def RING_STATUS_result : Fld := ⟨.RING_STATUS, 3, 0⟩
def RING_EVENT_ingress_drop : Fld := ⟨.RING_EVENT, 4, 4⟩
def RING_EVENT_doorbell_error : Fld := ⟨.RING_EVENT, 3, 3⟩
def RING_EVENT_ring_paused : Fld := ⟨.RING_EVENT, 2, 2⟩
def RING_EVENT_refused : Fld := ⟨.RING_EVENT, 1, 1⟩
def RING_EVENT_cmd_done : Fld := ⟨.RING_EVENT, 0, 0⟩
def RING_DESC_data : Fld := ⟨.RING_DESC, 63, 0⟩
def RING_PI_pi : Fld := ⟨.RING_PI, 31, 0⟩
def RING_CI_ci : Fld := ⟨.RING_CI, 31, 0⟩
def RING_STATE_fetch : Fld := ⟨.RING_STATE, 63, 32⟩
def RING_STATE_write_blocked : Fld := ⟨.RING_STATE, 20, 20⟩
def RING_STATE_in_flight : Fld := ⟨.RING_STATE, 19, 16⟩
def RING_STATE_kind : Fld := ⟨.RING_STATE, 15, 12⟩
def RING_STATE_cause : Fld := ⟨.RING_STATE, 11, 8⟩
def RING_STATE_drained : Fld := ⟨.RING_STATE, 4, 4⟩
def RING_STATE_state : Fld := ⟨.RING_STATE, 3, 0⟩
def RING_COUNT_drops : Fld := ⟨.RING_COUNT, 63, 32⟩
def RING_COUNT_reserved : Fld := ⟨.RING_COUNT, 31, 15⟩
def RING_COUNT_doorbell_errors : Fld := ⟨.RING_COUNT, 14, 0⟩
def DDR4_CAP_level : Fld := ⟨.DDR4_CAP, 63, 60⟩
def DDR4_CAP_granules : Fld := ⟨.DDR4_CAP, 59, 51⟩
def DDR4_CAP_channels : Fld := ⟨.DDR4_CAP, 50, 47⟩
def DDR4_CAP_mts : Fld := ⟨.DDR4_CAP, 46, 31⟩
def DDR4_CAP_xts : Fld := ⟨.DDR4_CAP, 0, 0⟩
def DDR4_STATE_retrain : Fld := ⟨.DDR4_STATE, 16, 16⟩
def DDR4_STATE_trained : Fld := ⟨.DDR4_STATE, 15, 8⟩
def DDR4_STATE_temp : Fld := ⟨.DDR4_STATE, 3, 2⟩
def DDR4_STATE_mode : Fld := ⟨.DDR4_STATE, 1, 0⟩
def DDR4_ERR_corrected : Fld := ⟨.DDR4_ERR, 63, 48⟩
def DDR4_ERR_uncorrectable : Fld := ⟨.DDR4_ERR, 47, 32⟩
def DDR4_ERR_restored : Fld := ⟨.DDR4_ERR, 31, 16⟩
def DDR4_ERR_ca_parity : Fld := ⟨.DDR4_ERR, 15, 8⟩
def DDR4_ERR_partition : Fld := ⟨.DDR4_ERR, 7, 4⟩
def DDR4_ERR_role : Fld := ⟨.DDR4_ERR, 3, 2⟩
def DDR4_ERR_uncorrectable_event : Fld := ⟨.DDR4_ERR, 0, 0⟩
def DDR4_ERR_ADDR_addr : Fld := ⟨.DDR4_ERR_ADDR, 37, 4⟩
def DDR4_SCRUB_passes : Fld := ⟨.DDR4_SCRUB, 63, 32⟩
def DDR4_SCRUB_period_s : Fld := ⟨.DDR4_SCRUB, 16, 0⟩
def LINK_CAP_level : Fld := ⟨.LINK_CAP, 63, 60⟩
def LINK_CAP_ports : Fld := ⟨.LINK_CAP, 59, 55⟩
def LINK_CAP_lanes : Fld := ⟨.LINK_CAP, 54, 51⟩
def LINK_CAP_vcs : Fld := ⟨.LINK_CAP, 50, 48⟩
def LINK_CAP_credits : Fld := ⟨.LINK_CAP, 47, 40⟩
def LINK_CAP_payload : Fld := ⟨.LINK_CAP, 39, 32⟩
def LINK_CAP_rate : Fld := ⟨.LINK_CAP, 31, 16⟩
def LINK_ID_valid : Fld := ⟨.LINK_ID, 31, 31⟩
def LINK_ID_fabric_id : Fld := ⟨.LINK_ID, 9, 0⟩
def LINK_CTRL_max_hops : Fld := ⟨.LINK_CTRL, 39, 36⟩
def LINK_CTRL_ack_timeout_us : Fld := ⟨.LINK_CTRL, 31, 16⟩
def LINK_CTRL_audit_period_ms : Fld := ⟨.LINK_CTRL, 15, 8⟩
def LINK_CTRL_audit_enable : Fld := ⟨.LINK_CTRL, 0, 0⟩
def LINK_ROUTE_IDX_module : Fld := ⟨.LINK_ROUTE_IDX, 9, 0⟩
def LINK_ROUTE_DATA_alt_valid : Fld := ⟨.LINK_ROUTE_DATA, 15, 15⟩
def LINK_ROUTE_DATA_alt_port : Fld := ⟨.LINK_ROUTE_DATA, 12, 8⟩
def LINK_ROUTE_DATA_primary_valid : Fld := ⟨.LINK_ROUTE_DATA, 7, 7⟩
def LINK_ROUTE_DATA_primary_port : Fld := ⟨.LINK_ROUTE_DATA, 4, 0⟩
def LINK_EVENT_audit_mismatch : Fld := ⟨.LINK_EVENT, 4, 4⟩
def LINK_EVENT_refused : Fld := ⟨.LINK_EVENT, 3, 3⟩
def LINK_EVENT_degraded : Fld := ⟨.LINK_EVENT, 2, 2⟩
def LINK_EVENT_link_down : Fld := ⟨.LINK_EVENT, 1, 1⟩
def LINK_EVENT_link_up : Fld := ⟨.LINK_EVENT, 0, 0⟩
def LINK_PORT_CTRL_degrade_threshold : Fld := ⟨.LINK_PORT_CTRL, 23, 16⟩
def LINK_PORT_CTRL_lane_mask : Fld := ⟨.LINK_PORT_CTRL, 15, 8⟩
def LINK_PORT_CTRL_retrain : Fld := ⟨.LINK_PORT_CTRL, 1, 1⟩
def LINK_PORT_CTRL_enable : Fld := ⟨.LINK_PORT_CTRL, 0, 0⟩
def LINK_PORT_STATE_lanes_good : Fld := ⟨.LINK_PORT_STATE, 47, 40⟩
def LINK_PORT_STATE_width : Fld := ⟨.LINK_PORT_STATE, 39, 36⟩
def LINK_PORT_STATE_level : Fld := ⟨.LINK_PORT_STATE, 35, 32⟩
def LINK_PORT_STATE_down_cause : Fld := ⟨.LINK_PORT_STATE, 31, 24⟩
def LINK_PORT_STATE_refuse_reason : Fld := ⟨.LINK_PORT_STATE, 23, 16⟩
def LINK_PORT_STATE_state : Fld := ⟨.LINK_PORT_STATE, 3, 0⟩
def LINK_PORT_PEER_peer_port : Fld := ⟨.LINK_PORT_PEER, 23, 16⟩
def LINK_PORT_PEER_valid : Fld := ⟨.LINK_PORT_PEER, 15, 15⟩
def LINK_PORT_PEER_peer_id : Fld := ⟨.LINK_PORT_PEER, 9, 0⟩
def LINK_PORT_PEER_ID_LO_identity_lo : Fld := ⟨.LINK_PORT_PEER_ID_LO, 63, 0⟩
def LINK_PORT_PEER_ID_HI_identity_hi : Fld := ⟨.LINK_PORT_PEER_ID_HI, 63, 0⟩
def LINK_PORT_ERR_corrected : Fld := ⟨.LINK_PORT_ERR, 63, 48⟩
def LINK_PORT_ERR_replays : Fld := ⟨.LINK_PORT_ERR, 47, 32⟩
def LINK_PORT_ERR_link_downs : Fld := ⟨.LINK_PORT_ERR, 31, 16⟩
def LINK_PORT_ERR_uncorrectable : Fld := ⟨.LINK_PORT_ERR, 15, 0⟩
def LINK_PORT_CREDIT_held (v : Nat) : Fld := ⟨.LINK_PORT_CREDIT, 8 * v + 39, 8 * v + 32⟩
def LINK_PORT_CREDIT_tx_avail (v : Nat) : Fld := ⟨.LINK_PORT_CREDIT, 8 * v + 7, 8 * v⟩
def LINK_PORT_AUDIT_auth_fail : Fld := ⟨.LINK_PORT_AUDIT, 63, 48⟩
def LINK_PORT_AUDIT_refused : Fld := ⟨.LINK_PORT_AUDIT, 47, 32⟩
def LINK_PORT_AUDIT_audits : Fld := ⟨.LINK_PORT_AUDIT, 31, 16⟩
def LINK_PORT_AUDIT_notify_dropped : Fld := ⟨.LINK_PORT_AUDIT, 15, 8⟩
def LINK_PORT_AUDIT_mismatch_vc : Fld := ⟨.LINK_PORT_AUDIT, 7, 4⟩
def LINK_PORT_AUDIT_credit_mismatch : Fld := ⟨.LINK_PORT_AUDIT, 0, 0⟩
def PLANT_CAP_level : Fld := ⟨.PLANT_CAP, 63, 60⟩
def PLANT_CAP_ports : Fld := ⟨.PLANT_CAP, 59, 56⟩
def PLANT_CAP_po : Fld := ⟨.PLANT_CAP, 55, 48⟩
def PLANT_CAP_cv : Fld := ⟨.PLANT_CAP, 47, 40⟩
def PLANT_DEFAULT_valid : Fld := ⟨.PLANT_DEFAULT, 12, 12⟩
def PLANT_DEFAULT_ring : Fld := ⟨.PLANT_DEFAULT, 11, 0⟩
def PLANT_PORT_CTRL_vlan_id : Fld := ⟨.PLANT_PORT_CTRL, 27, 16⟩
def PLANT_PORT_CTRL_vlan_en : Fld := ⟨.PLANT_PORT_CTRL, 1, 1⟩
def PLANT_PORT_CTRL_enable : Fld := ⟨.PLANT_PORT_CTRL, 0, 0⟩
def PLANT_PORT_MAC_mac : Fld := ⟨.PLANT_PORT_MAC, 47, 0⟩
def PLANT_PORT_IP_ipv4 : Fld := ⟨.PLANT_PORT_IP, 31, 0⟩
def PLANT_PORT_STATE_fec_corrected : Fld := ⟨.PLANT_PORT_STATE, 63, 32⟩
def PLANT_PORT_STATE_fec_uncorrected : Fld := ⟨.PLANT_PORT_STATE, 31, 16⟩
def PLANT_PORT_STATE_link : Fld := ⟨.PLANT_PORT_STATE, 1, 0⟩
def PLANT_PORT_DROP_fcs : Fld := ⟨.PLANT_PORT_DROP, 63, 48⟩
def PLANT_PORT_DROP_filtered : Fld := ⟨.PLANT_PORT_DROP, 47, 32⟩
def PLANT_PORT_DROP_checksum : Fld := ⟨.PLANT_PORT_DROP, 31, 16⟩
def PLANT_PORT_DROP_no_match : Fld := ⟨.PLANT_PORT_DROP, 15, 0⟩
def PLANT_INGRESS_valid (k : Nat) : Fld := ⟨.PLANT_INGRESS, 16 * k + 12, 16 * k + 12⟩
def PLANT_INGRESS_ring (k : Nat) : Fld := ⟨.PLANT_INGRESS, 16 * k + 11, 16 * k⟩
def PTP_CTRL_domain : Fld := ⟨.PTP_CTRL, 14, 8⟩
def PTP_CTRL_port_mask : Fld := ⟨.PTP_CTRL, 7, 4⟩
def PTP_CTRL_enable : Fld := ⟨.PTP_CTRL, 0, 0⟩
def PTP_TIME_time : Fld := ⟨.PTP_TIME, 63, 0⟩
def PTP_STATE_offset_ns : Fld := ⟨.PTP_STATE, 63, 32⟩
def PTP_STATE_steps : Fld := ⟨.PTP_STATE, 31, 16⟩
def PTP_STATE_port : Fld := ⟨.PTP_STATE, 5, 4⟩
def PTP_STATE_state : Fld := ⟨.PTP_STATE, 3, 0⟩
def PO_DEST_src_udp : Fld := ⟨.PO_DEST, 63, 48⟩
def PO_DEST_dst_udp : Fld := ⟨.PO_DEST, 47, 32⟩
def PO_DEST_dst_ip : Fld := ⟨.PO_DEST, 31, 0⟩
def PO_LINK_port : Fld := ⟨.PO_LINK, 49, 48⟩
def PO_LINK_dst_mac : Fld := ⟨.PO_LINK, 47, 0⟩
def PO_BUF_addr : Fld := ⟨.PO_BUF, 37, 6⟩
def PO_CFG_dscp : Fld := ⟨.PO_CFG, 21, 16⟩
def PO_CFG_period_ms : Fld := ⟨.PO_CFG, 15, 0⟩
def PO_TX_len : Fld := ⟨.PO_TX, 10, 0⟩
def PO_STATE_sent : Fld := ⟨.PO_STATE, 63, 48⟩
def PO_STATE_rejected : Fld := ⟨.PO_STATE, 47, 32⟩
def PO_STATE_tx_drop : Fld := ⟨.PO_STATE, 31, 16⟩
def PO_STATE_busy : Fld := ⟨.PO_STATE, 7, 7⟩
def PO_STATE_state : Fld := ⟨.PO_STATE, 2, 0⟩
def CV_CFG_alive_en : Fld := ⟨.CV_CFG, 44, 44⟩
def CV_CFG_alive_offset : Fld := ⟨.CV_CFG, 43, 32⟩
def CV_CFG_udp_port : Fld := ⟨.CV_CFG, 31, 16⟩
def CV_CFG_max_gap : Fld := ⟨.CV_CFG, 15, 8⟩
def CV_CFG_data_id_en : Fld := ⟨.CV_CFG, 3, 3⟩
def CV_CFG_algo : Fld := ⟨.CV_CFG, 2, 2⟩
def CV_CFG_mode : Fld := ⟨.CV_CFG, 1, 0⟩
def CV_DATA_ID_data_id : Fld := ⟨.CV_DATA_ID, 31, 0⟩
def CV_INIT_init : Fld := ⟨.CV_INIT, 63, 0⟩
def CV_XOROUT_xorout : Fld := ⟨.CV_XOROUT, 63, 0⟩
def CV_SCAN_ADDR_addr : Fld := ⟨.CV_SCAN_ADDR, 63, 0⟩
def CV_SCAN_LEN_start : Fld := ⟨.CV_SCAN_LEN, 63, 63⟩
def CV_SCAN_LEN_len : Fld := ⟨.CV_SCAN_LEN, 39, 0⟩
def CV_RESULT_result : Fld := ⟨.CV_RESULT, 63, 0⟩
def CV_STAT_alive : Fld := ⟨.CV_STAT, 63, 48⟩
def CV_STAT_scan_status : Fld := ⟨.CV_STAT, 47, 40⟩
def CV_STAT_scan_busy : Fld := ⟨.CV_STAT, 39, 39⟩
def CV_STAT_check_fail : Fld := ⟨.CV_STAT, 31, 16⟩
def CV_STAT_gap : Fld := ⟨.CV_STAT, 15, 8⟩
def CV_STAT_repeat : Fld := ⟨.CV_STAT, 7, 0⟩
def VID_CAP_level : Fld := ⟨.VID_CAP, 63, 60⟩
def VID_CAP_decode_sessions : Fld := ⟨.VID_CAP, 59, 52⟩
def VID_CAP_encode_sessions : Fld := ⟨.VID_CAP, 51, 44⟩
def VID_NEXT_valid : Fld := ⟨.VID_NEXT, 63, 63⟩
def VID_NEXT_time : Fld := ⟨.VID_NEXT, 62, 0⟩
def VID_SEL_session : Fld := ⟨.VID_SEL, 6, 0⟩
def VID_CMD_op : Fld := ⟨.VID_CMD, 2, 0⟩
def VID_STATUS_reason : Fld := ⟨.VID_STATUS, 15, 8⟩
def VID_STATUS_busy : Fld := ⟨.VID_STATUS, 4, 4⟩
def VID_STATUS_result : Fld := ⟨.VID_STATUS, 3, 0⟩
def VID_DATA_data : Fld := ⟨.VID_DATA, 63, 0⟩
def VID_STATE_dropped : Fld := ⟨.VID_STATE, 63, 48⟩
def VID_STATE_damaged : Fld := ⟨.VID_STATE, 47, 32⟩
def VID_STATE_foreign : Fld := ⟨.VID_STATE, 31, 16⟩
def VID_STATE_state : Fld := ⟨.VID_STATE, 3, 0⟩
def SEC_CAP_level : Fld := ⟨.SEC_CAP, 63, 60⟩
def SEC_CAP_link_entries : Fld := ⟨.SEC_CAP, 59, 51⟩
def SEC_CAP_per_partition : Fld := ⟨.SEC_CAP, 50, 44⟩
def SEC_CAP_public_keys : Fld := ⟨.SEC_CAP, 43, 36⟩
def SEC_STATE_entries_used : Fld := ⟨.SEC_STATE, 28, 20⟩
def SEC_STATE_depot_returns : Fld := ⟨.SEC_STATE, 19, 16⟩
def SEC_STATE_root_revoked : Fld := ⟨.SEC_STATE, 15, 12⟩
def SEC_STATE_root_valid : Fld := ⟨.SEC_STATE, 11, 8⟩
def SEC_STATE_debug_lock : Fld := ⟨.SEC_STATE, 6, 6⟩
def SEC_STATE_table_locked : Fld := ⟨.SEC_STATE, 5, 5⟩
def SEC_STATE_claimed : Fld := ⟨.SEC_STATE, 4, 4⟩
def SEC_STATE_lifecycle : Fld := ⟨.SEC_STATE, 3, 0⟩
def SEC_ADDR_addr : Fld := ⟨.SEC_ADDR, 63, 0⟩
def SEC_CMD_key_id : Fld := ⟨.SEC_CMD, 31, 16⟩
def SEC_CMD_op : Fld := ⟨.SEC_CMD, 3, 0⟩
def SEC_STATUS_reason : Fld := ⟨.SEC_STATUS, 15, 8⟩
def SEC_STATUS_busy : Fld := ⟨.SEC_STATUS, 4, 4⟩
def SEC_STATUS_result : Fld := ⟨.SEC_STATUS, 3, 0⟩
def KEY_EPOCH_epoch : Fld := ⟨.KEY_EPOCH, 63, 32⟩
def KEY_EPOCH_link_keys : Fld := ⟨.KEY_EPOCH, 31, 24⟩
def KEY_EPOCH_seal : Fld := ⟨.KEY_EPOCH, 0, 0⟩
def CONSENT_NONCE_nonce : Fld := ⟨.CONSENT_NONCE, 63, 0⟩
def CONSENT_STATE_not_after : Fld := ⟨.CONSENT_STATE, 63, 20⟩
def CONSENT_STATE_active : Fld := ⟨.CONSENT_STATE, 4, 4⟩
def CONSENT_STATE_scopes : Fld := ⟨.CONSENT_STATE, 3, 0⟩
def FW_CAP_level : Fld := ⟨.FW_CAP, 63, 60⟩
def FW_CAP_nor_mib : Fld := ⟨.FW_CAP, 59, 48⟩
def FW_CAP_nand_gib : Fld := ⟨.FW_CAP, 47, 40⟩
def FW_CAP_slots : Fld := ⟨.FW_CAP, 39, 36⟩
def FW_CAP_trial_s : Fld := ⟨.FW_CAP, 35, 20⟩
def FW_CAP_stepping : Fld := ⟨.FW_CAP, 19, 12⟩
def FW_SRC_ADDR_addr : Fld := ⟨.FW_SRC_ADDR, 63, 12⟩
def FW_SRC_LEN_len : Fld := ⟨.FW_SRC_LEN, 31, 0⟩
def FW_CMD_slot : Fld := ⟨.FW_CMD, 4, 4⟩
def FW_CMD_op : Fld := ⟨.FW_CMD, 3, 0⟩
def FW_STATUS_progress : Fld := ⟨.FW_STATUS, 39, 32⟩
def FW_STATUS_reason : Fld := ⟨.FW_STATUS, 31, 24⟩
def FW_STATUS_busy : Fld := ⟨.FW_STATUS, 4, 4⟩
def FW_STATUS_result : Fld := ⟨.FW_STATUS, 3, 0⟩
def FW_BOOT_stage : Fld := ⟨.FW_BOOT, 63, 60⟩
def FW_BOOT_slot_a : Fld := ⟨.FW_BOOT, 59, 56⟩
def FW_BOOT_slot_b : Fld := ⟨.FW_BOOT, 55, 52⟩
def FW_BOOT_running_slot : Fld := ⟨.FW_BOOT, 51, 51⟩
def FW_BOOT_limited : Fld := ⟨.FW_BOOT, 50, 50⟩
def FW_BOOT_limited_seen : Fld := ⟨.FW_BOOT, 49, 49⟩
def FW_BOOT_reset_mgmt : Fld := ⟨.FW_BOOT, 48, 48⟩
def FW_BOOT_reset_runtime : Fld := ⟨.FW_BOOT, 47, 47⟩
def FW_BOOT_fallback : Fld := ⟨.FW_BOOT, 46, 46⟩
def FW_BOOT_check_a : Fld := ⟨.FW_BOOT, 39, 36⟩
def FW_BOOT_check_b : Fld := ⟨.FW_BOOT, 35, 32⟩
def FW_BOOT_trial_left_s : Fld := ⟨.FW_BOOT, 9, 0⟩
def FW_VERSIONS_runtime : Fld := ⟨.FW_VERSIONS, 63, 32⟩
def FW_VERSIONS_mgmt : Fld := ⟨.FW_VERSIONS, 31, 0⟩
def FW_FLOORS_runtime_floor : Fld := ⟨.FW_FLOORS, 63, 32⟩
def FW_FLOORS_mgmt_floor : Fld := ⟨.FW_FLOORS, 31, 0⟩
def FAULT_CAP_level : Fld := ⟨.FAULT_CAP, 63, 60⟩
def FAULT_CAP_sources : Fld := ⟨.FAULT_CAP, 59, 51⟩
def FAULT_CAP_amber_entries : Fld := ⟨.FAULT_CAP, 50, 41⟩
def FAULT_CAP_inject : Fld := ⟨.FAULT_CAP, 40, 40⟩
def FAULT_SUMMARY_top_source : Fld := ⟨.FAULT_SUMMARY, 63, 56⟩
def FAULT_SUMMARY_top_level : Fld := ⟨.FAULT_SUMMARY, 55, 53⟩
def FAULT_SUMMARY_pending : Fld := ⟨.FAULT_SUMMARY, 47, 40⟩
def FAULT_SUMMARY_severe : Fld := ⟨.FAULT_SUMMARY, 39, 32⟩
def FAULT_SUMMARY_clear_refused : Fld := ⟨.FAULT_SUMMARY, 31, 16⟩
def FAULT_SUMMARY_fatal : Fld := ⟨.FAULT_SUMMARY, 0, 0⟩
def FAULT_CTRL_pulse : Fld := ⟨.FAULT_CTRL, 1, 1⟩
def FAULT_CTRL_fault_n_low : Fld := ⟨.FAULT_CTRL, 0, 0⟩
def FAULT_CMD_source : Fld := ⟨.FAULT_CMD, 15, 8⟩
def FAULT_CMD_op : Fld := ⟨.FAULT_CMD, 3, 0⟩
def FAULT_CMD_STATUS_reason : Fld := ⟨.FAULT_CMD_STATUS, 15, 8⟩
def FAULT_CMD_STATUS_result : Fld := ⟨.FAULT_CMD_STATUS, 3, 0⟩
def FAULT_INJECT_go : Fld := ⟨.FAULT_INJECT, 63, 63⟩
def FAULT_INJECT_source : Fld := ⟨.FAULT_INJECT, 55, 48⟩
def FAULT_INJECT_level : Fld := ⟨.FAULT_INJECT, 47, 45⟩
def FAULT_INJECT_count : Fld := ⟨.FAULT_INJECT, 44, 29⟩
def FAULT_INJECT_detail : Fld := ⟨.FAULT_INJECT, 12, 0⟩
def AMBER_STATE_lost : Fld := ⟨.AMBER_STATE, 63, 48⟩
def AMBER_STATE_count : Fld := ⟨.AMBER_STATE, 47, 39⟩
def AMBER_STATE_boot : Fld := ⟨.AMBER_STATE, 38, 33⟩
def AMBER_IDX_clear : Fld := ⟨.AMBER_IDX, 63, 63⟩
def AMBER_IDX_index : Fld := ⟨.AMBER_IDX, 7, 0⟩
def AMBER_DATA_entry : Fld := ⟨.AMBER_DATA, 63, 0⟩
def FAULT_SRC_CFG_n : Fld := ⟨.FAULT_SRC_CFG, 63, 48⟩
def FAULT_SRC_CFG_w_ms : Fld := ⟨.FAULT_SRC_CFG, 47, 21⟩
def FAULT_SRC_CFG_log_min : Fld := ⟨.FAULT_SRC_CFG, 20, 18⟩
def FAULT_SRC_CFG_count_enable : Fld := ⟨.FAULT_SRC_CFG, 17, 17⟩
def FAULT_SRC_CFG_scope : Fld := ⟨.FAULT_SRC_CFG, 10, 8⟩
def FAULT_SRC_CFG_unit : Fld := ⟨.FAULT_SRC_CFG, 4, 0⟩
def FAULT_SRC_STATUS_events : Fld := ⟨.FAULT_SRC_STATUS, 63, 48⟩
def FAULT_SRC_STATUS_window_count : Fld := ⟨.FAULT_SRC_STATUS, 47, 32⟩
def FAULT_SRC_STATUS_detail : Fld := ⟨.FAULT_SRC_STATUS, 28, 16⟩
def FAULT_SRC_STATUS_cause_active : Fld := ⟨.FAULT_SRC_STATUS, 8, 8⟩
def FAULT_SRC_STATUS_pending : Fld := ⟨.FAULT_SRC_STATUS, 7, 7⟩
def FAULT_SRC_STATUS_injected : Fld := ⟨.FAULT_SRC_STATUS, 6, 6⟩
def FAULT_SRC_STATUS_level : Fld := ⟨.FAULT_SRC_STATUS, 5, 3⟩
def REDUN_CTRL_watchdog_ms : Fld := ⟨.REDUN_CTRL, 31, 16⟩
def REDUN_CTRL_kick : Fld := ⟨.REDUN_CTRL, 2, 2⟩
def REDUN_CTRL_ready : Fld := ⟨.REDUN_CTRL, 0, 0⟩
def REDUN_CMD_op : Fld := ⟨.REDUN_CMD, 3, 0⟩
def REDUN_STATE_lease_left_us : Fld := ⟨.REDUN_STATE, 63, 32⟩
def REDUN_STATE_cmd_result : Fld := ⟨.REDUN_STATE, 27, 24⟩
def REDUN_STATE_partner_ready : Fld := ⟨.REDUN_STATE, 15, 15⟩
def REDUN_STATE_partner_silent : Fld := ⟨.REDUN_STATE, 14, 14⟩
def REDUN_STATE_mgmt_path_ok : Fld := ⟨.REDUN_STATE, 13, 13⟩
def REDUN_STATE_sahvy_path_ok : Fld := ⟨.REDUN_STATE, 12, 12⟩
def REDUN_STATE_timer_armed : Fld := ⟨.REDUN_STATE, 11, 11⟩
def REDUN_STATE_lease_state : Fld := ⟨.REDUN_STATE, 7, 4⟩
def REDUN_STATE_role : Fld := ⟨.REDUN_STATE, 1, 0⟩
def REDUN_COUNT_takeovers : Fld := ⟨.REDUN_COUNT, 63, 48⟩
def REDUN_COUNT_expiries : Fld := ⟨.REDUN_COUNT, 47, 32⟩
def REDUN_COUNT_handovers : Fld := ⟨.REDUN_COUNT, 31, 16⟩
def REDUN_COUNT_rejected : Fld := ⟨.REDUN_COUNT, 15, 0⟩
def PWR_CAP_level : Fld := ⟨.PWR_CAP, 63, 60⟩
def PWR_CAP_max_w : Fld := ⟨.PWR_CAP, 59, 48⟩
def PWR_CAP_floor_w : Fld := ⟨.PWR_CAP, 47, 36⟩
def PWR_CAP_hot_spots : Fld := ⟨.PWR_CAP, 35, 28⟩
def PWR_CAP_states : Fld := ⟨.PWR_CAP, 27, 24⟩
def PWR_CTRL_mgmt_cap_w : Fld := ⟨.PWR_CTRL, 47, 36⟩
def PWR_CTRL_soft_limit_c : Fld := ⟨.PWR_CTRL, 35, 28⟩
def PWR_CTRL_margin_us : Fld := ⟨.PWR_CTRL, 27, 16⟩
def PWR_CTRL_s4_enable : Fld := ⟨.PWR_CTRL, 3, 3⟩
def PWR_CAP_LVL_MAP_level (i : Nat) : Fld := ⟨.PWR_CAP_LVL_MAP, 8 * i + 7, 8 * i⟩
def PWR_LIMIT_allowed_w : Fld := ⟨.PWR_LIMIT, 63, 52⟩
def PWR_LIMIT_ramp_w : Fld := ⟨.PWR_LIMIT, 51, 40⟩
def PWR_LIMIT_limiter : Fld := ⟨.PWR_LIMIT, 39, 36⟩
def PWR_LIMIT_cap_lvl : Fld := ⟨.PWR_LIMIT, 35, 33⟩
def PWR_LIMIT_settled : Fld := ⟨.PWR_LIMIT, 32, 32⟩
def PWR_LIMIT_last_off : Fld := ⟨.PWR_LIMIT, 31, 28⟩
def PWR_LIMIT_flow_w : Fld := ⟨.PWR_LIMIT, 27, 16⟩
def PWR_LIMIT_inlet_w : Fld := ⟨.PWR_LIMIT, 15, 4⟩
def PWR_INPUT_volts : Fld := ⟨.PWR_INPUT, 63, 48⟩
def PWR_INPUT_amps : Fld := ⟨.PWR_INPUT, 47, 32⟩
def PWR_INPUT_power_w : Fld := ⟨.PWR_INPUT, 31, 20⟩
def PWR_INPUT_power_avg_w : Fld := ⟨.PWR_INPUT, 19, 8⟩
def PWR_SUPPLY_sags : Fld := ⟨.PWR_SUPPLY, 63, 48⟩
def PWR_SUPPLY_min_v : Fld := ⟨.PWR_SUPPLY, 47, 32⟩
def PWR_SUPPLY_longest_us : Fld := ⟨.PWR_SUPPLY, 31, 16⟩
def PWR_SUPPLY_surges : Fld := ⟨.PWR_SUPPLY, 15, 8⟩
def PWR_SUPPLY_sag_threshold_v : Fld := ⟨.PWR_SUPPLY, 7, 0⟩
def PWR_COOLANT_inlet : Fld := ⟨.PWR_COOLANT, 63, 52⟩
def PWR_COOLANT_outlet : Fld := ⟨.PWR_COOLANT, 51, 40⟩
def PWR_COOLANT_flow : Fld := ⟨.PWR_COOLANT, 39, 28⟩
def PWR_COOLANT_flow_stale : Fld := ⟨.PWR_COOLANT, 27, 27⟩
def PWR_COOLANT_inlet_high : Fld := ⟨.PWR_COOLANT, 26, 26⟩
def PWR_COOLANT_inlet_low : Fld := ⟨.PWR_COOLANT, 25, 25⟩
def PWR_COOLANT_sensor_failed : Fld := ⟨.PWR_COOLANT, 24, 24⟩
def PWR_COOLANT_flow_age_ms : Fld := ⟨.PWR_COOLANT, 23, 16⟩
def PWR_BOOKS_pool_w : Fld := ⟨.PWR_BOOKS, 63, 52⟩
def PWR_BOOKS_issued_w : Fld := ⟨.PWR_BOOKS, 51, 40⟩
def PWR_BOOKS_recalling : Fld := ⟨.PWR_BOOKS, 39, 28⟩
def PWR_BOOKS_checks : Fld := ⟨.PWR_BOOKS, 27, 12⟩
def PWR_BOOKS_mismatch : Fld := ⟨.PWR_BOOKS, 0, 0⟩
def PWR_EVENT_off : Fld := ⟨.PWR_EVENT, 7, 7⟩
def PWR_EVENT_audit_mismatch : Fld := ⟨.PWR_EVENT, 6, 6⟩
def PWR_EVENT_die_floor : Fld := ⟨.PWR_EVENT, 5, 5⟩
def PWR_EVENT_cap_miss : Fld := ⟨.PWR_EVENT, 4, 4⟩
def PWR_EVENT_flow_stop : Fld := ⟨.PWR_EVENT, 3, 3⟩
def PWR_EVENT_surge : Fld := ⟨.PWR_EVENT, 2, 2⟩
def PWR_EVENT_sag : Fld := ⟨.PWR_EVENT, 1, 1⟩
def PWR_EVENT_limiter_change : Fld := ⟨.PWR_EVENT, 0, 0⟩
def PWR_THERMAL_hottest : Fld := ⟨.PWR_THERMAL, 63, 52⟩
def PWR_THERMAL_hottest_spot : Fld := ⟨.PWR_THERMAL, 51, 47⟩
def PWR_THERMAL_die_floor : Fld := ⟨.PWR_THERMAL, 46, 46⟩
def PWR_THERMAL_failed_spots : Fld := ⟨.PWR_THERMAL, 45, 40⟩
def PWR_THERMAL_clock_limit : Fld := ⟨.PWR_THERMAL, 39, 32⟩
def PWR_THERMAL_lost_mask : Fld := ⟨.PWR_THERMAL, 31, 0⟩
def PWR_PART_grant_w : Fld := ⟨.PWR_PART, 63, 52⟩
def PWR_PART_issued_w : Fld := ⟨.PWR_PART, 51, 40⟩
def PWR_PART_power_w : Fld := ⟨.PWR_PART, 39, 28⟩
def PWR_PART_prefill_gate : Fld := ⟨.PWR_PART, 27, 12⟩
def PWR_PART_next_source : Fld := ⟨.PWR_PART, 10, 8⟩
def PWR_PART_max_idle_state : Fld := ⟨.PWR_PART, 6, 4⟩
def PWR_PART_state : Fld := ⟨.PWR_PART, 2, 0⟩
def PWR_HINT_valid : Fld := ⟨.PWR_HINT, 63, 63⟩
def PWR_HINT_time : Fld := ⟨.PWR_HINT, 62, 0⟩
def PWR_NEXT_valid : Fld := ⟨.PWR_NEXT, 63, 63⟩
def PWR_NEXT_time : Fld := ⟨.PWR_NEXT, 62, 0⟩
def CROSS_CAP_level : Fld := ⟨.CROSS_CAP, 63, 60⟩
def CROSS_CAP_islands : Fld := ⟨.CROSS_CAP, 59, 52⟩
def CROSS_CAP_cluster_islands : Fld := ⟨.CROSS_CAP, 51, 44⟩
def CROSS_CAP_timeout_us : Fld := ⟨.CROSS_CAP, 43, 36⟩
def CROSS_STATUS_timeouts : Fld := ⟨.CROSS_STATUS, 63, 48⟩
def CROSS_STATUS_overruns : Fld := ⟨.CROSS_STATUS, 47, 32⟩
def CROSS_STATUS_far_island : Fld := ⟨.CROSS_STATUS, 31, 24⟩
def CROSS_STATUS_near_island : Fld := ⟨.CROSS_STATUS, 23, 16⟩
def CROSS_STATUS_timeout : Fld := ⟨.CROSS_STATUS, 8, 8⟩
def ISLAND_STATE_clock_step : Fld := ⟨.ISLAND_STATE, 15, 9⟩
def ISLAND_STATE_changing : Fld := ⟨.ISLAND_STATE, 8, 8⟩
def ISLAND_STATE_sync_depth : Fld := ⟨.ISLAND_STATE, 7, 6⟩
def ISLAND_STATE_overrun : Fld := ⟨.ISLAND_STATE, 5, 5⟩
def ISLAND_STATE_timeout : Fld := ⟨.ISLAND_STATE, 4, 4⟩
def ISLAND_STATE_state : Fld := ⟨.ISLAND_STATE, 3, 0⟩
def BBS_CAP_level : Fld := ⟨.BBS_CAP, 63, 60⟩
def BBS_CAP_bytes : Fld := ⟨.BBS_CAP, 59, 47⟩
def BBS_IDX_word : Fld := ⟨.BBS_IDX, 8, 0⟩
def BBS_DATA_data : Fld := ⟨.BBS_DATA, 63, 0⟩
def BBS_BATTERY_cell_mv : Fld := ⟨.BBS_BATTERY, 63, 48⟩
def BBS_BATTERY_lowest_mv : Fld := ⟨.BBS_BATTERY, 47, 32⟩
def BBS_BATTERY_hours : Fld := ⟨.BBS_BATTERY, 31, 8⟩
def BBS_BATTERY_lost : Fld := ⟨.BBS_BATTERY, 1, 1⟩
def BBS_BATTERY_low : Fld := ⟨.BBS_BATTERY, 0, 0⟩
def SC_STATE_partition : Fld := ⟨.SC_STATE, 39, 36⟩
def SC_STATE_access_faults : Fld := ⟨.SC_STATE, 31, 16⟩
def SC_STATE_state : Fld := ⟨.SC_STATE, 3, 0⟩
def SC_IRQ_valid : Fld := ⟨.SC_IRQ, 63, 63⟩
def SC_IRQ_overflow : Fld := ⟨.SC_IRQ, 62, 62⟩
def SC_IRQ_ring : Fld := ⟨.SC_IRQ, 11, 0⟩
def SC_CONSOLE_dropped : Fld := ⟨.SC_CONSOLE, 63, 48⟩
def SC_CONSOLE_rx_valid : Fld := ⟨.SC_CONSOLE, 17, 17⟩
def SC_CONSOLE_rx_byte : Fld := ⟨.SC_CONSOLE, 15, 8⟩
def SC_CONSOLE_tx_byte : Fld := ⟨.SC_CONSOLE, 7, 0⟩
def PERF_CYCLE_cycles : Fld := ⟨.PERF_CYCLE, 63, 0⟩
def PERF_CNT_count : Fld := ⟨.PERF_CNT, 47, 0⟩
def PERF_CFG_range_sel : Fld := ⟨.PERF_CFG, 33, 32⟩
def PERF_CFG_class : Fld := ⟨.PERF_CFG, 31, 24⟩
def PERF_CFG_master : Fld := ⟨.PERF_CFG, 22, 16⟩
def PERF_CFG_privilege : Fld := ⟨.PERF_CFG, 10, 8⟩
def PERF_CFG_event : Fld := ⟨.PERF_CFG, 7, 0⟩
def PERF_CTRL_irq_core : Fld := ⟨.PERF_CTRL, 19, 16⟩
def PERF_CTRL_ovf (j : Nat) : Fld := ⟨.PERF_CTRL, 8 + j, 8 + j⟩
def PERF_CTRL_irq_en : Fld := ⟨.PERF_CTRL, 1, 1⟩
def PERF_CTRL_freeze : Fld := ⟨.PERF_CTRL, 0, 0⟩
def PERF_SAMPLE_time : Fld := ⟨.PERF_SAMPLE, 63, 0⟩
def PERF_SAMPLE_INFO_step : Fld := ⟨.PERF_SAMPLE_INFO, 47, 16⟩
def PERF_SAMPLE_INFO_counter : Fld := ⟨.PERF_SAMPLE_INFO, 3, 0⟩
def PERF_BASE_base : Fld := ⟨.PERF_BASE, 63, 0⟩
def PERF_LIMIT_limit : Fld := ⟨.PERF_LIMIT, 63, 0⟩
def OPC_IDX_snap : Fld := ⟨.OPC_IDX, 63, 63⟩
def OPC_IDX_shadow : Fld := ⟨.OPC_IDX, 10, 10⟩
def OPC_IDX_index : Fld := ⟨.OPC_IDX, 9, 0⟩
def OPC_DATA_count : Fld := ⟨.OPC_DATA, 63, 0⟩
def BW_CTRL_seq : Fld := ⟨.BW_CTRL, 63, 32⟩
def BW_CTRL_window_us : Fld := ⟨.BW_CTRL, 19, 0⟩
def BW_TX_bytes : Fld := ⟨.BW_TX, 63, 0⟩
def BW_RX_bytes : Fld := ⟨.BW_RX, 63, 0⟩
def BW_PEAK_clear : Fld := ⟨.BW_PEAK, 63, 63⟩
def BW_PEAK_peak : Fld := ⟨.BW_PEAK, 62, 0⟩
end F

end Sys2Proof.Machine
end

