-- ==== Sys2Proof/Machine/State.lean ====
section
/-! DEFINITION. The state of the module as plain data: the register file, memory and the battery-backed store, and, chapter
by chapter, what the spec gives the machine beside its registers; the reasons a step can stop; the state after reset. -/

namespace Sys2Proof.Machine

/-! ## Structure images (02) -/

/-- A partition record (Table 2.4). -/
structure PartRec where
  present    : Bool := false
  clockCap   : Nat := 0
  power      : Nat := 0
  udpFirst   : Nat := 0
  udpCount   : Nat := 0
  reqFirst   : Nat := 0
  reqCount   : Nat := 0
  pageFirst  : Nat := 0
  pageCount  : Nat := 0
  ringFirst  : Nat := 0
  ringCount  : Nat := 0
  deriving DecidableEq, Repr

/-- A redundancy record (R38). -/
structure RedunRec where
  role    : Nat := 0
  port    : Nat := 0
  pairId  : Nat := 0
  partner : Nat := 0
  deriving DecidableEq, Repr

/-- What a Nypra image gives the module (R36): partition records, owner maps (an owner or 0xFF), the redundancy record. -/
structure Image where
  parts    : List PartRec
  clusters : List Nat
  engines  : List Nat
  ddr4     : List Nat
  cores    : List Nat
  vcs      : List Nat
  po       : List Nat
  cv       : List Nat
  video    : List Nat
  redun    : RedunRec := {}
  version  : Nat := 0
  imageId  : Nat := 0
  deriving DecidableEq, Repr

/-- The shape of structure epoch 0 (R32): P0 owns every resource and holds the settings stated there. -/
def Image.epoch0 : Image where
  parts := { present := true, clockCap := 1600, power := 2000, ringCount := 4096 } :: List.replicate 15 {}
  clusters := List.replicate 160 0
  engines := List.replicate 128 0
  ddr4 := List.replicate 256 0
  cores := List.replicate 16 0
  vcs := List.replicate 72 0
  po := List.replicate 64 0
  cv := List.replicate 64 0
  video := List.replicate 80 0

/-- An image in hub SRAM: its bytes as copied (R46), the length stated for it and, once decoded, its content. -/
structure StagedImage where
  bytes  : List Byte
  len    : Nat := 0
  image  : Image := Image.epoch0
  readOk : Bool := true
  deriving DecidableEq, Repr

/-- The removal under way (Table 2.8): its partition, the loader state to return to, and its time limit. -/
structure Removal where
  part     : Nat
  back     : Nat
  deadline : Nat
  scrubbing : Bool := false
  deriving DecidableEq, Repr

/-! ## Rings and DMA (12) -/

/-- What a ring descriptor (Table 12.2) gives beside the state registers. -/
structure RingDesc where
  base     : Nat := 0
  size     : Nat := 0
  kind     : Nat := 0
  weight   : Nat := 0
  pair     : Nat := 0
  bufBase  : Nat := 0
  bufLog2  : Nat := 0
  irqCore  : Nat := 0
  irqCount : Nat := 0
  irqTime  : Nat := 0
  deriving DecidableEq, Repr

/-- How far a fetched SUBMIT entry has come. -/
inductive FlightStage where
  /-- fetched, its form not yet handled -/
  | fetched
  /-- its transfer runs, or waits for link acknowledgements -/
  | moving
  /-- finished; its record (if any) waits for its turn -/
  | finished
  deriving DecidableEq, Repr

/-- A SUBMIT entry in flight (R316, R322): index, bytes, whether its fetch failed, and its outcome. -/
structure Flight where
  index   : Nat
  bytes   : List Byte
  fetchOk : Bool := true
  stage   : FlightStage := .fetched
  reserved : Bool := true
  status  : Nat := 0
  moved   : Nat := 0
  faultAddr : Nat := 0
  doneTime : Nat := 0
  deriving DecidableEq, Repr

/-- A record to be written on a ring: the head's fields (Table 12.4) and the 56 bytes past it. -/
structure WaitRec where
  status   : Nat
  kind     : Nat
  srcRing  : Nat
  srcIndex : Nat
  body     : List Byte
  interrupt : Bool := true
  deriving DecidableEq, Repr

/-- A ring beside its registers: descriptor, entries in flight, a CREATE under way, the PI a DRAIN runs to, whether a
PAUSE waits for the entries in flight, the window and op of the command that is under way, the cause of an error pause that
waits for earlier entries, the entries not yet signalled, when the first of them was written, and the time of the next offer
of a blocked record (0 none). -/
structure Ring where
  desc    : RingDesc := {}
  flights : List Flight := []
  creating : Bool := false
  drainTo : Option Nat := none
  stopping : Bool := false
  window  : Nat := 0
  op      : Nat := 0
  errCause : Nat := 0
  unsig   : Nat := 0
  firstAt : Nat := 0
  blocked : Nat := 0
  deriving DecidableEq, Repr

/-! ## Plant (15) -/

/-- A plant output channel beside its registers: whether it holds WITHDRAWN past its fault, the payload being copied,
the last payload transmitted with its alive value, the newest accepted and not yet transmitted, and the next repeat. -/
structure PoChan where
  withdrawn : Bool := false
  copying   : Option Nat := none
  sent      : Option (List Byte × Nat) := none
  stored    : Option (List Byte × Nat) := none
  due       : Nat := 0
  deriving DecidableEq, Repr

/-- A check-value channel beside its registers: whether the alive reference is set, the running scan. -/
structure CvChan where
  refSet : Bool := false
  scan   : Option (Nat × Nat) := none
  deriving DecidableEq, Repr

/-- The PTP clock beside PTP_STATE: successive offsets below 1 us, the Announce interval, when its timeout falls due,
whether it was LOCKED since reset, the offset still to be slewed. -/
structure Ptp where
  good     : Nat := 0
  interval : Nat := 0
  due      : Nat := 0
  locked   : Bool := false
  slew     : Int := 0
  deriving DecidableEq, Repr

/-! ## Faults and redundancy (19) -/

/-- An injection under way (R478). -/
structure Injection where
  source : Nat
  level  : Nat
  detail : Nat
  left   : Nat
  due    : Nat
  deriving DecidableEq, Repr

/-- The fault machinery beside its registers: the end of each open window (0 none), the end of the FAULT_N pulse and
the pin, the detail codes whose condition persists at each source (R470), the injection under way. -/
structure Faults where
  windows  : Tab Nat := []
  causes   : Tab (List Nat) := []
  pulseEnd : Nat := 0
  pin      : Bool := true
  inject   : List Injection := []
  deriving DecidableEq, Repr

/-- The lease protocol beside REDUN_STATE (R480 to R489). Times are in ns on the always-on reference. -/
structure Lease where
  leaseEnd   : Nat := 0
  maxSeq     : Nat := 0
  lastSeq    : Nat := 0
  sent       : List (Nat × Nat) := []
  renewDue   : Nat := 0
  timerStart : Nat := 0
  blockedNoted : Bool := false
  releaseEnd : Nat := 0
  releaseDue : Nat := 0
  lastMgmt   : Nat := 0
  lastSahvy  : Nat := 0
  lastSignal : Nat := 0
  everMgmt   : Bool := false
  everSahvy  : Bool := false
  kickAt     : Nat := 0
  notedMgmt  : Bool := false
  notedSahvy : Bool := false
  deriving DecidableEq, Repr

/-! ## Work images (07) -/

/-- The resource envelope of a work image (Table 7.3). -/
structure Envelope where
  clustersMin : Nat := 0
  enginesMin  : Nat := 0
  coresMin    : Nat := 0
  clockMin    : Nat := 0
  ringsMin    : Nat := 0
  slots       : Nat := 0
  powerMin    : Nat := 0
  pagesMin    : Nat := 0
  stackBytes  : Nat := 0
  ddr4Bytes   : Nat := 0
  tileBytes   : Nat := 0
  quadBytes   : Nat := 0
  linkVcs     : Nat := 0
  plantOut    : Nat := 0
  checkValues : Nat := 0
  videoDec    : Nat := 0
  videoEnc    : Nat := 0
  deriving DecidableEq, Repr

/-- The SERVING section of a work image (R182). -/
structure Serving where
  kvFormat   : Nat := 0
  kvInput    : Nat := 1
  tppLog2    : Nat := 4
  specDepth  : Nat := 0
  layers     : Nat := 1
  kvHeads    : Nat := 1
  headDim    : Nat := 16
  chunk      : Nat := 16
  maxContext : Nat := 1
  deriving DecidableEq, Repr

/-- A kernel record (R180). -/
structure Kernel where
  vregs    : Nat := 0
  groups   : Nat := 1
  budget   : Nat := 0
  tileBase : Nat := 0
  tileLen  : Nat := 0
  quadBase : Nat := 0
  quadLen  : Nat := 0
  streamAt : Nat := 0
  streamLen : Nat := 0
  code     : List Nat := []
  deriving DecidableEq, Repr

/-- A service-core program (R181): core index among the partition's cores, entry point, segments (address, bytes). -/
structure ScProg where
  core  : Nat
  entry : Nat
  segs  : List (Nat × List Byte) := []
  deriving DecidableEq, Repr

/-- A loaded work image: where it lies in DDR4, its sections and what they declare. -/
structure WImage where
  addr    : Nat := 0
  len     : Nat := 0
  imageId : Nat := 0
  version : Nat := 0
  weightsAt  : Nat := 0
  weightsLen : Nat := 0
  env     : Envelope := {}
  serving : Option Serving := none
  kernels : List Kernel := []
  progs   : List ScProg := []
  digest  : List Byte := []
  /-- blocks of 64 KiB of WEIGHTS in the stacks: the block's address and its offset in WEIGHTS -/
  resident : List (Nat × Nat) := []
  tMax    : Nat := 1
  deriving DecidableEq, Repr

/-- Phases of a loader command of a partition (Tables 7.7 and 7.8). -/
inductive WPhase where
  | header | sections | plan | weights | checking | unloading
  deriving DecidableEq, Repr

/-- A loader command under way: its op, phase, whether an unload has taken its effects, source, and the new image. -/
structure WLoad where
  op    : Nat
  phase : WPhase
  stopped : Bool := false
  src   : Nat := 0
  len   : Nat := 0
  image : WImage := {}
  deriving DecidableEq, Repr

/-- Loader side of a partition: the loaded image and the command under way. -/
structure WPart where
  image : Option WImage := none
  load  : Option WLoad := none
  deriving DecidableEq, Repr

/-- Whether a discarded step or invocation runs again (R104, Table 8.2, R211, R342), and the units in which a second
uncorrectable word would then stop the partition. -/
structure Rerun where
  active : Bool := false
  units : List Nat := []
  deriving DecidableEq, Repr

/-! ## Page store (10) -/

/-- A page descriptor as the visible state holds it (Table 10.2): its state and cause, `deferred`, the slot and lpn of an
allocated row, and, in a row head, the score and its epoch. Partition, layer, head and next follow from the page's place and the
slot's list. -/
structure Page where
  st : Nat := 0
  cause : Nat := 0
  slot : Nat := 0
  lpn : Nat := 0
  score : Nat := 0
  sEpoch : Nat := 0
  deferred : Bool := false
  deriving DecidableEq, Repr

/-- An edit of the journal (Table 10.5). `row` is a row's head page. -/
inductive Edit where
  | len (slot len : Nat)
  | alloc (slot row lpn : Nat)
  | drop (row : Nat) (named : Option Nat)
  | freeList (slot : Nat)
  | evict (slot row lpn : Nat)
  | quarantine (page : Nat)
  | release (page : Nat)
  deriving DecidableEq, Repr

/-- A journal entry: its edit, whether it belongs to the step in flight, whether it waits under R259. -/
structure JEdit where
  edit : Edit
  own : Bool := false
  deferred : Bool := false
  deriving DecidableEq, Repr

/-- A row in zero-and-check (R272): its partition, head page, and the page that a QUARANTINE named. -/
structure ZRow where
  part : Nat
  head : Nat
  named : Option Nat := none
  zeroed : Bool := false
  deriving DecidableEq, Repr

/-- The page store beside its registers: descriptors that differ from what APPLY left, rows in zero-and-check, the partition of
the PAGE_CMD whose advance is awaited. -/
structure PageStore where
  pages : Tab (Option Page) := []
  zero : List ZRow := []
  cmd : Option Nat := none
  deriving DecidableEq, Repr

/-! ## Serving (11) -/

/-- A request slot: its entry (Table 11.1), the drafts it holds, the highest length it has held, the rows of its list in lpn order
(head pages), whether its final record is written and its list emptied, and whether the cancel and the pause wait. -/
structure Slot where
  state : Nat := 0
  prio : Nat := 0
  flags : Nat := 0
  promptLen : Nat := 0
  maxTokens : Nat := 0
  eos : Nat := 0
  tokAddr : Nat := 0
  tokCap : Nat := 0
  ring : Nat := 0
  deadline : Nat := 0
  tag : Nat := 0
  params : List Byte := []
  known : Nat := 0
  len : Nat := 0
  tokensOut : Nat := 0
  recompute : Nat := 0
  drafted : Nat := 0
  accepted : Nat := 0
  steps : Nat := 0
  seqNo : Nat := 0
  submitTime : Nat := 0
  firstToken : Nat := 0
  cancel : Bool := false
  pause : Bool := false
  drafts : List Nat := []
  most : Nat := 0
  rows : List Nat := []
  recorded : Bool := false
  emptied : Bool := false
  listed : Bool := false
  deriving DecidableEq, Repr

/-- A segment of a step (Table 9.1) with the drafts that it verifies, and whether its slot was QUEUED. -/
structure Seg where
  slot : Nat
  kind : Nat
  first : Nat
  count : Nat
  pos : Nat
  drafts : List Nat := []
  queued : Bool := false
  deriving DecidableEq, Repr

/-- An attention-mass record (R219): page, layer, kv_head, pm and ps. -/
structure Mass where
  page : Nat
  layer : Nat
  head : Nat
  pm : W32
  ps : W32
  deriving DecidableEq, Repr

/-- A normaliser record (R242): slot, layer, kv_head, M and L. -/
structure Norm where
  slot : Nat
  layer : Nat
  head : Nat
  m : W32
  l : W32
  deriving DecidableEq, Repr

/-- The step in flight: its segments, token input, dropped-slot list (R244), the records of its attention, its start, and whether
it has begun (it waits for a cluster in self-test, R108). -/
structure Step where
  segs : List Seg
  tokens : List Nat := []
  dropped : List Nat := []
  masses : List Mass := []
  norms : List Norm := []
  start : Nat := 0
  begun : Bool := true
  deriving DecidableEq, Repr

/-- A serving record that waits for its ring (R304): the slot, the ring, the record, whether it is the slot's final one. -/
structure SlotRec where
  slot : Nat
  ring : Nat
  entry : WaitRec
  final : Bool
  deriving DecidableEq, Repr

/-- Serving control of a partition: row cursor, journal, step in flight, next submission number, waiting records, the accepted
PAGE_POLICY, advances since LOAD, whether the next step repeats a discarded one, whether a restart waits for a reload, the page
numbers dropped in this epoch (R219), the durations of steps by rounded segment count, the slots whose tails the last resort
evicts. -/
structure Serve where
  cursor : Nat := 0
  journal : List JEdit := []
  step : Option Step := none
  nextSeq : Nat := 0
  waits : List SlotRec := []
  policy : Nat := 0x0001004030404000
  advances : Nat := 0
  again : Bool := false
  droppedPages : List Nat := []
  durations : Tab Nat := []
  deriving DecidableEq, Repr

/-! ## Lane kernels and stream units (04, 05) -/

/-- A thread group: program counter, vector registers (key 64 × register + lane), predicates as masks of 64 lanes, scalar
registers, and what it waits for: 0 nothing, 1 it has ended, 2 + b barrier b, 8 + t token t. -/
structure Group where
  pc : Nat := 0
  v : Tab W32 := []
  p : Tab Nat := []
  s : Tab W64 := []
  wait : Nat := 0
  deriving DecidableEq, Repr

/-- A launch as one tile runs it: launch number, partition, the kernel's record index and code, argument block, windows, groups, cycle budget, the
tiles of the launch. The launch number 0 stands for no launch. -/
structure TileRun where
  id : Nat := 0
  part : Nat := 0
  kernel : Nat := 0
  code : List Nat := []
  args : Nat := 0
  tileBase : Nat := 0
  tileLen : Nat := 0
  quadBase : Nat := 0
  quadLen : Nat := 0
  groups : List Group := []
  budget : Nat := 0
  tiles : List Nat := []
  deriving DecidableEq, Repr

/-- A stream command of a kernel in one of its tile's queues (R98, R126). -/
structure StreamCmd where
  out : Bool
  remote : Nat
  off : Nat
  len : Nat
  mask : Nat
  token : Nat
  part : Nat
  deriving DecidableEq, Repr

/-- The tensor fabric beside its registers: launches by tile, stream queues by 4 × tile + queue, the number of launches, the
clusters that failed in service, those in self-test and those whose test is being aborted, and the partitions whose reload of
resident words runs. -/
structure Fabric where
  runs : Tab TileRun := []
  queues : Tab (List StreamCmd) := []
  launches : Nat := 0
  failed : List Nat := []
  testing : List Nat := []
  aborting : List Nat := []
  reloads : List Nat := []
  deriving DecidableEq, Repr

/-! ## Vetiver engines (08) -/

/-- A row's running state (m, l, o) of R212. -/
structure RowAcc where
  m : W32 := 0xFF800000#32
  l : W32 := 0#32
  o : List W32 := []
  deriving DecidableEq, Repr

/-- A query that a base die holds: header, limits and rows (codes in kv_input format), the carried tokens it has written (position and
page), the engines that have yet to walk it, and what the merge unit has merged. -/
structure Query where
  part : Nat
  stack : Nat
  slot : Nat
  layer : Nat
  head : Nat
  scale : W32
  reply : Nat
  queryId : Nat
  limits : List Nat := []
  rows : List (List Nat) := []
  carried : List (Nat × Nat) := []
  accepted : Bool := false
  left : List Nat := []
  acc : List RowAcc := []
  pages : Nat := 0
  tokens : Nat := 0
  dropped : Bool := false
  deriving DecidableEq, Repr

/-- The base dies beside their registers: queries held, oldest first; engines that FAILED (R211); blocks under reload by partition and
address (Table 8.2). -/
structure Stacks where
  queries : List Query := []
  failed : List Nat := []
  reloads : List (Nat × Nat) := []
  deriving DecidableEq, Repr

/-! ## Counters (23) -/

/-- The values of Pn's counters that coarsened reads show (R562): those of the latest multiple of 100 us. -/
structure PerfView where
  cycles : Nat := 0
  counts : List Nat := List.replicate 8 0
  ovf : Nat := 0
  time : Nat := 0
  step : Nat := 0
  counter : Nat := 0
  deriving DecidableEq, Repr

/-! ## Sahvy links (14) -/

/-- A cell: a data or LEASE cell, or a control cell with its bytes from 0x08 on (Table 14.3). -/
inductive LinkCell where
  | data (c : DataCell)
  | ctl (h : CellHead) (body : List Byte)
  deriving DecidableEq, Repr

/-- A cell that waits for its port: the cell, the ingress port whose buffer holds it, and for a local one the partition under whose
key it is to be sealed, and its transfer. -/
structure QCell where
  cell : LinkCell
  ingress : Option Nat := none
  sealFor : Option Nat := none
  transfer : Option Nat := none
  deriving DecidableEq, Repr

/-- A port beside its registers. Channels 0 to 3 are the VCs, 4 is CC. Transmitter: cells waiting by channel, the replay buffer, the next
hop_seq, cumulative counts sent and returned, whether the peer's grant has arrived, whose turn it is, the hop_seq last replayed from and
how often. Receiver: the next hop_seq, whether it awaits a replay, cumulative counts accepted, freed and reported, cells accepted since the
last CREDIT, the time of the first unreported free, whether its grant is still to be sent. Then the times of corrected symbols by
lane, VC_RESETs not yet answered, the time of the last change of state and of the next NEGOTIATE. -/
structure LinkPort where
  queues : Tab (List QCell) := []
  kept : List (Nat × QCell) := []
  txSeq : Nat := 0
  sent : Tab Nat := []
  returned : Tab Nat := []
  granted : Bool := false
  turn : Nat := 0
  replayAt : Nat := 0
  replayNo : Nat := 0
  rxSeq : Nat := 0
  waiting : Bool := false
  accepted : Tab Nat := []
  freed : Tab Nat := []
  told : Tab Nat := []
  unheard : Nat := 0
  firstFree : Nat := 0
  grantDue : Bool := false
  marks : Tab (List Nat) := []
  resets : List (Nat × Nat) := []
  since : Nat := 0
  negDue : Nat := 0
  deriving DecidableEq, Repr

/-- A transfer of a LINK_WRITE that has no answer yet: its id, its ring and entry, partition, first-hop port, cells that have not left and
cells that have, and the end of its ack timeout once all have left (0 before). -/
structure Transfer where
  id : Nat
  ring : Nat
  index : Nat
  part : Nat
  port : Nat
  unsent : Nat
  gone : Nat := 0
  due : Nat := 0
  deriving DecidableEq, Repr

/-- A transfer that a receiver has open. -/
structure Incoming where
  src : Nat
  srcPort : Nat
  transfer : Nat
  vc : Nat
  part : Nat
  index : Nat
  seq : Nat
  written : Nat
  first : Nat
  notify : Nat
  tag : Nat
  deriving DecidableEq, Repr

/-- The links: ports, routing entries (bits [15:0] of LINK_ROUTE_DATA), transfers sent and received, the next transfer id, sealing
sequence numbers by port, VC, key and epoch. -/
structure Links where
  ports : Tab LinkPort := []
  routes : Tab Nat := []
  transfers : List Transfer := []
  incoming : List Incoming := []
  nextId : Nat := 0
  seqs : Tab Nat := []
  deriving DecidableEq, Repr

/-! ## Video (16) -/

/-- An RTP packet in a reorder window (R401). -/
structure RtpPkt where
  seq : Nat
  stamp : Nat
  marker : Bool
  arrival : Nat
  payload : List Byte
  deriving DecidableEq, Repr

/-- An access unit of RTP input: arrival of its first packet, RTP timestamp, payloads, whether a packet of it was lost. -/
structure AccessUnit where
  arrival : Nat
  stamp : Nat
  bytes : List Byte
  lost : Bool
  deriving DecidableEq, Repr

/-- A session beside VID_STATE: its descriptor; RTP input (SSRC, next sequence number, packets held, the time of the first later packet,
whether a loss is yet to be charged to a unit, the unit that grows, units complete, arrival and timestamp of the last unit, the predicted
arrival of R411); feeds queued (their two words); output (frame_no, gap, unreliable, whether a FLUSH lets pictures out, the last
output picture); marks of the pool buffers (Table 16.3); encoding (next QP, bits of the last fps units, pictures encoded, next
sequence number). -/
structure VidSession where
  desc : List Byte := []
  ssrc : Option Nat := none
  nextSeq : Option Nat := none
  window : List RtpPkt := []
  lossAt : Nat := 0
  lossDue : Bool := false
  cur : Option AccessUnit := none
  units : List AccessUnit := []
  last : Option (Nat × Nat) := none
  predicted : Option Nat := none
  feeds : List (Nat × Nat) := []
  frameNo : Nat := 0
  gap : Bool := false
  unreliable : Bool := false
  letOut : Bool := false
  picture : Option Picture := none
  marks : List Nat := []
  qp : Nat := 0
  sizes : List Nat := []
  encoded : Nat := 0
  seqOut : Nat := 0
  deriving DecidableEq, Repr

/-! ## Power, cooling and islands (20, 21) -/

/-- A pair of sensors (Table 20.5), in units of 0.125 °C: which of the two count as failed, since when each has read in range and within
3 K of its partner, the condition (0 agreeing, 1 disagreeing, 2 one failed, 3 both failed), the effective reading. -/
structure SensorPair where
  failA : Bool := false
  failB : Bool := false
  nearA : Option Nat := none
  nearB : Option Nat := none
  cond : Nat := 0
  eff : Int := 0
  deriving DecidableEq, Repr

/-- The power planner and the supply beside their registers. `off`, `cause`: core power is removed, and for which cause of Table 20.6;
`rails`: the core rails have come up since; `eoff`: EOFF is asserted; `sag`: since when; `ramp`: ramp_w in nW and when it was
last raised; `held`: the always-on island is held in its power-on reset (Table 24.2); `lowering`: reference of the sequence of R504 under way; `lowered`: reference of the latest; `missArmed`, `missAt`: CAP_MISS
(R505); windows of the running 100 ms and their sum; the FLOW_SEQ last committed, the reports of the last 2 s (time and flow, newest
first), the time of the last one, since when every one is low, whether the last is a sudden stop; the coolant pairs and the hot
spots' (by 32 × die + spot); outlet readings of the last 60 s that no later one undercuts; die clock limits (units of 25 MHz) and
the time of their last raise; the settings to which clocks are changing; idle states and exits by island; islands failed by
CROSS_TIMEOUT; whether the module is in S4; the next cluster of each die to be tested. -/
structure Power where
  held : Bool := true
  off : Bool := false
  cause : Nat := 0
  rails : Bool := false
  eoff : Bool := false
  sag : Option Nat := none
  surge : Bool := false
  ramp : Nat := 0
  rampAt : Nat := 0
  lowering : Option Nat := none
  lowered : Nat := 0
  missArmed : Bool := false
  missAt : Option Nat := none
  windows : Nat := 0
  windowSum : Nat := 0
  flowSeq : Option Nat := none
  reports : List (Nat × Nat) := []
  flowAt : Nat := 0
  everFlow : Bool := false
  lowSince : Option Nat := none
  sudden : Bool := false
  inlet : SensorPair := {}
  outlet : SensorPair := {}
  spots : Tab SensorPair := []
  outlets : List (Nat × Int) := []
  dieLimit : Tab Nat := []
  dieRaised : Tab Nat := []
  target : Tab Nat := []
  idle : Tab Nat := []
  exits : List Nat := []
  closed : List Nat := []
  inS4 : Bool := false
  nextTest : Tab Nat := []
  deriving DecidableEq, Repr

/-! ## Boot and firmware (18) -/

/-- A write to a flash slot under way: target (0 management, 1 slot A, 2 slot B), where its bytes come from (0 FW_CMD, 1 FW_WRITE, 2 SDIO), its
bytes so far, its length. -/
structure FlashWrite where
  target : Nat
  origin : Nat
  bytes : List Byte := []
  len : Nat := 0
  deriving DecidableEq, Repr

/-- The flashes and the boot. The management slot and whether a write to it failed; slots A and B; the mirror of the four counters when
valid; the write under way; the failed check that halted the ROM (0 none); whether boot waits for EOFF in stage MGMT; the slot chosen at
step 7, whether it boots in TRIAL and in limited mode; the end of the running trial (0 none); whether the supply has been lost since the last
training. -/
structure Firmware where
  mgmt : List Byte := []
  mgmtBad : Bool := false
  slotA : List Byte := []
  slotB : List Byte := []
  mirror : Option (List Nat) := none
  write : Option FlashWrite := none
  halt : Nat := 0
  waiting : Bool := false
  chosen : Option Nat := none
  trial : Bool := false
  limited : Bool := false
  trialEnd : Nat := 0
  cold : Bool := true
  deriving DecidableEq, Repr

/-! ## Service cores, SDIO and management (22) -/

/-- SDIO functions 1 to 3 (Table 22.2) and the console FIFOs: FLOW, FLOW_SEQ, DOORBELL, MBX_STATE, request and reply areas; LENGTH, CTRL, STATE,
REASON and count of function 2; bytes towards the tray and towards the module, and bytes dropped towards the module. -/
structure Sdio where
  flow : Nat := 0
  flowSeq : Nat := 0
  doorbell : Nat := 0
  mbx : Nat := 0
  request : List Byte := []
  reply : List Byte := []
  length : Nat := 0
  ctrl : Nat := 0
  recvState : Nat := 0
  recvReason : Nat := 0
  received : Nat := 0
  up : List Byte := []
  down : List Byte := []
  dropped : Nat := 0
  deriving DecidableEq, Repr

/-- The management port: command sessions by number with the time of their last request plus 1 (0 closed), those whose client's certificate
chains to an OPERATOR_CA entry, whether the lease session is up and when it is next tried. -/
structure Mgmt where
  sessions : Tab Nat := []
  trusted : List Nat := []
  leaseUp : Bool := false
  leaseDue : Nat := 0
  deriving DecidableEq, Repr

/-- A service core as its start set it (R541): entry point, a0, a1, privilege mode (3 is M). -/
structure Core where
  pc : Nat := 0
  a0 : Nat := 0
  a1 : Nat := 0
  mode : Nat := 3
  deriving DecidableEq, Repr

/-! ## Debug (23) -/

/-- A tile or engine under debug: 0 RUNNING, 1 HALTING, 2 HALTED; whether a breakpoint halted it; steps granted and not yet taken; the group
that steps. -/
structure UnitDbg where
  state : Nat := 0
  hit : Bool := false
  steps : Nat := 0
  group : Nat := 0
  deriving DecidableEq, Repr

/-- The serial debug port: the TAP instruction and its bypass bit, UDBG_SEL, the address, UDBG_DATA, UDBG_STATUS.result, breakpoint words, units by 4096 × kind + unit, words of the RISC-V
debug module by address, the boundary scan register. -/
structure Debug where
  ir : Nat := 1
  byp : Bool := false
  sel : Nat := 0
  addr : Nat := 0
  data : Nat := 0
  result : Nat := 0
  bps : Tab Nat := []
  units : Tab UnitDbg := []
  dm : Tab Nat := []
  scan : List Bool := []
  deriving DecidableEq, Repr

/-! ## The machine -/

/-- What the module sends or answers: frames (without FCS), cells, lease messages on the management path, replies of the command service. -/
inductive OutMsg where
  | frame (port : Nat) (bytes : List Byte)
  | cell (port : Nat) (c : LinkCell)
  | lease (type : Nat) (msg : LeaseMsg)
  | reply (bytes : List Byte)
  deriving DecidableEq, Repr

/-- The structure side: the applied image, the staged one, the removal under way, whether the scrub of R32 is complete, the
partitions that an APPLY makes present and whose scrubs still run, whether step 5 of the APPLY has ended, limited mode. -/
structure Struct where
  image    : Image := Image.epoch0
  staged   : Option StagedImage := none
  removal  : Option Removal := none
  bootScrubbed : Bool := false
  scrubbing : List Nat := []
  scrubbed : Bool := false
  limited  : Bool := false
  deriving DecidableEq, Repr

/-- A link key table entry (R430); a tombstone keeps key_id and partition but no key (R432). -/
structure LinkKey where
  part   : Nat
  id     : Nat
  epoch  : Nat := 0
  isSeal : Bool := false
  isLease : Bool := false
  secret : List Byte := []
  tomb   : Bool := false
  deriving DecidableEq, Repr

/-- What the root of trust holds beside SEC_STATE: the public key table and its generation, the root slots' digests, the link key table, the
ends of active consent tokens, the digests that a report names, the generation of the key table. -/
structure Security where
  keys      : List PubKey := []
  roots     : List (List Byte) := []
  linkKeys  : List LinkKey := []
  notAfter  : Tab Nat := []
  mgmtDigest : List Byte := []
  runtimeDigest : List Byte := []
  nypraDigest : List Byte := []
  generation : Nat := 0
  deriving DecidableEq, Repr

/-- The module. -/
structure State where
  /-- the register file: fields by key, at their reset values when not listed -/
  regs    : Tab Nat := []
  /-- byte contents of tile stores, quadrant-store banks, pseudo-channels and DDR4, keyed by address (Table 12.7);
  an unlisted byte reads zero -/
  mem     : List Host.Cell := []
  /-- the battery-backed store (Table 22.5) -/
  bbs     : Tab Byte := []
  /-- the always-on reference in ns since power-up -/
  clk     : Nat := 0
  /-- module time in ns (R378) -/
  modTime : Nat := 0
  /-- the time of the last module reset -/
  resetAt : Nat := 0
  /-- counts the free values drawn -/
  fresh   : Nat := 0
  /-- what was sent, oldest first -/
  out     : List OutMsg := []
  /-- what the last reading command returned -/
  lastRead : Nat := 0
  struct  : Struct := {}
  wparts  : Tab WPart := []
  rings   : Tab Ring := []
  /-- ring numbers waiting in each service core's interrupt queue, oldest first (R544) -/
  irqs    : Tab (List Nat) := []
  /-- DDR4 units (256-byte unit index) that hold an uncorrectable word, and those of them on the record of R341 -/
  badUnits : List Nat := []
  badRecord : List Nat := []
  reruns  : Tab Rerun := []
  po      : Tab PoChan := []
  cv      : Tab CvChan := []
  ptp     : Ptp := {}
  faults  : Faults := {}
  lease   : Lease := {}
  /-- the device identity (R425) -/
  identity : Nat := 0
  /-- lanes of each Sahvy port on which a signal is detected -/
  linkSignal : Tab Nat := []
  sec     : Security := {}
  pages   : PageStore := {}
  serve   : Tab Serve := []
  slots   : Tab Slot := []
  fabric  : Fabric := {}
  stk     : Stacks := {}
  links   : Links := {}
  video   : Tab VidSession := []
  power   : Power := {}
  fw      : Firmware := {}
  sdio    : Sdio := {}
  mgmt    : Mgmt := {}
  cores   : Tab Core := []
  dbg     : Debug := {}
  perf    : Tab PerfView := []
  /-- operator counters (R563) and their shadows -/
  opc     : Tab Nat := []
  opcShadow : Tab Nat := []
  /-- the start of the running bandwidth window -/
  bwStart : Nat := 0
  pending : List Instr := []
  deriving DecidableEq, Repr

/-- Why a step stops with a fault. -/
inductive Fault where
  /-- never raised; every error of this block is an effect on its registers -/
  | none
  deriving DecidableEq, Repr

/-- Why a command has no meaning. -/
inductive Refusal where
  /-- a command whose meaning is not written yet; raised by Dispatch only; safe -/
  | notModelled (mnemonic : String)
  deriving DecidableEq, Repr

/-- The module right after reset (R10, R32). -/
def State.reset : State := {}

end Sys2Proof.Machine
end

