-- ==== Sys2Proof/Machine/Ops.lean ====
section
/-! DEFINITION. The named operations over registers, time, memory, ownership and the store, which every meaning is written
with. -/

namespace Sys2Proof.Machine

/-! ## Registers -/

/-- The key of a field of instance (i, j) of its register. -/
def Fld.key (f : Fld) (i j : Nat) : Nat := Nat.pair (Nat.pair f.reg.ctorIdx f.lo) (Nat.pair i j)

/-- The clock step of an island's generator at its start (Table 21.1): base dies and hub at 1.2 GHz, H0 to H3 at 2.0 GHz, the reference at
100 MHz; cluster islands at their lowest step (log). -/
def islandStep (i : Nat) : Nat :=
  if i < 160 then 16 else if 168 ≤ i ∧ i < 172 then 80 else if i = 192 then 4 else 48

/-- The reset value of a field (R10); FAULT_SRC_CFG's come from Table 19.2 and ISLAND_STATE's from the island's generator. -/
def Fld.reset (f : Fld) (i : Nat) : Nat :=
  if f.reg = .FAULT_SRC_CFG then
    match sourceRow i with
    | none => 0
    | some r =>
      if f.lo = 48 then r.n else if f.lo = 21 then r.w else if f.lo = 8 then r.scope
      else if f.lo = 0 then sourceUnit i else if f.lo = 18 then 3 else if f.lo = 17 then 1 else 0
  else if f.reg = .ISLAND_STATE ∧ f.lo = 9 then islandStep i
  else if f.reg = .ISLAND_STATE ∧ f.lo = 6 then (if 40 ≤ islandStep i then 3 else 2)
  else
    match f.reg.fields.find? (fun d => d.lo = f.lo) with
    | some d => d.reset
    | none => 0

/-- The width of a field. -/
def Fld.width (f : Fld) : Nat := f.hi + 1 - f.lo

/-- A field's present value in instance (i, j). -/
def State.rd (s : State) (f : Fld) (i : Nat := 0) (j : Nat := 0) : Nat :=
  Tab.get (f.reset i) s.regs (f.key i j)

/-- The state with a field set; the value is cut to the field's width. -/
def State.wr (s : State) (f : Fld) (v : Nat) (i : Nat := 0) (j : Nat := 0) : State :=
  { s with regs := Tab.set (f.reset i) s.regs (f.key i j) (v % 2 ^ f.width) }

/-- A one-bit field read as a Boolean. -/
def State.rdB (s : State) (f : Fld) (i : Nat := 0) (j : Nat := 0) : Bool := s.rd f i j != 0

/-- A saturating counter field raised by n. -/
def State.inc (s : State) (f : Fld) (i : Nat := 0) (j : Nat := 0) (n : Nat := 1) : State :=
  s.wr f (satAdd f.width (s.rd f i j) n) i j

/-- A wrapping counter field raised by n. -/
def State.incWrap (s : State) (f : Fld) (i : Nat := 0) (j : Nat := 0) (n : Nat := 1) : State :=
  s.wr f (s.rd f i j + n) i j

/-- A one-bit field set. -/
def State.setB (s : State) (f : Fld) (i : Nat := 0) (j : Nat := 0) : State := s.wr f 1 i j

/-- A field returned to its reset value. -/
def State.rst (s : State) (f : Fld) (i : Nat := 0) (j : Nat := 0) : State :=
  { s with regs := Tab.erase s.regs (f.key i j) }

/-- Every field of one instance of a register returned to its reset value. -/
def State.rstReg (s : State) (r : RegId) (i : Nat := 0) (j : Nat := 0) : State :=
  r.fields.foldl (fun s d => s.rst ⟨r, d.hi, d.lo⟩ i j) s

/-- A register assembled from its fields as they are held. -/
def State.rdRaw (s : State) (r : RegId) (i : Nat := 0) (j : Nat := 0) : Nat :=
  r.fields.foldl (fun v d => if d.acc = .wo then v else v + s.rd ⟨r, d.hi, d.lo⟩ i j * 2 ^ d.lo) 0

/-- One field of a register write by its access code (Table 0.3, R13); a value outside the field's limit keeps it. -/
def State.applyField (s : State) (r : RegId) (d : FieldDef) (v : Nat) (i j : Nat) : State :=
  let f : Fld := ⟨r, d.hi, d.lo⟩
  let x := bits v d.hi d.lo
  match d.acc with
  | .rw => if d.least ≤ x ∧ x ≤ d.most then s.wr f x i j else s
  | .ro => s
  | .wo => s
  | .w1c => s.wr f (s.rd f i j &&& (2 ^ f.width - 1 - x)) i j
  | .w1s => s.wr f (s.rd f i j ||| x) i j
  | .st => if x = 0 then s else s.wr f 0 i j

/-- An aligned 64-bit write taken field by field (R11, R14). -/
def State.applyWrite (s : State) (r : RegId) (v : Nat) (i j : Nat) : State :=
  r.fields.foldl (fun s d => s.applyField r d v i j) s

/-! ## What leaves the module, and draws -/

/-- A message put on the outbox. -/
def State.emit (s : State) (m : OutMsg) : State := { s with out := s.out ++ [m] }

/-- The next free value's number. -/
def State.draw (s : State) : State := { s with fresh := s.fresh + 1 }

/-! ## The battery-backed store -/

/-- A byte of the store. -/
def State.bbsGet (s : State) (a : Nat) : Byte := Tab.get 0#8 s.bbs a

/-- A little-endian field of the store (R7). -/
def State.bbsRd (s : State) (a n : Nat) : Nat := leVal ((List.range n).map (fun k => s.bbsGet (a + k)))

/-- Bytes written to the store as they are. -/
def State.bbsRaw (s : State) (a : Nat) (bs : List Byte) : State :=
  { s with bbs := (bs.zipIdx).foldl (fun t p => Tab.set 0#8 t (a + p.2) p.1) s.bbs }

/-- The CRC of the store's header (Table 22.5). -/
def State.bbsCrc (s : State) : Nat := crc32c ((List.range 240).map (fun k => s.bbsGet (0x10 + k)))

/-- Bytes written to the store; the header's CRC follows a write to what it covers. -/
def State.bbsPut (s : State) (a : Nat) (bs : List Byte) : State :=
  let s := s.bbsRaw a bs
  if a < 0x100 ∧ 0x10 < a + bs.length ∧ s.bbsRd 0 2 = 1 then s.bbsRaw 0xC (leBytes 4 s.bbsCrc) else s

/-- A little-endian field of the store written. -/
def State.bbsWr (s : State) (a n v : Nat) : State := s.bbsPut a (leBytes n v)

/-- A range of the store written to zero. -/
def State.bbsZero (s : State) (a n : Nat) : State :=
  { s with bbs := Tab.keep s.bbs (fun k => ! decide (a ≤ k ∧ k < a + n)) }

/-- A counter in both its copies (R458, R459): 0 management, 1 runtime, 2 Nypra floor, 3 key-table generation. -/
def State.setCounter (s : State) (i v : Nat) : State :=
  let s := s.bbsWr (0x20 + 4 * i) 4 v
  { s with fw := { s.fw with mirror := some ((s.fw.mirror.getD [0, 0, 0, 0]).set i v) } }

/-! ## Ownership -/

def State.part (s : State) (n : Nat) : PartRec := s.struct.image.parts.getD n {}
def State.clusterOwner (s : State) (c : Nat) : Nat := s.struct.image.clusters.getD c 0xFF
def State.engineOwner (s : State) (e : Nat) : Nat := s.struct.image.engines.getD e 0xFF
def State.granuleOwner (s : State) (g : Nat) : Nat := s.struct.image.ddr4.getD g 0xFF
def State.coreOwner (s : State) (c : Nat) : Nat := s.struct.image.cores.getD c 0xFF
def State.vcOwner (s : State) (p v : Nat) : Nat := s.struct.image.vcs.getD (4 * p + v) 0xFF
def State.poOwner (s : State) (k : Nat) : Nat := s.struct.image.po.getD k 0xFF
def State.cvOwner (s : State) (k : Nat) : Nat := s.struct.image.cv.getD k 0xFF
def State.videoOwner (s : State) (k : Nat) : Nat := s.struct.image.video.getD k 0xFF

/-- The indices of an owner map that a partition owns, ascending. -/
def ownedIn (m : List Nat) (n : Nat) : List Nat := (m.zipIdx.filter (fun p => p.1 = n)).map (·.2)

/-- The partition whose ring range holds r (R307). -/
def State.ringOwner (s : State) (r : Nat) : Nat :=
  match (s.struct.image.parts.zipIdx.find? (fun p => p.1.present && decide (p.1.ringFirst ≤ r ∧ r < p.1.ringFirst + p.1.ringCount))) with
  | some p => p.2
  | none => 0xFF

/-- The partition whose page range holds p. -/
def State.pageOwner (s : State) (p : Nat) : Nat :=
  match (s.struct.image.parts.zipIdx.find? (fun q => q.1.present && decide (q.1.pageFirst ≤ p ∧ p < q.1.pageFirst + q.1.pageCount))) with
  | some q => q.2
  | none => 0xFF

/-- The state of a partition (Table 2.1). -/
def State.pstate (s : State) (n : Nat) : Nat := s.rd (F.PART_STATE_state n)

def State.setPstate (s : State) (n v : Nat) : State := s.wr (F.PART_STATE_state n) v

/-- REMOVING or SCRUBBING. -/
def State.beingRemoved (s : State) (n : Nat) : Bool := decide (s.pstate n = 3 ∨ s.pstate n = 4)

/-- The partition's service cores in ascending core number. -/
def State.coresOf (s : State) (n : Nat) : List Nat := ownedIn s.struct.image.cores n

/-! ## Who may reach a register -/

/-- MGC or a service core of P0. -/
def State.isOperator (s : State) : Master → Bool
  | .mgc => true
  | .sc i => s.coreOwner i.val = 0
  | .other => false

/-- MGC, a service core of P0, or one of Pn. -/
def State.isTenant (s : State) (n : Nat) : Master → Bool
  | .mgc => true
  | .sc i => s.coreOwner i.val = 0 || s.coreOwner i.val = n
  | .other => false

/-- MGC or any service core. -/
def isCore : Master → Bool
  | .mgc => true
  | .sc _ => true
  | .other => false

/-! ## Memory -/

def State.byte (s : State) (a : Nat) : Byte := Tab.get 0#8 s.mem a

/-- The canonical form of memory: addresses strictly rising, and no byte listed that an unlisted address reads as. -/
def Memory.wf (m : List Host.Cell) : Bool := Tab.wf 0#8 m

/-- n bytes from an address. -/
def State.bytesAt (s : State) (a n : Nat) : List Byte := (List.range n).map (fun k => s.byte (a + k))

def State.setByte (s : State) (a : Nat) (b : Byte) : State := { s with mem := Tab.set 0#8 s.mem a b }

/-- Bytes stored from an address on. -/
def State.putBytes (s : State) (a : Nat) (bs : List Byte) : State :=
  { s with mem := (bs.zipIdx).foldl (fun t p => Tab.set 0#8 t (a + p.2) p.1) s.mem }

/-- Every byte whose address satisfies the test becomes zero. -/
def State.zeroWhere (s : State) (p : Nat → Bool) : State := { s with mem := Tab.keep s.mem (fun a => ! p a) }

/-- The key of a DDR4 byte: kind 4 of Table 12.7. -/
def ddr (a : Nat) : Nat := 4 * 2 ^ 60 + a

/-- The DDR4 bytes of a granule. -/
def inGranule (g a : Nat) : Bool := decide (ddr (g * 2 ^ 30) ≤ a ∧ a < ddr ((g + 1) * 2 ^ 30))

/-- Whether a DDR4 byte range lies wholly in granules of Pn that it may reach (R331, R337). -/
def State.ddrOwned (s : State) (n a len : Nat) : Bool :=
  decide (a + len ≤ 2 ^ 38) && (! s.beingRemoved n) &&
  (len = 0 || (List.range ((a + len - 1) / 2 ^ 30 - a / 2 ^ 30 + 1)).all (fun k => s.granuleOwner (a / 2 ^ 30 + k) = n))

/-- The loaded image of a partition. -/
def State.wpart (s : State) (n : Nat) : WPart := Tab.get {} s.wparts n
def State.setWpart (s : State) (n : Nat) (w : WPart) : State := { s with wparts := Tab.set {} s.wparts n w }

/-- Whether a DDR4 byte range touches the range of Pn's loaded image (R188). -/
def State.inImage (s : State) (n a len : Nat) : Bool :=
  match (s.wpart n).image with
  | some im => decide (s.pstate n = 2 ∧ 0 < len ∧ a < im.addr + im.len ∧ im.addr < a + len)
  | none => false

/-- Whether a DDR4 unit belongs to the WEIGHTS section of a loaded image (Table 13.2). -/
def State.unitRole (s : State) (u : Nat) : Nat :=
  let a := u * 256
  let n := s.granuleOwner (a / 2 ^ 30)
  match (s.wpart n).image with
  | some im =>
    if s.pstate n = 2 ∧ im.addr ≤ a + 255 ∧ a < im.addr + im.len then
      if im.addr + im.weightsAt ≤ a + 255 ∧ a < im.addr + im.weightsAt + im.weightsLen then 1 else 2
    else 3
  | none => 3

/-- The first DDR4 unit of a byte range that fails its readers: it holds an uncorrectable word and is not restored from a
stack copy (R340, R341). -/
def State.badUnit (s : State) (a len : Nat) : Option Nat :=
  if len = 0 then none
  else (s.badUnits.filter (fun u => decide (a / 256 ≤ u ∧ u ≤ (a + len - 1) / 256) && s.unitRole u != 1)).min?

/-- A DDR4 write of a byte range: whole aligned units that it covers are no longer uncorrectable (R341). -/
def State.ddrPut (s : State) (a : Nat) (bs : List Byte) : State :=
  let covered := fun u => decide (a ≤ u * 256 ∧ u * 256 + 256 ≤ a + bs.length)
  { s.putBytes (ddr a) bs with
    badUnits := s.badUnits.filter (fun u => ! covered u)
    badRecord := s.badRecord.filter (fun u => ! covered u) }

/-- Whether a write of a byte range meets an uncorrectable unit that it does not cover whole (R341). -/
def State.blockedUnit (s : State) (a len : Nat) : Bool :=
  s.badUnits.any (fun u => decide (0 < len ∧ a / 256 ≤ u ∧ u ≤ (a + len - 1) / 256) &&
    ! decide (a ≤ u * 256 ∧ u * 256 + 256 ≤ a + len))

/-! ## Addresses of Table 12.7 -/

/-- Kind of an address. -/
def addrKind (a : Nat) : Nat := a / 2 ^ 60

/-- Whether an address has a form of Table 12.7 and names something (R127, R318). -/
def addrOk (a : Nat) : Bool :=
  match addrKind a with
  | 0 => decide (a % 2 ^ 60 / 2 ^ 48 < 1280 ∧ a % 2 ^ 48 < 2 ^ 20)
  | 1 => decide (a % 2 ^ 60 / 2 ^ 48 < 16 ∧ a % 2 ^ 48 < 24 * 2 ^ 20)
  | 2 => decide (a % 2 ^ 60 / 2 ^ 48 < 256 ∧ a % 2 ^ 48 < 0x60000000)
  | 4 => decide (a % 2 ^ 60 < 2 ^ 38)
  | _ => false

/-- Banks of a quadrant that a partition owns (R96), ascending; a retired cluster's banks serve no partition. -/
def State.banksOf (s : State) (n quad : Nat) : List Nat :=
  let cl := fun k => 40 * (quad / 4) + 10 * (quad % 4) + k
  let retired := fun c => (s.bbsGet (0x80 + c / 8)).toNat.testBit (c % 8)
  let own := (List.range 10).flatMap (fun k => if s.clusterOwner (cl k) = n && !retired (cl k) then [2 * k, 2 * k + 1] else [])
  let count := fun m => ((List.range 10).filter (fun k => s.clusterOwner (cl k) = m)).length
  let best := (List.range 16).foldl (fun b m => if count b < count m then m else b) 0
  if best = n ∧ 0 < count n then own ++ [20, 21, 22, 23] else own

/-- Whether blocks of a pseudo-channel byte are tagged PAGES (R199 to R201): at or above the block that holds the lowest
frame byte of the channel, while the partition is LOADED. -/
def State.pagesFloor (s : State) (n pc : Nat) : Nat :=
  let pcs := (ownedIn s.struct.image.engines n).flatMap (fun e => [2 * e, 2 * e + 1])
  let npc := pcs.length
  let j := pcs.idxOf pc
  let frames := min (((s.part n).pageCount + npc - 1 - j) / npc) 24197
  if s.pstate n = 2 ∧ 0 < frames then (0x60000000 - 66560 * frames) / 65536 * 65536 else 0x60000000

/-- The extent that Pn has in the unit an address names: bytes 0 to extent-1, or 0 where it owns nothing there. -/
def State.extent (s : State) (n a : Nat) : Nat :=
  let u := a % 2 ^ 60 / 2 ^ 48
  match addrKind a with
  | 0 => if s.clusterOwner (u / 8) = n then 2 ^ 20 else 0
  | 1 => (s.banksOf n u).length * 2 ^ 20
  | 2 => if s.engineOwner (u / 2) = n then s.pagesFloor n u else 0
  | _ => 0

/-- Whether len bytes from an address lie in the partition (R127, R102, R201, R319). -/
def State.addrIn (s : State) (n a len : Nat) : Bool :=
  if addrKind a = 4 then s.ddrOwned n (a % 2 ^ 60) (max len 1)
  else (! s.beingRemoved n) && decide (a % 2 ^ 48 + max len 1 ≤ s.extent n a)

/-- The store byte that an address names for Pn: a quadrant-store offset is spread over the partition's banks in lines of
256 bytes (R96); every other address is itself. -/
def State.phys (s : State) (n a : Nat) : Nat :=
  if addrKind a = 1 then
    let q := a % 2 ^ 60 / 2 ^ 48
    let banks := s.banksOf n q
    let off := a % 2 ^ 48
    let line := off / 256
    let bank := banks.getD (line % max banks.length 1) 24
    2 ^ 60 + q * 2 ^ 48 + bank * 2 ^ 20 + line / max banks.length 1 * 256 + off % 256
  else a

/-- Bytes read from a range for Pn. -/
def State.load (s : State) (n a len : Nat) : List Byte := (List.range len).map (fun k => s.byte (s.phys n (a + k)))

/-- Bytes written to a range for Pn. -/
def State.store (s : State) (n a : Nat) (bs : List Byte) : State :=
  if addrKind a = 4 then s.ddrPut (a % 2 ^ 60) bs
  else { s with mem := (bs.zipIdx).foldl (fun t p => Tab.set 0#8 t (s.phys n (a + p.2)) p.1) s.mem }

/-- The first address of a range, of any kind, in a DDR4 unit that fails its readers. -/
def State.unreadable (s : State) (a len : Nat) : Option Nat :=
  if addrKind a = 4 then (s.badUnit (a % 2 ^ 60) len).map (fun u => ddr (max (a % 2 ^ 60) (u * 256))) else none

/-! ## Debug (R567 to R570) -/

/-- A unit's debug state; kind 0 tiles, 1 engines. -/
def State.unitDbg (s : State) (kind u : Nat) : UnitDbg := Tab.get {} s.dbg.units (4096 * kind + u)
def State.setUnitDbg (s : State) (kind u : Nat) (x : UnitDbg) : State :=
  { s with dbg := { s.dbg with units := Tab.set {} s.dbg.units (4096 * kind + u) x } }

/-- The partition of a unit. -/
def State.unitPart (s : State) (kind u : Nat) : Nat := if kind = 0 then s.clusterOwner (u / 8) else s.engineOwner u

/-- The unit that UDBG_SEL selects. -/
def State.dbgKind (s : State) : Nat := bits s.dbg.sel 31 31
def State.dbgUnit (s : State) : Nat := bits s.dbg.sel 10 0

/-- Units of Pn that are halted or halting. -/
def State.haltedUnits (s : State) (n : Nat) : Bool :=
  s.dbg.units.any (fun e => e.2.state != 0 && s.unitPart (e.1 / 4096) (e.1 % 4096) == n)

/-- Halted units of Pn resume (R438, Table 23.6). -/
def State.releaseUnits (s : State) (n : Nat) : State :=
  { s with dbg := { s.dbg with units := s.dbg.units.filter (fun e => s.unitPart (e.1 / 4096) (e.1 % 4096) ≠ n) } }

/-! ## Outcomes -/

/-- A state as a step's outcome. -/
abbrev Res := Host.Outcome State Fault Refusal

end Sys2Proof.Machine
end

