-- ==== Sys2Proof/Machine/PerfOps.lean ====
section
/-! DEFINITION. Counting an event of a partition and of the operator's bank (R558 to R563). Every meaning that causes a counted event
calls `State.count` or `State.tally`. -/

namespace Sys2Proof.Machine

/-- What an event carries for the filters of R560: the mode of a service core, the kind of block, the class of traffic, a byte range. -/
structure EvAttr where
  priv   : Option Nat := none
  master : Option Nat := none
  cls    : Option Nat := none
  range  : Option (Nat × Nat) := none
  deriving DecidableEq, Repr

/-- A mask of all ones passes every event; any other passes an event that carries the attribute and matches it. -/
def maskPass (w mask : Nat) (a : Option Nat) : Bool :=
  mask = 2 ^ w - 1 || (match a with | some k => bit mask k | none => false)

/-- How much of an event of k a counter takes: the bytes of its range that lie between base and limit, where one is selected. -/
def State.passing (s : State) (n j k : Nat) (a : EvAttr) : Nat :=
  if maskPass 3 (s.rd F.PERF_CFG_privilege n j) a.priv && maskPass 7 (s.rd F.PERF_CFG_master n j) a.master &&
      maskPass 8 (s.rd F.PERF_CFG_class n j) a.cls then
    match s.rd F.PERF_CFG_range_sel n j with
    | 0 => k
    | sel =>
      match a.range with
      | none => 0
      | some (first, len) => min (first + len) (s.rd F.PERF_LIMIT_limit n (sel - 1) + 1) - max first (s.rd F.PERF_BASE_base n (sel - 1))
  else 0

/-- A programmable counter raised by k; a wrap sets ovf_j and writes the sample (R561). -/
def State.perfRaise (s : State) (n j k : Nat) : State :=
  let c := s.rd F.PERF_CNT_count n j + k
  let s := s.wr F.PERF_CNT_count c n j
  if c < 2 ^ 48 then s
  else
    let s := (s.setB (F.PERF_CTRL_ovf j) n).wr F.PERF_SAMPLE_time s.modTime n
    (s.wr F.PERF_SAMPLE_INFO_step (s.rd F.TILLER_STAT_steps n) n).wr F.PERF_SAMPLE_INFO_counter j n

/-- Whether Pn's counters run: not frozen, not REMOVING or SCRUBBING (R561). -/
def State.perfRuns (s : State) (n : Nat) : Bool := decide (n < 16) && !s.rdB F.PERF_CTRL_freeze n && !s.beingRemoved n

/-- An event of Pn counts in every counter that selects it and whose filters it passes. -/
def State.count (s : State) (n code k : Nat) (a : EvAttr := {}) : State :=
  if !s.perfRuns n ∨ k = 0 then s
  else (List.range 8).foldl (fun s j =>
    if s.rd F.PERF_CFG_event n j = code ∧ code ≠ 0 then
      let m := s.passing n j k a
      if m = 0 then s else s.perfRaise n j m
    else s) s

/-- An event whose amount the spec leaves to the implementation raises the counters that select it by a free amount. -/
def State.countFree (s : State) (n code draw : Nat) : State :=
  if !s.perfRuns n then s
  else (List.range 8).foldl (fun s j =>
    if s.rd F.PERF_CFG_event n j = code then s.perfRaise n j (Config.choice draw (1000 + 8 * code + j)) else s) s

/-- An operator counter raised by k (R563). -/
def State.tally (s : State) (i k : Nat) : State := { s with opc := Tab.set 0 s.opc i ((Tab.get 0 s.opc i + k) % 2 ^ 64) }

/-- Every counter of Pn is zero (R561). -/
def State.clearPerf (s : State) (n : Nat) : State :=
  let s := (List.range 8).foldl (fun s j => s.wr F.PERF_CNT_count 0 n j) (s.wr F.PERF_CYCLE_cycles 0 n)
  { s with perf := Tab.upd {} s.perf n (fun v => { v with cycles := 0, counts := List.replicate 8 0 }) }

/-! ## Time, and the cycles that it brings -/

/-- The idle state in which the planner has placed an island (R520). -/
def State.idleOf (s : State) (i : Nat) : Nat := Tab.get 0 s.power.idle i

/-- Whether Pn has a step in flight. -/
def State.stepInFlight (s : State) (n : Nat) : Bool := (Tab.get {} s.serve n).step.isSome

/-- Whether a cluster has work: a launch, a stream command, a self-test (R520). -/
def State.clusterBusy (s : State) (c : Nat) : Bool :=
  s.fabric.runs.any (fun e => e.1 / 8 = c) || s.fabric.queues.any (fun e => e.1 / 32 = c) ||
    s.fabric.testing.contains c || s.fabric.aborting.contains c

/-- The state that an island shows, 0 RUN to 4: what the planner placed it in, or RUN while it has work. -/
def State.shownIdle (s : State) (i : Nat) : Nat :=
  if s.power.inS4 && i ≠ 192 then 4
  else if i < 160 then
    (if s.clusterBusy i || s.stepInFlight (s.clusterOwner i) then 0 else s.idleOf i)
  else if i < 168 then (if s.stk.queries.any (fun q => q.stack + 160 = i) then 0 else s.idleOf i)
  else 0

/-- Cycles of an island's clock in RUN over the next dt ns, at its multiple of 25 MHz. -/
def State.cyclesIn (s : State) (i dt : Nat) : Nat :=
  if s.shownIdle i ≠ 0 ∨ s.power.closed.contains i then 0
  else let f := s.rd F.ISLAND_STATE_clock_step i; (s.clk + dt) * f / 40 - s.clk * f / 40

/-- R558, Table 23.1: the cycles of Pn's clusters over the next dt ns count: the lowest-numbered one's in the cycle counter, all in
CLUSTER_CYCLES. Without core power no island runs. -/
def State.countCycles (s : State) (dt : Nat) : State :=
  if !s.power.rails then s
  else (List.range 16).foldl (fun s n =>
    if !s.perfRuns n then s
    else match (ownedIn s.struct.image.clusters n).map (fun c => s.cyclesIn c dt) with
      | [] => s
      | c :: t => (s.wr F.PERF_CYCLE_cycles (s.rd F.PERF_CYCLE_cycles n + c) n).count n 0x01 (c + t.sum) { master := some 0 }) s

/-- Both clocks move on by dt ns, and cycles count; an outstanding PTP offset is slewed at no more than 500 ppm (R381). -/
def State.pass (s : State) (dt : Nat) : State :=
  let s := s.countCycles dt
  if s.ptp.slew = 0 then { s with clk := s.clk + dt, modTime := s.modTime + dt }
  else
    let most : Int := ((dt * min (Config.slewPpm s.fresh) 500 / 1000000 : Nat) : Int)
    let adj : Int := max (-most) (min most s.ptp.slew)
    { s with clk := s.clk + dt, modTime := ((s.modTime + dt : Nat) + adj).toNat, fresh := s.fresh + 1
             ptp := { s.ptp with slew := s.ptp.slew - adj } }

/-- The clock brought forward to a time that has come; a past time changes nothing. -/
def State.advanceTo (s : State) (t : Nat) : State := if s.clk < t then s.pass (t - s.clk) else s

/-- The clock brought to the next whole period since the last module reset. -/
def State.advancePeriod (s : State) (ns : Nat) : State :=
  s.advanceTo (s.resetAt + ((s.clk - s.resetAt) / max ns 1 + 1) * ns)

end Sys2Proof.Machine
end

