-- ==== Sys2Proof/Machine/LinkOps.lean ====
section
/-! DEFINITION. The shared operations of the Sahvy links: cells, credits, sending, routing (R347 to R362). Channels 0 to 3 of a port are
its VCs, 4 is CC. -/

namespace Sys2Proof.Machine

def State.setLinks (s : State) (f : Links → Links) : State := { s with links := f s.links }
def State.lport (s : State) (p : Nat) : LinkPort := Tab.get {} s.links.ports p
def State.updLport (s : State) (p : Nat) (f : LinkPort → LinkPort) : State :=
  s.setLinks (fun l => { l with ports := Tab.upd {} l.ports p f })

def State.linkState (s : State) (p : Nat) : Nat := s.rd F.LINK_PORT_STATE_state p
def State.linkUp (s : State) (p : Nat) : Bool := s.linkState p = 4

/-- This module's fabric id. -/
def State.fabricId (s : State) : Nat := s.rd F.LINK_ID_fabric_id

/-! ## Cells -/

/-- Byte 0x01 of a cell (Table 14.2). -/
def ctlByte (h : CellHead) : Nat := h.level % 16 + 16 * h.vc.val + 64 * ofBool h.first + 128 * ofBool h.last

/-- The 48-byte header of a data cell with its hop field as zero: the additional authenticated data of R352. -/
def cellHeader (c : DataCell) : List Byte :=
  leBytes 1 c.head.type ++ leBytes 1 (ctlByte c.head) ++ leBytes 2 0 ++ leBytes 2 c.head.dst ++ leBytes 2 c.head.src ++
    leBytes 2 c.keyId ++ leBytes 2 c.keyEpoch ++ leBytes 1 c.srcPort ++ leBytes 1 c.payloadLen ++ leBytes 2 c.notify ++
    leBytes 8 c.seq ++ leBytes 8 c.dstAddr ++ leBytes 4 c.transfer ++ leBytes 4 c.index ++ leBytes 8 c.dtag

/-- The IV of R352; its fields follow one another in the byte order of R7 (DEDUCED, log). -/
def cellIv (c : DataCell) : List Byte :=
  leBytes 2 c.head.src ++ leBytes 1 c.srcPort ++ leBytes 1 c.head.vc.val ++ leBytes 8 c.seq

/-- The AES-256-GCM key of a link key entry (R430). -/
def LinkKey.aes (k : LinkKey) : List Byte := Config.kdf k.secret "PQ7 link" (leBytes 2 k.id ++ leBytes 2 k.epoch)

/-- The SEAL entry of a partition. -/
def State.sealKey (s : State) (n : Nat) : Option LinkKey := s.sec.linkKeys.find? (fun k => k.part = n && k.isSeal && !k.tomb)

/-- P0's LEASE entry. -/
def State.leaseKey (s : State) : Option LinkKey := s.sec.linkKeys.find? (fun k => k.part = 0 && k.isLease && !k.tomb)

/-- A data cell sealed under an entry with the next sequence number of its port, VC and epoch (R352). -/
def State.sealCell (s : State) (k : LinkKey) (c : DataCell) : State × DataCell :=
  let key := Nat.pair (4 * c.srcPort + c.head.vc.val) (Nat.pair k.id k.epoch)
  let seq := Tab.get 0 s.links.seqs key
  let c := { c with keyId := k.id, keyEpoch := k.epoch, seq := seq }
  let r := Config.gcmSeal k.aes (cellIv c) (cellHeader c) (slice c.sealed 0 192)
  (s.setLinks (fun l => { l with seqs := Tab.set 0 l.seqs key (seq + 1) }), { c with sealed := slice r.1 0 192, tag := slice r.2 0 16 })

/-- A cell with its head changed. -/
def LinkCell.mapHead (c : LinkCell) (f : CellHead → CellHead) : LinkCell :=
  match c with
  | .data d => .data { d with head := f d.head }
  | .ctl h b => .ctl (f h) b

def LinkCell.head (c : LinkCell) : CellHead :=
  match c with
  | .data d => d.head
  | .ctl h _ => h

/-- The head of a control cell that this module makes (R351). -/
def State.ctlHead (s : State) (type dst hops : Nat) : CellHead where
  type := type
  level := 1
  vc := 0
  first := false
  last := false
  hopSeq := 0
  hops := hops
  dst := dst
  src := s.fabricId
  bad := false
  corrected := 0
  lane := 0

/-- A hop-local control cell leaves a port, while it is not DISABLED or DOWN. -/
def State.sendHop (s : State) (p type : Nat) (body : List Byte) : State :=
  if s.linkState p < 2 then s
  else s.emit (.cell p (.ctl (s.ctlHead type (s.rd F.LINK_PORT_PEER_peer_id p) 0) (slice body 0 248)))

/-! ## Credits (R355, R356) -/

def allowance (ch : Nat) : Nat := if ch = 4 then 16 else 64

/-- A: credits available at the transmitter. -/
def State.linkAvail (s : State) (p ch : Nat) : Nat :=
  let x := s.lport p
  if x.granted then allowance ch - (Tab.get 0 x.sent ch - Tab.get 0 x.returned ch) else 0

/-- H: cells of a channel that a port's receiver still holds, waiting at whatever port they leave by. -/
def State.linkHeld (s : State) (p ch : Nat) : Nat :=
  (s.links.ports.map (fun q => ((Tab.get [] q.2.queues ch).filter (fun c => c.ingress = some p)).length)).sum

/-- A CREDIT cell reports every free and the last hop_seq accepted. -/
def State.sendCredit (s : State) (p : Nat) : State :=
  let x := s.lport p
  let body := (List.range 4).flatMap (fun v => leBytes 2 (Tab.get 0 x.freed v)) ++ leBytes 2 (Tab.get 0 x.freed 4) ++
    leBytes 2 ((x.rxSeq + 4095) % 4096)
  (s.sendHop p 0x10 body).updLport p (fun x => { x with told := x.freed, unheard := 0, firstFree := 0, grantDue := false })

/-- A buffer of a port's receiver is free again. -/
def State.linkFree (s : State) (p ch : Nat) : State :=
  let s := s.updLport p (fun x => { x with freed := Tab.upd 0 x.freed ch (· + 1), firstFree := if x.firstFree = 0 then s.clk else x.firstFree })
  let x := s.lport p
  if !s.linkUp p then s
  else if x.grantDue then (if (List.range 5).all (fun c => s.linkHeld p c = 0) then
      (s.updLport p (fun x => { x with freed := [], told := [] })).sendCredit p else s)
  else if 8 ≤ Tab.get 0 x.freed ch - Tab.get 0 x.told ch then s.sendCredit p else s

/-! ## Sending (R354, R355, R358) -/

/-- What the departure of a cell of a local transfer does to the transfer. -/
def State.cellLeaves (s : State) (id : Nat) : State :=
  let due := s.clk + s.rd F.LINK_CTRL_ack_timeout_us * 1000
  s.setLinks (fun l => { l with transfers := l.transfers.map (fun t =>
    if t.id = id then { t with unsent := t.unsent - 1, gone := t.gone + 1, due := if t.unsent = 1 then due else 0 } else t) })

/-- The cell as it goes on the wire: a local data cell is sealed now; without its key it does not leave. -/
def State.wireCell (s : State) (c : QCell) : State × Option LinkCell :=
  match c.cell, c.sealFor with
  | .data d, some n =>
    match (if d.head.type = 2 then s.leaseKey else s.sealKey n) with
    | some k => let r := s.sealCell k d; (r.1, some (.data r.2))
    | none => (s, none)
  | w, _ => (s, some w)

/-- A numbered cell leaves on a channel. -/
def State.sendCell (s : State) (p ch : Nat) (q : QCell) : State :=
  let r := s.wireCell q
  let s := match q.transfer with | some id => r.1.cellLeaves id | none => r.1
  let s := match r.2 with
    | none => s
    | some w =>
      let x := s.lport p
      let w := w.mapHead (fun h => { h with hopSeq := x.txSeq })
      let s := s.updLport p (fun x => { x with kept := x.kept ++ [(x.txSeq, { q with cell := w, sealFor := none })]
                                               txSeq := (x.txSeq + 1) % 4096, sent := Tab.upd 0 x.sent ch (· + 1), turn := (ch + 1) % 5 })
      let s := s.emit (.cell p w)
      let s := match w with | .data _ => s.tally (552 + p) 1 | .ctl _ _ => s
      match q.sealFor with
      | some n => if w.head.type = 1 then s.count n 0x0A 1 { cls := some 5 } else s
      | none => s
  match q.ingress with
  | some i => s.linkFree i ch
  | none => s

/-- Cells leave a port while it is UP, a channel holds a cell and a credit, and fewer than 128 await acceptance; the channels take
turns. -/
def State.pump : Nat → State → Nat → State
  | 0, s, _ => s
  | k + 1, s, p =>
    let x := s.lport p
    if !s.linkUp p ∨ 128 ≤ x.kept.length then s
    else
      let order := (List.range 5).map (fun i => (x.turn + i) % 5)
      match order.find? (fun ch => (Tab.get [] x.queues ch) ≠ [] && 0 < s.linkAvail p ch) with
      | none => s
      | some ch =>
        match Tab.get [] x.queues ch with
        | [] => s
        | q :: rest => State.pump k ((s.updLport p (fun x => { x with queues := Tab.set [] x.queues ch rest })).sendCell p ch q) p

/-- Cells join a port's channel and leave as far as they can. -/
def State.enqueue (s : State) (p ch : Nat) (l : List QCell) : State :=
  let s := s.updLport p (fun x => { x with queues := Tab.upd [] x.queues ch (· ++ l) })
  s.pump (128 + l.length) p

/-- Every queue of a port lets its cells leave. -/
def State.pumpPort (s : State) (p : Nat) : State := s.pump 256 p

/-! ## Routing (R359, R360) -/

/-- The port for a destination: the primary when it is valid and UP, else the alternate when it is. -/
def State.routePort (s : State) (dst : Nat) : Option Nat :=
  let e := Tab.get 0 s.links.routes dst
  if bit e 7 && s.linkUp (bits e 4 0) then some (bits e 4 0)
  else if bit e 15 && s.linkUp (bits e 12 8) then some (bits e 12 8)
  else none

/-- A routed control cell leaves for a module on channel CC; without a port it does not. -/
def State.sendRouted (s : State) (type dst : Nat) (body : List Byte) : State :=
  match s.routePort dst with
  | some q => s.enqueue q 4 [{ cell := .ctl (s.ctlHead type dst (s.rd F.LINK_CTRL_max_hops)) (slice body 0 248) }]
  | none => s

/-- The body of an ACK or NACK. -/
def ackBody (transfer srcPort vc status bytes : Nat) : List Byte :=
  leBytes 4 transfer ++ leBytes 1 srcPort ++ leBytes 1 vc ++ leBytes 2 status ++ leBytes 8 bytes

/-- A NACK to the source of a data cell. -/
def State.nackCell (s : State) (c : DataCell) (status bytes : Nat) : State :=
  s.sendRouted 0x19 c.head.src (ackBody c.transfer c.srcPort c.head.vc.val status bytes)

/-- The transfers of a ring end without a record: their cells that have not left go (R326, R327, R372). -/
def State.cancelLinks (s : State) (r : Nat) : State :=
  let ids := (s.links.transfers.filter (fun t => t.ring = r)).map (·.id)
  if ids = [] then s
  else s.setLinks (fun l => { l with
    transfers := l.transfers.filter (fun t => t.ring ≠ r)
    ports := l.ports.map (fun e => (e.1, { e.2 with queues := (e.2.queues.map (fun q =>
      (q.1, q.2.filter (fun c => match c.transfer with | some id => !ids.contains id | none => true)))).filter (fun q => q.2 ≠ []) })) })

/-- Cells of open transfers of Pn that have left and are not yet acknowledged (R51). -/
def State.unanswered (s : State) (n : Nat) : Nat := ((s.links.transfers.filter (fun t => t.part = n)).map (·.gone)).sum

end Sys2Proof.Machine
end

