-- ==== Sys2Proof/Machine/PlantOut.lean ====
section
/-! DEFINITION. Plant output channels: their state (Table 15.6), the datagrams they form (R384, Table 15.5), and what a
severe fault and the end of one do to them (R386, R387). -/

namespace Sys2Proof.Machine

def State.poChan (s : State) (k : Nat) : PoChan := Tab.get {} s.po k
def State.setPo (s : State) (k : Nat) (c : PoChan) : State := { s with po := Tab.set {} s.po k c }
def State.cvChan (s : State) (k : Nat) : CvChan := Tab.get {} s.cv k
def State.setCv (s : State) (k : Nat) (c : CvChan) : State := { s with cv := Tab.set {} s.cv k c }

/-- Whether the scope of a source covers channel POk (R466). -/
def State.covers (s : State) (i k : Nat) : Bool :=
  let n := s.poOwner k
  let u := sourceUnit i
  match sourceScope i with
  | 1 => true
  | 2 => (List.range 40).any (fun c => s.clusterOwner (40 * u + c) = n) && n != 0xFF
  | 3 => (List.range 16).any (fun e => s.engineOwner (16 * u + e) = n) && n != 0xFF
  | 4 => (List.range 4).any (fun v => s.vcOwner u v = n) && n != 0xFF
  | 5 => s.rd F.PO_LINK_port k = u
  | 6 => n = u
  | _ => false

/-- The level a source holds. -/
def State.level (s : State) (i : Nat) : Nat := s.rd F.FAULT_SRC_STATUS_level i

/-- Whether a FATAL status is held. -/
def State.fatalHeld (s : State) : Bool := (List.range 106).any (fun i => s.level i = 5)

/-- Whether a severe fault whose scope covers POk is set (R386); a FATAL status covers every channel (R471). -/
def State.poFault (s : State) (k : Nat) : Bool :=
  (List.range 106).any (fun i => s.level i = 5 || (s.level i = 4 && s.covers i k))

/-- Whether POk may transmit: its owner owns CVk, which is in mode OUTPUT (R382). -/
def State.poAble (s : State) (k : Nat) : Bool :=
  decide (s.poOwner k ≠ 0xFF ∧ s.cvOwner k = s.poOwner k ∧ s.rd F.CV_CFG_mode k = 1)

/-- The state of a channel: the highest row of Table 15.6 that holds (R385). -/
def State.poState (s : State) (k : Nat) : Nat :=
  if s.rd F.REDUN_STATE_role = 2 then 4
  else if s.poFault k || (s.poChan k).withdrawn then 3
  else if s.rd F.REDUN_STATE_lease_state = 3 then 2
  else if s.poAble k then 1
  else 0

/-- The 16-bit one's complement sum of big-endian 16-bit words, folded. -/
def inetSum (bs : List Byte) : Nat :=
  let rec go : List Byte → Nat → Nat
    | a :: b :: t, acc => go t (acc + a.toNat * 256 + b.toNat)
    | [a], acc => acc + a.toNat * 256
    | [], acc => acc
  let v := go bs 0
  let v := v % 65536 + v / 65536
  v % 65536 + v / 65536

/-- The Internet checksum of bytes. -/
def inetCheck (bs : List Byte) : Nat := 65535 - inetSum bs

/-- The Ethernet frame, without FCS, of an IPv4 UDP datagram that leaves port p (R384). -/
def State.udpFrame (s : State) (p dstMac dstIp srcUdp dstUdp dscp : Nat) (payload : List Byte) : List Byte :=
  let srcIp := s.rd F.PLANT_PORT_IP_ipv4 p
  let tag := if s.rdB F.PLANT_PORT_CTRL_vlan_en p then
      beBytes 2 0x8100 ++ beBytes 2 ((Config.vlanPriority p).toNat * 4096 + s.rd F.PLANT_PORT_CTRL_vlan_id p) else []
  let ulen := 8 + payload.length
  let iph := fun c => beBytes 2 (0x4500 + dscp * 4) ++ beBytes 2 (20 + ulen) ++ beBytes 2 0 ++ beBytes 2 0x4000 ++
    beBytes 2 (64 * 256 + 17) ++ beBytes 2 c ++ beBytes 4 srcIp ++ beBytes 4 dstIp
  let pseudo := beBytes 4 srcIp ++ beBytes 4 dstIp ++ beBytes 2 17 ++ beBytes 2 ulen
  let udph := fun c => beBytes 2 srcUdp ++ beBytes 2 dstUdp ++ beBytes 2 ulen ++ beBytes 2 c
  let uc := inetCheck (pseudo ++ udph 0 ++ payload)
  let uc := if uc = 0 then 65535 else uc
  beBytes 6 dstMac ++ beBytes 6 (s.rd F.PLANT_PORT_MAC_mac p) ++ tag ++ beBytes 2 0x0800 ++
    iph (inetCheck (iph 0)) ++ udph uc ++ payload

/-- The UDP payload of Table 15.5 with the check value of CVk (R390). -/
def State.poPayload (s : State) (k kind flags alive : Nat) (pay : List Byte) : List Byte :=
  let algo := s.rd F.CV_CFG_algo k
  let src := if s.rdB F.LINK_ID_valid then s.rd F.LINK_ID_fabric_id else 0xFFFF
  let body := leBytes 1 1 ++ leBytes 1 k ++ leBytes 1 kind ++ leBytes 1 (flags + 4 * algo) ++ leBytes 2 alive ++
    leBytes 2 pay.length ++ leBytes 8 s.modTime ++ leBytes 2 src ++ leBytes 1 (s.rd F.REDUN_STATE_role) ++
    List.replicate 5 0#8 ++ pay
  let idb := if s.rdB F.CV_CFG_data_id_en k then leBytes 4 (s.rd F.CV_DATA_ID_data_id k) else []
  body ++ leBytes (checkLen algo) (checkValue algo (s.rd F.CV_INIT_init k) (s.rd F.CV_XOROUT_xorout k) (idb ++ body))

/-- A datagram leaves the channel's port, or is counted as tx_drop when the port is not UP (R388). The period restarts at
each transmission (R387). -/
def State.poSend (s : State) (k kind flags alive : Nat) (pay : List Byte) : State :=
  let p := s.rd F.PO_LINK_port k
  let s := s.setPo k { s.poChan k with due := s.clk + s.rd F.PO_CFG_period_ms k * 1000000 }
  if s.rd F.PLANT_PORT_STATE_link p = 3 then
    let s := (s.count (s.poOwner k) 0x14 1 ({ cls := some 6 } : EvAttr)).tally (596 + k) 1 |>.tally (592 + p) 1
    (s.emit (.frame p (s.udpFrame p (s.rd F.PO_LINK_dst_mac k) (s.rd F.PO_DEST_dst_ip k) (s.rd F.PO_DEST_src_udp k)
      (s.rd F.PO_DEST_dst_udp k) (s.rd F.PO_CFG_dscp k) (s.poPayload k kind flags alive pay)))).inc F.PO_STATE_sent k
  else s.inc F.PO_STATE_tx_drop k

/-- A WITHDRAWN datagram: payload_len 0 and alive unchanged (Table 15.6). -/
def State.poSendWithdrawn (s : State) (k : Nat) : State :=
  s.poSend k 2 2 (s.rd F.CV_STAT_alive k) []

/-- A channel enters WITHDRAWN (R468): it stays so until a payload is accepted after the fault is cleared, and it sends one
WITHDRAWN datagram on entry when it is able to transmit. -/
def State.poWithdraw (s : State) (k : Nat) : State :=
  let was := (s.poChan k).withdrawn
  let s := s.setPo k { s.poChan k with withdrawn := true }
  if !was && s.poAble k && s.poState k == 3 then s.poSendWithdrawn k else s

/-- Every channel that a severe event of a source covers is forced to WITHDRAWN; a FATAL event forces every channel. -/
def State.withdrawFor (s : State) (i level : Nat) : State :=
  (List.range 64).foldl (fun s k => if level = 5 || s.covers i k then s.poWithdraw k else s) s

/-- What channels do when the lease state has changed (R387): leaving HOLD for RUN sends the newest stored payload as
FRESH; a takeover sends each accepted payload as HELD. -/
def State.poLeaseChanged (s : State) (oldRole oldLease : Nat) : State :=
  (List.range 64).foldl (fun s k =>
    if s.poState k == 1 then
      match (s.poChan k).stored with
      | some (pay, alive) =>
        if oldLease = 3 then
          (s.setPo k { s.poChan k with stored := none, sent := some (pay, alive) }).poSend k 0 0 alive pay
        else if oldRole = 2 then
          (s.setPo k { s.poChan k with stored := none, sent := some (pay, alive) }).poSend k 1 1 alive pay
        else s
      | none =>
        if oldRole = 2 then
          match (s.poChan k).sent with
          | some (pay, alive) => s.poSend k 1 1 alive pay
          | none => s
        else s
    else s) s

end Sys2Proof.Machine
end

