-- ==== Sys2Proof/Machine/LeaseOps.lean ====
section
/-! DEFINITION. The shared operations of the lease protocol: messages, changes of the lease state, giving up the lease. -/

namespace Sys2Proof.Machine

def State.leaseState (s : State) : Nat := s.rd F.REDUN_STATE_lease_state

/-- HELD, DOUBT or SOLE (R482). -/
def State.holdsLease (s : State) : Bool := decide (s.leaseState = 2 ∨ s.leaseState = 3 ∨ s.leaseState = 4)

/-- The running role of a lease state (Table 19.7). -/
def roleOf (l : Nat) : Nat := if l = 0 then 0 else if l = 2 ∨ l = 3 ∨ l = 4 then 1 else 2

/-- A lease message as this module sends it (Table 19.6); ready is forced to 0 while a FATAL status is held (R484). -/
def State.leaseMsg (s : State) (seq : Nat) : LeaseMsg where
  level := 1
  state := s.leaseState
  ready := s.rdB F.REDUN_CTRL_ready && ! s.fatalHeld
  fatalHeld := s.fatalHeld
  reserved := false
  pairId := s.struct.image.redun.pairId
  seq := seq
  identity := s.identity

/-- The bytes of a lease message (Table 19.6). -/
def leaseBytes (type : Nat) (m : LeaseMsg) : List Byte :=
  leBytes 1 type ++ leBytes 1 m.level ++ leBytes 1 m.state ++ leBytes 1 (ofBool m.ready + 2 * ofBool m.fatalHeld) ++ leBytes 2 m.pairId ++
    leBytes 2 0 ++ leBytes 4 m.seq ++ leBytes 4 0 ++ leBytes 16 m.identity

/-- The LEASE cell of a message joins VC3 of the lease port (R366, R480); without P0's LEASE entry, or while the port is not UP, the Sahvy
path carries nothing. -/
def State.sendLeaseCell (s : State) (type : Nat) (m : LeaseMsg) : State :=
  let p := s.struct.image.redun.port
  if s.leaseKey.isNone ∨ !s.linkUp p then s
  else
    let h := s.ctlHead 2 (s.rd F.LINK_PORT_PEER_peer_id p) (s.rd F.LINK_CTRL_max_hops)
    let c : DataCell := { head := { h with vc := 3, first := true, last := true }, keyId := 0, keyEpoch := 0, srcPort := p, payloadLen := 32
                          notify := 0xFFFF, seq := 0, dstAddr := 0, transfer := 0, index := 0, dtag := 0, sealed := leaseBytes type m
                          tag := [] }
    s.enqueue p 3 [{ cell := .data c, sealFor := some 0 }]

/-- A lease message leaves on both paths (R480), on the management network by the lease session (R551): 1 RENEW, 2 GRANT, 3 DENY, 4 RELEASE. -/
def State.sendLease (s : State) (type seq : Nat) : State :=
  let m := s.leaseMsg seq
  let s := s.sendLeaseCell type m
  if s.mgmt.leaseUp then s.emit (.lease type m) else s

/-- The lease state changes, and with it the running role and what the channels do (Table 19.7, R387). Entry to STANDBY from
a state that holds the lease disarms the takeover timer; from any other it arms it (R484). -/
def State.setLease (s : State) (l : Nat) : State :=
  let old := s.leaseState
  let oldRole := s.rd F.REDUN_STATE_role
  let held := s.holdsLease
  let s := (s.wr F.REDUN_STATE_lease_state l).wr F.REDUN_STATE_role (roleOf l)
  let s := if l = 5 then
      { s.wr F.REDUN_STATE_timer_armed (ofBool (! held)) with
        lease := { s.lease with timerStart := s.clk, blockedNoted := false, leaseEnd := 0 } }
    else s.wr F.REDUN_STATE_timer_armed 0
  let s := if (! held) && s.holdsLease then { s with lease := { s.lease with kickAt := s.clk } } else s
  s.poLeaseChanged oldRole old

/-- A holder gives the lease up (R486): STANDBY, and RELEASE on both paths now and every 1 ms for up to 20 ms. -/
def State.giveUpLease (s : State) : State :=
  if s.holdsLease then
    let s := (s.setLease 5).sendLease 4 0
    { s with lease := { s.lease with releaseEnd := s.clk + 20000000, releaseDue := s.clk + 1000000 } }
  else s

/-- A RENEW leaves on both paths with the next sequence number (R483); the last eight are remembered with their times. -/
def State.sendRenew (s : State) : State :=
  let q := (s.lease.maxSeq + 1) % 2 ^ 32
  let s := { s with lease := { s.lease with maxSeq := q, sent := ((q, s.clk) :: s.lease.sent).take 8, renewDue := s.clk + 5000000 } }
  s.sendLease 1 q

/-- Whether the partner is silent now (R485): 20 ms without a signal on the lease port, or with it DISABLED, and without an
accepted message on the management path. -/
def State.portQuiet (s : State) : Bool :=
  let p := s.struct.image.redun.port
  decide (Tab.get 0 s.linkSignal p = 0) || s.rd F.LINK_PORT_STATE_state p == 0

/-- The lease state that the redundancy record sets after a boot or a change of role (R482). -/
def State.initLease (s : State) : State :=
  let r := s.struct.image.redun.role
  let s := { s with lease := { s.lease with renewDue := s.clk, sent := [] } }
  s.setLease (if r = 0 then 0 else if r = 1 then 1 else 5)

end Sys2Proof.Machine
end

