-- ==== Sys2Proof/Machine/FaultRecord.lean ====
section
/-! DEFINITION. One event at its source: level, status, Amber log, withdrawal, FAULT_N (R467 to R477). -/

namespace Sys2Proof.Machine

/-- FAULT_N is low during a pulse, while fault_n_low is 1 and while the ROM has halted (R451, R469). -/
def State.faultPin (s : State) : State :=
  { s with faults := { s.faults with
      pin := !(s.rdB F.FAULT_CTRL_pulse || s.rdB F.FAULT_CTRL_fault_n_low || s.fw.halt != 0) } }

/-! ## The Amber log -/

/-- A slot of the Amber log (R477: slot i at 0x800 + 8 i of the store). -/
def State.amberSlot (s : State) (i : Nat) : Nat := s.bbsRd (0x800 + 8 * i) 8

/-- The present boot count mod 64. -/
def State.bootCount (s : State) : Nat := s.bbsRd 8 4 % 64

/-- Whether an entry counts as older than another (R477): boot distance, then seconds, then slot. -/
def amberOlder (boot : Nat) (i a j b : Nat) : Bool :=
  let dist := fun e => (boot + 64 - bits e 29 24) % 64
  if dist a ≠ dist b then decide (dist b < dist a)
  else if bits a 63 32 ≠ bits b 63 32 then decide (bits a 63 32 < bits b 63 32)
  else decide (i < j)

/-- The oldest entry below SEVERE. -/
def State.amberVictim (s : State) : Option Nat :=
  (List.range 256).foldl (fun acc i =>
    let e := s.amberSlot i
    if 4 ≤ bits e 23 21 then acc
    else match acc with
      | none => some i
      | some j => if amberOlder s.bootCount i e j (s.amberSlot j) then some i else some j) none

/-- An entry of Table 19.5 for an event. -/
def State.amberEntry (s : State) (src detail level : Nat) (inj : Bool) : Nat :=
  let clk := s.rd F.PTP_STATE_state
  (s.modTime / 1000000000 % 2 ^ 32) * 2 ^ 32 + ofBool (clk = 2 || clk = 3) * 2 ^ 31 + ofBool inj * 2 ^ 30 +
    s.bootCount * 2 ^ 24 + level % 8 * 2 ^ 21 + src % 256 * 2 ^ 13 + detail % 2 ^ 13

/-- Writing an entry (R477): the lowest empty slot; else a SEVERE or FATAL one replaces the oldest below SEVERE; else it is
dropped and lost is raised. -/
def State.amberWrite (s : State) (entry level : Nat) : State :=
  match (List.range 256).find? (fun i => s.amberSlot i = 0) with
  | some i => s.bbsWr (0x800 + 8 * i) 8 entry
  | none =>
    match (if 4 ≤ level then s.amberVictim else none) with
    | some i => s.bbsWr (0x800 + 8 * i) 8 entry
    | none => s.inc F.AMBER_STATE_lost

/-! ## From event to level -/

/-- The window of a source counts one more event (R467 step 2); answers the new count. -/
def State.countEvent (s : State) (i : Nat) : State × Nat :=
  let fin := Tab.get 0 s.faults.windows i
  if fin ≠ 0 ∧ s.clk < fin then
    let c := satAdd 16 (s.rd F.FAULT_SRC_STATUS_window_count i) 1
    (s.wr F.FAULT_SRC_STATUS_window_count c i, c)
  else
    let win := Tab.set 0 s.faults.windows i (s.clk + s.rd F.FAULT_SRC_CFG_w_ms i * 1000000)
    let s := { s with faults := { s.faults with windows := win } }
    (s.wr F.FAULT_SRC_STATUS_window_count 1 i, 1)

/-- The level of an event and the state after its window counted it (R467 steps 1 to 3). -/
def State.eventLevel (s : State) (i base : Nat) : State × Nat :=
  let r := if s.rdB F.FAULT_SRC_CFG_count_enable i && (base = 2 || base = 3) then s.countEvent i else (s, 0)
  let l := if r.2 ≠ 0 ∧ s.rd F.FAULT_SRC_CFG_n i ≤ r.2 then max base 4 else base
  let l := if 3 ≤ l ∧ s.rdB F.FAULT_SRC_STATUS_pending i ∧ l ≤ s.level i then min (l + 1) 5 else l
  (r.1, l)

/-- The causes that persist at a source; the code 0 stands for a FATAL event, whose cause lasts until the next module reset
(R471). -/
def State.causes (s : State) (i : Nat) : List Nat := Tab.get [] s.faults.causes i

def State.setCauses (s : State) (i : Nat) (l : List Nat) : State :=
  { s with faults := { s.faults with causes := Tab.set [] s.faults.causes i l } }.wr F.FAULT_SRC_STATUS_cause_active
    (ofBool (l ≠ [])) i

/-- Whether a partition is stopped: a cause of Table 19.3 is active at its STOP source (R472). -/
def State.stopped (s : State) (n : Nat) : Bool := (s.causes (Src.stop n)).any (fun c => c != 0)

/-- The condition of an event has ended (R470). -/
def State.causeEnds (s : State) (i detail : Nat) : State :=
  s.setCauses i ((s.causes i).filter (fun c => c ≠ detail))

/-- One event through R467 steps 1 to 4, the log (R475), withdrawal (R468) and FAULT_N (R469); answers its level. -/
def State.record (s : State) (i detail base : Nat) (inj persist : Bool) : State × Nat :=
  let r := s.eventLevel i base
  let s := r.1
  let l := r.2
  let s := s.wr F.FAULT_SRC_STATUS_level (max (s.level i) l) i
  let s := (s.inc F.FAULT_SRC_STATUS_events i).wr F.FAULT_SRC_STATUS_injected (ofBool inj) i
  let s := if 3 ≤ l then (s.wr F.FAULT_SRC_STATUS_detail detail i).setB F.FAULT_SRC_STATUS_pending i else s
  let s := if persist || l = 5 then
      s.setCauses i ((s.causes i ++ (if persist then [detail] else []) ++ (if l = 5 then [0] else [])).dedup) else s
  let s := if s.rd F.FAULT_SRC_CFG_log_min i ≤ l ∨ 4 ≤ l then s.amberWrite (s.amberEntry i detail l inj) l else s
  let s := if 4 ≤ l then
      let s := s.withdrawFor i l
      { (s.setB F.FAULT_CTRL_fault_n_low).setB F.FAULT_CTRL_pulse with
        faults := { s.faults with pin := false, pulseEnd := s.clk + 10000000 } }
    else s
  (s, l)

end Sys2Proof.Machine
end

