-- ==== Sys2Proof/Machine/Float.lean ====
section
/-! DEFINITION. Numbers and formats (03): decoding, rounding and conversion of the element formats, and the FP32 arithmetic of
the vector engine (R82). A number is taken as its exact value, and rounded once. -/

namespace Sys2Proof.Machine

/-- A decoded value: (−1)^neg × m × 2^e, an infinity, or NaN. −0 is `num true 0 _`. -/
inductive FV where
  | nan
  | inf (neg : Bool)
  | num (neg : Bool) (m : Nat) (e : Int)
  deriving DecidableEq, Repr

/-- A floating-point layout (Table 3.2) with its special encodings (Table 3.3): mantissa bits, exponent bits, bias, the code of
the largest finite magnitude, of infinity (0 where there is none), and of the canonical NaN (0 where there is none). -/
structure FFmt where
  mb   : Nat
  eb   : Nat
  bias : Nat
  most : Nat
  inf  : Nat
  nan  : Nat
  deriving DecidableEq, Repr

def fp32 : FFmt := ⟨23, 8, 127, 0x7F7FFFFF, 0x7F800000, 0x7FC00000⟩
def bf16 : FFmt := ⟨7, 8, 127, 0x7F7F, 0x7F80, 0x7FC0⟩
def fp16 : FFmt := ⟨10, 5, 15, 0x7BFF, 0x7C00, 0x7E00⟩
def e4m3 : FFmt := ⟨3, 4, 7, 0x7E, 0, 0x7F⟩
def e5m2 : FFmt := ⟨2, 5, 15, 0x7B, 0x7C, 0x7E⟩
def e2m3 : FFmt := ⟨3, 2, 1, 0x1F, 0, 0⟩
def e3m2 : FFmt := ⟨2, 3, 3, 0x1F, 0, 0⟩
def e2m1 : FFmt := ⟨1, 2, 1, 7, 0, 0⟩

/-- The sign bit's weight. -/
def FFmt.signBit (f : FFmt) : Nat := 2 ^ (f.mb + f.eb)
/-- The bits of a code. -/
def FFmt.width (f : FFmt) : Nat := f.mb + f.eb + 1
/-- The exponent of the smallest subnormal. -/
def FFmt.emin (f : FFmt) : Int := 1 - (f.bias : Int) - f.mb

/-- The value of a code (R55, R56). -/
def FFmt.dec (f : FFmt) (code : Nat) : FV :=
  let c := code % 2 ^ f.width
  let neg := decide (f.signBit ≤ c)
  let a := c % f.signBit
  if f.most < a then (if f.inf ≠ 0 ∧ a = f.inf then .inf neg else .nan)
  else
    let e := a / 2 ^ f.mb
    let m := a % 2 ^ f.mb
    if e = 0 then .num neg m f.emin else .num neg (m + 2 ^ f.mb) (f.emin + e - 1)

/-- Whether an integer part n with dropped part low of half-unit `half` (in units of one bit lower), and further dropped bits,
rounds away: modes 0 RNE, 1 RZ, 2 RU, 3 RD (R69). -/
def roundsUp (rm : Nat) (neg odd : Bool) (low half : Nat) (sticky : Bool) : Bool :=
  match rm with
  | 0 => decide (half < low) || (decide (low = half ∧ 0 < low) && (sticky || odd))
  | 1 => false
  | 2 => !neg && (decide (low ≠ 0) || sticky)
  | _ => neg && (decide (low ≠ 0) || sticky)

/-- m × 2^e (and, with `sticky`, a little more) as a multiple of 2^q under a rounding mode. -/
def roundAt (rm : Nat) (neg : Bool) (m : Nat) (e : Int) (sticky : Bool) (q : Int) : Nat :=
  if q ≤ e then m * 2 ^ (e - q).toNat
  else
    let d := (q - e).toNat
    if Nat.log2 m + 2 < d then
      (if roundsUp rm neg false (if m = 0 then 0 else 1) 2 sticky then 1 else 0)
    else
      let n := m / 2 ^ d
      n + (if roundsUp rm neg (n % 2 = 1) (m % 2 ^ d) (2 ^ (d - 1)) sticky then 1 else 0)

/-- The magnitude code that m × 2^e rounds to with no bound on the exponent. -/
def FFmt.magCode (f : FFmt) (rm : Nat) (neg : Bool) (m : Nat) (e : Int) (sticky : Bool) : Nat :=
  if m = 0 ∧ !sticky then 0
  else
    let q := max (Nat.log2 m + e - f.mb) f.emin
    ((q - f.emin) * (2 ^ f.mb : Nat)).toNat + roundAt rm neg m e sticky q

def FFmt.signed (f : FFmt) (neg : Bool) (a : Nat) : Nat := if neg then f.signBit + a else a

/-- The infinity of a format, or its NaN where it has none (Table 3.6, E4M3), or its largest magnitude where it has neither. -/
def FFmt.infCode (f : FFmt) (neg : Bool) : Nat :=
  if f.inf ≠ 0 then f.signed neg f.inf else if f.nan ≠ 0 then f.nan else f.signed neg f.most

/-- A conversion into a format (R69 to R71, R57, Table 3.6, and R124 for the formats without specials). -/
def FFmt.enc (f : FFmt) (rm : Nat) (sat : Bool) (v : FV) (sticky : Bool := false) : Nat :=
  match v with
  | .nan => f.nan
  | .inf neg => if sat then f.signed neg f.most else f.infCode neg
  | .num neg m e =>
    let a := f.magCode rm neg m e sticky
    if a ≤ f.most then f.signed neg a else if sat then f.signed neg f.most else f.infCode neg

/-! ## FP32 arithmetic of the vector engine (R82) -/

/-- Rounding an exact FP32 result under IEEE 754-2019: on overflow, the modes directed away from the infinity give the largest
finite value. -/
def roundF (rm : Nat) (v : FV) (sticky : Bool := false) : W32 :=
  match v with
  | .nan => BitVec.ofNat 32 fp32.nan
  | .inf neg => BitVec.ofNat 32 (fp32.signed neg fp32.inf)
  | .num neg m e =>
    let a := fp32.magCode rm neg m e sticky
    if a ≤ fp32.most then BitVec.ofNat 32 (fp32.signed neg a)
    else if rm = 1 ∨ (rm = 2 ∧ neg) ∨ (rm = 3 ∧ !neg) then BitVec.ofNat 32 (fp32.signed neg fp32.most)
    else BitVec.ofNat 32 (fp32.signed neg fp32.inf)

def decF (x : W32) : FV := fp32.dec x.toNat

def FV.isNan : FV → Bool
  | .nan => true
  | _ => false

def FV.isZero : FV → Bool
  | .num _ 0 _ => true
  | _ => false

def FV.neg : FV → FV
  | .nan => .nan
  | .inf n => .inf (!n)
  | .num n m e => .num (!n) m e

def FV.abs : FV → FV
  | .nan => .nan
  | .inf _ => .inf false
  | .num _ m e => .num false m e

def FV.isNeg : FV → Bool
  | .nan => false
  | .inf n => n
  | .num n _ _ => n

/-- A signed integer multiple of 2^e. -/
def FV.ofInt (x : Int) (e : Int) : FV := .num (decide (x < 0)) x.natAbs e

/-- The value of a number as an integer multiple of 2^q, for q at most its exponent. -/
def FV.scaled (neg : Bool) (m : Nat) (e q : Int) : Int :=
  let x : Int := ((m * 2 ^ (e - q).toNat : Nat) : Int)
  if neg then -x else x

/-- Exact product; 0 × Inf is NaN. -/
def FV.mul : FV → FV → FV
  | .nan, _ => .nan
  | _, .nan => .nan
  | .inf a, .inf b => .inf (a != b)
  | .inf a, .num b m _ => if m = 0 then .nan else .inf (a != b)
  | .num a m _, .inf b => if m = 0 then .nan else .inf (a != b)
  | .num a m e, .num b n k => .num (a != b) (m * n) (e + k)

/-- Exact sum; Inf − Inf is NaN. A sum of exactly zero is +0, or −0 under RD; two zeros of one sign keep it. -/
def FV.add (rm : Nat) : FV → FV → FV
  | .nan, _ => .nan
  | _, .nan => .nan
  | .inf a, .inf b => if a = b then .inf a else .nan
  | .inf a, .num _ _ _ => .inf a
  | .num _ _ _, .inf b => .inf b
  | .num a m e, .num b n k =>
    if m = 0 ∧ n = 0 then .num (if a = b then a else rm = 3) 0 0
    else if m = 0 then .num b n k
    else if n = 0 then .num a m e
    else
      let q := min e k
      let x := FV.scaled a m e q + FV.scaled b n k q
      if x = 0 then .num (rm = 3) 0 0 else FV.ofInt x q

/-- Exact comparison of two values that are not NaN. -/
def FV.lt : FV → FV → Bool
  | .nan, _ => false
  | _, .nan => false
  | .inf a, .inf b => a && !b
  | .inf a, .num _ _ _ => a
  | .num _ _ _, .inf b => !b
  | .num a m e, .num b n k => decide (FV.scaled a m e (min e k) < FV.scaled b n k (min e k))

def fAdd (rm : Nat) (a b : W32) : W32 := roundF rm (FV.add rm (decF a) (decF b))
def fSub (rm : Nat) (a b : W32) : W32 := roundF rm (FV.add rm (decF a) (decF b).neg)
def fMul (rm : Nat) (a b : W32) : W32 := roundF rm (FV.mul (decF a) (decF b))
def fFma (rm : Nat) (a b c : W32) : W32 := roundF rm (FV.add rm (FV.mul (decF a) (decF b)) (decF c))

/-- −0 counts as less than +0; one NaN gives the other operand, two give the canonical NaN (R122). -/
def fLess (a b : W32) : Bool :=
  (decF a).lt (decF b) || ((decF a).isZero && (decF b).isZero && (decF a).isNeg && !(decF b).isNeg)
def fMin (a b : W32) : W32 :=
  if (decF a).isNan then (if (decF b).isNan then BitVec.ofNat 32 fp32.nan else b)
  else if (decF b).isNan then a else if fLess b a then b else a
def fMax (a b : W32) : W32 :=
  if (decF a).isNan then (if (decF b).isNan then BitVec.ofNat 32 fp32.nan else b)
  else if (decF b).isNan then a else if fLess a b then b else a
def fClamp (a b c : W32) : W32 := fMin (fMax a b) c

/-- Only the sign bit changes (R122). -/
def fAbs (a : W32) : W32 := a &&& 0x7FFFFFFF#32
def fNeg (a : W32) : W32 := a ^^^ 0x80000000#32

/-- The integer square root, from the top bit down. -/
def isqrtStep : Nat → Nat → Nat → Nat
  | 0, _, r => r
  | k + 1, v, r => if (r + 2 ^ k) * (r + 2 ^ k) ≤ v then isqrtStep k v (r + 2 ^ k) else isqrtStep k v r

def isqrt (v : Nat) : Nat := isqrtStep (Nat.log2 v / 2 + 1) v 0

/-- The square root of a value that is not negative, with 200 or more fraction bits below its leading one, cut. -/
def FV.root : FV → FV
  | .num _ m e =>
    let k : Nat := if e % 2 = 0 then 400 else 401
    .num false (isqrt (m * 2 ^ k)) ((e - k) / 2)
  | v => v

/-- √a correctly rounded; √−0 is −0, a negative number gives NaN. -/
def fSqrt (rm : Nat) (a : W32) : W32 :=
  match decF a with
  | .nan => roundF rm .nan
  | .inf n => if n then roundF rm .nan else roundF rm (.inf false)
  | .num n m e =>
    if m = 0 then a
    else if n then roundF rm .nan
    else
      let k : Nat := if e % 2 = 0 then 64 else 65
      let v := m * 2 ^ k
      let r := isqrt v
      roundF rm (.num false (2 * r + (if r * r = v then 0 else 1)) ((e - k) / 2 - 1))

/-- a × 2^n with one rounding; n is a signed 32-bit integer. -/
def fLdexp (rm : Nat) (a n : W32) : W32 :=
  match decF a with
  | .num s m e => roundF rm (.num s m (if m = 0 then 0 else e + n.toInt))
  | v => roundF rm v

/-- The integer that a value rounds to under a mode. -/
def roundInt (rm : Nat) (neg : Bool) (m : Nat) (e : Int) : Int :=
  let n : Int := (roundAt rm neg m e false 0 : Nat)
  if neg then -n else n

/-- a rounded to an integral value; the sign of a zero result is a's. -/
def fRint (rm : Nat) (a : W32) : W32 :=
  match decF a with
  | .num s m e => if 0 ≤ e then a else roundF rm (.num s (roundAt rm s m e false 0) 0)
  | v => roundF rm v

/-! ## Conversions -/

/-- A value rounded to an integer and clamped; NaN gives 0 (Table 3.6, R124). -/
def toIntClamp (rm : Nat) (lo hi : Int) : FV → Int
  | .nan => 0
  | .inf n => if n then lo else hi
  | .num s m e => max lo (min hi (if 64 < e ∧ m ≠ 0 then (if s then lo else hi) else roundInt rm s m e))

def s32F32 (rm : Nat) (x : W32) : W32 := roundF rm (FV.ofInt x.toInt 0)
def f32S32 (rm : Nat) (x : W32) : W32 := BitVec.ofInt 32 (toIntClamp rm (-2147483648) 2147483647 (decF x))

/-- Narrow formats in the order of Table 5.9: BF16, FP16, E4M3, E5M2, E2M3, E3M2, E2M1; 7 is INT8 and 8 INT4. -/
def narrowFmt : Nat → FFmt
  | 0 => bf16 | 1 => fp16 | 2 => e4m3 | 3 => e5m2 | 4 => e2m3 | 5 => e3m2 | _ => e2m1

/-- Width of an element of Table 5.9's order. -/
def narrowWidth (k : Nat) : Nat := if k < 2 then 16 else if k < 4 then 8 else if k < 6 then 6 else if k = 6 then 4 else if k = 7 then 8 else 4

/-- The value of a narrow element. -/
def narrowDec (k code : Nat) : FV :=
  if k < 7 then (narrowFmt k).dec code
  else FV.ofInt (toSigned (narrowWidth k) code) 0

/-- The code of a narrow element for a value; NaN gives code zero in the formats that have none (R124). -/
def narrowEnc (k rm : Nat) (sat : Bool) (v : FV) : Nat :=
  if k < 7 then (narrowFmt k).enc rm sat v
  else if k = 7 then ofSigned 8 (toIntClamp rm (-128) 127 v)
  else ofSigned 4 (toIntClamp rm (-8) 7 v)

/-- The MXINT8 element of a value already divided by its scale (R61, R63): q × 2^−6, clamped to −127 to 127. -/
def mxi8Enc (rm : Nat) : FV → Nat
  | .num s m e => ofSigned 8 (toIntClamp rm (-127) 127 (.num s m (e + 6)))
  | v => ofSigned 8 (toIntClamp rm (-127) 127 v)

def mxi8Dec (code : Nat) : FV := FV.ofInt (toSigned 8 code) (-6)

/-- Element kinds of MXSCALE: 0 E4M3, 1 E5M2, 2 E2M3, 3 E3M2, 4 E2M1, 5 MXINT8; Table 3.4. -/
def mxEmax : Nat → Int
  | 0 => 8 | 1 => 15 | 2 => 2 | 3 => 4 | 4 => 2 | _ => 0

def mxFmt : Nat → FFmt
  | 0 => e4m3 | 1 => e5m2 | 2 => e2m3 | 3 => e3m2 | _ => e2m1

def mxDec (k code : Nat) : FV := if k = 5 then mxi8Dec code else (mxFmt k).dec code

/-- floor(log2) of a nonzero magnitude. -/
def FV.log2 : FV → Int
  | .num _ m e => Nat.log2 m + e
  | _ => 0

/-- The larger magnitude of two finite values. -/
def FV.maxAbs (a b : FV) : FV := if a.abs.lt b.abs then b.abs else a.abs

/-- The scale code of a block (R62 steps 1 to 3). -/
def mxScaleCode (k : Nat) (vs : List FV) : Nat :=
  if vs.any (fun v => match v with | .num _ _ _ => false | _ => true) then 0xFF
  else
    let amax := vs.foldl FV.maxAbs (.num false 0 0)
    if amax.isZero then 0 else (max 0 (min 254 (amax.log2 - mxEmax k + 127))).toNat

/-- A value times a power of two. -/
def FV.shift (k : Int) : FV → FV
  | .num s m e => .num s m (e + k)
  | v => v

/-- The elements of a block under its scale (R62 step 4). -/
def mxElement (k scale : Nat) (v : FV) : Nat :=
  if scale = 0xFF then 0
  else
    let w := v.shift (127 - (scale : Int))
    if k = 5 then mxi8Enc 0 w else (mxFmt k).enc 0 true w

/-! ## KV4 and KV8 (R64 to R67) -/

/-- amax / 6 rounded toward positive infinity to E4M3, and whether it exceeds 448. -/
def kv4Scale (amax : FV) : Nat × Bool :=
  match amax with
  | .num _ m e =>
    let v := m * 2 ^ 64
    let c := e4m3.magCode 2 false (v / 6) (e - 64) (v % 6 ≠ 0)
    if c ≤ e4m3.most then (c, false) else (e4m3.most, true)
  | _ => (0x7F, false)

/-- A quotient of two finite numbers as m × 2^e with a sticky bit. -/
def FV.quot : FV → FV → FV × Bool
  | .num s m e, .num t n k => (.num (s != t) (m * 2 ^ 160 / n) (e - k - 160), decide (m * 2 ^ 160 % n ≠ 0))
  | _, _ => (.nan, false)

/-- The FP32 value nearest a quotient of natural numbers. -/
def fQuot (a b : Nat) : W32 :=
  let q := FV.quot (.num false a 0) (.num false b 0)
  roundF 0 q.1 q.2

/-- A KV4 group of up to 64 elements: scale, codes, counted as non-finite, counted as saturated (R65). -/
def kv4Group (vs : List FV) : Nat × List Nat × Bool × Bool :=
  if vs.any (fun v => match v with | .num _ _ _ => false | _ => true) then (0x7F, vs.map (fun _ => 0), true, false)
  else
    let amax := vs.foldl FV.maxAbs (.num false 0 0)
    if amax.isZero then (0, vs.map (fun _ => 0), false, false)
    else
      let sc := kv4Scale amax
      let code := fun v =>
        let q := FV.quot v (e4m3.dec sc.1)
        e2m1.enc 0 true q.1 q.2
      (sc.1, vs.map code, false, sc.2)

/-- A KV8 element and whether it is counted as saturated (R67). -/
def kv8Element (v : FV) : Nat × Bool :=
  match v with
  | .nan => (0x7F, false)
  | .inf n => (e4m3.signed n e4m3.most, true)
  | .num s m e =>
    let a := e4m3.magCode 0 s m e false
    (e4m3.signed s (min a e4m3.most), decide (e4m3.most < a))

/-! ## Functions of Table 3.8

Within the stated accuracy the result is free (R82): one of the FP32 values that lie within the bound of the exact result, taken
by a constant without a body. The exact results of the transcendental functions are held as fixed-point numbers with 192
fraction bits, far below half an ulp. -/

def fpBits : Nat := 192
def fpOne : Nat := 2 ^ fpBits

/-- ln 2 with 192 fraction bits. -/
def ln2 : Nat := 4350955369971217654477563090224794165364344896676135745069

/-- Σ f^k / k! with k terms, by Horner from the top; f with 192 fraction bits. -/
def expSeries : Nat → Nat → Nat → Nat
  | 0, _, acc => acc
  | k + 1, f, acc => expSeries k f (fpOne + acc * f / fpOne / (k + 1))

/-- 2^x for x = y / 2^192: the fraction's power with 192 fraction bits, and the exponent. -/
def exp2Fix (y : Int) : Nat × Int :=
  let n := y / (fpOne : Nat)
  let f := (y % (fpOne : Nat)).toNat
  (expSeries 60 (f * ln2 / fpOne) fpOne, n)

/-- A finite value as an integer over 2^192, cut toward negative infinity. -/
def FV.fix : FV → Int
  | .num s m e => if -(fpBits : Int) ≤ e then FV.scaled s m e (-(fpBits : Int)) else
      (if s then -(((m / 2 ^ (-(fpBits : Int) - e).toNat : Nat)) : Int) else ((m / 2 ^ (-(fpBits : Int) - e).toNat : Nat) : Int))
  | _ => 0

/-- 2 × Σ z^(2k+1)/(2k+1) by Horner: ln of (1+z)/(1−z). -/
def lnSeries : Nat → Nat → Nat → Nat
  | 0, _, acc => acc
  | k + 1, z2, acc => lnSeries k z2 (fpOne / (2 * k + 1) + acc * z2 / fpOne)

/-- log2 of a positive value over 2^192. -/
def log2Fix (m : Nat) (e : Int) : Int :=
  let k := Nat.log2 m
  let x := m * fpOne / 2 ^ k
  let z := (x - fpOne) * fpOne / (x + fpOne)
  let l := 2 * (z * lnSeries 70 (z * z / fpOne) 0 / fpOne)
  (e + k) * (fpOne : Nat) + ((l * fpOne / ln2 : Nat) : Int)

/-- |v − y| ≤ d for exact values. -/
def FV.within (v y d : FV) : Bool := !(d.lt (FV.add 0 v y.neg).abs)

/-- One ulp at a value: the spacing of FP32 values there (R82). -/
def ulpAt (y : FV) : FV := .num false 1 (max (y.log2 - 23) fp32.emin)

/-- A free FP32 value within k ulp of y (y nonzero). -/
def freeNear (k fn arg arg2 : Nat) (y : FV) : W32 :=
  let c := roundF 0 y
  let mag := c.toNat % 2 ^ 31
  if fp32.most < mag then c
  else
    let bound := FV.mul (.num false k 0) (ulpAt y)
    let cands := (List.range (2 * k + 1)).filterMap (fun i =>
      let a : Int := (mag : Int) + i - k
      if 0 ≤ a ∧ a ≤ fp32.most then
        let w := BitVec.ofNat 32 (fp32.signed y.isNeg a.toNat)
        if (decF w).within y bound then some w else none
      else none)
    cands.getD (Config.ulpChoice fn arg arg2 % max cands.length 1) c

/-- A free FP32 value within 2^−n of y. -/
def freeWithin (n fn arg : Nat) (y : FV) : W32 :=
  let off : Int := (Config.ulpChoice fn arg 0 % 2 ^ 33 : Nat) - 2 ^ 32
  let w := roundF 0 (FV.add 0 y (FV.ofInt off (-32 - (n : Int))))
  if (decF w).within y (.num false 1 (-(n : Int))) then w else roundF 0 y

/-- 1 / a. -/
def fRcp (a : W32) : W32 :=
  match decF a with
  | .nan => roundF 0 .nan
  | .inf n => roundF 0 (.num n 0 0)
  | .num n m e =>
    if m = 0 then roundF 0 (.inf n) else freeNear 1 0 a.toNat 0 (FV.quot (.num n 1 0) (.num false m e)).1

/-- 1 / √a. -/
def fRsq (a : W32) : W32 :=
  match decF a with
  | .nan => roundF 0 .nan
  | .inf n => if n then roundF 0 .nan else 0#32
  | .num n m e =>
    if m = 0 then (if n then Config.rsqNegZero else roundF 0 (.inf false))
    else if n then roundF 0 .nan
    else
      let k : Nat := if e % 2 = 0 then 200 else 201
      freeNear 1 1 a.toNat 0 (FV.quot (.num false 1 0) (.num false (isqrt (m * 2 ^ k)) ((e - k) / 2))).1

/-- a / b: within 2 ulp for a finite nonzero b and a normal result; else the reciprocal, then a multiplication. -/
def fDiv (a b : W32) : W32 :=
  match decF a, decF b with
  | .num s m e, .num t n k =>
    if m = 0 ∨ n = 0 then fMul 0 a (fRcp b)
    else
      let q := (FV.quot (.num s m e) (.num t n k)).1
      if -126 ≤ q.log2 ∧ q.log2 ≤ 127 then freeNear 2 2 a.toNat b.toNat q else fMul 0 a (fRcp b)
  | _, _ => fMul 0 a (fRcp b)

/-- 2^a. -/
def fExp2 (a : W32) : W32 :=
  match decF a with
  | .nan => roundF 0 .nan
  | .inf n => if n then 0#32 else roundF 0 (.inf false)
  | .num n m e =>
    let x : FV := .num n m e
    if x.lt (.num true 126 0) then 0#32
    else if !(x.lt (.num false 128 0)) then roundF 0 (.inf false)
    else
      let r := exp2Fix x.fix
      freeNear 2 3 a.toNat 0 (.num false r.1 (r.2 - fpBits))

/-- e^x over 2^192 as fraction and exponent. -/
def expFix (y : Int) : Nat × Int := exp2Fix (y * (fpOne : Nat) / (ln2 : Nat))

/-- e^a. -/
def fExp (a : W32) : W32 :=
  match decF a with
  | .nan => roundF 0 .nan
  | .inf n => if n then 0#32 else roundF 0 (.inf false)
  | .num n m e =>
    let y := FV.fix (.num n m (min e 8))
    let ten := fun k : Int => k * (fpOne : Nat)
    if (10 * y < ten (-873)) then 0#32
    else if ten 887 < 10 * y then roundF 0 (.inf false)
    else
      let r := expFix y
      freeNear 3 4 a.toNat 0 (.num false r.1 (r.2 - fpBits))

/-- log2 a. -/
def fLog2 (a : W32) : W32 :=
  match decF a with
  | .nan => roundF 0 .nan
  | .inf n => if n then roundF 0 .nan else Config.log2Inf
  | .num n m e =>
    if m ≠ 0 ∧ n then roundF 0 .nan
    else if m = 0 ∧ n then Config.log2NegZero
    else if Nat.log2 m + e < -126 ∨ m = 0 then roundF 0 (.inf true)
    else
      let y := log2Fix m e
      if y = 0 then 0#32 else freeNear 2 5 a.toNat 0 (FV.ofInt y (-(fpBits : Int)))

/-- tanh a, within 2^−21. -/
def fTanh (a : W32) : W32 :=
  match decF a with
  | .nan => roundF 0 .nan
  | .inf n => roundF 0 (.num n 1 0)
  | .num n m e =>
    let y := min (FV.fix (.num false m (min e 8))) (40 * (fpOne : Nat))
    let r := expFix (2 * y)
    let g : FV := .num false r.1 (r.2 - fpBits)
    let one : FV := .num false 1 0
    let t := (FV.quot (FV.add 0 g one.neg) (FV.add 0 g one)).1
    freeWithin 21 6 a.toNat (if n then t.neg else t)

/-- 1 / (1 + e^−a), within 2^−22. -/
def fSigm (a : W32) : W32 :=
  match decF a with
  | .nan => roundF 0 .nan
  | .inf n => if n then 0#32 else roundF 0 (.num false 1 0)
  | .num n m e =>
    let y := min (FV.fix (.num false m (min e 8))) (60 * (fpOne : Nat))
    let r := expFix (if n then y else -y)
    let g : FV := .num false r.1 (r.2 - fpBits)
    let one : FV := .num false 1 0
    freeWithin 22 7 a.toNat (FV.quot one (FV.add 0 g one)).1

/-! ## Matrix products (R72 to R75) -/

/-- The accumulator after one rounding: a subnormal becomes a zero of its sign (R72). -/
def flushF (w : W32) : W32 := if (w.toNat / 2 ^ 23) % 256 = 0 then w &&& 0x80000000#32 else w

/-- Products summed exactly. -/
def exactSum (vs : List FV) : FV := vs.foldl (FV.add 0) (.num false 0 0)

/-- One chunk added to the accumulator (R73). -/
def accChunk (acc : W32) (ps : List FV) : W32 := flushF (roundF 0 (FV.add 0 (decF acc) (exactSum ps)))

/-- A list cut into chunks of k. -/
def chunksOf {α : Type} (k : Nat) : Nat → List α → List (List α)
  | 0, _ => []
  | n + 1, l => if l.isEmpty then [] else l.take k :: chunksOf k n (l.drop k)

/-- A list cut into chunks of k (at least 1). -/
def chunked {α : Type} (k : Nat) (l : List α) : List (List α) := chunksOf (max k 1) l.length l

/-- A list with its elements inserted one after another at free places: an arrival order (R78). -/
def shuffle {α : Type} (pick : Nat → Nat) : Nat → List α → List α
  | _, [] => []
  | i, x :: t =>
    let r := shuffle pick (i + 1) t
    r.insertIdx (pick i % (r.length + 1)) x

/-- FP32 partials merged by a free tree no deeper than d (R75: at most 8 additions on a path). -/
def mergeTree (pick : Nat → Nat) : Nat → Nat → List W32 → W32
  | 0, _, l => l.foldl (fAdd 0) 0#32
  | d + 1, i, l =>
    match l with
    | [] => 0#32
    | [x] => x
    | _ =>
      let most := min (l.length - 1) (2 ^ d)
      let least := max 1 (l.length - 2 ^ d)
      let k := least + pick i % (most + 1 - least)
      fAdd 0 (mergeTree pick d (2 * i + 1) (l.take k)) (mergeTree pick d (2 * i + 2) (l.drop k))

/-- The chunks of a reduction, split at free places into at most 256 parts (R75); one part starts from the bias and every other from
zero (R145), and the partials are merged in arrival order. -/
def reduceChunks (pick : Nat → Nat) (chunks : List (List FV)) (bias : W32) : W32 :=
  let cuts := (chunks.zipIdx.foldl (fun (p : List (List (List FV)) × Nat) (c : List FV × Nat) =>
    if (p.1.isEmpty || (pick (3 * c.2) % 2 = 1 && decide (p.2 < 256))) then (p.1 ++ [[c.1]], p.2 + 1)
    else (p.1.dropLast ++ [(p.1.getLastD []) ++ [c.1]], p.2)) ([], 0)).1
  let first := pick 2 % max cuts.length 1
  let partials := cuts.zipIdx.map (fun cs => cs.1.foldl accChunk (if cs.2 = first then bias else 0#32))
  mergeTree (fun i => pick (3 * i + 1)) 8 1 (shuffle (fun i => pick (3 * i + 5)) 0 partials)

/-- FP32 values added with RNE in a free order and grouping (R78): the sums of the catalogue's reductions. -/
def sumFree (pick : Nat → Nat) (l : List W32) : W32 :=
  mergeTree (fun i => pick (2 * i)) l.length 1 (shuffle (fun i => pick (2 * i + 1)) 0 l)

end Sys2Proof.Machine
end

