-- ==== Sys2Proof/Machine/PageOps.lean ====
section
/-! DEFINITION. The page store (10): descriptors, rows, slot lists, books, journal, and the advance of a partition. -/

namespace Sys2Proof.Machine

/-! ## Access -/

def State.srv (s : State) (n : Nat) : Serve := Tab.get {} s.serve n
def State.setSrv (s : State) (n : Nat) (x : Serve) : State := { s with serve := Tab.set {} s.serve n x }
def State.updSrv (s : State) (n : Nat) (f : Serve → Serve) : State := s.setSrv n (f (s.srv n))
def State.slot (s : State) (x : Nat) : Slot := Tab.get {} s.slots x
def State.setSlot (s : State) (x : Nat) (v : Slot) : State := { s with slots := Tab.set {} s.slots x v }
def State.updSlot (s : State) (x : Nat) (f : Slot → Slot) : State := s.setSlot x (f (s.slot x))

/-- The SERVING section of the image that Pn has loaded. -/
def State.serving (s : State) (n : Nat) : Option Serving :=
  if s.pstate n = 2 then (s.wpart n).image.bind (·.serving) else none

/-- Tokens per page, n of R247. -/
def State.tpp (s : State) (n : Nat) : Nat := match s.serving n with | some v => 2 ^ v.tppLog2 | none => 1

/-- Pages per row, L of R246. -/
def State.layers (s : State) (n : Nat) : Nat := match s.serving n with | some v => v.layers | none => 1

/-- The request slots of a partition's range. -/
def State.slotsOf (s : State) (n : Nat) : List Nat :=
  (List.range (s.part n).reqCount).map (fun k => (s.part n).reqFirst + k)

/-- The partition whose request range holds a slot. -/
def State.slotOwner (s : State) (x : Nat) : Nat :=
  match s.struct.image.parts.zipIdx.find? (fun q => q.1.present && decide (q.1.reqFirst ≤ x ∧ x < q.1.reqFirst + q.1.reqCount)) with
  | some q => q.2
  | none => 0xFF

/-! ## Frames and descriptors -/

/-- The pseudo-channels of a partition, ascending (R199). -/
def State.pcsOf (s : State) (n : Nat) : List Nat := (ownedIn s.struct.image.engines n).flatMap (fun e => [2 * e, 2 * e + 1])

/-- Pseudo-channel and byte offset of page p's frame (R199); none where it has no frame (R200). -/
def State.frame (s : State) (p : Nat) : Option (Nat × Nat) :=
  let n := s.pageOwner p
  let pcs := s.pcsOf n
  let r := p - (s.part n).pageFirst
  let f := r / max pcs.length 1
  if n = 0xFF ∨ pcs = [] ∨ 24197 ≤ f then none else some (pcs.getD (r % pcs.length) 0, 0x60000000 - 66560 * (f + 1))

/-- What an APPLY leaves of a page (R251). -/
def State.basePage (s : State) (p : Nat) : Page :=
  if s.pageOwner p = 0xFF then { st := 2, cause := 1 } else if s.frame p = none then { st := 2, cause := 2 } else {}

def State.page (s : State) (p : Nat) : Page := (Tab.get none s.pages.pages p).getD (s.basePage p)

def State.setPage (s : State) (p : Nat) (x : Page) : State :=
  { s with pages := { s.pages with pages := Tab.set none s.pages.pages p (if x = s.basePage p then none else some x) } }

/-- A row's pages, by its head. -/
def State.rowPages (s : State) (n head : Nat) : List Nat := (List.range (s.layers n)).map (fun l => head + l)

/-- The head page of the row that holds a page of Pn; none after the last whole row (R246). -/
def State.rowOf (s : State) (n p : Nat) : Option Nat :=
  let first := (s.part n).pageFirst
  let l := s.layers n
  let r := (p - first) / l
  if (s.serving n).isSome ∧ (r + 1) * l ≤ (s.part n).pageCount then some (first + r * l) else none

/-- Every page of a row set to a state; the head carries slot, lpn and score (R250). -/
def State.setRow (s : State) (n head : Nat) (x : Page) : State :=
  (s.rowPages n head).foldl (fun s p => s.setPage p (if p = head then x else { x with score := 0, sEpoch := 0 })) s

/-- Whether every page of a row has a state in the visible state. -/
def State.rowIs (s : State) (n head st : Nat) : Bool := (s.rowPages n head).all (fun p => (s.page p).st = st)

/-! ## Books -/

/-- The book of a state: 0 FREE, 1 ALLOCATED, 2 QUARANTINED, 3 RECOMPUTE_PENDING. -/
def bookFld (module : Bool) (st : Nat) : Fld :=
  match module, st with
  | false, 0 => F.PAGE_PBOOKS_A_free | false, 1 => F.PAGE_PBOOKS_A_allocated | false, 2 => F.PAGE_PBOOKS_B_quarantined
  | false, _ => F.PAGE_PBOOKS_B_recompute
  | true, 0 => F.PAGE_BOOKS_0_free | true, 1 => F.PAGE_BOOKS_0_allocated | true, 2 => F.PAGE_BOOKS_1_quarantined
  | true, _ => F.PAGE_BOOKS_1_recompute

/-- k pages of Pn move between two books (R262, R263, Table 10.6). -/
def State.moveBook (s : State) (n a b k : Nat) : State :=
  let s := (s.wr (bookFld false a) (s.rd (bookFld false a) n - k) n)
  let s := s.wr (bookFld false b) (s.rd (bookFld false b) n + k) n
  let s := s.wr (bookFld true a) (s.rd (bookFld true a) - k)
  s.wr (bookFld true b) (s.rd (bookFld true b) + k)

/-- A count field of Pn raised or lowered. -/
def State.bump (s : State) (f : Fld) (n : Nat) (up : Bool) (k : Nat := 1) : State :=
  s.wr f (if up then s.rd f n + k else s.rd f n - k) n

/-! ## Journal -/

/-- Journal entries of all partitions. -/
def State.journalUsed (s : State) : Nat := (s.serve.map (fun e => e.2.journal.length)).sum

/-- An edit enters Pn's journal. -/
def State.enter (s : State) (n : Nat) (e : JEdit) : State :=
  let s := s.updSrv n (fun x => { x with journal := x.journal ++ [e] })
  s.wr F.PAGE_TRANSIT_journal_peak (max (s.rd F.PAGE_TRANSIT_journal_peak) s.journalUsed)

/-- The row's journal entries of Pn that allocate it. -/
def allocOf (j : List JEdit) (row : Nat) : Option (Nat × Nat) :=
  j.findSome? (fun e => match e.edit with | .alloc x r k => if r = row then some (x, k) else none | _ => none)

def evictedIn (j : List JEdit) (row : Nat) : Bool :=
  j.any (fun e => match e.edit with | .evict _ r _ => decide (r = row) | _ => false)

def droppedIn (j : List JEdit) (row : Nat) : Bool :=
  j.any (fun e => match e.edit with | .drop r _ => decide (r = row) | _ => false)

/-- The book in which a row's pages stand: the visible state, moved by the journal's ALLOC and EVICT (Table 10.6). -/
def State.bookState (s : State) (n row : Nat) : Nat :=
  let j := (s.srv n).journal
  if evictedIn j row then 3 else if (allocOf j row).isSome then 1 else (s.page row).st

/-- Whether a page is pinned (R259): a step of its partition is in flight, and its slot is in the step or its row was allocated
for the step. -/
def State.pinned (s : State) (n p : Nat) : Bool :=
  match (s.srv n).step with
  | none => false
  | some st =>
    match s.rowOf n p with
    | none => false
    | some h => ((s.page h).st = 1 && st.segs.any (fun g => g.slot = (s.page h).slot)) || (allocOf (s.srv n).journal h).isSome

/-- A DROP of the row that holds a page (R271); one DROP stands for a row. A page already RECOMPUTE_PENDING is written to zero and
causes no further drop. -/
def State.dropPage (s : State) (n p : Nat) (named : Bool) : State :=
  match s.rowOf n p with
  | none => s
  | some h =>
    let zero := fun s : State => match s.frame p with
      | some (pc, off) => s.zeroWhere (fun a => decide (2 * 2 ^ 60 + pc * 2 ^ 48 + off ≤ a ∧ a < 2 * 2 ^ 60 + pc * 2 ^ 48 + off + 66560))
      | none => s
    if (s.page h).st = 3 then zero s
    else if droppedIn (s.srv n).journal h then
      (if named then s.updSrv n (fun x => { x with journal := x.journal.map (fun e => match e.edit with
        | .drop r none => if r = h then { e with edit := .drop r (some p) } else e
        | _ => e) }) else s)
    else
      let pin := s.pinned n h
      let s := s.enter n { edit := .drop h (if named then some p else none), deferred := pin }
      if pin then s.setPage p { s.page p with deferred := true } else s

/-! ## Scores (R266 to R268) -/

/-- s_eff of a score at an epoch (R267). -/
def effScore (pg : Page) (epoch halfLife : Nat) : Nat :=
  let d := (epoch + 2 ^ 16 - pg.sEpoch) % 2 ^ 16
  let sh := d / max halfLife 1
  if 16 ≤ sh then 0 else pg.score >>> sh

/-- An FP32 function of the fabric that is not a lane instruction uses the same operations (R82). -/
def expDiff (m mg : W32) : W32 := fExp (fSub 0 m mg)

/-- The draw of each row of a slot at a commit (R266): shares by group, credited to row heads, over the number of groups with a
defined normaliser. -/
def drawsOf (norms : List Norm) (masses : List (Nat × Mass)) (slot : Nat) : List (Nat × W32) :=
  let mine := norms.filter (fun r => r.slot = slot)
  let groups := (mine.map (fun r => (r.layer, r.head))).dedup
  let stats := groups.map (fun g =>
    let rs := mine.filter (fun r => (r.layer, r.head) = g)
    let mg := (rs.map (·.m)).foldl fMax (roundF 0 (.inf true))
    let lg := (rs.map (fun r => fMul 0 r.l (expDiff r.m mg))).foldl (fAdd 0) 0#32
    (g, mg, lg))
  let good := stats.filter (fun x => match decF x.2.2 with | .num n m _ => !n && m != 0 | _ => false)
  let shares := masses.filterMap (fun hm =>
    match good.find? (fun x => x.1 = (hm.2.layer, hm.2.head)) with
    | some x => some (hm.1, fDiv (fMul 0 hm.2.ps (expDiff hm.2.pm x.2.1)) x.2.2)
    | none => none)
  let gx := roundF 0 (.num false good.length 0)
  (shares.map (·.1)).dedup.map (fun h =>
    (h, fDiv (((shares.filter (fun p => p.1 = h)).map (·.2)).foldl (fAdd 0) 0#32) gx))

/-- A new score from a draw (R267). -/
def newScore (eff : Nat) (a : W32) (ema : Nat) : Nat :=
  let aq : Int := toIntClamp 0 0 65535 (FV.mul (decF a) (.num false 65535 0))
  ((eff : Int) + (aq - eff) / ((2 ^ ema : Nat) : Int)).toNat % 65536

/-- The scores of a commit to epoch E: rows that drew attention, rows kept by the commit, and every 16,384 advances all rows. -/
def State.scoreCommit (s : State) (n epoch : Nat) (st : Step) (kept : List Nat) : State :=
  let pol := (s.srv n).policy
  let half := bits pol 27 16
  let ema := bits pol 31 28
  let s := kept.foldl (fun s h => s.setPage h { s.page h with score := bits pol 15 0, sEpoch := epoch % 2 ^ 16 }) s
  st.segs.foldl (fun s g =>
    let masses := st.masses.filterMap (fun m =>
      match s.rowOf n m.page with
      | some h => if (s.page h).st = 1 ∧ (s.page h).slot = g.slot then some (h, m) else none
      | none => none)
    (drawsOf st.norms masses g.slot).foldl (fun s ha =>
      let pg := s.page ha.1
      s.setPage ha.1 { pg with score := newScore (effScore pg epoch half) ha.2 ema, sEpoch := epoch % 2 ^ 16 }) s) s

/-- Every 16,384 advances, every row head of Pn is rewritten with s_eff (R267). -/
def State.rescore (s : State) (n epoch : Nat) : State :=
  let half := bits (s.srv n).policy 27 16
  (s.slotsOf n).foldl (fun s x => (s.slot x).rows.foldl (fun s h =>
    let pg := s.page h
    s.setPage h { pg with score := effScore pg epoch half, sEpoch := epoch % 2 ^ 16 }) s) s

/-! ## The edits of an advance (Table 10.5) -/

/-- Every page of a row returns to FREE from the book in which it stands (R260). -/
def State.freeRow (s : State) (n row : Nat) : State :=
  let b := s.bookState n row
  let s := (s.setRow n row {}).moveBook n b 0 (s.layers n)
  s.bump F.PAGE_PSTAT_rows_free n true

/-- R258: an edit that would free or drop a page that is not ALLOCATED to the named slot. -/
def State.doubleFree (s : State) : State :=
  (((s.inc F.PAGE_ANOMALY_double_free).setB F.PAGE_EVENT_anomaly).record Src.pageStore 1 1 false false).1

/-- Order 1. -/
def State.doLen (s : State) (e : JEdit) : State :=
  match e.edit with
  | .len x v => s.updSlot x (fun t => { t with len := v, most := max t.most v })
  | _ => s

/-- Order 2: an allocated row joins the list, unless the step is discarded or its first position is at or above the new len; a
row that a DROP names waits for it (R265, R257, R271). -/
def State.doAlloc (s : State) (n : Nat) (commit : Bool) (j : List JEdit) (e : JEdit) : State :=
  match e.edit with
  | .alloc x row k =>
    if droppedIn j row then s
    else if commit ∧ k * s.tpp n < (s.slot x).len then
      (s.setRow n row { st := 1, slot := x, lpn := k }).updSlot x (fun t => { t with rows := t.rows ++ [row] })
    else
      let s := (s.moveBook n 1 0 (s.layers n)).bump F.PAGE_PSTAT_rows_free n true
      if commit then s.inc F.PAGE_PCOUNT_spec_rows_returned n else s
  | _ => s

/-- Order 3 (R271): the row goes to zero-and-check, later rows of its slot return to FREE, len falls to the row's first
position. A row in neither the list nor the step is R258's. -/
def State.doDrop (s : State) (n : Nat) (j : List JEdit) (e : JEdit) : State :=
  match e.edit with
  | .drop row named =>
    let pg := s.page row
    let alloc := allocOf j row
    if pg.st = 3 then s
    else if pg.st ≠ 1 ∧ alloc.isNone then s.doubleFree
    else
      let x := match alloc with | some a => a.1 | none => pg.slot
      let k := match alloc with | some a => a.2 | none => pg.lpn
      let later := (s.slot x).rows.filter (fun h => h ≠ row && decide (k < (s.page h).lpn))
      let b := if evictedIn j row then 3 else 1
      let s := (s.moveBook n b 3 (s.layers n)).setRow n row ({ st := 3, cause := 2, slot := x, lpn := k } : Page)
      let s := s.inc F.PAGE_PCOUNT_error_rows n
      let z : ZRow := { part := n, head := row, named := named }
      let s := { s with pages := { s.pages with zero := s.pages.zero ++ [z] } }
      let s := later.foldl (fun s h => s.freeRow n h) s
      s.updSlot x (fun t => { t with rows := t.rows.filter (fun h => h ≠ row && !later.contains h), len := min t.len (k * s.tpp n) })
  | _ => s

/-- Order 4: every remaining row of the list returns to FREE. -/
def State.doFreeList (s : State) (n : Nat) (e : JEdit) : State :=
  match e.edit with
  | .freeList x =>
    let s := (s.slot x).rows.foldl (fun s h => s.freeRow n h) s
    s.updSlot x (fun t => { t with rows := [], len := 0, emptied := true })
  | _ => s

/-- Order 5 (R269, R270): the evicted row leaves the list. -/
def State.doEvict (s : State) (n : Nat) (e : JEdit) : State :=
  match e.edit with
  | .evict x row k =>
    if (s.slot x).rows.contains row then
      (s.freeRow n row).updSlot x (fun t => { t with rows := t.rows.filter (fun h => h ≠ row), len := min t.len (k * s.tpp n) })
    else if (s.page row).st = 0 ∨ (s.page row).st = 3 then s
    else s.doubleFree
  | _ => s

/-- Causes that keep a row from being used. -/
def Page.bad (x : Page) : Bool := decide (x.st = 2 ∧ (x.cause = 2 ∨ x.cause = 4 ∨ x.cause = 5))

/-- Order 6: QUARANTINE withholds a FREE page, and its row with it; RELEASE returns a FAILED or FIRMWARE page, and its row once
no page of it is withheld for another cause (Table 10.6). -/
def State.doQuar (s : State) (n : Nat) (e : JEdit) : State :=
  match e.edit with
  | .quarantine p =>
    if (s.page p).st = 2 then s
    else match s.rowOf n p with
      | some h =>
        if s.rowIs n h 0 then
          let s := ((s.setRow n h { st := 2, cause := 3 }).setPage p { st := 2, cause := 5 }).moveBook n 0 2 (s.layers n)
          (s.bump F.PAGE_PSTAT_rows_free n false).bump F.PAGE_PSTAT_rows_usable n false
        else s
      | none => (s.setPage p { st := 2, cause := 5 }).moveBook n 0 2 1
  | .release p =>
    if (s.page p).st = 0 then s
    else if (s.serving n).isNone then (s.setPage p {}).moveBook n 2 0 1
    else match s.rowOf n p with
      | some h =>
        if (s.rowPages n h).all (fun q => q = p || !(s.page q).bad) then
          let s := (s.setRow n h {}).moveBook n 2 0 (s.layers n)
          (s.bump F.PAGE_PSTAT_rows_free n true).bump F.PAGE_PSTAT_rows_usable n true
        else s.setPage p { st := 2, cause := 3 }
      | none => s.setPage p { st := 2, cause := 3 }
  | _ => s

/-- PAGE_CMD completes at its partition's advance. -/
def State.pageCmdDone (s : State) (n : Nat) : State :=
  if s.pages.cmd = some n then
    let s := { s with pages := { s.pages with cmd := none } }
    ((s.wr F.PAGE_CMD_STATUS_busy 0).wr F.PAGE_CMD_STATUS_result 1).setB F.PAGE_EVENT_cmd_done
  else s

/-- An advance of Pn (R256, R257): the journal in the order of Table 10.5, scores of a commit, then the epoch; caches and the
dropped-page memory are emptied and accepted policy values take effect. A step in flight ends with it. -/
def State.advance (s : State) (n : Nat) (commit : Bool) : State :=
  let sv := s.srv n
  let j := sv.journal
  let s := if commit then j.foldl (fun s e => s.doLen e) s else s
  let fresh := j.filterMap (fun e => match e.edit with | .alloc _ r _ => some r | _ => none)
  let s := j.foldl (fun s e => s.doAlloc n commit j e) s
  let kept := fresh.filter (fun r => (s.page r).st = 1)
  let s := j.foldl (fun s e => s.doDrop n j e) s
  let s := j.foldl (fun s e => s.doFreeList n e) s
  let s := j.foldl (fun s e => s.doEvict n e) s
  let s := j.foldl (fun s e => s.doQuar n e) s
  let s := j.foldl (fun s e => match e.edit with
    | .drop _ (some p) => if e.deferred then (if (s.page p).st = 3 then s.setPage p { s.page p with deferred := false } else s) else s
    | .quarantine p | .release p => if e.deferred then s.setPage p { s.page p with deferred := false } else s
    | _ => s) s
  let epoch := (s.rd F.PAGE_EPOCH_epoch n + 1) % 2 ^ 32
  let s := match sv.step with
    | some st => if commit then s.scoreCommit n epoch st (kept.filter (fun r => (s.page r).st = 1)) else s
    | none => s
  let adv := sv.advances + 1
  let s := if adv % 16384 = 0 then s.rescore n epoch else s
  let s := if (s.serving n).isSome then s.wr F.PAGE_EPOCH_epoch epoch n else s
  let s := s.updSrv n (fun x => { x with
    journal := [], step := none, droppedPages := [], advances := adv, policy := s.rdRaw .PAGE_POLICY n })
  s.pageCmdDone n

end Sys2Proof.Machine
end

