-- ==== Sys2Proof/Machine/StepOps.lean ====
section
/-! DEFINITION. Discarding the step or invocation in flight of a partition, and stopping its clusters. -/

namespace Sys2Proof.Machine

def State.setFabric (s : State) (f : Fabric → Fabric) : State := { s with fabric := f s.fabric }

/-- Pn's clusters stop at the next instruction boundary: its launches end, their stream commands with them (R472, R49); its Vetiver
queries are discarded with the step (R245), and halted units are released (Table 23.6). -/
def State.stopClusters (s : State) (n : Nat) : State :=
  let s := { s.releaseUnits n with stk := { s.stk with queries := s.stk.queries.filter (fun q => q.part ≠ n) } }
  s.setFabric (fun f => { f with
    runs := f.runs.filter (fun e => e.2.part ≠ n)
    queues := (f.queues.map (fun e => (e.1, e.2.filter (fun c => c.part ≠ n)))).filter (fun e => e.2 ≠ []) })

/-- The slots of a step return from PREFILL to QUEUED where it was composed from QUEUED (R283). -/
def State.requeue (s : State) (st : Step) : State :=
  st.segs.foldl (fun s g => if g.queued && (s.slot g.slot).state = 2 then s.updSlot g.slot (fun x => { x with state := 1 }) else s) s

/-- A slot whose final record is written and whose list is empty is FREE; one whose len fell is in PREFILL (Table 11.5). -/
def State.afterAdvance (s : State) (n : Nat) : State :=
  (s.slotsOf n).foldl (fun s x =>
    let v := s.slot x
    if v.state = 5 && v.recorded && v.emptied then
      s.setSlot x { v with state := 0, cancel := false, pause := false, recorded := false, emptied := false, listed := false, drafts := [] }
    else if v.state = 3 && decide (v.len < v.known - 1) then s.setSlot x { v with state := 2 } else s) s

/-- A discarded step counts (Tables 23.1 and 23.2). -/
def State.stepDiscarded (s : State) (n : Nat) : State := (s.count n 0x0D 1).tally (488 + n) 1

/-- The step or invocation in flight of Pn is discarded without commit (R257, R295): its ALLOC edits go, standing edits apply, and
its launches end. -/
def State.discardStep (s : State) (n : Nat) : State :=
  let s := s.stopClusters n
  match (s.srv n).step with
  | none => s
  | some st => (((s.requeue st).stepDiscarded n).advance n false).afterAdvance n |>.updSrv n (fun x => { x with again := true })

/-- No repeated run of Pn is under way any more. -/
def State.clearReruns (s : State) (n : Nat) : State := { s with reruns := Tab.set {} s.reruns n {} }

/-- Whether a non-FREE request slot names a ring as its completion ring (Table 12.9). -/
def State.slotNamesRing (s : State) (r : Nat) : Bool :=
  (s.slotsOf (s.ringOwner r)).any (fun x => (s.slot x).state ≠ 0 && decide ((s.slot x).ring = r))

end Sys2Proof.Machine
end

