-- ==== Sys2Proof/Machine/FaultOps.lean ====
section
/-! DEFINITION. An event with all it sets off, and the stop of a partition (R472). Every meaning that reports an event calls
`State.event`. -/

namespace Sys2Proof.Machine

/-! ## Partition stop -/

/-- LOADED and not already stopped (R472). -/
def State.canStop (s : State) (n : Nat) : Bool := decide (s.pstate n = 2) && !s.stopped n

/-- What a stop does to Pn apart from its STOP_Pn event (R472). -/
def State.stopEffects (s : State) (n : Nat) : State :=
  let s := (s.discardStep n).stopClusters n
  ((s.wr F.WIMG_STATUS_run_state 3 n).setB F.WIMG_EVENT_stopped n).wr F.REDUN_CTRL_ready 0

/-- One event with all it sets off. A FATAL event clears ready, gives up the lease and stops every LOADED partition other
than P0, each of which records MODULE_FATAL (R472, R486, R490). The number bounds how often stops may follow stops; every stop
leaves one partition fewer to stop, so sixteen suffice. -/
def State.eventFuel : Nat → State → Nat → Nat → Nat → Bool → Bool → State
  | 0, s, i, detail, base, inj, persist => (s.record i detail base inj persist).1
  | k + 1, s, i, detail, base, inj, persist =>
    let r := s.record i detail base inj persist
    if r.2 = 5 then
      let s := (r.1.wr F.REDUN_CTRL_ready 0).giveUpLease
      (List.range 16).foldl (fun s n =>
        if n ≠ 0 && s.canStop n then State.eventFuel k (s.stopEffects n) (Src.stop n) 11 4 false true else s) s
    else r.1

/-- The sources whose event, at a level given (injected events, R478). -/
def State.eventAt (s : State) (i detail level : Nat) (inj persist : Bool) : State :=
  State.eventFuel 16 s i detail level inj persist

/-- An event is reported to a source (R465); `persist` when its condition lasts (R470). -/
def State.event (s : State) (i detail : Nat) (persist : Bool := false) : State :=
  s.eventAt i detail (baseLevel i detail) false persist

/-- A partition stops with a cause of Table 19.3, when it can (R472). -/
def State.stopPartition (s : State) (n cause : Nat) : State :=
  if s.canStop n then State.eventFuel 16 (s.stopEffects n) (Src.stop n) cause 4 false true else s

/-- A note on the access-error source of a space (R9, R44, R595). -/
def State.accessNote (s : State) (sp : Space) : State :=
  match sp with
  | .hcs => s.event Src.accessHcs 1
  | .dcs d => s.event (Src.accessDcs d.val) 1
  | .bcs m => s.event (Src.accessBcs m.val) 1

end Sys2Proof.Machine
end

