-- ==== Sys2Proof/Machine/Faults.lean ====
section
/-! DEFINITION. The commands of the fault registers and of the Amber log (R469, R470, R477, R478). -/

namespace Sys2Proof.Machine

/-- A register access by a master that may make it takes effect; any other records a note (R44) and has none. -/
def guardHcs (ok : Bool) (s : State) (f : State → State) : Res := .next (if ok then f s else s.accessNote .hcs)

/-- FAULT_N follows fault_n_low once the pulse is over (R469). -/
def State.pulseOver (s : State) : State :=
  ({ s.wr F.FAULT_CTRL_pulse 0 with faults := { s.faults with pulseEnd := 0 } }).faultPin

/-- R469: the pulse ends 10 ms after the latest SEVERE or FATAL event. -/
def execFaultNPulseEnd (s : State) : Res :=
  if s.rdB F.FAULT_CTRL_pulse then .next (s.advanceTo s.faults.pulseEnd).pulseOver else .next s

/-- The result of a FAULT_CMD. -/
def State.faultCmd (s : State) (result reason : Nat) : State :=
  (s.wr F.FAULT_CMD_STATUS_result result).wr F.FAULT_CMD_STATUS_reason reason

/-- R470: ACK clears pending; a reserved source is refused with RANGE. -/
def execFaultAck (m : Master) (i : SourceId) (s : State) : Res :=
  guardHcs (s.isOperator m) s fun s =>
    if 106 ≤ i.val then s.faultCmd 3 3 else (s.wr F.FAULT_SRC_STATUS_pending 0 i.val).faultCmd 1 0

/-- A source returns to NONE: its window count is zero and its window closed (R470). -/
def State.clearSource (s : State) (i : Nat) : State :=
  let s := (s.wr F.FAULT_SRC_STATUS_level 0 i).wr F.FAULT_SRC_STATUS_window_count 0 i
  let s := s.wr F.FAULT_SRC_STATUS_events 0 i
  { s with faults := { s.faults with windows := Tab.set 0 s.faults.windows i 0 } }

/-- R470: CLEAR is accepted when pending and cause_active are 0, and refused with its reason otherwise. -/
def execFaultClear (m : Master) (i : SourceId) (s : State) : Res :=
  guardHcs (s.isOperator m) s fun s =>
    if 106 ≤ i.val then s.faultCmd 3 3
    else if s.rdB F.FAULT_SRC_STATUS_pending i.val then (s.inc F.FAULT_SUMMARY_clear_refused).faultCmd 3 2
    else if s.rdB F.FAULT_SRC_STATUS_cause_active i.val then (s.inc F.FAULT_SUMMARY_clear_refused).faultCmd 3 1
    else (s.clearSource i.val).faultCmd 1 0

/-- R470: ACK_ALL acknowledges every source. -/
def execAckAll (m : Master) (s : State) : Res :=
  guardHcs (s.isOperator m) s fun s =>
    ((List.range 106).foldl (fun s i => s.wr F.FAULT_SRC_STATUS_pending 0 i) s).faultCmd 1 0

/-- R478: in FACTORY (lifecycle 0) a write of go presents count events, one per us, unless source is reserved, level lies
outside 1 to 5 or count is 0. In every other lifecycle state the write has no effect. -/
def execFaultInject (m : Master) (v : W64) (s : State) : Res :=
  guardHcs (s.isOperator m) s fun s =>
    if s.rd F.SEC_STATE_lifecycle ≠ 0 then s
    else
      let w := v.toNat
      let s := s.applyWrite .FAULT_INJECT w 0 0
      let src := bits w 55 48
      let lvl := bits w 47 45
      let cnt := bits w 44 29
      if bit w 63 && decide (src < 106 ∧ 1 ≤ lvl ∧ lvl ≤ 5 ∧ cnt ≠ 0) then
        { s with faults := { s.faults with inject := s.faults.inject ++ [⟨src, lvl, bits w 12 0, cnt, s.clk⟩] } }
      else s

/-- R478: the next injected event passes through R467 to R477 with injected set; the next of its injection follows 1 us
later. -/
def execInjectedEvent (s : State) : Res :=
  match s.faults.inject with
  | [] => .next s
  | j :: rest =>
    let s := s.advanceTo j.due
    let again := if 1 < j.left then rest ++ [{ j with left := j.left - 1, due := j.due + 1000 }] else rest
    .next ({ s with faults := { s.faults with inject := again } }.eventAt j.source j.detail j.level true false)

/-- R477: a write of AMBER_IDX with clear empties every slot and zeroes lost; index takes its value with it. -/
def execAmberLogClear (m : Master) (v : W64) (s : State) : Res :=
  guardHcs (s.isOperator m) s fun s =>
    let s := s.applyWrite .AMBER_IDX v.toNat 0 0
    if bit v.toNat 63 then (s.bbsZero 0x800 2048).wr F.AMBER_STATE_lost 0 else s

end Sys2Proof.Machine
end

