-- ==== Sys2Proof/Machine/RingOps.lean ====
section
/-! DEFINITION. The shared operations of rings: indices, entries that the module writes, their interrupts, the progress of
entries in flight, and reset (R307 to R328, R599). -/

namespace Sys2Proof.Machine

def State.ring (s : State) (r : Nat) : Ring := Tab.get {} s.rings r
def State.setRing (s : State) (r : Nat) (x : Ring) : State := { s with rings := Tab.set {} s.rings r x }
def State.updRing (s : State) (r : Nat) (f : Ring → Ring) : State := s.setRing r (f (s.ring r))

/-- The state of a ring: 0 DISABLED, 1 RUNNING, 2 PAUSED, 3 DRAINING, 4 RESETTING, 5 FENCED. -/
def State.ringState (s : State) (r : Nat) : Nat := s.rd F.RING_STATE_state r
def State.ringKind (s : State) (r : Nat) : Nat := s.rd F.RING_STATE_kind r
def State.ringPi (s : State) (r : Nat) : Nat := s.rd F.RING_PI_pi r
def State.ringCi (s : State) (r : Nat) : Nat := s.rd F.RING_CI_ci r

/-- (PI − CI) mod 2^32: the entries of a ring between producer and consumer (R311). -/
def State.ringFilled (s : State) (r : Nat) : Nat := (s.ringPi r + 2 ^ 32 - s.ringCi r) % 2 ^ 32

/-- free = size − filled − reserved (R325). -/
def State.ringFree (s : State) (r : Nat) : Nat :=
  (s.ring r).desc.size - s.ringFilled r - s.rd F.RING_COUNT_reserved r

/-- The DDR4 address of entry i mod size. -/
def State.entryAt (s : State) (r i : Nat) : Nat := (s.ring r).desc.base + 64 * (i % max (s.ring r).desc.size 1)

/-- A ring interrupt: the ring number joins the queue of the core that irq_core names, or is lost with overflow set when 64
wait (R328, R544). -/
def State.ringIrq (s : State) (r : Nat) : State :=
  let s1 := s.updRing r (fun x => { x with unsig := 0, firstAt := 0 })
  match (s.coresOf (s.ringOwner r))[(s.ring r).desc.irqCore]? with
  | none => s1
  | some c =>
    let q := Tab.get [] s1.irqs c
    if q.length < 64 then { s1 with irqs := Tab.set [] s1.irqs c (q ++ [r]) } else s1.setB F.SC_IRQ_overflow c

/-- An entry has been written: it counts towards the ring's interrupt (R328). -/
def State.signal (s : State) (r : Nat) (counts : Bool) : State :=
  if counts then
    let s := s.updRing r (fun x => { x with unsig := x.unsig + 1, firstAt := if x.unsig = 0 then s.clk else x.firstAt })
    if (s.ring r).unsig = max (s.ring r).desc.irqCount 1 then s.ringIrq r else s
  else s

/-- The common completion head (Table 12.4) of the entry at index i. -/
def recordHead (size i : Nat) (w : WaitRec) : List Byte :=
  leBytes 8 (w.status % 256 + 2 ^ 8 + w.kind % 16 * 2 ^ 12 + w.srcRing % 4096 * 2 ^ 16 +
    ofBool (i / max size 1 % 2 = 0) * 2 ^ 31 + w.srcIndex % 2 ^ 32 * 2 ^ 32)

/-- Whether a module producer may write an entry in this state of the ring (R599). -/
def State.ringWritable (s : State) (r : Nat) : Bool :=
  decide (s.ringState r = 1 ∨ s.ringState r = 2 ∨ s.ringState r = 3)

/-- The entry at PI is written: bytes 0x08 to 0x3F, then the head, then PI advances (R312). When its 256-byte unit holds an
uncorrectable word, nothing moves: write_blocked is set and the record stays with its producer (R599). Answers whether it was
written. -/
def State.writeEntry (s : State) (r : Nat) (w : WaitRec) : State × Bool :=
  let i := s.ringPi r
  let a := s.entryAt r i
  if s.blockedUnit a 64 then
    ((s.setB F.RING_STATE_write_blocked r).updRing r (fun x => { x with blocked := s.clk + 100000 }), false)
  else
    let body := slice w.body 0 56
    let s := (s.ddrPut (a + 8) body).ddrPut a (recordHead (s.ring r).desc.size i w)
    let s := (s.wr F.RING_STATE_write_blocked 0 r).updRing r (fun x => { x with blocked := 0 })
    ((s.incWrap F.RING_PI_pi r).signal r w.interrupt, true)

/-- A producer that does not reserve writes only into an entry that is neither filled nor reserved (R322, R599). Answers
whether the record was written; a record that was not stays with its producer. -/
def State.produce (s : State) (r : Nat) (w : WaitRec) : State × Bool :=
  if s.ringWritable r && decide (0 < s.ringFree r) then s.writeEntry r w else (s, false)

/-- The record of a finished SUBMIT entry (Table 12.8). -/
def flightRecord (r : Nat) (f : Flight) : WaitRec where
  status := f.status
  kind := 0
  srcRing := r
  srcIndex := f.index
  body := slice f.bytes 8 8 ++ leBytes 8 f.moved ++ leBytes 8 f.doneTime ++ leBytes 8 f.faultAddr
  interrupt := ! f.fetchOk || bit (leAt f.bytes 2 2) 3

/-- Record mode of an entry: 0 ALWAYS, 1 ON_ERROR, 2 NONE; a failed fetch counts as ALWAYS (R322). -/
def Flight.mode (f : Flight) : Nat := if f.fetchOk then leAt f.bytes 2 2 % 4 else 0

/-- Success in the Class column of Table 12.5. -/
def statusOk (st : Nat) : Bool := decide (st < 4)

/-- Whether a finished entry's record is written: ALWAYS, ON_ERROR on failure; a reserved mode is taken as ALWAYS. -/
def Flight.records (f : Flight) : Bool :=
  f.mode = 0 || f.mode = 3 || (f.mode = 1 && ! statusOk f.status)

/-- A failure at step 1 or 2 of R319 pauses the ring; link and read failures do not (R320). -/
def Flight.stops (f : Flight) : Bool := f.status = 0x10 || f.status = 0x11

/-- A reservation on a completion ring is released. -/
def State.unreserve (s : State) (r : Nat) : State :=
  s.wr F.RING_COUNT_reserved (s.rd F.RING_COUNT_reserved r - 1) r

/-- The ring pauses with a cause (R319, R326). -/
def State.pauseRing (s : State) (r cause : Nat) : State :=
  (s.wr F.RING_STATE_state 2 r).wr F.RING_STATE_cause cause r

/-- A window's pending command finishes: cmd_done, and DONE in RING_STATUS when it is still the last command (R326). -/
def State.ringCmdDone (s : State) (r : Nat) : State :=
  let x := s.ring r
  if x.op = 0 then s
  else
    let n := x.window
    let s := s.updRing r (fun x => { x with op := 0 })
    let s := s.setB F.RING_EVENT_cmd_done n
    if s.rd F.RING_STATUS_ring n = r ∧ s.rd F.RING_STATUS_result n = 2 then s.wr F.RING_STATUS_result 1 n else s

/-- What follows once entries have retired: an error pause whose turn has come, the end of a PAUSE, the end of a DRAIN
(R319, R326). -/
def State.settleRing (s : State) (r : Nat) : State :=
  let x := s.ring r
  if x.flights ≠ [] then s
  else if x.errCause ≠ 0 then
    let s := (s.pauseRing r x.errCause).setB F.RING_EVENT_ring_paused (s.ringOwner r)
    (s.wr F.RING_STATE_drained 0 r).updRing r (fun x => { x with errCause := 0, stopping := false, drainTo := none, op := 0 })
  else if x.stopping then
    ((s.pauseRing r 1).updRing r (fun x => { x with stopping := false })).ringCmdDone r
  else match x.drainTo with
    | some p =>
      if s.rd F.RING_STATE_fetch r = p then
        (((s.pauseRing r 1).setB F.RING_STATE_drained r).updRing r (fun x => { x with drainTo := none })).ringCmdDone r
      else s
    | none => s

/-- The entries at the head of a SUBMIT ring that have finished retire in ring order: the record is written into the
reservation, CI and in_flight follow; a record that cannot be written holds back the rest (R316, R599). An entry that failed
its format or access check pauses the ring once every earlier entry has retired (R319). -/
def State.retire : Nat → State → Nat → State
  | 0, s, _ => s
  | k + 1, s, r =>
    let x := s.ring r
    match x.flights with
    | [] => s.settleRing r
    | f :: rest =>
      if f.stage ≠ .finished then s.settleRing r
      else
        let q := x.desc.pair
        let step := fun s : State =>
          let err := fun e => if f.stops then f.status - 0x10 + 2 else e
          let s := s.updRing r (fun y => { y with flights := rest, errCause := err y.errCause })
          let s := (s.incWrap F.RING_CI_ci r).wr F.RING_STATE_in_flight rest.length r
          State.retire k s r
        if f.records then
          if f.reserved then
            let w := if s.ringWritable q then s.writeEntry q (flightRecord r f) else (s, false)
            if w.2 then step (w.1.unreserve q) else w.1
          else step s
        else step (if f.reserved then s.unreserve q else s)

/-- Entries retire as far as they can. -/
def State.retireAll (s : State) (r : Nat) : State := s.retire 9 r

/-- One entry of a ring's flights changed. -/
def State.updFlight (s : State) (r i : Nat) (f : Flight → Flight) : State :=
  s.updRing r (fun x => { x with flights := x.flights.map (fun y => if y.index = i then f y else y) })

/-- An entry finishes with a status, the bytes it wrote and the first address that failed (R321). -/
def State.finishFlight (s : State) (r i status moved fault : Nat) : State :=
  s.updFlight r i (fun f =>
    { f with stage := .finished, status := status, moved := moved, faultAddr := fault, doneTime := s.modTime })

/-- The count fields of a ring return to zero (CREATE, RESET). -/
def State.zeroCounts (s : State) (r : Nat) : State :=
  ((s.wr F.RING_COUNT_drops 0 r).wr F.RING_COUNT_reserved 0 r).wr F.RING_COUNT_doorbell_errors 0 r

/-- Entries in flight stop and give no record; the reservations they hold are released (R326, R327). -/
def State.dropFlights (s : State) (r : Nat) : State :=
  let x := s.ring r
  let s := (x.flights.foldl (fun s f => if f.reserved then s.unreserve x.desc.pair else s) s).cancelLinks r
  (s.wr F.RING_STATE_in_flight 0 r).updRing r
    (fun y => { y with flights := [], errCause := 0, stopping := false, drainTo := none })

/-- Every entry of the ring is written to zero and both indices are set to 0. -/
def State.zeroRing (s : State) (r : Nat) : State :=
  let d := (s.ring r).desc
  let s := s.zeroWhere (fun a => decide (ddr d.base ≤ a ∧ a < ddr (d.base + 64 * d.size)))
  let s := { s with
    badUnits := s.badUnits.filter (fun u => ! decide (d.base ≤ u * 256 ∧ u * 256 + 256 ≤ d.base + 64 * d.size)),
    badRecord := s.badRecord.filter (fun u => ! decide (d.base ≤ u * 256 ∧ u * 256 + 256 ≤ d.base + 64 * d.size)) }
  let s := ((s.wr F.RING_PI_pi 0 r).wr F.RING_CI_ci 0 r).wr F.RING_STATE_fetch 0 r
  s.updRing r (fun x => { x with unsig := 0, firstAt := 0, blocked := 0 })

/-- A ring becomes DISABLED. -/
def State.disableRing (s : State) (r : Nat) : State :=
  let s := s.dropFlights r
  let s := ((s.wr F.RING_STATE_state 0 r).wr F.RING_STATE_cause 0 r).wr F.RING_STATE_drained 0 r
  (s.wr F.RING_STATE_write_blocked 0 r).updRing r (fun x => { x with creating := false, op := 0, blocked := 0 })

/-- The rings of a partition's range, ascending. -/
def State.ringsOf (s : State) (n : Nat) : List Nat :=
  (List.range (s.part n).ringCount).map (fun k => (s.part n).ringFirst + k)

/-- Those of them that have been created: only these have a state to change. -/
def State.liveRings (s : State) (n : Nat) : List Nat :=
  (s.rings.map (·.1)).filter (fun r => s.ringOwner r = n)

/-- The fence of a removal (R327): every ring FENCED; a CREATE under way ends with STRUCTURE_CHANGED; pending commands end
unfinished. -/
def State.fenceRings (s : State) (n : Nat) : State :=
  (s.ringsOf n).foldl (fun s r =>
    let x := s.ring r
    let s := if x.creating then
        ((s.wr F.RING_STATUS_result 3 x.window).wr F.RING_STATUS_reason 9 x.window).wr F.RING_STATUS_busy 0 x.window else s
    let s := if x = {} then s else
      s.updRing r (fun y => { y with creating := false, op := 0, stopping := false, drainTo := none })
    s.wr F.RING_STATE_state 5 r) s

/-- The record of an ingress frame (R323): the frame goes into the buffer of entry PI, then the entry is written. A ring that is
full, PAUSED, DRAINING or FENCED drops the frame and counts it. -/
def State.ingress (s : State) (r port udp time received : Nat) (frame : List Byte) : State :=
  let d := (s.ring r).desc
  let drop := fun s : State => (s.inc F.RING_COUNT_drops r).setB F.RING_EVENT_ingress_drop (s.ringOwner r)
  if s.ringState r = 1 ∧ s.ringFilled r < d.size then
    let i := s.ringPi r
    let cap := 2 ^ d.bufLog2
    let buf := d.bufBase + i % max d.size 1 * cap
    let cut := frame.take cap
    if s.blockedUnit buf cut.length then drop s
    else
      let w : WaitRec := { status := if cap < frame.length then 0x13 else 0, kind := 2, srcRing := r, srcIndex := i
                           body := leBytes 4 cut.length ++ leBytes 4 received ++ leBytes 8 time ++ leBytes 8 buf ++
                             leBytes 1 port ++ [0#8] ++ leBytes 2 udp }
      let res := (s.ddrPut buf cut).writeEntry r w
      if res.2 then res.1 else drop res.1
  else drop s

end Sys2Proof.Machine
end

