-- ==== Sys2Proof/Machine/Ddr4Ops.lean ====
section
/-! DEFINITION. Uncorrectable DDR4 units and their record (R340, R341), shared by every reader of the tier. -/

namespace Sys2Proof.Machine

/-- A reader or the patrol meets a unit with an uncorrectable word at an address: it is counted, written to DDR4_ERR and
DDR4_ERR_ADDR and reported once, unless the unit is already on the record; a full record takes no further unit (R341). -/
def State.meetUnit (s : State) (a : Nat) : State :=
  let u := a / 256
  if s.badRecord.contains u then s
  else
    let s := if s.badRecord.length < 4096 then { s with badRecord := s.badRecord ++ [u] } else s
    let s := (s.inc F.DDR4_ERR_uncorrectable).wr F.DDR4_ERR_partition (s.granuleOwner (u / 2 ^ 22))
    let s := (s.wr F.DDR4_ERR_role (s.unitRole u)).setB F.DDR4_ERR_uncorrectable_event
    (s.wr F.DDR4_ERR_ADDR_addr (a / 16)).event Src.ddr4 2

/-- A reader meets the bad unit of an address in the form of kind 4. -/
def State.meetAt (s : State) (a : Nat) : State := if addrKind a = 4 then s.meetUnit (a % 2 ^ 38) else s

end Sys2Proof.Machine
end

