-- ==== Sys2Proof/Machine/VideoOps.lean ====
section
/-! DEFINITION. The shared operations of the video codec: sessions, RTP input (R400, R401), closing. -/

namespace Sys2Proof.Machine

def State.vid (s : State) (k : Nat) : VidSession := Tab.get {} s.video k
def State.setVid (s : State) (k : Nat) (x : VidSession) : State := { s with video := Tab.set {} s.video k x }
def State.vidState (s : State) (k : Nat) : Nat := s.rd F.VID_STATE_state k
def State.setVidState (s : State) (k v : Nat) : State := s.wr F.VID_STATE_state v k

/-- SYNC, RUN or REFUSED. -/
def State.vidOpened (s : State) (k : Nat) : Bool := decide (1 ≤ s.vidState k ∧ s.vidState k ≤ 3)

/-! ## Fields of a session descriptor (Table 16.7) -/

def VidSession.b (x : VidSession) (o n : Nat) : Nat := leAt x.desc o n
def VidSession.encodes (x : VidSession) : Bool := x.b 0 1 = 1
def VidSession.shares (x : VidSession) : Nat := x.b 3 1
def VidSession.rtp (x : VidSession) : Bool := !x.encodes && x.b 0xA 1 = 0
def VidSession.ring (x : VidSession) : Nat := x.b 0x18 2

/-! ## Closing (R415, R417) -/

/-- A session is CLOSED: its work goes without records, and the sessions that it absorbed are CLOSED. -/
def State.closeSession (s : State) (k : Nat) : State :=
  let x := s.vid k
  let s := (List.range (x.shares - 1)).foldl (fun s j => if s.vidState (k + 1 + j) = 4 then s.setVidState (k + 1 + j) 0 else s) s
  (s.setVid k {}).setVidState k 0

/-- Sessions of Pn drop their input and write nothing (R417). -/
def State.fenceVideo (s : State) (n : Nat) : State :=
  (ownedIn s.struct.image.video n).foldl (fun s k =>
    (s.setVid k { desc := (s.vid k).desc }).setVidState k 5) s

/-- The fenced sessions of Pn are closed. -/
def State.clearVideo (s : State) (n : Nat) : State :=
  (ownedIn s.struct.image.video n).foldl (fun s k => (s.setVid k {}).setVidState k 0) s

/-- Sessions that change owner at an APPLY are closed with their registers at reset (R396). -/
def State.applyVideo (s : State) (old new : Image) : State :=
  (List.range 80).foldl (fun s k =>
    if old.video.getD k 0xFF = new.video.getD k 0xFF then s else (s.closeSession k).rstReg .VID_STATE k) s

/-! ## RTP input (R400, R401, R411) -/

/-- Nanoseconds of a difference of RTP timestamps at 90 kHz. -/
def rtpNs (d : Nat) : Nat := d * 100000 / 9

/-- The unit that grows is complete. -/
def VidSession.endUnit (x : VidSession) : VidSession :=
  match x.cur with
  | some u => { x with cur := none, units := x.units ++ [u] }
  | none => x

/-- A packet joins its access unit; another timestamp or a marker ends one (R401). A new unit moves the prediction (R411). -/
def VidSession.take (x : VidSession) (p : RtpPkt) : VidSession :=
  let x : VidSession := match x.cur with | some u => if u.stamp = p.stamp then x else x.endUnit | none => x
  let x : VidSession := match x.cur with
    | some u => { x with cur := some { u with bytes := u.bytes ++ p.payload, lost := u.lost || x.lossDue }, lossDue := false }
    | none =>
      let pred := x.last.map (fun l => p.arrival + rtpNs ((p.stamp + 2 ^ 32 - l.2) % 2 ^ 32))
      { x with cur := some { arrival := p.arrival, stamp := p.stamp, bytes := p.payload, lost := x.lossDue }, lossDue := false
               last := some (p.arrival, p.stamp), predicted := pred }
  let x : VidSession := { x with nextSeq := some ((p.seq + 1) % 65536) }
  if p.marker then x.endUnit else x

/-- Packets leave the window in order; a gap is declared lost when `reorder` later packets have arrived, or at once with `force`. -/
def VidSession.drain : Nat → VidSession → Bool → VidSession
  | 0, x, _ => x
  | k + 1, x, force =>
    match x.window with
    | [] => { x with lossAt := 0 }
    | p :: rest =>
      if x.nextSeq = some p.seq then VidSession.drain k (VidSession.take { x with window := rest } p) force
      else if force ∨ x.b 0xF 1 ≤ x.window.length then
        VidSession.drain k (VidSession.take { x with window := rest, lossDue := true, cur := x.cur.map (fun u => { u with lost := true }) } p) false
      else x

/-- A packet takes its place in the window by its distance from the next sequence number. -/
def VidSession.hold (x : VidSession) (p : RtpPkt) (now : Nat) : VidSession :=
  let nx := x.nextSeq.getD p.seq
  let dist := fun q : RtpPkt => (q.seq + 65536 - nx) % 65536
  if 32768 ≤ dist p ∨ x.window.any (fun q => q.seq = p.seq) then x
  else
    let w := x.window.filter (fun q => dist q < dist p) ++ [p] ++ x.window.filter (fun q => dist p < dist q)
    let x := VidSession.drain (w.length + 1) { x with window := w, nextSeq := some nx } false
    if x.window ≠ [] ∧ x.lossAt = 0 then { x with lossAt := now } else x

/-- An RTP packet of a UDP payload: version, payload type, SSRC and the packet (RFC 3550; log). -/
def rtpParse (b : List Byte) (time : Nat) : Nat × Nat × Nat × RtpPkt :=
  let h := leAt b 0 1
  let m := leAt b 1 1
  let skip := 12 + 4 * (h % 16)
  let ext := if bit h 4 then 4 + 4 * beVal (slice b (skip + 2) 2) else 0
  let pad := if bit h 5 then (b.getLastD 0#8).toNat else 0
  let pay := (b.take (b.length - pad)).drop (skip + ext)
  (h / 64, m % 128, beVal (slice b 8 4),
    { seq := beVal (slice b 2 2), stamp := beVal (slice b 4 4), marker := bit m 7, arrival := time, payload := pay })

/-- A UDP payload for a port that an open RTP session of Pn is bound to goes to the codec (R376 step 3); a packet of another version,
payload type or SSRC is foreign (R400). -/
def State.videoFrame (s : State) (n udp : Nat) (payload : List Byte) (time : Nat) : Option State :=
  let k? := (List.range 64).find? (fun k => s.videoOwner k = n && s.vidOpened k && (s.vid k).rtp && (s.vid k).b 0xC 2 = udp)
  k?.map (fun k =>
    let x := s.vid k
    let p := rtpParse payload time
    if p.1 ≠ 2 ∨ p.2.1 ≠ x.b 0xE 1 ∨ (x.ssrc.any (fun v => v ≠ p.2.2.1)) ∨ payload.length < 12 then s.inc F.VID_STATE_foreign k
    else s.setVid k (VidSession.hold { x with ssrc := some p.2.2.1 } p.2.2.2 s.clk))

end Sys2Proof.Machine
end

