-- ==== Sys2Proof/Machine/Plant.lean ====
section
/-! DEFINITION. The commands of plant ports, time, plant output channels and check-value channels (R374 to R395). -/

namespace Sys2Proof.Machine

/-! ## Frames -/

/-- A frame delivered to Pn counts (Table 23.1). -/
def State.delivered (s : State) (n : Nat) : State := s.count n 0x13 1 ({ master := some 6, cls := some 6 } : EvAttr)

/-- A frame for a ring is delivered when the ring is valid and an INGRESS ring of Pn, else dropped as no_match (R376). -/
def State.toRing (s : State) (n k r : Nat) (valid : Bool) (udp time received : Nat) (bytes : List Byte) : State :=
  if valid && decide (s.ringOwner r = n ∧ s.ringKind r = 2 ∧ s.ringState r ≠ 0) then (s.delivered n).ingress r k udp time received bytes
  else s.inc F.PLANT_PORT_DROP_no_match k

/-- P0's default ring (R375). -/
def State.toDefault (s : State) (k udp time received : Nat) (bytes : List Byte) : State :=
  s.toRing 0 k (s.rd F.PLANT_DEFAULT_ring) (s.rdB F.PLANT_DEFAULT_valid) udp time received bytes

/-- How an INGRESS channel judges a UDP payload (R392): whether it is accepted, and the state with its counts. -/
def State.cvJudge (s : State) (c : Nat) (pay : List Byte) : State × Bool :=
  let algo := s.rd F.CV_CFG_algo c
  let tl := checkLen algo
  let aliveEn := s.rdB F.CV_CFG_alive_en c
  let off := s.rd F.CV_CFG_alive_offset c
  let body := pay.take (pay.length - tl)
  let idb := if s.rdB F.CV_CFG_data_id_en c then leBytes 4 (s.rd F.CV_DATA_ID_data_id c) else []
  let good := decide (tl ≤ pay.length) && (! aliveEn || decide (off + 2 ≤ body.length)) &&
    decide (checkValue algo (s.rd F.CV_INIT_init c) (s.rd F.CV_XOROUT_xorout c) (idb ++ body) = leVal (pay.drop (pay.length - tl)))
  if ! good then (s.inc F.CV_STAT_check_fail c, false)
  else if ! aliveEn then (s, true)
  else
    let cnt := leAt body off 2
    let ref := s.rd F.CV_STAT_alive c
    let first := ! (s.cvChan c).refSet
    let d := (cnt + 65536 - ref) % 65536
    let s := (s.wr F.CV_STAT_alive cnt c).setCv c { s.cvChan c with refSet := true }
    if first then (s, true)
    else if d = 0 then (s.inc F.CV_STAT_repeat c, false)
    else if d ≤ s.rd F.CV_CFG_max_gap c then (s, true)
    else (s.inc F.CV_STAT_gap c, false)

/-- The check-value channel of Pn in mode INGRESS with a UDP port (R376). -/
def State.cvIngress (s : State) (n udp : Nat) : Option Nat :=
  (List.range 64).find? (fun c => s.cvOwner c = n && s.rd F.CV_CFG_mode c = 2 && s.rd F.CV_CFG_udp_port c = udp)

/-- A frame steered to Pn (R376). `hd` are its bytes up to the UDP payload. -/
def State.steer (s : State) (n k udp time received : Nat) (hd pay : List Byte) : State :=
  let r := s.rd (F.PLANT_INGRESS_ring k) n
  let valid := s.rdB (F.PLANT_INGRESS_valid k) n
  if s.beingRemoved n then (if valid then s.inc F.RING_COUNT_drops r else s)
  else
    let j := match s.cvIngress n udp with
      | none => (s, true, pay)
      | some c => let q := s.cvJudge c pay; (q.1, q.2, pay.take (pay.length - checkLen (s.rd F.CV_CFG_algo c)))
    if ! j.2.1 then j.1
    else match j.1.videoFrame n udp j.2.2 time with
      | some s => s.delivered n
      | none => j.1.toRing n k r valid udp time received (hd ++ j.2.2)

/-- The partition whose UDP range holds a port (Table 15.2 stage 8). -/
def State.udpOwner (s : State) (udp : Nat) : Option Nat :=
  (List.range 16).find? (fun n => (s.part n).present && decide ((s.part n).udpFirst ≤ udp ∧ udp < (s.part n).udpFirst + (s.part n).udpCount))

/-- The reply to an ARP request for the port's own address (Table 15.1). -/
def State.arpReply (s : State) (k : Nat) (req : List Byte) : List Byte :=
  let mac := s.rd F.PLANT_PORT_MAC_mac k
  slice req 6 6 ++ beBytes 6 mac ++ beBytes 2 0x0806 ++ beBytes 2 1 ++ beBytes 2 0x0800 ++ [6#8, 4#8] ++ beBytes 2 2 ++
    beBytes 6 mac ++ beBytes 4 (s.rd F.PLANT_PORT_IP_ipv4 k) ++ slice req 22 6 ++ slice req 28 4

/-- A frame past stage 1 is judged by the others. -/
def State.frameStages (s : State) (p : Nat) (f : Frame) : Res :=
  let b := f.bytes
  let mac := beVal (slice b 0 6)
  let tagged := beVal (slice b 12 2) = 0x8100
  let vlanOk := ! tagged || (s.rdB F.PLANT_PORT_CTRL_vlan_en p &&
    decide (beVal (slice b 14 2) % 4096 = s.rd F.PLANT_PORT_CTRL_vlan_id p))
  let h := if tagged then 16 else 12
  let et := beVal (slice b h 2)
  let ip := h + 2
  let bytesAt := fun o n => beVal (slice b (ip + o) n)
  let isArp := et = 0x0806
  let isIp := et = 0x0800 ∧ bytesAt 0 1 / 16 = 4
  let total := b.length
  if (mac ≠ s.rd F.PLANT_PORT_MAC_mac p ∧ mac ≠ 0xFFFFFFFFFFFF) ∨ ! vlanOk then .next (s.inc F.PLANT_PORT_DROP_filtered p)
  else if isArp ∧ bytesAt 6 2 = 1 ∧ bytesAt 24 4 = s.rd F.PLANT_PORT_IP_ipv4 p then
    .next ((s.tally (592 + p) 1).emit (.frame p (s.arpReply p (b.take 12 ++ b.drop h))))
  else if isArp ∨ (isIp ∧ bytesAt 9 1 ≠ 17) then .next (s.toDefault p 0 f.time total b)
  else if ¬ isIp ∨ bytesAt 0 1 % 16 ≠ 5 ∨ inetSum (slice b ip 20) ≠ 65535 ∨ bytesAt 6 2 % 2 ^ 14 ≠ 0 ∨
      bytesAt 16 4 ≠ s.rd F.PLANT_PORT_IP_ipv4 p then .next (s.inc F.PLANT_PORT_DROP_filtered p)
  else
    let udp := bytesAt 22 2
    let ulen := bytesAt 24 2
    let dgram := slice b (ip + 20) ulen
    let pseudo := slice b (ip + 12) 8 ++ beBytes 2 17 ++ beBytes 2 ulen
    if udp = 319 ∨ udp = 320 then .next s
    else if bytesAt 26 2 ≠ 0 ∧ inetSum (pseudo ++ dgram) ≠ 65535 then .next (s.inc F.PLANT_PORT_DROP_checksum p)
    else
      let hd := b.take (ip + 28)
      let pay := dgram.drop 8
      match s.udpOwner udp with
      | some n => .next (s.steer n p udp f.time total hd pay)
      | none => .next (s.toDefault p udp f.time total (hd ++ pay))

/-- Table 15.2: the stages of a received frame, in order; the first that applies decides it. A port whose link is not UP
receives nothing, nor does a port in S4 (R523). -/
def execPlantFrame (k : PlantId) (f : Frame) (s : State) : Res :=
  if s.power.inS4 ∨ s.rd F.PLANT_PORT_STATE_link k.val ≠ 3 then .next s
  else if ! f.fcsOk ∨ f.bytes.length + 4 < 64 ∨ 1522 < f.bytes.length + 4 then .next (s.inc F.PLANT_PORT_DROP_fcs k.val)
  else (s.tally (588 + k.val) 1).frameStages k.val f

/-! ## Links and time -/

/-- Whether PTP may run on a port (R380). -/
def State.ptpPortOk (s : State) (k : Nat) : Bool :=
  bit (s.rd F.PTP_CTRL_port_mask) k && s.rd F.PLANT_PORT_STATE_link k = 3

/-- PTP runs on the lowest-numbered allowed port whose link is UP, unless its present port still is one (R380). -/
def State.ptpChoose (s : State) : State :=
  if s.ptpPortOk (s.rd F.PTP_STATE_port) then s
  else match (List.range 4).find? (fun k => s.ptpPortOk k) with
    | some k => s.wr F.PTP_STATE_port k
    | none => s

/-- R374: the link of an enabled port comes up, or goes down with its event on PLANT_PPk. -/
def execPlantLinkChange (k : PlantId) (up : Bool) (s : State) : Res :=
  let p := k.val
  if ! s.rdB F.PLANT_PORT_CTRL_enable p then .next s
  else if up then .next (((s.wr F.PLANT_PORT_STATE_link 3 p).causeEnds (Src.plant p) 2).ptpChoose)
  else if s.rd F.PLANT_PORT_STATE_link p = 3 then
    .next (((s.wr F.PLANT_PORT_STATE_link 1 p).ptpChoose).event (Src.plant p) 2 true)
  else .next (s.wr F.PLANT_PORT_STATE_link 1 p)

/-- Absolute value. -/
def iabs (x : Int) : Nat := x.natAbs

/-- R379 to R381: an Announce selects a master; a Sync exchange gives an offset, which ACQUIRING steps away above 1 ms and
every other case slews; 16 successive offsets below 1 us lock the clock. Messages count on the active port only. -/
def execPtpMessage (k : PlantId) (msg : PtpMsg) (s : State) : Res :=
  if ! s.rdB F.PTP_CTRL_enable ∨ ! s.ptpPortOk k.val ∨ s.rd F.PTP_STATE_port ≠ k.val then .next s
  else match msg with
    | .ignored => .next s
    | .announce iv =>
      let st := s.rd F.PTP_STATE_state
      let s := { s with ptp := { s.ptp with interval := iv, due := s.clk + 3 * iv } }
      if st = 0 ∨ st = 3 then
        .next { s.wr F.PTP_STATE_state 1 with ptp := { s.ptp with good := 0 } }
      else .next s
    | .sync off =>
      let st := s.rd F.PTP_STATE_state
      let s := s.wr F.PTP_STATE_offset_ns (ofSigned 32 (max (-2147483647) (min 2147483647 off)))
      if st = 1 ∧ 1000000 < iabs off then
        let s := { s with modTime := ((s.modTime : Int) - off).toNat, ptp := { s.ptp with good := 0, slew := 0 } }
        .next ((s.inc F.PTP_STATE_steps).event Src.ptp 1)
      else if st = 1 ∨ st = 2 then
        let good := if iabs off < 1000 then s.ptp.good + 1 else 0
        let s := { s with ptp := { s.ptp with good := good, slew := -off } }
        if st = 1 ∧ 16 ≤ good then .next { s.wr F.PTP_STATE_state 2 with ptp := { s.ptp with locked := true } } else .next s
      else .next s

/-- R380: no Announce for 3 intervals moves PTP to the next allowed port; a clock that was LOCKED enters HOLDOVER. -/
def execAnnounceTimeout (s : State) : Res :=
  let st := s.rd F.PTP_STATE_state
  if s.ptp.interval = 0 ∨ ! s.rdB F.PTP_CTRL_enable then .next s
  else
    let s := s.advanceTo s.ptp.due
    let cur := s.rd F.PTP_STATE_port
    let s := match ((List.range 4).map (fun j => (cur + 1 + j) % 4)).find? (fun k => s.ptpPortOk k) with
      | some k => s.wr F.PTP_STATE_port k
      | none => s
    let s := { s with ptp := { s.ptp with due := s.clk + 3 * s.ptp.interval, good := 0 } }
    if st = 2 ∨ (st = 1 ∧ s.ptp.locked) then .next ((s.wr F.PTP_STATE_state 3).event Src.ptp 2)
    else if st = 1 then .next (s.wr F.PTP_STATE_state 0)
    else .next s

/-! ## Plant output channels -/

/-- Masters that reach PO_*_k (R394). -/
def State.reachesPo (s : State) (k : Nat) (m : Master) : Bool := s.isTenant (s.poOwner k) m
def State.reachesCv (s : State) (k : Nat) (m : Master) : Bool := s.isTenant (s.cvOwner k) m

/-- R382, R383, R386: a PO_TX_k write is rejected while the channel may not transmit, while busy, above 1,440 bytes, or while
a severe fault covers the channel; otherwise the copy of the payload starts. -/
def execPoTx (m : Master) (k : ChanId) (len : BitVec 11) (s : State) : Res :=
  guardHcs (s.reachesPo k.val m) s fun s =>
    if ! s.poAble k.val ∨ s.rdB F.PO_STATE_busy k.val ∨ 1440 < len.toNat ∨ s.poFault k.val then s.inc F.PO_STATE_rejected k.val
    else (s.setB F.PO_STATE_busy k.val).setPo k.val { s.poChan k.val with copying := some len.toNat }

/-- An accepted payload (R387): alive rises; RUN sends it as FRESH, HOLD and STANDBY store it. It ends WITHDRAWN once the fault
is cleared (R386). -/
def State.poAccept (s : State) (k : Nat) (pay : List Byte) : State :=
  let s := s.incWrap F.CV_STAT_alive k
  let alive := s.rd F.CV_STAT_alive k
  let s := s.setPo k { s.poChan k with withdrawn := false }
  if s.poState k = 1 then (s.setPo k { s.poChan k with sent := some (pay, alive), stored := none }).poSend k 0 0 alive pay
  else s.setPo k { s.poChan k with stored := some (pay, alive) }

/-- R383: the copy ends and busy clears. A buffer that cannot be read, or lies outside the owner's granules, rejects the
write. -/
def execPoCopyDone (k : ChanId) (s : State) : Res :=
  match (s.poChan k.val).copying with
  | none => .next s
  | some len =>
    let s := (s.wr F.PO_STATE_busy 0 k.val).setPo k.val { s.poChan k.val with copying := none }
    let a := s.rd F.PO_BUF_addr k.val * 64
    if ! s.ddrOwned (s.poOwner k.val) a len ∨ s.poFault k.val ∨ ! s.poAble k.val then .next (s.inc F.PO_STATE_rejected k.val)
    else match s.badUnit a len with
      | some u => .next ((s.meetUnit (max a (u * 256))).inc F.PO_STATE_rejected k.val)
      | none => .next (s.poAccept k.val (s.bytesAt (ddr a) len))

/-- R387, Table 15.6: a period passes without an accepted payload: RUN and HOLD repeat the last transmitted payload as HELD,
WITHDRAWN sends a WITHDRAWN datagram, STANDBY and OFF send nothing. -/
def execPoPeriod (k : ChanId) (s : State) : Res :=
  let c := k.val
  let ms := s.rd F.PO_CFG_period_ms c
  if ms = 0 then .next s
  else
    let s := s.advanceTo (s.poChan c).due
    let st := s.poState c
    if st = 3 ∧ s.poAble c then .next (s.poSendWithdrawn c)
    else if (st = 1 ∨ st = 2) ∧ s.poAble c then
      match (s.poChan c).sent with
      | some (pay, alive) => .next (s.poSend c 1 1 alive pay)
      | none => .next (s.setPo c { s.poChan c with due := s.clk + ms * 1000000 })
    else .next (s.setPo c { s.poChan c with due := s.clk + ms * 1000000 })

/-! ## Check-value channels -/

/-- R389, R391: a write of CV_CFG_k has no effect while a scan runs, or when it would give a second channel of the partition
the same INGRESS port. A change of algorithm loads its defaults; a change of mode, port or alive settings resets the alive
reference. -/
def execCvCfgWrite (m : Master) (k : ChanId) (v : W64) (s : State) : Res :=
  guardHcs (s.reachesCv k.val m) s fun s =>
    let c := k.val
    let s' := s.applyWrite .CV_CFG v.toNat c 0
    let clash := s'.rd F.CV_CFG_mode c = 2 ∧ (List.range 64).any (fun j => j ≠ c && s.cvOwner j = s.cvOwner c &&
      s.rd F.CV_CFG_mode j = 2 && s.rd F.CV_CFG_udp_port j = s'.rd F.CV_CFG_udp_port c)
    if s.rdB F.CV_STAT_scan_busy c ∨ clash then s
    else
      let same := fun f => s.rd f c = s'.rd f c
      let s' := if same F.CV_CFG_algo then s'
        else if s'.rd F.CV_CFG_algo c = 0 then (s'.wr F.CV_INIT_init 0xFFFFFFFF c).wr F.CV_XOROUT_xorout 0xFFFFFFFF c
        else (s'.wr F.CV_INIT_init 0 c).wr F.CV_XOROUT_xorout 0 c
      if same F.CV_CFG_mode ∧ same F.CV_CFG_udp_port ∧ same F.CV_CFG_alive_en ∧ same F.CV_CFG_alive_offset ∧ same F.CV_CFG_max_gap
      then s'
      else
        let s' := s'.setCv c { s'.cvChan c with refSet := false }
        if s'.rd F.CV_CFG_mode c = 2 then s'.wr F.CV_STAT_alive 0 c else s'

/-- R393: a write of CV_SCAN_LEN_k with start begins a scan in mode SCAN when none runs; len takes its value with it. -/
def execScanStart (m : Master) (k : ChanId) (v : W64) (s : State) : Res :=
  guardHcs (s.reachesCv k.val m) s fun s =>
    let c := k.val
    let s := s.applyWrite .CV_SCAN_LEN v.toNat c 0
    if bit v.toNat 63 && s.rd F.CV_CFG_mode c = 3 && ! s.rdB F.CV_STAT_scan_busy c then
      (s.setB F.CV_STAT_scan_busy c).setCv c
        { s.cvChan c with scan := some (s.rd F.CV_SCAN_ADDR_addr c, s.rd F.CV_SCAN_LEN_len c) }
    else s

/-- A scan's status and result (R393). -/
def State.scanResult (s : State) (c a len : Nat) : Nat × Nat × Option Nat :=
  let n := s.cvOwner c
  let algo := s.rd F.CV_CFG_algo c
  let cv := checkValue algo (s.rd F.CV_INIT_init c) (s.rd F.CV_XOROUT_xorout c)
  if ! addrOk a ∨ (isStoreAddr a ∧ (a % 64 ≠ 0 ∨ len % 64 ≠ 0)) then (0x10, 0, none)
  else if len = 0 then (1, cv [], none)
  else if ! s.addrIn n a len then (0x11, 0, none)
  else match s.unreadable a len with
    | some fa => (0x12, 0, some fa)
    | none => (0, cv (s.load n a len), none)
where
  isStoreAddr (a : Nat) : Bool := decide (addrKind a < 3)

/-- R393: a scan finishes and sets its result and status; a channel whose scan was stopped sets none. -/
def execScanDone (k : ChanId) (s : State) : Res :=
  match (s.cvChan k.val).scan with
  | none => .next s
  | some (a, len) =>
    let r := s.scanResult k.val a len
    let s := (s.wr F.CV_STAT_scan_busy 0 k.val).setCv k.val { s.cvChan k.val with scan := none }
    let s := (s.wr F.CV_STAT_scan_status r.1 k.val).wr F.CV_RESULT_result r.2.1 k.val
    .next (match r.2.2 with | some fa => s.meetAt fa | none => s)

end Sys2Proof.Machine
end

