-- ==== Sys2Proof/Machine/SecOps.lean ====
section
/-! DEFINITION. The shared operations of the root of trust: signatures under the key table, key epochs, link keys, consent. -/

namespace Sys2Proof.Machine

/-- Equality of two digests as the module compares them: their 64 bytes. -/
def digestEq (a b : List Byte) : Bool := slice a 0 64 = slice b 0 64

/-- A SHA-512 digest: 64 bytes. -/
def sha (bs : List Byte) : List Byte := slice (Config.sha512 bs) 0 64

/-- Whether a signature block (R35) over a message verifies under an entry of a role and partition (R426). A locked table is
treated as empty (R427). -/
def State.verifies (s : State) (role part : Nat) (msg block : List Byte) : Bool :=
  ! s.rdB F.SEC_STATE_table_locked &&
  s.sec.keys.any (fun k => k.role = role && (role < 4 || k.part = part) && digestEq k.digest (slice block 0 64) &&
    Config.ecdsaVerify k.key msg (slice block 64 132))

/-- The last 60 bytes of a signature block are zero (R35). -/
def blockOk (block : List Byte) : Bool := leVal (slice block 196 60) = 0

/-- A module-wide random number, drawn once. -/
def State.random (s : State) : State × Nat := ({ s with fresh := s.fresh + 1 }, (Config.random s.fresh).toNat)

/-- A new CONSENT_NONCE_n (R437, R438). -/
def State.newNonce (s : State) (n : Nat) : State :=
  let r := s.random
  r.1.wr F.CONSENT_NONCE_nonce r.2 n

/-- Whether an active token of Pn grants a scope bit (Table 17.9). -/
def State.scope (s : State) (n b : Nat) : Bool := s.rdB F.CONSENT_STATE_active n && bit (s.rd F.CONSENT_STATE_scopes n) b

/-- Whether a unit may be selected: its partition has an active token with HALT (R567). -/
def State.unitOpen (s : State) (kind u : Nat) : Bool := decide (s.unitPart kind u < 16) && s.scope (s.unitPart kind u) 0

/-- The serial debug port detaches from the units of Pn: breakpoints are removed and halted units resume (R438); with
P0's token, MGC too. -/
def State.debugDetach (s : State) (n : Nat) : State :=
  let mine := s.unitPart s.dbgKind s.dbgUnit = n
  let s := s.releaseUnits n
  let s := if mine then { s with dbg := { s.dbg with bps := [] } } else s
  let s := if n = 0 then { s with dbg := { s.dbg with dm := Tab.erase s.dbg.dm 0x1010 } } else s
  (s.coresOf n).foldl (fun s c =>
    let s := { s with dbg := { s.dbg with dm := Tab.erase s.dbg.dm (0x2000 + c) } }
    if s.rd F.SC_STATE_state c = 3 then s.wr F.SC_STATE_state 1 c else s) s

/-- The active token of Pn ends (R438); with or without one a new nonce is drawn. -/
def State.endConsent (s : State) (n : Nat) : State :=
  let s := if s.rdB F.CONSENT_STATE_active n then s.debugDetach n else s
  let s := ((s.wr F.CONSENT_STATE_active 0 n).wr F.CONSENT_STATE_scopes 0 n).wr F.CONSENT_STATE_not_after 0 n
  { s with sec := { s.sec with notAfter := Tab.set 0 s.sec.notAfter n 0 } }.newNonce n

/-- The key epoch of Pn advances (R429): the old key pair is destroyed and every link key entry is void. At a removal each
entry becomes a tombstone (R432); otherwise it goes. -/
def State.advanceEpoch (s : State) (n : Nat) (removal : Bool) : State :=
  let s := s.incWrap F.KEY_EPOCH_epoch n
  let ks := if removal then s.sec.linkKeys.map (fun k =>
      if k.part = n then { k with tomb := true, secret := [], isSeal := false, isLease := false } else k)
    else s.sec.linkKeys.filter (fun k => k.part ≠ n)
  { s with sec := { s.sec with linkKeys := ks } }

/-- The tombstones of Pn go (R432). -/
def State.dropTombs (s : State) (n : Nat) : State :=
  { s with sec := { s.sec with linkKeys := s.sec.linkKeys.filter (fun k => k.part ≠ n || ! k.tomb) } }

/-- Importing a blob for Pn (R430 to R433): the reason of Table 17.11 that refuses it, or 0 and the state with the entry. The
reasons are judged in the order LIFECYCLE, FORMAT, IDENTITY, PARTITION, KEY_ID, TABLE_FULL, UNWRAP. -/
def State.importKey (s : State) (n : Nat) (b : List Byte) : State × Nat :=
  let id := leAt b 6 2
  let ep := leAt b 8 2
  let fl := leAt b 0xA 2
  let st := s.pstate n
  let old := s.sec.linkKeys.find? (fun k => k.id = id)
  let mine := (s.sec.linkKeys.filter (fun k => k.part = n)).length
  if s.rdB F.SEC_STATE_table_locked then (s, 0xC)
  else if leAt b 0 4 ≠ 0x4259454B ∨ leAt b 4 1 ≠ 1 ∨ 3 < fl ∨ leAt b 0xC 4 ≠ 0 ∨ leVal (slice b 0xA5 3) ≠ 0 ∨
      leVal (slice b 0xD8 40) ≠ 0 then (s, 2)
  else if leAt b 0x10 16 ≠ s.identity then (s, 3)
  else if leAt b 5 1 ≠ n ∨ st = 0 ∨ st = 3 ∨ st = 4 ∨ (bit fl 1 ∧ n ≠ 0) then (s, 4)
  else if id = 0xFFFF ∨ old.any (fun k => k.part ≠ n || k.tomb || ep ≤ k.epoch) then (s, 7)
  else if old.isNone ∧ (256 ≤ s.sec.linkKeys.length ∨ 64 ≤ mine) then (s, 8)
  else match Config.unwrap b with
    | none => (s, 6)
    | some sec =>
      let ks := (s.sec.linkKeys.filter (fun k => k.id ≠ id)).map (fun k =>
        if k.part = n then { k with isSeal := k.isSeal && ! bit fl 0, isLease := k.isLease && ! bit fl 1 } else k)
      let e : LinkKey := { part := n, id := id, epoch := ep, isSeal := bit fl 0, isLease := bit fl 1, secret := sec }
      ({ s with sec := { s.sec with linkKeys := ks ++ [e] } }, 0)

/-- Deleting an entry of Pn (R442, R432): KEY_ID when it has no such entry, PARTITION in a state that refuses it. -/
def State.deleteKey (s : State) (n id : Nat) : State × Nat :=
  let st := s.pstate n
  if st = 0 ∨ st = 3 ∨ st = 4 then (s, 4)
  else if s.sec.linkKeys.any (fun k => k.part = n && k.id = id && ! k.tomb) then
    ({ s with sec := { s.sec with linkKeys := s.sec.linkKeys.filter (fun k => ! (k.part = n && k.id = id)) } }, 0)
  else (s, 7)

/-- The checks of R437 in order on a 512-byte token for Pn, and the acceptance of one that passes. -/
def State.submitConsent (s : State) (n : Nat) (b : List Byte) : State × Nat :=
  let nb := leAt b 0x20 8
  let na := leAt b 0x28 8
  let img := leAt b 0x30 8
  let clk := s.rd F.PTP_STATE_state
  let role := if n = 0 then 3 else 5
  if s.rdB F.SEC_STATE_table_locked ∨ (n ≠ 0 ∧ s.rd F.SEC_STATE_lifecycle = 2) then (s, 0xC)
  else if leAt b 0 4 ≠ 0x534E4F43 ∨ leAt b 4 1 ≠ 1 ∨ 15 < leAt b 6 2 ∨ leVal (slice b 0x38 200) ≠ 0 ∨ ! blockOk (slice b 0x100 256)
  then (s, 2)
  else if leAt b 5 1 ≠ n ∨ (n ≠ 0 ∧ s.pstate n ≠ 2) then (s, 4)
  else if leAt b 8 16 ≠ s.identity then (s, 3)
  else if leAt b 0x18 8 ≠ s.rd F.CONSENT_NONCE_nonce n then (s, 9)
  else if ¬ (clk = 2 ∨ clk = 3) ∨ s.modTime < nb ∨ na ≤ s.modTime ∨ nb + 604800 * 10 ^ 9 < na then (s, 0xA)
  else if img ≠ 0 ∧ img ≠ s.rd F.WIMG_ACTIVE_ID_image_id n then (s, 0xB)
  else if ! s.verifies role n (slice b 0 256) (slice b 256 256) then (s, 5)
  else
    let s := (s.setB F.CONSENT_STATE_active n).wr F.CONSENT_STATE_scopes (leAt b 6 2) n
    let s := s.wr F.CONSENT_STATE_not_after (na / 2 ^ 20) n
    ({ s with sec := { s.sec with notAfter := Tab.set 0 s.sec.notAfter n na } }.newNonce n, 0)

/-- The table entries of the module scope, or those of a partition, as the bytes that a digest covers. -/
def keyBytes (k : PubKey) : List Byte := leBytes 1 k.role ++ leBytes 1 k.part ++ k.key ++ k.digest

/-- A partition record of a report (Table 17.8); a tenant's report fills only state and counts for other partitions
(R435). -/
def State.reportPart (s : State) (n : Nat) (full : Bool) : List Byte :=
  let im := (s.wpart n).image
  let own := fun m => (ownedIn m n).length
  let img := s.struct.image
  let lk := s.sec.linkKeys.filter (fun k => k.part = n && ! k.tomb)
  let pairs := (lk.mergeSort (fun a b => a.id ≤ b.id)).flatMap (fun k => leBytes 2 k.id ++ leBytes 2 k.epoch)
  let kd := sha ((s.sec.keys.filter (fun k => 4 ≤ k.role && k.part = n)).flatMap keyBytes ++ pairs)
  leBytes 1 (s.pstate n) ++ leBytes 1 (if full then s.rd F.CONSENT_STATE_scopes n else 0) ++ leBytes 2 (own img.clusters) ++
    leBytes 1 (own img.engines) ++ leBytes 1 (own img.cores) ++ leBytes 2 (own img.ddr4) ++
    (if full then
      leBytes 4 (s.rd F.KEY_EPOCH_epoch n) ++ leBytes 1 lk.length ++ leBytes 3 0 ++
      leBytes 8 (s.rd F.WIMG_ACTIVE_ID_image_id n) ++ leBytes 4 ((im.map (·.version)).getD 0) ++ leBytes 4 0 ++
      slice ((im.map (·.digest)).getD []) 0 64 ++ slice kd 0 32
    else List.replicate 120 0#8)

/-- The attestation report (Tables 17.7 and 17.8) with its signature block. `req` is 0 to 15, or 0xFF for MGC. -/
def State.report (s : State) (req : Nat) (nonce : List Byte) : List Byte :=
  let all := req = 0 ∨ req = 0xFF
  let state := s.rd F.SEC_STATE_claimed + 2 * s.rd F.SEC_STATE_table_locked + 4 * s.rd F.SEC_STATE_debug_lock +
    8 * ofBool s.struct.limited + 16 * s.rd F.REDUN_STATE_role
  let hd := leBytes 4 0x54535441 ++ leBytes 1 1 ++ leBytes 1 req ++ leBytes 2 0 ++ leBytes 4 2816 ++
    leBytes 4 (s.rd F.NYPRA_STATUS_structure_epoch) ++ leBytes 8 s.modTime ++ leBytes 8 (s.rd F.NYPRA_ACTIVE_ID_image_id) ++
    slice nonce 0 64 ++ leBytes 16 s.identity ++ leBytes 4 0x0007A384 ++ leBytes 1 (s.rd F.FW_CAP_stepping) ++
    leBytes 1 (s.rd F.SEC_STATE_lifecycle) ++ leBytes 1 state ++
    leBytes 1 (s.rd F.SEC_STATE_root_valid + 16 * s.rd F.SEC_STATE_root_revoked) ++ leBytes 8 0 ++
    slice s.sec.mgmtDigest 0 64 ++ slice s.sec.runtimeDigest 0 64 ++ slice s.sec.nypraDigest 0 64 ++
    sha ((s.sec.keys.filter (fun k => k.role < 4)).flatMap keyBytes) ++
    (List.range 4).flatMap (fun i => leBytes 4 (s.bbsRd (0x20 + 4 * i) 4)) ++ List.replicate 112 0#8
  let body := hd ++ (List.range 16).flatMap (fun n => s.reportPart n (all || n = 0 || n = req))
  body ++ slice (Config.akDigest s.sec.mgmtDigest) 0 64 ++ slice (Config.sign 1 body s.fresh) 0 132 ++ List.replicate 60 0#8

end Sys2Proof.Machine
end

