-- ==== Sys2Proof/Machine/TillerOps.lean ====
section
/-! DEFINITION. Tiller (11): settling a boundary, committing a step, composing the next, the records of slots. -/

namespace Sys2Proof.Machine

/-! ## Entries (Table 11.1) -/

/-- The 128 bytes of a slot's entry. -/
def Slot.bytes (v : Slot) : List Byte :=
  leBytes 1 v.state ++ leBytes 1 v.prio ++ leBytes 2 v.flags ++ leBytes 4 v.promptLen ++ leBytes 4 v.maxTokens ++
    leBytes 4 v.eos ++ leBytes 8 v.tokAddr ++ leBytes 4 v.tokCap ++ leBytes 2 v.ring ++ leBytes 2 0 ++ leBytes 8 v.deadline ++
    leBytes 8 v.tag ++ slice v.params 0 16 ++ leBytes 4 v.known ++ leBytes 4 v.len ++ leBytes 4 v.tokensOut ++
    leBytes 4 v.recompute ++ leBytes 4 v.drafted ++ leBytes 4 v.accepted ++ leBytes 4 v.steps ++ leBytes 4 v.seqNo ++
    leBytes 8 v.submitTime ++ leBytes 8 v.firstToken ++ leBytes 4 (ofBool v.cancel + 2 * ofBool v.pause) ++ leBytes 12 0

/-- The runtime's fields of an entry. -/
def slotOf (b : List Byte) : Slot where
  prio := leAt b 1 1
  flags := leAt b 2 2
  promptLen := leAt b 4 4
  maxTokens := leAt b 8 4
  eos := leAt b 0xC 4
  tokAddr := leAt b 0x10 8
  tokCap := leAt b 0x18 4
  ring := leAt b 0x1C 2
  deadline := leAt b 0x20 8
  tag := leAt b 0x28 8
  params := slice b 0x30 16

/-! ## Records (R302 to R304) -/

/-- Statuses of Table 11.10 in the code set of Table 12.5. -/
def stComplete : Nat := 2
def stProgress : Nat := 3
def stPaused : Nat := 4
def stCancelled : Nat := 0x20
def stDeadline : Nat := 0x21
def stNoPages : Nat := 0x22

/-- A serving record (Table 11.9). `extra` holds the flags CANCEL_LATE, EOS and MAX. -/
def Slot.record (v : Slot) (x status extra done : Nat) : WaitRec :=
  let final := status ≠ stPaused ∧ status ≠ stProgress
  let missed := final ∧ status ≠ stDeadline ∧ v.deadline ≠ 0 ∧ v.deadline < done
  let flags := extra + 2 * ofBool missed + 16 * ofBool (0 < v.recompute)
  { status := status, kind := 1, srcRing := v.ring, srcIndex := v.seqNo
    body := leBytes 2 x ++ leBytes 2 flags ++ leBytes 4 v.tokensOut ++ leBytes 8 v.tag ++ leBytes 4 v.known ++
      leBytes 4 v.recompute ++ leBytes 4 v.drafted ++ leBytes 4 v.accepted ++ leBytes 4 v.steps ++ leBytes 4 0 ++
      leBytes 8 v.submitTime ++ leBytes 8 done }

/-- A record goes to its ring, or waits (final and PAUSED), or is dropped and counted (PROGRESS). -/
def State.offer (s : State) (n : Nat) (r : SlotRec) : State :=
  let w := s.produce r.ring r.entry
  if w.2 then (if r.final then w.1.updSlot r.slot (fun v => { v with recorded := true }) else w.1)
  else if r.entry.status = stProgress then w.1.inc F.TILLER_STALL_progress_dropped n
  else (w.1.updSrv n (fun x => { x with waits := x.waits ++ [r] })).setB F.REQ_EVENT_completion_wait n

/-- The waiting records of Pn are offered again, oldest first. -/
def State.reoffer (s : State) (n : Nat) : State :=
  let ws := (s.srv n).waits
  ws.foldl (fun s r => s.offer n r) (s.updSrv n (fun x => { x with waits := [] }))

/-! ## Settling a boundary (R292 to R299) -/

/-- What a boundary decides of a slot: its record's status, and flags. -/
structure Verdict where
  slot : Nat
  status : Nat
  extra : Nat := 0
  own : Bool := false
  deriving DecidableEq, Repr

/-- The token that row r of the output holds in column c. -/
def outTok (tokens : List (List Nat)) (r c : Nat) : Nat := (tokens.getD r []).getD c 0 % 2 ^ 32

/-- Drafts that equal the token chosen for their position (R292). -/
def acceptedCount (tokens : List (List Nat)) (first : Nat) : List Nat → Nat → Nat
  | [], _ => 0
  | d :: t, i => if d = outTok tokens (first + i) 0 then 1 + acceptedCount tokens first t (i + 1) else 0

/-- The tokens that a segment proposes, in order. -/
def proposals (v : Slot) (g : Seg) (tokens : List (List Nat)) : List Nat :=
  if g.kind = 0 then (if g.pos + g.count = v.known then [outTok tokens (g.first + g.count - 1) 0] else [])
  else if g.kind = 1 then [outTok tokens g.first 0]
  else
    let a := acceptedCount tokens g.first g.drafts 0
    g.drafts.take a ++ [outTok tokens (g.first + a) 0]

/-- Tokens committed one at a time up to the first stop: the tokens kept, and whether EOS and MAX were met (R293). -/
def commitTokens (v : Slot) : Nat → List Nat → List Nat × Bool × Bool
  | _, [] => ([], false, false)
  | out, t :: rest =>
    let eos := bit v.flags 0 && decide (t = v.eos)
    let max := decide (v.maxTokens ≤ out + 1)
    if eos || max then ([t], eos, max)
    else
      let r := commitTokens v (out + 1) rest
      (t :: r.1, r.2.1, r.2.2)

/-- The slot and the state of a committed segment: counts, drafts, tokens and the LEN edit (R292, R293). Tokens go to the buffer
and the verdict to the records once the advance is complete. -/
def State.commitSeg (s : State) (n spec : Nat) (tokens : List (List Nat)) (dropped : Bool) (g : Seg) :
    State × List (Nat × Nat × Nat) × Option Verdict :=
  let v := s.slot g.slot
  let v := { v with steps := v.steps + 1 }
  if dropped then (s.setSlot g.slot { v with drafts := [] , state := 2 }, [], none)
  else
    let props := proposals v g tokens
    let c := commitTokens v v.tokensOut props
    let k := c.1.length
    let len := if g.kind = 0 then g.pos + g.count else v.len + k
    let again := if g.kind = 0 then min (g.pos + g.count) v.most - min g.pos v.most else 0
    let row := if g.kind = 0 then g.first + g.count - 1 else g.first + (k - 1)
    let drafts := if k = 0 then [] else (List.range spec).map (fun j => outTok tokens row (j + 1))
    let acc := if g.kind = 2 then acceptedCount tokens g.first g.drafts 0 else 0
    let writes := c.1.zipIdx.map (fun p => (v.tokAddr, v.known + p.2, p.1))
    let v := { v with
      known := v.known + k, tokensOut := v.tokensOut + k, recompute := v.recompute + again, drafts := drafts,
      drafted := v.drafted + g.drafts.length, accepted := v.accepted + acc,
      firstToken := if v.tokensOut = 0 ∧ 0 < k then s.modTime else v.firstToken }
    let verdict : Option Verdict :=
      if c.2.2 || (c.2.1 && !bit v.flags 1) then
        some { slot := g.slot, status := stComplete, extra := 4 * ofBool c.2.1 + 8 * ofBool c.2.2, own := true }
      else if c.2.1 then some { slot := g.slot, status := stPaused, extra := 4 }
      else if bit v.flags 3 ∧ 0 < k then some { slot := g.slot, status := stProgress }
      else none
    let st := match verdict with
      | some w => if w.status = stComplete then 5 else if w.status = stPaused then 4 else (if len = v.known - 1 then 3 else 2)
      | none => if len = v.known - 1 then 3 else 2
    let v := if st = 4 then { v with drafts := [] } else v
    ((s.setSlot g.slot { v with state := st }).enter n { edit := .len g.slot len, own := true }, writes, verdict)

/-- The PENDING command of a slot is settled: its window reads DONE (R297). -/
def State.pendingDone (s : State) (n x : Nat) : State :=
  let s := s.setB F.REQ_EVENT_pending_done n
  if s.rd F.REQ_STATUS_slot n = x ∧ s.rd F.REQ_STATUS_result n = 2 then
    (s.wr F.REQ_STATUS_result 1 n).wr F.REQ_STATUS_slot_state (s.slot x).state n
  else s

/-- Steps 3 to 5 of R297 on one slot, after the verdict of steps 1 and 2. -/
def State.settleSlot (s : State) (n : Nat) (x : Nat) (w : Option Verdict) : State × Option Verdict :=
  let v := s.slot x
  -- 3. deadlines
  let r : State × Option Verdict :=
    if 1 ≤ v.state ∧ v.state ≤ 4 ∧ v.deadline ≠ 0 ∧ v.deadline ≤ s.modTime ∧ bit v.flags 4 then
      (s.setSlot x { v with state := 5 }, some { slot := x, status := stDeadline })
    else (s, w)
  -- 4. cancels
  let r : State × Option Verdict :=
    if v.cancel then
      let u := r.1.slot x
      if u.state = 5 then
        let late : Bool := (match r.2 with | some z => decide (z.status = stComplete) | none => false)
        let s := r.1.setSlot x { u with cancel := false }
        let s := if late then s.inc F.TILLER_STALL_cancel_late n else s
        (s.pendingDone n x, r.2.map (fun z => if late then { z with extra := z.extra + 1 } else z))
      else ((r.1.setSlot x { u with state := 5, cancel := false }).pendingDone n x, some { slot := x, status := stCancelled })
    else r
  -- 5. pauses
  let u := r.1.slot x
  if u.pause then
    let s := r.1.setSlot x { u with pause := false }
    if 1 ≤ u.state ∧ u.state ≤ 3 then
      ((s.setSlot x { u with pause := false, state := 4, drafts := [] }).pendingDone n x, some { slot := x, status := stPaused })
    else (s.pendingDone n x, r.2)
  else r

/-- Step 6: one FREE_LIST for a slot that reached CLOSING. -/
def State.closeSlot (s : State) (n x : Nat) (own : Bool) : State :=
  let v := s.slot x
  if v.state = 5 ∧ !v.listed then
    (s.setSlot x { v with listed := true }).enter n { edit := .freeList x, own := own }
  else s

/-- Settlement of Pn's slots at a boundary (R297): verdicts of the commit, then steps 3 to 6. -/
def State.settle (s : State) (n : Nat) (ws : List Verdict) : State × List Verdict :=
  (s.slotsOf n).foldl (fun (p : State × List Verdict) x =>
    if (p.1.slot x).state = 0 then p
    else
      let r := p.1.settleSlot n x (ws.find? (fun w => w.slot = x))
      match r.2 with
      | some w => (r.1.closeSlot n x w.own, p.2 ++ [w])
      | none => (r.1, p.2)) (s, [])

/-- Records of a boundary, after its tokens are written. -/
def State.writeRecords (s : State) (n done : Nat) (ws : List Verdict) : State :=
  ws.foldl (fun s w =>
    let v := s.slot w.slot
    s.offer n { slot := w.slot, ring := v.ring, entry := v.record w.slot w.status w.extra done
                final := decide (w.status ≠ stPaused ∧ w.status ≠ stProgress) }) (s.reoffer n)

/-! ## Composing a step (R287 to R290) -/

/-- Rank of a slot (R287): smaller is served first. -/
def Slot.before (next : Nat) (a b : Slot) : Bool :=
  let dl := fun v : Slot => if v.deadline = 0 then 2 ^ 64 else v.deadline
  let age := fun v : Slot => (v.seqNo + 2 ^ 32 - next % 2 ^ 32) % 2 ^ 32
  if a.prio ≠ b.prio then decide (b.prio < a.prio)
  else if dl a ≠ dl b then decide (dl a < dl b)
  else decide (age a < age b)

/-- A slot put into its place in a ranked list. -/
def State.rankIn (s : State) (next x : Nat) : List Nat → List Nat
  | [] => [x]
  | y :: t => if (s.slot x).before next (s.slot y) then x :: y :: t else y :: s.rankIn next x t

/-- Slots in a state, by key. -/
def State.ranked (s : State) (n st : Nat) : List Nat :=
  ((s.slotsOf n).filter (fun x => (s.slot x).state = st)).foldr (fun x l => s.rankIn (s.srv n).nextSeq x l) []

/-- Rows of a slot as the journal leaves them (R269, R288): its list less evicted rows, and its allocations. -/
def State.rowsNow (s : State) (n x : Nat) : List Nat :=
  let j := (s.srv n).journal
  (s.slot x).rows.filter (fun h => !evictedIn j h) ++
    j.filterMap (fun e => match e.edit with | .alloc y r _ => if y = x then some r else none | _ => none)

/-- The first row at or after the cursor whose pages are all FREE (R254). -/
def State.nextRow (s : State) (n : Nat) : Option Nat :=
  let l := s.layers n
  let rows := (s.part n).pageCount / l
  let first := (s.part n).pageFirst
  let j := (s.srv n).journal
  ((List.range rows).map (fun k => ((s.srv n).cursor + k) % rows)).find? (fun r =>
    s.rowIs n (first + r * l) 0 && (allocOf j (first + r * l)).isNone)

/-- One row allocated to a slot at lpn k. -/
def State.allocRow (s : State) (n x k : Nat) : State :=
  match s.nextRow n with
  | none => s
  | some r =>
    let l := s.layers n
    let rows := (s.part n).pageCount / l
    let s := s.enter n { edit := .alloc x ((s.part n).pageFirst + r * l) k, own := true }
    let s := (s.moveBook n 0 1 l).bump F.PAGE_PSTAT_rows_free n false
    s.updSrv n (fun v => { v with cursor := (r + 1) % max rows 1 })

/-- pages_for (R288). -/
def State.pagesFor (s : State) (n x last : Nat) : State × Bool :=
  let have_ := (s.rowsNow n x).length
  let need := last / s.tpp n + 1 - have_
  if s.rd F.PAGE_PSTAT_rows_free n < need then (s, false)
  else ((List.range need).foldl (fun s i => s.allocRow n x (have_ + i)) s, true)

/-- A composition under way. -/
structure Draft where
  segs : List Seg := []
  rows : Nat := 0
  pf : Nat := 0
  stalled : List Nat := []
  stop : Bool := false
  deriving DecidableEq, Repr

/-- The decode part of compose. -/
def State.composeDecode (s : State) (n d batch spec : Nat) (c : Draft) (x : Nat) : State × Draft :=
  if c.stop || c.segs.length = batch || decide (d < c.rows + 1) then (s, { c with stop := true })
  else
    let v := s.slot x
    let k := if s.rdB F.TILLER_POLICY_spec_enable n && bit v.flags 2 then
        min (min v.drafts.length spec) (min (d - c.rows - 1) (v.maxTokens - v.tokensOut - 1)) else 0
    let r := s.pagesFor n x (v.len + k)
    if !r.2 then (r.1, { c with stalled := c.stalled ++ [x] })
    else
      let g : Seg := { slot := x, kind := if 0 < k then 2 else 1, first := c.rows, count := 1 + k, pos := v.len, drafts := v.drafts.take k }
      (r.1, { c with segs := c.segs ++ [g], rows := c.rows + 1 + k })

/-- The prefill part of compose. -/
def State.composePrefill (s : State) (n b p batch chunk : Nat) (c : Draft) (x : Nat) : State × Draft :=
  if c.stop || c.segs.length = batch || c.rows = b || c.pf = p then (s, { c with stop := true })
  else
    let v := s.slot x
    let k := min (min chunk (v.known - v.len)) (min (b - c.rows) (p - c.pf))
    let r := s.pagesFor n x (v.len + k - 1)
    if !r.2 then (r.1, { c with stalled := c.stalled ++ [x] })
    else
      let g : Seg := { slot := x, kind := 0, first := c.rows, count := k, pos := v.len, queued := decide (v.state = 1) }
      (r.1, { c with segs := c.segs ++ [g], rows := c.rows + k, pf := c.pf + k })

/-- EVICT of a slot's tail row: standing, and the slot loses its drafts (R269, R289). -/
def State.evictRow (s : State) (n x row : Nat) : State :=
  let k := (s.page row).lpn
  let s := s.enter n { edit := .evict x row k }
  let s := (s.moveBook n 1 3 (s.layers n)).inc F.PAGE_PCOUNT_evicted_rows n
  s.updSlot x (fun v => { v with drafts := [] })

/-- Rows in RECOMPUTE_PENDING with cause PRESSURE. -/
def State.pressureRows (s : State) (n : Nat) : Nat :=
  ((s.srv n).journal.filter (fun e => match e.edit with | .evict _ _ _ => true | _ => false)).length

/-- make_room (R269) with a target, the slots that may not be evicted and the rows that each keeps; answers whether the target is
met. -/
def State.makeRoom : Nat → State → Nat → Nat → List Nat → Bool → State × Bool
  | 0, s, n, target, _, _ => (s, decide (target ≤ s.rd F.PAGE_PSTAT_rows_free n + s.pressureRows n))
  | f + 1, s, n, target, spare, keepZero =>
    if target ≤ s.rd F.PAGE_PSTAT_rows_free n + s.pressureRows n then (s, true)
    else
      let pol := (s.srv n).policy
      let whole := bit pol 56
      let keep := if whole || keepZero then 0 else bits pol 55 48
      let key := fun h => effScore (s.page h) (s.rd F.PAGE_EPOCH_epoch n) (bits pol 27 16)
      let best := (s.slotsOf n).foldl (fun (b : Option (Nat × Nat × Nat)) x =>
        let rows := s.rowsNow n x
        if spare.contains x || decide (rows.length ≤ keep) then b
        else match rows.getLast? with
          | none => b
          | some h => match b with
            | some (_, _, k) => if key h < k then some (x, h, key h) else b
            | none => some (x, h, key h)) none
      match best with
      | none => (s, false)
      | some (x, h, _) =>
        let s := if whole then ((s.rowsNow n x).reverse).foldl (fun s h => s.evictRow n x h) s else s.evictRow n x h
        State.makeRoom f s n target spare keepZero

/-- Bytes of the segment table (Table 9.1). -/
def segTable (segs : List Seg) (rows epoch : Nat) : List Byte :=
  leBytes 4 1 ++ leBytes 4 segs.length ++ leBytes 4 rows ++ leBytes 4 epoch ++
    segs.flatMap (fun g => leBytes 2 g.slot ++ leBytes 2 g.kind ++ leBytes 4 g.first ++ leBytes 4 g.count ++ leBytes 4 g.pos)

/-- The quadrants in which Pn owns a cluster. -/
def State.quadsOf (s : State) (n : Nat) : List Nat :=
  (List.range 16).filter (fun q => (List.range 10).any (fun k => s.clusterOwner (40 * (q / 4) + 10 * (q % 4) + k) = n))

/-- Whether a cluster of Pn is in self-test, or its test is being aborted (R108). -/
def State.clustersBusy (s : State) (n : Nat) : List Nat :=
  (s.fabric.testing ++ s.fabric.aborting).filter (fun c => s.clusterOwner c = n)

/-- The tests on Pn's clusters are aborted; the clusters are free once SELFTEST_ABORT_DONE comes (R108). -/
def State.abortTests (s : State) (n : Nat) : State :=
  let mine := s.fabric.testing.filter (fun c => s.clusterOwner c = n)
  s.setFabric (fun f => { f with testing := f.testing.filter (fun c => !mine.contains c), aborting := f.aborting ++ mine })

/-- Token buffer addresses that a step's rows read. -/
def State.tokenReads (s : State) (segs : List Seg) : List Nat :=
  segs.flatMap (fun g => (List.range (if g.kind = 0 then g.count else 1)).map (fun i => (s.slot g.slot).tokAddr + 4 * (g.pos + i)))

/-- The token input of a step (R284). -/
def State.tokenInput (s : State) (segs : List Seg) : List Nat :=
  segs.flatMap (fun g => (List.range g.count).map (fun i =>
    if g.kind = 0 ∨ i = 0 then leVal (s.bytesAt (ddr ((s.slot g.slot).tokAddr + 4 * (g.pos + i))) 4) else g.drafts.getD (i - 1) 0))

/-- Rows 5 and 6 of Table 11.6: token input, segment table and parameter table are written and the step starts. A buffer word that
cannot be read discards the step and stops the partition (Table 13.2). -/
def State.startStep (s : State) (n : Nat) (c : Draft) : State :=
  let s := c.segs.foldl (fun s g => s.updSlot g.slot (fun v => { v with state := if v.state = 1 then 2 else v.state })) s
  let s := s.abortTests n
  let step : Step := { segs := c.segs, tokens := s.tokenInput c.segs, start := s.clk, begun := (s.clustersBusy n).isEmpty }
  let again := (s.srv n).again
  let s := s.updSrv n (fun x => { x with step := some step, again := false })
  match ((s.tokenReads c.segs).filterMap (fun a => (s.badUnit a 4).map (fun _ => a))).head? with
  | some a => (s.meetUnit a).stopPartition n 7
  | none =>
    let table := segTable c.segs c.rows (s.rd F.PAGE_EPOCH_epoch n)
    let params := c.segs.flatMap (fun g => slice (s.slot g.slot).params 0 16)
    let s := (s.quadsOf n).foldl (fun s q =>
      let a := 2 ^ 60 + q * 2 ^ 48
      (s.store n a table).store n (a + 33024) params) s
    let s := if again then s else s.inc F.TILLER_STAT_steps n
    let s := s.wr F.TILLER_STAT_rows_last (min c.rows 65535) n
    s.wr F.TILLER_STAT_segments_last c.segs.length n

/-- last_resort (R290): rows of other slots are evicted for the highest-ranked stalled slot; when even that cannot serve it, the
slot ends with NO_PAGES. The page store applies the edits by an advance of its own. -/
def State.lastResort (s : State) (n : Nat) (x need : Nat) : State :=
  let pol := (s.srv n).policy
  let r := State.makeRoom (65536 * 32) s n (max (bits pol 47 32) need) [x] true
  if !r.2 ∧ r.1.rd F.PAGE_PSTAT_rows_free n + r.1.pressureRows n < need then
    let s := r.1.updSlot x (fun v => { v with state := 5 })
    let s := (s.closeSlot n x false).setB F.REQ_EVENT_no_pages n
    s.writeRecords n s.modTime [{ slot := x, status := stNoPages }]
  else r.1

/-- Whether Tiller composes for Pn (R277): LOADED with a serving image, neither stopped nor unloading, no step in flight, no standing
edit that the page store has yet to apply, no reload under way. -/
def State.composes (s : State) (n : Nat) : Bool :=
  (s.serving n).isSome && !s.stopped n && (s.srv n).step.isNone && decide ((s.srv n).journal = []) &&
    !s.fabric.reloads.contains n && !s.stk.reloads.any (fun b => b.1 = n) && (match (s.wpart n).load with | some l => decide (l.phase ≠ .unloading) | none => true)

/-- Composition of the next step (R288). -/
def State.compose (s : State) (n : Nat) : State :=
  match s.serving n with
  | none => s
  | some sv =>
    if !s.composes n then s
    else
      let tMax := match (s.wpart n).image with | some im => im.tMax | none => 1
      let tb := s.rd F.TILLER_POLICY_token_budget n
      let b := if tb = 0 then tMax else min tb tMax
      let p := min (s.rd F.PWR_PART_prefill_gate n) b
      let batch := s.rd F.TILLER_POLICY_max_batch n
      let dec := s.ranked n 3
      let pre := s.ranked n 2 ++ s.ranked n 1
      let d := if pre = [] then b else b - s.rd F.TILLER_POLICY_prefill_reserve n
      let c := dec.foldl (fun (a : State × Draft) x => a.1.composeDecode n d batch sv.specDepth a.2 x) (s, {})
      let c := pre.foldl (fun (a : State × Draft) x => a.1.composePrefill n b p batch sv.chunk a.2 x) (c.1, { c.2 with stop := false })
      let s := (c.1.inc F.TILLER_STALL_page_stalls n 0 c.2.stalled.length).count n 0x0E c.2.stalled.length
      let low := bits (s.srv n).policy 47 32
      let s := (State.makeRoom (65536 * 32) s n low (c.2.segs.map (·.slot)) false).1
      if c.2.segs ≠ [] then s.startStep n c.2
      else match c.2.stalled with
        | [] => s
        | l =>
          let x := (l.foldr (fun x r => s.rankIn (s.srv n).nextSeq x r) []).headD 0
          let v := s.slot x
          let last := if v.state = 3 then v.len else v.len + min sv.chunk (v.known - v.len) - 1
          s.lastResort n x (last / s.tpp n + 1 - (s.rowsNow n x).length)

/-! ## Boundaries -/

/-- The discard of a step in flight other than by a stop or a fence (R295): the boundary is settled; the step runs again once it is
composed afresh. -/
def State.discardBoundary (s : State) (n : Nat) : State :=
  let s := s.stopClusters n
  match (s.srv n).step with
  | none => s
  | some st =>
    let s := (s.requeue st).stepDiscarded n
    let r := s.settle n []
    let done := r.1.modTime
    let s := (r.1.advance n false).updSrv n (fun x => { x with again := true })
    (s.writeRecords n done r.2).afterAdvance n

/-- Settlement without a step (R296), and the advance that the page store then starts by itself. -/
def State.settleIdle (s : State) (n : Nat) : State :=
  let r := s.settle n []
  (r.1.writeRecords n r.1.modTime r.2).afterAdvance n

/-- The greatest power of two at or below a count. -/
def pow2Floor (k : Nat) : Nat := if k = 0 then 0 else 2 ^ Nat.log2 k

/-- The commit of a step (R292 to R298) up to its records. -/
def State.commitStep (s : State) (n : Nat) (st : Step) (tokens : List (List Nat)) : State :=
  let spec := match s.serving n with | some v => v.specDepth | none => 0
  let r := st.segs.foldl (fun (a : State × List (Nat × Nat × Nat) × List Verdict) g =>
    let x := a.1.commitSeg n spec tokens (st.dropped.contains g.slot) g
    (x.1, a.2.1 ++ x.2.1, a.2.2 ++ x.2.2.toList)) (s, [], [])
  let writes := r.2.1
  match (writes.filterMap (fun w => if s.blockedUnit (w.1 + 4 * w.2.1) 4 then some (w.1 + 4 * w.2.1) else none)).head? with
  | some a => (s.meetUnit a).stopPartition n 7
  | none =>
    let q := r.1.settle n r.2.2
    let done := q.1.modTime
    let s := q.1.advance n true
    let s := s.updSrv n (fun x => { x with
      durations := Tab.set 0 x.durations (pow2Floor st.segs.length) (s.clk - st.start), again := false })
    let s := s.clearReruns n
    let s := (s.count n 0x0B 1).tally (456 + n) 1
    let s := (s.count n 0x0C writes.length).tally (472 + n) writes.length
    let s := writes.foldl (fun s w => s.ddrPut (w.1 + 4 * w.2.1) (leBytes 4 w.2.2)) s
    (s.writeRecords n done q.2).afterAdvance n

end Sys2Proof.Machine
end

