-- ==== Sys2Proof/Machine/PartOps.lean ====
section
/-! DEFINITION. What happens to a partition's blocks when it is fenced, scrubbed, unloaded or given other resources. -/

namespace Sys2Proof.Machine

/-- The pages of Pn that a table entry lists. -/
def State.listedPages (s : State) (n : Nat) : List Nat := (s.pages.pages.map (·.1)).filter (fun p => s.pageOwner p = n)

/-- Rows of Pn in zero-and-check are finished first (R274): no page of them fails. -/
def State.finishZero (s : State) (n : Nat) : State :=
  let rows := s.pages.zero.filter (fun z => z.part = n)
  let s := { s with pages := { s.pages with zero := s.pages.zero.filter (fun z => z.part ≠ n) } }
  rows.foldl (fun s z => match z.named with
    | some p => (s.setPage p { st := 2, cause := 5 }).moveBook n 3 2 1
    | none => s) s

/-- Request slots of Pn are cleared without records; its journal entries go, its lists are emptied, and every page that is
ALLOCATED, RECOMPUTE_PENDING or NO_ROW returns to FREE (R49 step 6, R191, R274). -/
def State.clearServing (s : State) (n : Nat) : State :=
  let s := s.finishZero n
  let noRow := (s.listedPages n).filter (fun p => (s.page p).st = 2 ∧ (s.page p).cause = 3)
  let s := (s.listedPages n).foldl (fun s p =>
    let x := s.page p
    if x.st = 1 ∨ x.st = 3 ∨ (x.st = 2 ∧ x.cause = 3) then s.setPage p (s.basePage p) else s.setPage p { x with deferred := false }) s
  let s := s.moveBook n 1 0 (s.rd (bookFld false 1) n)
  let s := s.moveBook n 3 0 (s.rd (bookFld false 3) n)
  let s := s.moveBook n 2 0 noRow.length
  let s := (s.slotsOf n).foldl (fun s x => s.setSlot x {}) s
  let s := ((s.setSrv n {}).rstReg .PAGE_EPOCH n).rstReg .PAGE_PSTAT n
  (s.rstReg .PAGE_PCOUNT n).pageCmdDone n

/-- The page store and the request slots of Pn as a LOAD leaves them (R246, R305): rows are formed, the pages of unusable rows and
those after the last whole row become NO_ROW, counts and slots are cleared, and the gate is open (R291). -/
def State.startServing (s : State) (n : Nat) : State :=
  let s := ((s.rstReg .PAGE_EPOCH n).rstReg .PAGE_PSTAT n).rstReg .PAGE_PCOUNT n
  let s := ((s.rstReg .TILLER_STAT n).rstReg .TILLER_STALL n).setSrv n {}
  let s := s.updSrv n (fun x => { x with policy := s.rdRaw .PAGE_POLICY n })
  let s := (s.slotsOf n).foldl (fun s x => s.setSlot x {}) s
  let s := s.clearPerf n
  let s := s.wr F.PWR_PART_prefill_gate (match (s.wpart n).image with | some im => im.tMax | none => 0) n
  match s.serving n with
  | none => s
  | some sv =>
    let l := sv.layers
    let first := (s.part n).pageFirst
    let rows := (s.part n).pageCount / l
    let usable := (List.range rows).filter (fun r => s.rowIs n (first + r * l) 0)
    let pages := (List.range (s.part n).pageCount).filter (fun k => !(usable.contains (k / l)) && decide ((s.page (first + k)).st = 0))
    let s := pages.foldl (fun s k => s.setPage (first + k) { st := 2, cause := 3 }) s
    let s := s.moveBook n 0 2 pages.length
    (s.wr F.PAGE_PSTAT_rows_usable usable.length n).wr F.PAGE_PSTAT_rows_free usable.length n

/-- Pn's service cores return to RESET (R541). -/
def State.resetCores (s : State) (n : Nat) : State :=
  (s.coresOf n).foldl (fun s c =>
    { (s.wr F.SC_STATE_state 0 c) with cores := Tab.set {} s.cores c {}, irqs := Tab.set [] s.irqs c [] }) s

/-- Pn's service cores start at their programs' entries (R541). -/
def State.startCores (s : State) (n : Nat) : State :=
  match (s.wpart n).image with
  | none => s
  | some im => im.progs.foldl (fun s p =>
      match (s.coresOf n)[p.core]? with
      | some c => { (s.wr F.SC_STATE_state 1 c) with cores := Tab.set {} s.cores c { pc := p.entry, a0 := p.core, a1 := n } }
      | none => s) s

/-- Work of Pn in flight outside its DMA engines: link cells not yet acknowledged (R51). Its Vetiver queries are discarded with the step
at the fence. -/
def State.otherInflight (s : State) (n : Nat) : Nat := s.unanswered n

/-- A VC of a port is reset (R372): the cells waiting on it go, and VC_RESET carries its sent count. -/
def State.resetVc (s : State) (p v : Nat) : State :=
  let q := Tab.get [] (s.lport p).queues v
  let s := s.updLport p (fun x => { x with queues := Tab.set [] x.queues v [] })
  let s := q.foldl (fun s c => match c.ingress with | some i => s.linkFree i v | none => s) s
  let sent := Tab.get 0 (s.lport p).sent v
  let s := s.sendHop p 0x15 (leBytes 2 v ++ leBytes 2 sent)
  s.updLport p (fun x => { x with resets := x.resets.filter (fun e => e.1 ≠ v) ++ [(v, sent)], since := s.clk })

/-- The link VCs of Pn on ports that are UP are reset; answers how many (R49 step 5, R372). -/
def State.retireInflight (s : State) (n : Nat) : State × Nat :=
  let vcs := (ownedIn s.struct.image.vcs n).filter (fun k => s.linkUp (k / 4))
  (vcs.foldl (fun s k => s.resetVc (k / 4) (k % 4)) s, vcs.length)

/-- Pages of Pn that have no frame (R200). -/
def State.frameless (s : State) (n : Nat) : Nat :=
  (s.part n).pageCount - min (s.part n).pageCount (24197 * (s.pcsOf n).length)

/-- The page books follow an APPLY (R251): entries of pages whose owner changed go, and the books are those of the new ranges. -/
def State.applyPages (s : State) (old new : Image) : State :=
  let ownerIn := fun (img : Image) (p : Nat) => img.parts.findIdx? (fun r => r.present && decide (r.pageFirst ≤ p ∧ p < r.pageFirst + r.pageCount))
  let s := { s with pages := { s.pages with pages := Tab.keep s.pages.pages (fun p => ownerIn old p = ownerIn new p) } }
  let s := (List.range 16).foldl (fun s n =>
    if (s.part n).present then
      let q := s.frameless n + ((s.listedPages n).filter (fun p => (s.page p).st = 2)).length
      let s := s.wr F.PAGE_PBOOKS_B_quarantined q n
      s.wr F.PAGE_PBOOKS_A_free ((s.part n).pageCount - q - s.rd F.PAGE_PBOOKS_A_allocated n - s.rd F.PAGE_PBOOKS_B_recompute n) n
    else (s.rstReg .PAGE_PBOOKS_A n).rstReg .PAGE_PBOOKS_B n) s
  let sum := fun f => ((List.range 16).map (fun n => s.rd f n)).sum
  let fr := sum F.PAGE_PBOOKS_A_free
  let al := sum F.PAGE_PBOOKS_A_allocated
  let re := sum F.PAGE_PBOOKS_B_recompute
  ((s.wr F.PAGE_BOOKS_0_free fr).wr F.PAGE_BOOKS_0_allocated al).wr F.PAGE_BOOKS_1_recompute re
    |>.wr F.PAGE_BOOKS_1_quarantined (2097152 - fr - al - re)

/-- Service cores that change owner at an APPLY are reset (R541). -/
def State.applyCores (s : State) (old new : Image) : State :=
  (List.range 16).foldl (fun s c =>
    if old.cores.getD c 0xFF = new.cores.getD c 0xFF then s
    else { (s.wr F.SC_STATE_state 0 c) with cores := Tab.set {} s.cores c {}, irqs := Tab.set [] s.irqs c [] }) s

/-- Clusters that failed join the retired list at the next structure epoch (R42). -/
def State.retireClusters (s : State) : State :=
  let s' := s.fabric.failed.foldl (fun s c =>
    s.bbsPut (0x80 + c / 8) [s.bbsGet (0x80 + c / 8) ||| BitVec.ofNat 8 (2 ^ (c % 8))]) s
  s'.setFabric (fun f => { f with failed := [] })

end Sys2Proof.Machine
end

