-- ==== Sys2Proof/Machine/NypraChecks.lean ====
section
/-! DEFINITION. Reading a Nypra image and the checks of Table 2.5. Each check answers the section type it fails on. -/

namespace Sys2Proof.Machine

/-- Directory entry i of an image: type, length, offset (R34). -/
def nypraEntry (b : List Byte) (i : Nat) : Nat × Nat × Nat :=
  (leAt b (0x80 + 8 * i) 2, leAt b (0x82 + 8 * i) 2, leAt b (0x84 + 8 * i) 4)

def nypraEntries (b : List Byte) : List (Nat × Nat × Nat) :=
  (List.range (min (leAt b 0x2C 2) 16)).map (nypraEntry b)

/-- The bytes of a section, when present. -/
def nypraSection (b : List Byte) (t : Nat) : Option (List Byte) :=
  ((nypraEntries b).find? (fun e => e.1 = t)).map (fun e => slice b e.2.2 e.2.1)

/-- The stated length of a section type (Table 2.3); 0 for a reserved type. -/
def sectionLen (t : Nat) : Nat := [0, 512, 160, 128, 256, 16, 72, 64, 64, 80, 32].getD t 0

/-- An owner map; P0 owns everything where an optional map is absent (R36). -/
def nypraMap (b : List Byte) (t : Nat) : List Nat :=
  match nypraSection b t with
  | some m => m.map (·.toNat)
  | none => List.replicate (sectionLen t) 0

/-- The partition record n (Table 2.4). -/
def nypraPart (b : List Byte) (n : Nat) : PartRec :=
  let r := slice ((nypraSection b 1).getD []) (32 * n) 32
  { present := leAt r 0 1 = 1, clockCap := leAt r 2 2, power := leAt r 4 2, udpFirst := leAt r 6 2, udpCount := leAt r 8 2
    reqFirst := leAt r 10 2, reqCount := leAt r 12 2, pageFirst := leAt r 16 4, pageCount := leAt r 20 4
    ringFirst := leAt r 24 2, ringCount := leAt r 26 2 }

/-- The redundancy record (R38); role SINGLE when absent. -/
def nypraRedun (b : List Byte) : RedunRec :=
  match nypraSection b 10 with
  | some r => { role := leAt r 0 1, port := leAt r 1 1, pairId := leAt r 2 2, partner := leAt r 4 16 }
  | none => {}

/-- The content of a verified image. -/
def nypraImage (b : List Byte) : Image where
  parts := (List.range 16).map (nypraPart b)
  clusters := nypraMap b 2
  engines := nypraMap b 3
  ddr4 := nypraMap b 4
  cores := nypraMap b 5
  vcs := nypraMap b 6
  po := nypraMap b 7
  cv := nypraMap b 8
  video := nypraMap b 9
  redun := nypraRedun b
  version := leAt b 0x28 4
  imageId := leAt b 0x38 8

/-- A section type as failed_section reports it (R39). -/
def sectionCode (t : Nat) : Nat := if 255 < t then 0xFF else t

/-- The first entry that breaks check 7: reserved or repeated type, wrong length, misaligned, outside the section area, or
overlapping an earlier or later section. -/
def nypraDirBad (b : List Byte) : Option Nat :=
  let es := nypraEntries b
  let len := leAt b 0xC 4
  (es.zipIdx.find? (fun p =>
    let (t, l, o) := p.1
    t = 0 || 10 < t || es.zipIdx.any (fun q => q.2 ≠ p.2 && (q.1.1 = t ||
      (decide (q.1.2.2 < o + l ∧ o < q.1.2.2 + q.1.2.1)))) || l ≠ sectionLen t || o % 8 ≠ 0 || o < 256 || len < o + l + 256)).map
    (fun p => sectionCode p.1.1)

/-- The first of some section types that satisfies a test. -/
def firstType (ts : List Nat) (p : Nat → Bool) : Option Nat := ts.find? p

/-- Two ranges of partitions overlap; an empty range takes no part (check 14). -/
def rangesClash (rs : List (Nat × Nat)) (limit : Nat) : Bool :=
  let rs := rs.filter (fun r => r.2 ≠ 0)
  rs.any (fun r => limit < r.1 + r.2) ||
  rs.zipIdx.any (fun p => rs.zipIdx.any (fun q => p.2 < q.2 && decide (p.1.1 < q.1.1 + q.1.2 ∧ q.1.1 < p.1.1 + p.1.2)))

/-- Whether an absent record has a nonzero field, or a present byte or reserved byte breaks R37 (check 10). -/
def recordBad (b : List Byte) (n : Nat) : Bool :=
  let r := slice ((nypraSection b 1).getD []) (32 * n) 32
  let p := leAt r 0 1
  1 < p || leAt r 1 1 ≠ 0 || leAt r 14 2 ≠ 0 || leAt r 28 4 ≠ 0 || (p = 0 && leVal r ≠ 0)

/-- Checks 1 to 19 of Table 2.5 in order: the number of the first that fails and the section it reports. -/
def State.nypraCheck (s : State) (b : List Byte) (readOk : Bool) (srcLen : Nat) : Option (Nat × Nat) :=
  let len := leAt b 0xC 4
  let bound := bit (leAt b 0x14 4) 0
  let img := nypraImage b
  let parts := img.parts.zipIdx
  let present := fun n => (img.parts.getD n {}).present
  let maps : List Nat := [2, 3, 4, 5, 6, 7, 8, 9]
  let own := fun m n => (ownedIn (nypraMap b m) n).length
  let tenants := parts.filter (fun p => p.1.present && p.2 ≠ 0)
  let live := parts.filter (fun p => p.1.present)
  let fails : List (Nat × Option Nat) :=
    [(1, if ! readOk || leAt b 0 4 ≠ 0x5250594E || leAt b 8 4 ≠ 256 || len % 8 ≠ 0 || len < 2048 || 8192 < len || len ≠ srcLen ||
          leAt b 0x2C 2 = 0 || 16 < leAt b 0x2C 2 || (! bound && leAt b 0x18 16 ≠ 0) then some 0 else none),
     (2, if leAt b 4 1 ≠ 1 || leAt b 5 3 ≠ 0 || 1 < leAt b 0x14 4 || leAt b 0x2E 2 ≠ 0 || leVal (slice b 0x40 64) ≠ 0 ||
          leVal (slice b (0x80 + 8 * leAt b 0x2C 2) (8 * (16 - leAt b 0x2C 2))) ≠ 0 || ! blockOk (slice b (len - 256) 256)
          then some 0 else none),
     (3, if leAt b 0x10 4 ≠ 0x0007A384 then some 0 else none),
     (4, if bound && leAt b 0x18 16 ≠ s.identity then some 0 else none),
     (5, if img.version < s.bbsRd 0x28 4 then some 0 else none),
     (6, if ! s.verifies 1 0 (b.take (len - 256)) (slice b (len - 256) 256) then some 0 else none),
     (7, nypraDirBad b),
     (8, firstType [1, 2, 3, 4, 5] (fun t => (nypraSection b t).isNone)),
     (9, firstType maps (fun t => (nypraMap b t).any (fun o => 15 < o && o ≠ 0xFF))),
     (10, match firstType maps (fun t => (nypraMap b t).any (fun o => o ≠ 0xFF && ! present o)) with
          | some t => some t
          | none => if (List.range 16).any (recordBad b) then some 1 else none),
     (11, if ! present 0 then some 1 else if img.cores.getD 0 0xFF ≠ 0 then some 5
          else if (img.parts.getD 0 {}).ringFirst ≠ 0 || (img.parts.getD 0 {}).ringCount < 16 then some 1 else none),
     (12, if tenants.any (fun p => own 2 p.2 = 0) then some 2 else if tenants.any (fun p => own 5 p.2 = 0) then some 5
          else if tenants.any (fun p => p.1.ringCount < 2) then some 1 else none),
     (13, if img.clusters.zipIdx.any (fun p => p.1 ≠ 0xFF && (s.bbsGet (0x80 + p.2 / 8)).toNat.testBit (p.2 % 8)) then some 2
          else none),
     (14, if rangesClash (live.map (fun p => (p.1.ringFirst, p.1.ringCount))) 4096 ||
             rangesClash (live.map (fun p => (p.1.reqFirst, p.1.reqCount))) 2048 ||
             rangesClash (live.map (fun p => (p.1.pageFirst, p.1.pageCount))) 2097152 ||
             rangesClash (live.map (fun p => (p.1.udpFirst, p.1.udpCount))) 65536 then some 1 else none),
     (15, if live.any (fun p => p.1.pageFirst % 1024 ≠ 0 || p.1.pageCount % 1024 ≠ 0 ||
             own 3 p.2 * 2 * 0x60000000 < p.1.pageCount * 66560) then some 1 else none),
     (16, if live.any (fun p => p.1.clockCap % 25 ≠ 0 || p.1.clockCap < 400 || 1600 < p.1.clockCap) then some 1 else none),
     (17, if 2000 < (live.map (fun p => p.1.power)).sum || (img.parts.getD 0 {}).power < 250 || tenants.any (fun p => p.1.power = 0)
          then some 1 else none),
     (18, match nypraSection b 10 with
          | none => none
          | some r =>
            if 2 < leAt r 0 1 || (leAt r 0 1 = 0 && leVal r ≠ 0) || leVal (slice r 20 12) ≠ 0 ||
               (leAt r 0 1 ≠ 0 && (leAt r 1 1 < 16 || 17 < leAt r 1 1 || leAt r 4 16 = s.identity)) then some 10 else none),
     (19, if img.redun.role ≠ 0 && img.vcs.getD (4 * img.redun.port + 3) 0xFF ≠ 0 then some 6 else none)]
  (fails.find? (fun f => f.2.isSome)).map (fun f => (f.1, f.2.getD 0))

/-- The section types in which two images differ for partition n; with `caps` clock_cap and power_budget count too. -/
def partDiffers (a b : Image) (n : Nat) (caps : Bool) : List Nat :=
  let ra := a.parts.getD n {}
  let rb := b.parts.getD n {}
  let rb' := if caps then rb else { rb with clockCap := ra.clockCap, power := ra.power }
  let m := fun (t : Nat) (x y : List Nat) => if ownedIn x n = ownedIn y n then [] else [t]
  (if ra = rb' then [] else [1]) ++ m 2 a.clusters b.clusters ++ m 3 a.engines b.engines ++ m 4 a.ddr4 b.ddr4 ++
    m 5 a.cores b.cores ++ m 6 a.vcs b.vcs ++ m 7 a.po b.po ++ m 8 a.cv b.cv ++ m 9 a.video b.video

/-- Checks 20 to 22 against the partition states now (R39). -/
def State.applyCheck (s : State) (new : Image) : Option (Nat × Nat) :=
  let old := s.struct.image
  let all := List.range 16
  let d20 := all.flatMap (fun n => if s.pstate n = 2 then partDiffers old new n false else []) ++
    (if all.any (fun n => s.pstate n = 2) && old.redun.role ≠ new.redun.role then [10] else [])
  let d21 := all.flatMap (fun n => if s.beingRemoved n then partDiffers old new n true else [])
  if d20 ≠ [] then some (20, d20.min?.getD 0)
  else if d21 ≠ [] then some (21, d21.min?.getD 0)
  else if new.version < s.bbsRd 0x28 4 then some (22, 0)
  else none

end Sys2Proof.Machine
end

