-- ==== Sys2Proof/Machine/Structure.lean ====
section
/-! DEFINITION. The commands of the Nypra loader: verify, apply, discard, remove, commit (R44 to R51), and the end of a hold
(R596). -/

namespace Sys2Proof.Machine

def nypraIdle : Nat := 0
def nypraVerifying : Nat := 1
def nypraStaged : Nat := 2
def nypraApplying : Nat := 3
def nypraRefused : Nat := 4
def nypraRemoving : Nat := 5

def State.nypraState (s : State) : Nat := s.rd F.NYPRA_STATUS_state
def State.setNypra (s : State) (st : Nat) (busy : Bool) : State :=
  (s.wr F.NYPRA_STATUS_state st).wr F.NYPRA_STATUS_busy (ofBool busy)

/-- A loader command: reach (R44), the rejection while busy (R45), then the command. -/
def State.nypraCommand (s : State) (m : Master) (f : State → State) : Res :=
  guardHcs (s.isOperator m) s fun s =>
    if s.rdB F.NYPRA_STATUS_busy then s.setB F.NYPRA_EVENT_cmd_rejected else f s

def State.setStruct (s : State) (f : Struct → Struct) : State := { s with struct := f s.struct }

/-- R46 step 1: the image is copied from P0's DDR4 granules into hub SRAM. -/
def execVerify (m : Master) (s : State) : Res :=
  s.nypraCommand m fun s =>
    let a := s.rd F.NYPRA_SRC_ADDR_addr * 4096
    let len := s.rd F.NYPRA_SRC_LEN_len
    let owned := s.ddrOwned 0 a len
    let bad := if owned then s.badUnit a len else none
    let s := match bad with | some u => s.meetUnit (max a (u * 256)) | none => s
    let ok := owned && bad.isNone
    let bytes := if ok then s.bytesAt (ddr a) len else []
    let s := s.setStruct (fun t => { t with staged := some { bytes := bytes, len := len, readOk := ok } })
    ((s.wr F.NYPRA_STATUS_failed_check 0).wr F.NYPRA_STATUS_failed_section 0).setNypra nypraVerifying true

/-- The loader refuses the image (R39). -/
def State.nypraRefuse (s : State) (check sect : Nat) : State :=
  ((s.wr F.NYPRA_STATUS_failed_check check).wr F.NYPRA_STATUS_failed_section sect).setNypra nypraRefused false
    |>.setB F.NYPRA_EVENT_refused

/-- R39: checks 1 to 19 decide between STAGED and REFUSED. -/
def execVerifyDone (s : State) : Res :=
  match s.struct.staged with
  | none => .next s
  | some g =>
    if s.nypraState ≠ nypraVerifying then .next s
    else match s.nypraCheck g.bytes g.readOk g.len with
      | some (c, t) => .next (s.nypraRefuse c t)
      | none =>
        let s := s.setStruct (fun t => { t with staged := some { g with image := nypraImage g.bytes } })
        .next ((s.setNypra nypraStaged false).setB F.NYPRA_EVENT_verify_done)

/-- A loader command of Pn ends with STRUCTURE_CHANGED (R189); the partition is left as it was before it. -/
def State.loadEnds (s : State) (n check reason : Nat) : State :=
  match (s.wpart n).load with
  | none => s
  | some _ =>
    let s := s.setWpart n { s.wpart n with load := none }
    let run := if s.pstate n = 2 then (if s.stopped n then 3 else 2) else 0
    let s := ((s.wr F.WIMG_STATUS_run_state run n).wr F.WIMG_STATUS_busy 0 n).wr F.WIMG_STATUS_reason reason n
    (s.wr F.WIMG_STATUS_check check n).setB F.WIMG_EVENT_refused n

/-- The bank owner of a quadrant under an image (R96). -/
def bankOwner (img : Image) (quad bank : Nat) : Nat :=
  let cl := fun k => img.clusters.getD (40 * (quad / 4) + 10 * (quad % 4) + k) 0xFF
  if bank < 20 then cl (bank / 2)
  else
    let count := fun m => ((List.range 10).filter (fun k => cl k = m)).length
    let best := (List.range 16).foldl (fun b m => if count b < count m then m else b) 0
    if count best = 0 then 0xFF else best

/-- The owner under an image of the resource that holds a byte of memory. -/
def byteOwner (img : Image) (a : Nat) : Nat :=
  let u := a % 2 ^ 60 / 2 ^ 48
  match addrKind a with
  | 0 => img.clusters.getD (u / 8) 0xFF
  | 1 => bankOwner img u (a % 2 ^ 48 / 2 ^ 20)
  | 2 => img.engines.getD (u / 2) 0xFF
  | _ => img.ddr4.getD (a % 2 ^ 60 / 2 ^ 30) 0xFF

/-- Every pseudo-channel, store and granule whose owner differs is zeroed, and no unit of it stays uncorrectable. -/
def State.scrubChanged (s : State) (old new : Image) : State :=
  let s := s.zeroWhere (fun a => byteOwner old a ≠ byteOwner new a)
  let keep := fun u => byteOwner old (ddr (u * 256)) = byteOwner new (ddr (u * 256))
  { s with badUnits := s.badUnits.filter keep, badRecord := s.badRecord.filter keep }

/-- A ring that changes owner becomes DISABLED; a CREATE of it ends with STRUCTURE_CHANGED (R307, Table 12.3). -/
def State.applyRings (s : State) (old : Image) : State :=
  let ownerIn := fun (img : Image) (r : Nat) =>
    (img.parts.findIdx? (fun p => p.present && decide (p.ringFirst ≤ r ∧ r < p.ringFirst + p.ringCount)))
  (s.rings.map (·.1)).foldl (fun s r =>
    if ownerIn old r = ownerIn s.struct.image r then s
    else
      let x := s.ring r
      let s := if x.creating then
          ((s.wr F.RING_STATUS_result 3 x.window).wr F.RING_STATUS_reason 9 x.window).wr F.RING_STATUS_busy 0 x.window else s
      (s.disableRing r).setRing r {}) s

/-- A plant output or check-value channel that changes owner returns to its reset values (R395). -/
def State.applyChannels (s : State) (old new : Image) : State :=
  (List.range 64).foldl (fun s k =>
    let s := if old.po.getD k 0xFF = new.po.getD k 0xFF then s
      else ([RegId.PO_DEST, .PO_LINK, .PO_BUF, .PO_CFG, .PO_TX, .PO_STATE].foldl (fun s r => s.rstReg r k) s).setPo k {}
    if old.cv.getD k 0xFF = new.cv.getD k 0xFF then s
    else ([RegId.CV_CFG, .CV_DATA_ID, .CV_INIT, .CV_XOROUT, .CV_SCAN_ADDR, .CV_SCAN_LEN, .CV_RESULT, .CV_STAT].foldl
      (fun s r => s.rstReg r k) s).setCv k {}) s

/-- R46 steps 4 and 5: checks 20 to 22; then loader commands that the change reaches end, resources of ABSENT and EMPTY
partitions are re-assigned and scrubbed, and a partition no longer present becomes ABSENT with its key epoch advanced. LOADED
partitions keep their cap and budget until step 6; role, version and id follow at step 7. -/
def execApply (m : Master) (s : State) : Res :=
  s.nypraCommand m fun s =>
    match s.struct.staged with
    | none => s.setB F.NYPRA_EVENT_cmd_rejected
    | some g =>
      if s.nypraState ≠ nypraStaged then s.setB F.NYPRA_EVENT_cmd_rejected
      else match s.applyCheck g.image with
        | some (c, t) => s.nypraRefuse c t
        | none =>
          let old := s.struct.image
          let s := (List.range 16).foldl (fun s n =>
            if partDiffers old g.image n false = [] then s else s.loadEnds n 0 0x0602) s
          let mid : Image := { g.image with
            parts := g.image.parts.zipIdx.map (fun p => if s.pstate p.2 = 2 then
              { p.1 with clockCap := (old.parts.getD p.2 {}).clockCap, power := (old.parts.getD p.2 {}).power } else p.1)
            redun := old.redun, version := old.version, imageId := old.imageId }
          let fresh := (List.range 16).filter (fun n => s.pstate n = 0 && (mid.parts.getD n {}).present)
          let gone := (List.range 16).filter (fun n => s.pstate n = 1 && ! (mid.parts.getD n {}).present)
          let s := s.setStruct (fun t => { t with image := mid, scrubbing := fresh, scrubbed := false })
          let s := gone.foldl (fun s n => (s.setPstate n 0).advanceEpoch n false) s
          let s := (((s.scrubChanged old mid).applyRings old).applyChannels old mid).applyPages old mid
          let s := (s.applyVideo old mid).applyCores old mid
          s.setNypra nypraApplying true

/-- Whether a hold of R596 keeps partitions from becoming EMPTY. -/
def State.heldBack (s : State) : Bool :=
  ! s.struct.bootScrubbed || s.fatalHeld || s.rd F.SEC_STATE_lifecycle = 2 || s.struct.limited

/-- R46 step 5 ends: partitions newly present become EMPTY unless a hold applies. -/
def execApplyScrubDone (s : State) : Res :=
  if s.nypraState ≠ nypraApplying then .next s
  else
    let fresh := s.struct.scrubbing
    let s := s.setStruct (fun t => { t with scrubbing := [], scrubbed := true })
    .next (if s.heldBack then s else fresh.foldl (fun s n => s.setPstate n 1) s)

/-- R46 steps 6 and 7: new caps and budgets apply, structure_epoch increments, and the staged image is the applied one. A
change of role sets the lease state afresh; a holder first gives the lease up (R43). -/
def execApplyDone (s : State) : Res :=
  match s.struct.staged with
  | none => .next s
  | some g =>
    if s.nypraState ≠ nypraApplying ∨ ! s.struct.scrubbed then .next s
    else
      let change := s.struct.image.redun.role ≠ g.image.redun.role
      let s := if change then s.giveUpLease else s
      let s := s.setStruct (fun t => { t with image := g.image, staged := none, scrubbed := false })
      let s := { s with sec := { s.sec with nypraDigest := sha g.bytes } }
      let s := (s.incWrap F.NYPRA_STATUS_structure_epoch).wr F.NYPRA_ACTIVE_ID_image_id g.image.imageId
      let s := (s.wr F.NYPRA_VERSION_active g.image.version).retireClusters
      let s := if change then s.initLease else s
      .next ((s.setNypra nypraIdle false).setB F.NYPRA_EVENT_apply_done)

/-- R47: a staged or refused image is dropped. -/
def execDiscard (m : Master) (s : State) : Res :=
  s.nypraCommand m fun s => (s.setStruct (fun t => { t with staged := none })).setNypra nypraIdle false

/-- R49 steps 1 to 3: fence, revoke and flush. REMOVE of P0 or of an ABSENT partition is rejected (R45). -/
def execRemove (m : Master) (n : PartId) (s : State) : Res :=
  s.nypraCommand m fun s =>
    let p := n.val
    if p = 0 ∨ s.pstate p = 0 then s.setB F.NYPRA_EVENT_cmd_rejected
    else
      let back := s.nypraState
      let s := s.loadEnds p 0 0x0602
      let busy := (s.liveRings p).map (fun r => ((s.ring r).flights.filter (fun f => f.stage = .moving)).length)
      let inflight := busy.sum + s.otherInflight p
      let s := ((s.discardStep p).stopClusters p).abortTests p
      let s := (s.setPstate p 3).wr F.WIMG_STATUS_run_state 3 p
      let s := ((s.fenceRings p).resetCores p).fenceVideo p
      let s := (List.range 64).foldl (fun s k =>
        if s.cvOwner k = p && ((s.cvChan k).scan).isSome then
          (s.wr F.CV_STAT_scan_busy 0 k).setCv k { s.cvChan k with scan := none } else s) s
      let s := (s.endConsent p).advanceEpoch p true
      let s := (s.liveRings p).foldl (fun s r => s.dropFlights r) s
      let s := (((s.wr F.PART_REMOVE_channels_reset 0).wr F.PART_REMOVE_auth_discards 0).wr F.PART_REMOVE_inflight inflight).wr
        F.PART_REMOVE_partition p
      let s := s.setStruct (fun t => { t with removal := some { part := p, back := back, deadline := s.clk + 2000000 } })
      s.setNypra nypraRemoving true

/-- R49 step 6 begins. -/
def State.beginScrub (s : State) (x : Removal) : State :=
  (s.setPstate x.part 4).setStruct (fun t => { t with removal := some { x with scrubbing := true } })

/-- R49 step 4: the in-flight count has reached zero. -/
def execRemovalDrainDone (s : State) : Res :=
  match s.struct.removal with
  | none => .next s
  | some x =>
    if x.scrubbing then .next s
    else .next ((s.wr F.PART_REMOVE_inflight 0).beginScrub x)

/-- R49 step 5: at 2 ms with work left, DMA engines, engine queues and link VCs are reset and counted. -/
def execRemovalTimeout (s : State) : Res :=
  match s.struct.removal with
  | none => .next s
  | some x =>
    if x.scrubbing ∨ s.rd F.PART_REMOVE_inflight = 0 then .next s
    else
      let s := s.advanceTo x.deadline
      let r := s.retireInflight x.part
      let engines := min 48 (s.rd F.PART_REMOVE_inflight - s.otherInflight x.part)
      let s := (r.1.wr F.PART_REMOVE_channels_reset (min 255 (engines + r.2))).wr F.PART_REMOVE_inflight 0
      .next (((s.setB F.NYPRA_EVENT_removal_timeout).event Src.removal 1).beginScrub x)

/-- R49 steps 6 and 7: stores and granules are zero, pages free, slots clear, rings DISABLED, tombstones gone; EMPTY. -/
def execRemovalScrubDone (s : State) : Res :=
  match s.struct.removal with
  | none => .next s
  | some x =>
    if ! x.scrubbing then .next s
    else
      let n := x.part
      let img := s.struct.image
      let mine := fun a => byteOwner img a = n
      let s := s.zeroWhere mine
      let other := fun u => ! mine (ddr (u * 256))
      let s := { s with badUnits := s.badUnits.filter other, badRecord := s.badRecord.filter other }
      let s := (s.clearServing n).clearVideo n
      let s := (s.ringsOf n).foldl (fun s r => if s.ring r = {} then s.wr F.RING_STATE_state 0 r else (s.disableRing r).setRing r {}) s
      let s := ((s.dropTombs n).setWpart n {}).wr F.WIMG_STATUS_run_state 0 n
      let s := (s.wr F.WIMG_ACTIVE_ID_image_id 0 n).setCauses (Src.stop n) []
      let s := { s with reruns := Tab.set {} s.reruns n {} }.clearPerf n
      let s := (s.setPstate n 1).setStruct (fun t => { t with removal := none })
      .next ((s.setNypra x.back false).setB F.NYPRA_EVENT_removal_done)

/-- R48, R458: the floor, in both its copies, is raised to the applied image's version; it never falls. -/
def execCommitVersion (m : Master) (s : State) : Res :=
  s.nypraCommand m fun s =>
    if s.bbsRd 0x28 4 < s.struct.image.version then s.setCounter 2 s.struct.image.version else s

/-- R32: the scrub of all stores and granules is complete. -/
def execBootScrubDone (s : State) : Res := .next (s.setStruct (fun t => { t with bootScrubbed := true }))

/-- R596: a partition named present and held back becomes EMPTY once no hold remains and its scrubs are done. -/
def execPartitionBecomesEmpty (n : PartId) (s : State) : Res :=
  if (s.part n.val).present && s.pstate n.val = 0 && ! s.heldBack && ! s.struct.scrubbing.contains n.val then
    .next (s.setPstate n.val 1)
  else .next s

end Sys2Proof.Machine
end

