-- ==== Sys2Proof/Machine/Ddr4.lean ====
section
/-! DEFINITION. The commands of the DDR4 tier (R339 to R345). -/

namespace Sys2Proof.Machine

/-- A second uncorrectable word in the same unit within a repeated run stops the partition (R205, R342); a first one joins the
run's record. -/
def State.repeatIn (s : State) (n key cause : Nat) : State × Bool :=
  let x := Tab.get {} s.reruns n
  if x.active then
    if x.units.contains key then (s.stopPartition n cause, true)
    else ({ s with reruns := Tab.set {} s.reruns n { x with units := x.units ++ [key] } }, false)
  else (s, false)

/-- What the module does on an uncorrectable DDR4 word of its unit's role (Table 13.2). -/
def State.ddr4Bad (s : State) (addr : Nat) (byPatrol : Bool) : State :=
  let u := addr / 256
  let n := s.granuleOwner (u / 2 ^ 22)
  let role := s.unitRole u
  let s := s.meetUnit addr
  if n = 0xFF then
    if byPatrol then s.ddrPut (u * 256) (List.replicate 256 0#8) else s
  else
    let s := if s.badUnits.contains u then s else { s with badUnits := s.badUnits ++ [u] }
    if role = 1 && ! byPatrol then (s.repeatIn n (ddr (u * 256)) 6).1 else s

/-- R340: an uncorrectable word is met by a reader or by the patrol. -/
def execDdr4Uncorrectable (addr : Nat) (byPatrol : Bool) (s : State) : Res := .next (s.ddr4Bad (addr % 2 ^ 38) byPatrol)

/-- Table 13.2, WEIGHTS: the unit has been rewritten from its stack copy and the reader goes on; a stack copy that is itself
uncorrectable stops the partition (R205). -/
def execWeightsUnitRestored (addr : Nat) (ok : Bool) (s : State) : Res :=
  let u := addr % 2 ^ 38 / 256
  if s.badUnits.contains u ∧ s.unitRole u = 1 then
    if ok then
      let s := { s with badUnits := s.badUnits.filter (fun x => x ≠ u), badRecord := s.badRecord.filter (fun x => x ≠ u) }
      .next (s.inc F.DDR4_ERR_restored)
    else .next (s.stopPartition (s.granuleOwner (u / 2 ^ 22)) 4)
  else .next s

/-- n events of a detail code at a source, one after another. -/
def State.events (s : State) (i detail : Nat) : Nat → State
  | 0 => s
  | k + 1 => (s.event i detail).events i detail k

/-- R343: the patrol has read every word once: corrected words and uncorrectable ones as Table 13.2 states. -/
def execDdr4PatrolPass (corrected : Nat) (bad : List Nat) (s : State) : Res :=
  let s := s.advancePeriod (s.rd F.DDR4_SCRUB_period_s * 1000000000)
  let s := (s.inc F.DDR4_ERR_corrected 0 0 corrected).events Src.ddr4 1 corrected
  let s := bad.foldl (fun s a => s.ddr4Bad (a % 2 ^ 38) true) s
  .next (s.inc F.DDR4_SCRUB_passes)

end Sys2Proof.Machine
end

