-- ==== Sys2Proof/Machine/KernelChecks.lean ====
section
/-! DEFINITION. Kernel records (R180) and the load-time checks of R129. -/

namespace Sys2Proof.Machine

/-- A kernel record's parts at an offset of KERNELS: the record, its stream range, its reserved bytes, the offset after it. -/
def kernelAt (b : List Byte) (o : Nat) : Kernel × Nat × Nat :=
  let n := leAt b o 4
  ({ vregs := leAt b (o + 4) 1, groups := leAt b (o + 5) 1, budget := leAt b (o + 8) 8
     tileBase := leAt b (o + 16) 4, tileLen := leAt b (o + 20) 4, quadBase := leAt b (o + 24) 4, quadLen := leAt b (o + 28) 4
     streamAt := leAt b (o + 32) 8, streamLen := leAt b (o + 40) 8
     code := (List.range (min n 8193)).map (fun k => leAt b (o + 64 + 8 * k) 8) },
   leAt b (o + 6) 2 + leVal (slice b (o + 48) 16), o + 64 + 8 * n)

/-- The kernel records of a section; `none` when they do not end with the section or a reserved byte is used. -/
def kernelsFrom : Nat → List Byte → Nat → List Kernel → Option (List Kernel)
  | 0, _, _, _ => none
  | k + 1, b, o, acc =>
    if o = b.length then some acc
    else if b.length < o + 64 then none
    else
      let r := kernelAt b o
      if b.length < r.2.2 ∨ r.2.1 ≠ 0 then none else kernelsFrom k b r.2.2 (acc ++ [r.1])

def kernelsOf (b : List Byte) : Option (List Kernel) := kernelsFrom (b.length / 64 + 1) b 0 []

/-- What a word uses, by class and operation (Tables 5.4 to 5.13): forms (0 register, 1 immediate, 2 both), vector registers, starts of
four-register groups, scalar registers, predicates, the aux bits defined, and a condition on the rest. -/
structure LaneUse where
  form : Nat
  vs : List Nat := []
  quads : List Nat := []
  ss : List Nat := []
  ps : List Nat := []
  aux : Nat := 0
  cond : Bool := true
  deriving DecidableEq, Repr

/-- Largest element position of an element of a width in a register (R124). -/
def elemMost (k : Nat) : Nat := if k < 2 then 1 else if k < 6 ∨ k = 7 then 3 else 7

/-- The use of a word; `none` for a reserved class or operation. -/
def laneUse (w : Nat) : Option LaneUse :=
  let op := bits w 59 54
  let imm := bit w 49
  let d := bits w 45 40
  let a := bits w 39 34
  let b := bits w 33 28
  let c := bits w 27 22
  let sb := bit w 21
  let immV := w % 2 ^ 32
  let aux2 := bits w 33 32
  let vb := if imm || sb then [] else [b]
  let sbL := if !imm && sb then [b] else []
  let el := bits w 19 16
  match bits w 63 60 with
  | 0 =>
    match op with
    | 0 | 1 | 2 => some { form := 1, cond := aux2 = 0 }
    | 3 => some { form := 1, ss := [a] }
    | 4 => some { form := 1, ps := [a], cond := decide (aux2 ≤ 2) }
    | 5 => some { form := 1, cond := decide (aux2 = 0 ∧ immV < 4) }
    | 8 => some { form := 1, cond := decide (aux2 = 0 ∧ immV < 8) }
    | _ => none
  | 1 =>
    if 0x0B < op then none
    else if op = 0x0B then some { form := 0, vs := [d, a, c] ++ vb, ss := sbL, aux := 2 ^ 21 }
    else if op = 3 then some { form := 2, vs := [d, a] ++ vb ++ (if imm then [] else [c]), ss := sbL, aux := 2 ^ 21, cond := !imm || aux2 = 0 }
    else if op = 6 ∨ op = 7 ∨ op = 8 ∨ op = 0x0A then some { form := 2, vs := [d, a], aux := 2 ^ 21, cond := !imm || aux2 = 0 }
    else some { form := 2, vs := [d, a] ++ vb, ss := sbL, aux := 2 ^ 21, cond := !imm || aux2 = 0 }
  | 2 => if 7 < op then none else some { form := 0, vs := [d, a] ++ (if op = 2 then [b] else []), cond := bits w 47 46 = 0 }
  | 3 =>
    if 0x0E < op then none
    else if op = 3 then some { form := 2, vs := [d, a] ++ vb ++ (if imm then [] else [c]), ss := sbL, aux := 2 ^ 21, cond := !imm || aux2 = 0 }
    else if op = 7 then some { form := 2, vs := [d, a], aux := 2 ^ 21, cond := !imm || aux2 = 0 }
    else some { form := 2, vs := [d, a] ++ vb, ss := sbL, aux := 2 ^ 21, cond := !imm || aux2 = 0 }
  | 4 =>
    if 2 < op then none
    else some { form := 0, vs := [a] ++ vb, ss := sbL, aux := 63 * 2 ^ 16
                cond := decide (d ≤ 6 ∧ bits w 20 18 ≤ (if op = 0 then 6 else 5) ∧ bits w 17 16 ≤ 2) }
  | 5 =>
    let use := fun (ok : Bool) => some ({ form := 0, vs := [d, a], aux := 15 * 2 ^ 16, cond := ok } : LaneUse)
    if op ≤ 8 then use (decide (el ≤ elemMost op))
    else if op = 9 ∨ op = 0x19 then use (decide (el = 0))
    else if op = 0x0A ∨ op = 0x1A then use (decide (el ≤ 3))
    else if 0x10 ≤ op ∧ op ≤ 0x18 then use (decide (el ≤ elemMost (op - 0x10)))
    else if op = 0x20 then use (decide (el ≤ 5))
    else none
  | 6 =>
    match op with
    | 0 => some { form := 2, vs := if imm then [d] else [d, a], aux := 2 ^ 21, cond := !imm || aux2 = 0 }
    | 1 => some { form := 0, vs := [d, a] ++ vb, ss := sbL, ps := [c], aux := 2 ^ 21 }
    | 2 => some { form := 0, vs := [d], aux := 2 ^ 21 }
    | 3 => some { form := 0, vs := [d], ss := [a], aux := 2 ^ 21 }
    | 4 => some { form := 0, vs := [d, a] ++ vb, ss := sbL, aux := 2 ^ 21 }
    | 5 | 6 | 7 => some { form := 1, vs := [d, a], cond := aux2 = 0 }
    | 8 => some { form := 0, ss := [d], ps := [a], aux := 2 ^ 21 }
    | 9 => some { form := 1, vs := [a], ss := [d], cond := aux2 = 0 }
    | _ => none
  | 7 =>
    let aux := 0xFFFF * 2 ^ 6
    if op = 5 ∨ op = 0x11 then some { form := 0, vs := [a], quads := [d], ss := [b], aux := aux }
    else if op ≤ 4 ∨ op = 0x10 then some { form := 0, vs := [a, d], ss := [b], aux := aux }
    else if op = 0x0B ∨ op = 0x13 then some { form := 0, vs := [a], quads := [c], ss := [b], aux := aux }
    else if (8 ≤ op ∧ op ≤ 0x0A) ∨ op = 0x12 then some { form := 0, vs := [a, c], ss := [b], aux := aux }
    else if (0x20 ≤ op ∧ op ≤ 0x25) ∨ (0x30 ≤ op ∧ op ≤ 0x35) then some { form := 0, vs := [a, c, d], ss := [b], aux := aux }
    else none
  | 8 => if 1 < op then none else some { form := 0, ss := [a, b, c], aux := 0x1FFF * 2 ^ 9, cond := decide (op = 0 ∨ bits w 16 9 = 0) }
  | 9 =>
    if op ≤ 7 ∨ op = 0x0B then some { form := 2, ss := [d, a] ++ (if imm then [] else [b]), cond := !imm || aux2 = 0 }
    else if op = 8 then some { form := 2, ss := if imm then [d] else [d, a], cond := !imm || aux2 = 0 }
    else if op = 9 then some { form := 1, ss := [d], cond := aux2 = 0 }
    else if op = 0x0A then some { form := 1, ss := [d], cond := decide (aux2 = 0 ∧ immV ≤ 5) }
    else if op = 0x0C then some { form := 1, ss := [d, a], cond := aux2 = 0 }
    else none
  | _ => none

/-- R129 on instruction i of a kernel of n instructions. -/
def laneOk (vregs n i w : Nat) : Bool :=
  match laneUse w with
  | none => false
  | some u =>
    let cls := bits w 63 60
    let imm := bit w 49
    let uniform := decide (cls = 0 ∨ cls = 8 ∨ cls = 9)
    let target : Int := (i : Int) + (BitVec.ofNat 32 w).toInt
    u.cond && (u.form = 2 || (u.form = 1) == imm) && (!(bit w 48) || cls = 5) &&
    (!uniform || (bits w 53 51 = 7 && !(bit w 50))) &&
    u.vs.all (fun r => decide (r < vregs)) && u.quads.all (fun r => decide (r % 4 = 0 ∧ r + 3 < vregs)) &&
    u.ss.all (fun r => decide (r ≤ 15)) && u.ps.all (fun r => decide (r ≤ 7)) &&
    (imm || decide (w % 2 ^ 22 &&& u.aux = w % 2 ^ 22)) &&
    (!(cls = 0 && (bits w 59 54 = 2 || bits w 59 54 = 3 || bits w 59 54 = 4)) || decide (0 ≤ target ∧ target < n))

/-- R113, R115, R116, R129, R132, R180 on a kernel. -/
def kernelOk (k : Kernel) : Bool :=
  let n := k.code.length
  let last := k.code.getLastD 0
  decide (8 ≤ k.vregs ∧ k.vregs ≤ 64 ∧ k.vregs % 8 = 0 ∧ 1 ≤ k.groups ∧ k.groups ≤ min 32 (1024 / k.vregs) ∧
    1024 ≤ k.budget ∧ k.budget ≤ 2 ^ 32 ∧ 1 ≤ n ∧ n ≤ 8192 ∧ k.tileBase % 256 = 0 ∧ k.tileLen % 256 = 0 ∧ k.quadBase % 256 = 0 ∧
    k.quadLen % 256 = 0 ∧ bits last 63 60 = 0 ∧ (bits last 59 54 = 1 ∨ bits last 59 54 = 2)) &&
  k.code.zipIdx.all (fun p => laneOk k.vregs n p.2 p.1)

end Sys2Proof.Machine
end

