-- ==== Sys2Proof/Machine/Shapes.lean ====
section
/-! DEFINITION. Formats and shapes of tensors (06, 07): where an element lies, output extents, broadcasting. -/

namespace Sys2Proof.Machine

/-! ## Formats (Table 7.4) -/

/-- Bits of a stored element. -/
def fmtBits (f : Nat) : Nat :=
  match f with
  | 0 => 32 | 1 => 16 | 2 => 16 | 3 => 8 | 4 => 8 | 5 => 8 | 6 => 8 | 7 => 6 | 8 => 6 | 9 => 4 | 10 => 8 | 11 => 8 | 12 => 4
  | 13 => 32 | _ => 64

/-- Formats with a scale array. -/
def fmtMx (f : Nat) : Bool := decide (5 ≤ f ∧ f ≤ 10)

/-- The value of an element code; an MX element without its scale. -/
def fmtDec (f code : Nat) : FV :=
  if f = 0 then fp32.dec code
  else if fmtMx f then mxDec (f - 5) code
  else if f = 11 then narrowDec 7 code else if f = 12 then narrowDec 8 code
  else if f = 13 then FV.ofInt (toSigned 32 code) 0
  else narrowDec (f - 1) code

/-- Saturation where it is not stated (R70). -/
def satDefault (f : Nat) : Bool := decide (f = 3 ∨ f = 4)

/-- The code of a value in a format without a scale (R69 to R71). -/
def fmtEnc (f rm : Nat) (sat : Bool) (v : FV) : Nat :=
  if f = 0 then (roundF rm v).toNat
  else if f = 11 then narrowEnc 7 rm sat v else if f = 12 then narrowEnc 8 rm sat v
  else if f = 13 then ofSigned 32 (toIntClamp rm (-2147483648) 2147483647 v)
  else narrowEnc (f - 1) rm sat v

/-! ## Shapes -/

def prodL (l : List Nat) : Nat := l.foldl (· * ·) 1

/-- The row-major place of an index. -/
def flat (ext idx : List Nat) : Nat := (ext.zip idx).foldl (fun a p => a * p.1 + p.2) 0

/-- The index at a row-major place. -/
def unflat : List Nat → Nat → List Nat
  | [], _ => []
  | e :: t, k => (k / prodL t % max e 1) :: unflat t k

/-- Every index of a shape in row-major order. -/
def allIdx (ext : List Nat) : List (List Nat) := (List.range (prodL ext)).map (unflat ext)

/-- Channel lanes of a block: 0 for ROW. -/
def laneCount (layout : Nat) : Nat := if layout = 1 then 16 else if layout = 2 then 32 else 0

end Sys2Proof.Machine

namespace Sys2Proof

open Machine

/-- Rows of a tensor and positions of a row (R598). -/
def TRef.rowLen (t : TRef) : Nat := if laneCount t.layout = 0 then t.ext.getLastD 1 else laneCount t.layout
def TRef.rowExt (t : TRef) : List Nat :=
  let cb := laneCount t.layout
  if cb = 0 then t.ext.dropLast
  else match t.ext with
    | [n, c, h, w] => [n, ceilDiv c cb, h, w]
    | l => l
def TRef.rows (t : TRef) : Nat := prodL t.rowExt

/-- Row and position of an index. -/
def TRef.place (t : TRef) (idx : List Nat) : Nat × Nat :=
  let cb := laneCount t.layout
  if cb = 0 then (flat t.rowExt idx.dropLast, idx.getLastD 0)
  else match idx with
    | [n, c, h, w] => (flat t.rowExt [n, c / cb, h, w], c % cb)
    | _ => (0, 0)

/-- Index of a row and position; none for a channel lane beyond C. -/
def TRef.unplace (t : TRef) (row pos : Nat) : Option (List Nat) :=
  let cb := laneCount t.layout
  if cb = 0 then some (unflat t.rowExt row ++ [pos])
  else match unflat t.rowExt row, t.ext with
    | [n, b, h, w], [_, c, _, _] => if b * cb + pos < c then some [n, b * cb + pos, h, w] else none
    | _, _ => none

/-- Stored elements and bytes of a row (R598). -/
def TRef.rowElems (t : TRef) : Nat := if t.sparse then 2 * ceilDiv t.rowLen 4 else t.rowLen
def TRef.rowBytes (t : TRef) : Nat :=
  if fmtBits t.fmt = 6 then 3 * ceilDiv t.rowElems 4 else ceilDiv (t.rowElems * fmtBits t.fmt) 8

/-- Lengths of the element, scale and nibble arrays. Blocks along an axis other than the fastest-varying one have their scales in
the shape with that axis cut to blocks (DEDUCED, log). -/
def TRef.elemBytes (t : TRef) : Nat := t.rows * t.rowBytes
def TRef.blockExt (t : TRef) (axis : Nat) : List Nat := t.ext.set axis (ceilDiv (t.ext.getD axis 1) 32)
def TRef.scaleBytes (t : TRef) (axis : Nat) : Nat :=
  if !fmtMx t.fmt then 0
  else if laneCount t.layout = 0 ∧ axis + 1 ≠ t.ext.length then prodL (t.blockExt axis)
  else t.rows * ceilDiv t.rowLen 32
def TRef.nibBytes (t : TRef) : Nat := if t.sparse then t.rows * ceilDiv (ceilDiv t.rowLen 4) 2 else 0

/-- The scale byte's place for an element. -/
def TRef.scaleAt (t : TRef) (axis : Nat) (idx : List Nat) : Nat :=
  if laneCount t.layout = 0 ∧ axis + 1 ≠ t.ext.length then
    t.scales + flat (t.blockExt axis) (idx.set axis (idx.getD axis 0 / 32))
  else
    let p := t.place idx
    t.scales + p.1 * ceilDiv t.rowLen 32 + p.2 / 32

/-- A tensor as the model accepts one: at least one extent, none zero, at most six; formats of Table 7.4. -/
def TRef.ok (t : TRef) : Bool :=
  decide (1 ≤ t.ext.length ∧ t.ext.length ≤ 6 ∧ t.fmt ≤ 14 ∧ t.layout ≤ 2) && (t.layout = 0 || t.ext.length = 4)

/-- The axis along which a tensor's MX blocks lie where nothing else names it: channels in a blocked layout, else the last. -/
def TRef.lastAxis (t : TRef) : Nat := if laneCount t.layout = 0 then t.ext.length - 1 else 1

/-- The byte ranges of a tensor. -/
def TRef.ranges (t : TRef) (axis : Nat) : List (Nat × Nat) :=
  ((t.addr, t.elemBytes) :: (if fmtMx t.fmt then [(t.scales, t.scaleBytes axis)] else [])) ++
    (if t.sparse then [(t.nibs, t.nibBytes)] else [])

/-- A tensor with the axis of its blocks. -/
def TRef.ax (t : TRef) : TRef × Nat := (t, t.lastAxis)

end Sys2Proof

namespace Sys2Proof.Machine

/-! ## Shapes of operators -/

/-- kc of a format (Table 3.7). -/
def kcOf (f : Nat) : Nat := if f = 1 ∨ f = 2 then 16 else if f = 12 then 64 else 32

/-- Operand formats of the matrix unit that may meet (R53, R54). -/
def pairOk (f g : Nat) : Bool :=
  let int := fun k : Nat => decide (k = 11 ∨ k = 12)
  decide (1 ≤ f ∧ f ≤ 12 ∧ 1 ≤ g ∧ g ≤ 12) && (int f == int g)

/-- The last two extents swapped. -/
def swapLast (l : List Nat) (on : Bool) : List Nat :=
  if on then l.dropLast.dropLast ++ [l.getLastD 1, l.dropLast.getLastD 1] else l

/-- The shape that two lists of batch extents broadcast to, aligned from the right. -/
def broadcastShape (a b : List Nat) : List Nat :=
  let n := max a.length b.length
  let pad := fun l : List Nat => List.replicate (n - l.length) 1 ++ l
  ((pad a).zip (pad b)).map (fun p => max p.1 p.2)

/-- Output extent of an axis (R150): 0 where the padded extent holds no window. -/
def outExtent (h lo hi f st dil : Nat) : Nat :=
  if dil * (f - 1) + 1 ≤ h + lo + hi then (h + lo + hi - (dil * (f - 1) + 1)) / st + 1 else 0

/-- The image position that a padded position reads (Table 6.4): none where it takes a constant. -/
def padPos (mode h : Nat) (y : Int) : Option Nat :=
  if 0 ≤ y ∧ y < h then some y.toNat
  else
    match mode with
    | 2 => some (if y < 0 then (-y).toNat else (2 * ((h : Int) - 1) - y).toNat)
    | 3 => some (if y < 0 then 0 else h - 1)
    | _ => none

/-- The parameters within Table 6.3 and R152, without groups. -/
def convParamOk (p : ConvParam) (h w : Nat) : Bool :=
  decide (1 ≤ p.fh ∧ p.fh ≤ 255 ∧ 1 ≤ p.fw ∧ p.fw ≤ 255 ∧ 1 ≤ p.sh ∧ p.sh ≤ 64 ∧ 1 ≤ p.sw ∧ p.sw ≤ 64 ∧ 1 ≤ p.dh ∧ p.dh ≤ 64 ∧
    1 ≤ p.dw ∧ p.dw ≤ 64 ∧ p.pt ≤ 4095 ∧ p.pb ≤ 4095 ∧ p.pl ≤ 4095 ∧ p.pr ≤ 4095 ∧ p.mode ≤ 3 ∧ h ≤ 65535 ∧ w ≤ 65535 ∧
    (p.mode = 2 → p.pt < h ∧ p.pb < h ∧ p.pl < w ∧ p.pr < w))

/-- A filter tensor as it is stored: one in an MX format or sparse holds the input channel fastest, [K, Fh, Fw, C/G], unless it is in a
blocked layout (R142, R598; DEDUCED, log). -/
def filterRef (t : TRef) : TRef :=
  match t.ext with
  | [k, c, fh, fw] => if (fmtMx t.fmt || t.sparse) && t.layout = 0 then { t with ext := [k, fh, fw, c] } else t
  | _ => t

def filterIdx (t : TRef) (idx : List Nat) : List Nat :=
  match idx with
  | [k, c, i, j] => if (fmtMx t.fmt || t.sparse) && t.layout = 0 then [k, i, j, c] else idx
  | _ => idx

/-- The axes that a mask names. -/
def maskAxes (rank : Nat) (m : BitVec 6) : List Nat := (List.range rank).filter (fun a => bit m.toNat a)

def isFinite : FV → Bool
  | .num _ _ _ => true
  | _ => false

/-- A number aligned from the right with a shape, dimensions of extent 1 and missing ones repeated (R161). -/
def broadcastIdx (ext out : List Nat) : List Nat :=
  (ext.zip (out.drop (out.length - ext.length))).map (fun p => if p.1 = 1 then 0 else p.2)

/-- Whether a shape broadcasts to another (R161). -/
def broadcastOk (ext out : List Nat) : Bool :=
  decide (ext.length ≤ out.length) && ((ext.zip (out.drop (out.length - ext.length))).all (fun p => p.1 = 1 || p.1 = p.2))

end Sys2Proof.Machine
end

