-- ==== Sys2Proof/Machine/GraphChecks.lean ====
section
/-! DEFINITION. Tensor and operator records of a work image (R176, R177) and the checks 9 to 15 and 18 on them. -/

namespace Sys2Proof.Machine

/-! ## Records -/

/-- A tensor record (R176); data, scale and index offsets lie in `ref` relative to WEIGHTS. -/
structure TDecl where
  ref : TRef
  flags : Nat
  ok : Bool
  deriving DecidableEq, Repr

def TDecl.varying (t : TDecl) : Bool := bit t.flags 0
def TDecl.weight (t : TDecl) : Bool := bit t.flags 1
def TDecl.input (t : TDecl) : Bool := bit t.flags 2

/-- The record at an offset of TENSORS, with whether R140, R141 and the reserved places of R176 hold. -/
def tensorAt (b : List Byte) (o : Nat) : TDecl :=
  let rank := leAt b (o + 2) 1
  let ext := (List.range (min rank 6)).map (fun k => leAt b (o + 4 + 4 * k) 4)
  let flags := leAt b (o + 3) 1
  let lay := leAt b (o + 1) 1
  let w := bit flags 1
  { ref := { addr := leAt b (o + 32) 8, scales := leAt b (o + 40) 8, nibs := leAt b (o + 48) 8, fmt := leAt b o 1, layout := lay,
             ext := ext, sparse := bit flags 4 }
    flags := flags
    ok := decide (1 ≤ rank ∧ rank ≤ 6 ∧ flags < 32 ∧ lay ≤ 2 ∧ (lay ≠ 0 → rank = 4)) && ext.all (fun e => decide (1 ≤ e ∧ e ≤ 2147483647)) &&
      leVal (slice b (o + 4 + 4 * min rank 6) (24 - 4 * min rank 6)) = 0 && leAt b (o + 28) 4 = 0 && leAt b (o + 56) 8 = 0 &&
      (w || leVal (slice b (o + 32) 24) = 0) }

def tensorsOf (b : List Byte) : List TDecl := (List.range (b.length / 64)).map (fun k => tensorAt b (64 * k))

/-- An operator record: opcode, epilogue, inputs, outputs, attributes (id, index, value); `ok` when no reserved or padding byte is used. -/
structure OpRec where
  code : Nat
  epi  : Nat
  ins  : List Nat
  outs : List Nat
  attrs : List (Nat × Nat × Nat)
  ok : Bool
  deriving DecidableEq, Repr

/-- The operator records of GRAPH; `none` when they do not end with the section. -/
def opsFrom : Nat → List Byte → Nat → List OpRec → Option (List OpRec)
  | 0, _, _, _ => none
  | k + 1, b, o, acc =>
    if o = b.length then some acc
    else
      let ni := leAt b (o + 1) 1
      let no := leAt b (o + 2) 1
      let na := leAt b (o + 3) 1
      let ids := roundUp (4 * (ni + no)) 8
      let next := o + 8 + ids + 16 * na
      if b.length < o + 8 ∨ b.length < next then none
      else
        let id := fun j => leAt b (o + 8 + 4 * j) 4
        let at_ := fun j => o + 8 + ids + 16 * j
        let r : OpRec :=
          { code := leAt b o 1, epi := leAt b (o + 4) 4, ins := (List.range ni).map id, outs := (List.range no).map (fun j => id (ni + j))
            attrs := (List.range na).map (fun j => (leAt b (at_ j) 2, leAt b (at_ j + 2) 2, leAt b (at_ j + 8) 8))
            ok := decide (1 ≤ ni ∧ ni ≤ 8 ∧ 1 ≤ no ∧ no ≤ 4 ∧ na ≤ 64) && ((ni + no) % 2 = 0 || id (ni + no) = 0) &&
              (List.range na).all (fun j => leAt b (at_ j + 4) 4 = 0) }
        opsFrom k b next (acc ++ [r])

def opsOf (b : List Byte) : Option (List OpRec) := opsFrom (b.length / 8 + 1) b 0 []

def OpRec.attr? (r : OpRec) (id index : Nat) : Option Nat := (r.attrs.find? (fun a => a.1 = id && a.2.1 = index)).map (·.2.2)
def OpRec.attr (r : OpRec) (id index : Nat) (dflt : Nat) : Nat := (r.attr? id index).getD dflt
def OpRec.attrF (r : OpRec) (id index : Nat) (dflt : Nat) : FV := decF (BitVec.ofNat 32 (r.attr id index dflt))

/-- Whether an operator lists an epilogue. -/
def OpRec.hasEpi (r : OpRec) : Bool := r.epi ≠ 0xFFFFFFFF

/-- A graph with its tensors, kernels and SERVING section. -/
structure Graph where
  ts : List TDecl
  ops : List OpRec
  kernels : Nat
  slots : Nat
  sv : Option Serving
  deriving DecidableEq, Repr

def Graph.t (g : Graph) (id : Nat) : TRef := ((g.ts[id]?).map (·.ref)).getD ⟨0, 0, 0, 0, 0, [1], false⟩
def Graph.fmt (g : Graph) (id : Nat) : Nat := (g.t id).fmt
def Graph.ext (g : Graph) (id : Nat) : List Nat := (g.t id).ext
def Graph.weight (g : Graph) (id : Nat) : Bool := ((g.ts[id]?).map TDecl.weight).getD false

/-- Tensors that a CONV takes as its filter. -/
def Graph.filters (g : Graph) : List Nat := (g.ops.filter (fun r => r.code = 2)).filterMap (fun r => r.ins[1]?)

/-- A weight with the extents of its stored order (R142). -/
def Graph.stored (g : Graph) (id : Nat) : TRef := if g.filters.contains id then filterRef (g.t id) else g.t id

/-! ## Check 9: tensors -/

/-- A weight's elements, scales and nibbles lie in a WEIGHTS section of a length (R598). -/
def weightIn (t : TRef) (len : Nat) : Bool :=
  (t.ranges t.lastAxis).all (fun r => decide (r.1 + r.2 ≤ len))

def Graph.check9 (g : Graph) (wlen : Nat) : Bool :=
  g.ts.zipIdx.all (fun p => p.1.ok && (!p.1.weight || weightIn (g.stored p.2) wlen))

/-! ## Check 11: operators (R139, R177, R178, R228) -/

/-- Numbers of inputs and outputs that an operator takes. The further operands of an epilogue are inputs of its CHAIN (DEDUCED, log). -/
def arity (code : Nat) (mode : Nat) : Nat × Nat × Nat :=
  match code with
  | 1 | 2 => (2, 3, 1)
  | 3 | 5 | 6 | 10 | 11 => (1, 1, 1)
  | 4 => (1, 4, 1)
  | 7 => (1, 3, 1)
  | 8 => (2, 2, 1)
  | 9 => (3, 3, 1)
  | 12 => (3, 3, 1)
  | 13 => if mode = 0 then (4, 4, 1) else if mode = 1 then (3, 3, 1) else (2, 8, 1)
  | _ => (1, 8, 4)

/-- Whether an operator takes an attribute id at an index with a value (Table 7.5, Table 6.3, Table 9.2). FP32 limits are judged on
the FP32 of the value's low word. -/
def attrOk (g : Graph) (r : OpRec) (id index v : Nat) : Bool :=
  let is := fun (l : List Nat) => l.contains r.code
  let rank := (g.ext (r.ins.headD 0)).length
  let z := decide (index = 0)
  let kvh := (g.sv.map (·.kvHeads)).getD 0
  match id with
  | 0x01 | 0x02 => is [1] && z && v ≤ 1
  | 0x03 => is [1, 2] && z
  | 0x10 | 0x11 => is [2, 3] && decide (index ≤ 1 ∧ 1 ≤ v ∧ v ≤ 64)
  | 0x12 => is [2, 3] && decide (index ≤ 3 ∧ v ≤ 4095)
  | 0x13 => is [2] && z && decide (1 ≤ v ∧ v ≤ (g.ext (r.ins.headD 0)).getD 1 1)
  | 0x14 => is [2] && z && v ≤ 3
  | 0x15 => is [2] && z
  | 0x16 => is [2] && z && v ≤ 1
  | 0x17 => is [3] && decide (index ≤ 1 ∧ 1 ≤ v ∧ v ≤ 255)
  | 0x18 | 0x19 => is [3] && z && v ≤ 1
  | 0x20 => is [4] && decide (1 ≤ index ∧ index ≤ 16 ∧ v % 256 ≤ 0x17 ∧ v / 256 % 256 < r.ins.length ∧ v / 65536 % 65536 = 0)
  | 0x21 => is [4] && decide (1 ≤ index ∧ index ≤ 16)
  | 0x22 => is [4, 11] && z && v ≤ 3
  | 0x23 => is [4, 11] && z && v ≤ 1
  | 0x30 => is [5] && z && decide (1 ≤ v ∧ v < 2 ^ rank)
  | 0x31 => is [5] && z && v ≤ 6
  | 0x32 => is [6, 11] && z
  | 0x33 => is [7] && z && v ≤ 2
  | 0x34 =>
    let e := decF (BitVec.ofNat 32 v)
    is [7] && z && !e.isNan && !(e.lt (.num false 0 0)) && !((FV.num false 1 0).lt e)
  | 0x35 => is [7] && z && 1 ≤ v
  | 0x38 => is [9] && z && v ≤ 2
  | 0x40 => is [10] && z && decide (1 ≤ v ∧ v ≤ 2)
  | 0x41 | 0x42 => is [10] && z && v ≤ 1
  | 0x48 => is [11] && z && v < rank
  | 0x50 => is [14] && z && v < g.kernels
  | 0x52 => is [14] && index ≤ 15
  | 0x0100 => is [12, 13] && z && (match g.sv with | some sv => decide (v < sv.layers) | none => true)
  | 0x0101 => is [12, 13] && z && (g.sv.isNone || decide (kvh ≠ 0 ∧ v % max kvh 1 = 0 ∧ 1 ≤ v / max kvh 1 ∧ v / max kvh 1 ≤ 64))
  | 0x0102 => is [12, 13] && z && (match decF (BitVec.ofNat 32 v) with | .num _ m _ => decide (m ≠ 0) | _ => false)
  | 0x0103 => is [13] && z && v ≤ 2
  | _ => false

/-- The attributes without a default that an operator must give (Table 7.5, R146). -/
def attrsNeeded (g : Graph) (r : OpRec) : List (Nat × Nat) :=
  match r.code with
  | 1 | 2 => if g.fmt (r.outs.headD 0) = 11 then [(3, 0)] else []
  | 3 => [(0x17, 0), (0x17, 1), (0x18, 0)]
  | 4 => (List.range (max 1 (r.attrs.filter (fun a => a.1 = 0x20)).length)).map (fun s => (0x20, s + 1))
  | 5 => [(0x30, 0), (0x31, 0)]
  | 7 => [(0x33, 0), (0x34, 0)]
  | 9 => [(0x38, 0)]
  | 10 => [(0x40, 0)]
  | 12 | 13 => [(0x100, 0), (0x101, 0)]
  | 14 => [(0x50, 0)]
  | _ => []

def Graph.opOk (g : Graph) (r : OpRec) : Bool :=
  let a := arity r.code (r.attr 0x103 0 0)
  r.ok && decide (1 ≤ r.code ∧ r.code ≤ 0x0E) && decide (a.1 ≤ r.ins.length ∧ r.ins.length ≤ a.2.1 ∧ r.outs.length ≤ a.2.2) &&
  (r.ins ++ r.outs).all (fun i => decide (i < g.ts.length)) && r.attrs.all (fun x => attrOk g r x.1 x.2.1 x.2.2) &&
  decide ((r.attrs.map (fun x => (x.1, x.2.1))).Nodup) && (attrsNeeded g r).all (fun x => (r.attr? x.1 x.2).isSome) &&
  (!r.hasEpi || r.code = 1 || r.code = 2)

/-! ## Check 10: formats and roles (R53, R54, R76, R142, R143, R229) -/

def Graph.roleOk (g : Graph) (r : OpRec) : Bool :=
  let f := fun k => g.fmt (r.ins.getD k 0)
  let y := g.fmt (r.outs.headD 0)
  let matIn := fun k => decide (1 ≤ f k ∧ f k ≤ 12)
  let value := fun k : Nat => decide (k ≤ 12)
  let sparseAt := r.ins.zipIdx.all (fun p => !(g.t p.1).sparse ||
    ((r.code = 1 || r.code = 2) && p.2 = 1 && ([3, 4, 11, 9, 12].contains (g.t p.1).fmt)))
  let bias := r.ins.length < 3 || f 2 = 0
  let cb := fun id => !(fmtMx (g.fmt id)) || (g.t id).layout = 2
  let kv := (g.sv.map (·.kvInput)).getD 0
  let qkv := g.sv.isNone || decide (f 0 = kv ∧ f 1 = kv ∧ f 2 = kv)
  let o3 := y ≤ 2
  sparseAt && !(r.outs.any (fun i => (g.t i).sparse)) &&
  match r.code with
  | 1 => matIn 0 && matIn 1 && pairOk (f 0) (f 1) && bias && y ≤ 11
  | 2 => matIn 0 && matIn 1 && pairOk (f 0) (f 1) && bias && y ≤ 11 && cb (r.ins.headD 0) && cb (r.outs.headD 0)
  | 3 => value (f 0) && value y && cb (r.ins.headD 0) && cb (r.outs.headD 0)
  | 4 | 6 | 7 | 11 => r.ins.all (fun i => value (g.fmt i)) && value y
  | 5 => value (f 0) && (if 5 ≤ r.attr 0x31 0 0 then y = 13 else value y)
  | 8 => f 1 = 13 && f 0 = y
  | 9 => f 1 = 13 && f 0 = y && (if r.attr 0x38 0 0 = 0 then f 2 = y else decide (f 0 = 0 ∧ f 2 = 0))
  | 10 => f 0 = (if r.attr 0x42 0 0 = 1 then 0 else 14) && y = 14
  | 12 => qkv && o3
  | 13 =>
    match r.attr 0x103 0 0 with
    | 0 => qkv && o3 && f 3 = y
    | 1 => qkv && y = 0
    | _ => o3 && f 0 = y && (r.ins.drop 1).all (fun i => g.fmt i = 0)
  | _ => true

/-- Check 10: no reserved format, no MX tensor in CB16, every operand in a role of its format. -/
def Graph.check10 (g : Graph) : Bool :=
  g.ts.all (fun t => decide (t.ref.fmt ≤ 14) && !(fmtMx t.ref.fmt && t.ref.layout = 1)) && g.ops.all g.roleOk

/-! ## Checks 12 to 14: shapes, empty outputs, padding -/

/-- The parameters of a convolution or pool that its attributes and operands give. -/
def Graph.convParam (g : Graph) (r : OpRec) : ConvParam :=
  let w := g.ext (r.ins.getD 1 0)
  let pool := decide (r.code = 3)
  { fh := if pool then r.attr 0x17 0 1 else w.getD 2 1, fw := if pool then r.attr 0x17 1 1 else w.getD 3 1
    sh := r.attr 0x10 0 1, sw := r.attr 0x10 1 1, dh := r.attr 0x11 0 1, dw := r.attr 0x11 1 1
    pt := r.attr 0x12 0 0, pb := r.attr 0x12 1 0, pl := r.attr 0x12 2 0, pr := r.attr 0x12 3 0
    groups := r.attr 0x13 0 1, mode := r.attr 0x14 0 0, padValue := BitVec.ofNat 32 (r.attr 0x15 0 0), direct := r.attr 0x16 0 0 = 1 }

/-- Output height and width of a convolution or pool. -/
def Graph.outHW (g : Graph) (r : OpRec) : Nat × Nat :=
  let x := g.ext (r.ins.headD 0)
  let p := g.convParam r
  (outExtent (x.getD 2 1) p.pt p.pb p.fh p.sh p.dh, outExtent (x.getD 3 1) p.pl p.pr p.fw p.sw p.dw)

def Graph.shapeOk (g : Graph) (r : OpRec) : Bool :=
  let e := fun k => g.ext (r.ins.getD k 0)
  let x := e 0
  let y := g.ext (r.outs.headD 0)
  let c := x.getD 1 1
  let slow := fun k trans => !(g.weight (r.ins.getD k 0)) || !((fmtMx (g.fmt (r.ins.getD k 0))) || (g.t (r.ins.getD k 0)).sparse) || trans
  let bias := fun k => r.ins.length < 3 || e 2 = [k]
  let hw := g.outHW r
  let out := fun k => hw.1 = 0 || hw.2 = 0 || y = [x.getD 0 1, k, hw.1, hw.2]
  let pow := fun n : Nat => [16, 32, 64, 128, 256, 512, 1024].contains n
  let first := fun k => ((g.ts[r.ins.getD k 0]?).map TDecl.varying).getD false
  let rows := fun ids : List Nat => ids.all (fun i => (g.t i).layout = 0 && ((g.ts[i]?).map TDecl.varying).getD false)
  match r.code with
  | 1 =>
    let ta := r.attr 1 0 0 = 1
    let tb := r.attr 2 0 0 = 1
    let la := swapLast x ta
    let lb := swapLast (e 1) tb
    let batch := broadcastShape la.dropLast.dropLast lb.dropLast.dropLast
    decide (2 ≤ x.length ∧ 2 ≤ (e 1).length ∧ la.getLastD 1 = lb.dropLast.getLastD 1 ∧ la.getLastD 1 ≤ 1048576 ∧
      y = batch ++ [la.dropLast.getLastD 1, lb.getLastD 1]) && broadcastOk la.dropLast.dropLast batch &&
      broadcastOk lb.dropLast.dropLast batch && bias (lb.getLastD 1) && slow 0 (!ta) && slow 1 tb
  | 2 =>
    let w := e 1
    let gr := r.attr 0x13 0 1
    decide (x.length = 4 ∧ w.length = 4 ∧ y.length = 4 ∧ c ≤ 65535 ∧ w.getD 0 1 ≤ 65535 ∧ x.getD 2 1 ≤ 65535 ∧ x.getD 3 1 ≤ 65535 ∧
      x.getD 0 1 ≤ 65535 ∧ w.getD 2 1 ≤ 255 ∧ w.getD 3 1 ≤ 255 ∧ c % gr = 0 ∧ w.getD 0 1 % gr = 0 ∧ w.getD 1 1 = c / gr) &&
      bias (w.getD 0 1) && out (w.getD 0 1)
  | 3 => decide (x.length = 4 ∧ y.length = 4) && out c
  | 4 => decide (x = y) && (r.ins.drop 1).all (fun i => broadcastOk (g.ext i) y)
  | 5 => y = (maskAxes x.length (BitVec.ofNat 6 (r.attr 0x30 0 0))).foldl (fun l a => l.set a 1) x
  | 6 | 11 => decide (x = y)
  | 7 =>
    let form := r.attr 0x33 0 0
    let ch := if form = 2 then c else x.getLastD 1
    decide (x = y ∧ (form = 2 → x.length = 4 ∧ c % r.attr 0x35 0 1 = 0)) && (r.ins.drop 1).all (fun i => g.ext i = [ch])
  | 8 => decide (2 ≤ x.length ∧ y = e 1 ++ x.drop 1) && (!(fmtMx (g.fmt (r.ins.headD 0))) || x.getLastD 1 % 32 = 0)
  | 9 => decide (2 ≤ x.length ∧ x = y ∧ e 2 = e 1 ++ x.drop 1)
  | 10 => decide (x = y) && pow (x.getLastD 1) && (r.attr 0x40 0 1 = 1 || (2 ≤ x.length && pow (x.dropLast.getLastD 1)))
  | 12 | 13 =>
    match g.sv with
    | none => true
    | some sv =>
      let qh := r.attr 0x101 0 1
      let d := sv.headDim
      let t := x.headD 1
      let q := [t, qh, d]
      let kv := [t, sv.kvHeads, d]
      let part := [t, qh, d + 2]
      rows (r.ins ++ r.outs) && first 0 &&
      (if r.code = 12 then decide (x = q ∧ e 1 = kv ∧ e 2 = kv ∧ y = q)
      else match r.attr 0x103 0 0 with
        | 0 => decide (x = q ∧ e 1 = kv ∧ e 2 = kv ∧ e 3 = q ∧ y = q)
        | 1 => decide (x = q ∧ e 1 = kv ∧ e 2 = kv ∧ y = part)
        | _ => decide (x = q ∧ y = q) && (r.ins.drop 1).all (fun i => g.ext i = part))
  | _ => true

/-- Check 13: P and Q are not 0 (R150). -/
def Graph.outputOk (g : Graph) (r : OpRec) : Bool :=
  !(r.code = 2 || r.code = 3) || decide ((g.outHW r).1 ≠ 0 ∧ (g.outHW r).2 ≠ 0)

/-- Check 14: R152 and the padding rule of R158. -/
def Graph.padOk (g : Graph) (r : OpRec) : Bool :=
  let p := g.convParam r
  let x := g.ext (r.ins.headD 0)
  match r.code with
  | 2 => (p.mode ≠ 2 || decide (p.pt < x.getD 2 1 ∧ p.pb < x.getD 2 1 ∧ p.pl < x.getD 3 1 ∧ p.pr < x.getD 3 1)) &&
      (p.mode ≠ 1 || isFinite (decF p.padValue))
  | 3 => decide (p.pt ≤ p.dh * (p.fh - 1) ∧ p.pb ≤ p.dh * (p.fh - 1) ∧ p.pl ≤ p.dw * (p.fw - 1) ∧ p.pr ≤ p.dw * (p.fw - 1))
  | _ => true

/-! ## Check 15: order and hazards (R144, R147, R177) -/

/-- Two tensors share bytes: they are one tensor, or weights whose elements overlap. -/
def Graph.overlap (g : Graph) (a b : Nat) : Bool :=
  a = b || (g.weight a && g.weight b &&
    let x := g.stored a
    let y := g.stored b
    decide (x.addr < y.addr + y.elemBytes ∧ y.addr < x.addr + x.elemBytes))

def Graph.meets (g : Graph) (a b : List Nat) : Bool := a.any (fun x => b.any (g.overlap x))

/-- The operators on which each operator depends, directly or through others, in record order. -/
def Graph.deps (g : Graph) : List (List Nat) :=
  g.ops.zipIdx.foldl (fun acc p =>
    let direct := (List.range p.2).filter (fun i => g.meets p.1.ins ((g.ops[i]?).map (·.outs) |>.getD []))
    acc ++ [direct ++ direct.flatMap (fun i => acc.getD i [])]) []

def Graph.check15 (g : Graph) : Bool :=
  let deps := g.deps
  let known := fun j i => ((g.ts[i]?).map (fun t => t.weight || t.input)).getD false ||
    (g.ops.take j).any (fun r => r.outs.contains i)
  g.ops.zipIdx.all (fun p =>
    let r := p.1
    let j := p.2
    r.ins.all (known j) &&
    (r.outs.zipIdx.all (fun o => r.ins.zipIdx.all (fun i => !(g.overlap o.1 i.1) ||
        (r.code = 4 && o.1 = i.1) || (r.code = 9 && i.2 = 0 && o.1 = i.1)) &&
      r.outs.zipIdx.all (fun q => q.2 ≤ o.2 || !(g.overlap o.1 q.1)))) &&
    (List.range j).all (fun i => (deps.getD j []).contains i ||
      (match g.ops[i]? with
      | some q => !(g.meets q.outs r.outs) && !(g.meets q.outs r.ins) && !(g.meets q.ins r.outs)
      | none => true)) &&
    (!r.hasEpi || (decide (j < r.epi) && ((g.ops[r.epi]?).map (fun q => decide (q.code = 4))).getD false)))

/-! ## Check 18: serving (R169, R182, R230, R249) -/

/-- A page holds one layer's tokens of the format (R249, Table 10.1). -/
def servingFits (v : Serving) : Bool :=
  let t := 2 ^ v.tppLog2
  let gv := ceilDiv v.headDim 64
  if v.kvFormat = 0 then 2 * v.kvHeads * t * gv ≤ 1024 else 2 * v.kvHeads * t * roundUp v.headDim 16 ≤ 65536

def servingOk (v : Serving) : Bool :=
  decide (v.kvFormat ≤ 1 ∧ 1 ≤ v.kvInput ∧ v.kvInput ≤ 2 ∧ 4 ≤ v.tppLog2 ∧ v.tppLog2 ≤ 12 ∧ v.specDepth ≤ 8 ∧ 1 ≤ v.layers ∧
    v.layers ≤ 1024 ∧ 1 ≤ v.kvHeads ∧ v.kvHeads ≤ 256 ∧ 16 ≤ v.headDim ∧ v.headDim ≤ 1024 ∧ 16 ≤ v.chunk ∧ v.chunk ≤ 8192 ∧
    1 ≤ v.maxContext ∧ v.maxContext ≤ 1048576) && servingFits v

def Graph.check18 (g : Graph) : Bool :=
  let layerOf := fun (p : OpRec → Bool) (l : Nat) => (g.ops.filter (fun r => p r && r.attr 0x100 0 0 = l)).length
  match g.sv with
  | none => g.ops.all (fun r => !(r.code = 12 || r.code = 13))
  | some v => servingOk v && (List.range v.layers).all (fun l =>
      layerOf (fun r => r.code = 12) l = 1 && layerOf (fun r => r.code = 13 && r.attr 0x103 0 0 ≠ 2) l = 1)

/-- The declared maximum of the rows of a step: the first extent of the attention tensors (R229). -/
def Graph.tMax (g : Graph) : Nat :=
  match g.ops.find? (fun r => r.code = 12) with
  | some r => (g.ext (r.ins.headD 0)).headD 1
  | none => 1

end Sys2Proof.Machine
end

