-- ==== Sys2Proof/Machine/WimgChecks.lean ====
section
/-! DEFINITION. Reading a work image (R171 to R182) and the admission checks of Table 7.6. -/

namespace Sys2Proof.Machine

/-! ## Sections -/

/-- A directory entry (R174): type, offset, length, digest, whether its reserved bytes are zero. -/
structure WEntry where
  type : Nat
  off : Nat
  len : Nat
  digest : List Byte
  ok : Bool
  deriving DecidableEq, Repr

def wEntry (h : List Byte) (i : Nat) : WEntry :=
  let e := slice h (0x100 + 96 * i) 96
  { type := leAt e 0 2, off := leAt e 8 8, len := leAt e 16 8, digest := slice e 32 64
    ok := leVal (slice e 2 6) = 0 && leAt e 24 8 = 0 }

/-- The directory entries in use. -/
def wEntries (h : List Byte) : List WEntry := (List.range (min (leAt h 0xC 2) 32)).map (wEntry h)

/-- The header, directory and signature block. -/
def State.wHead (s : State) (src : Nat) : List Byte := s.bytesAt (ddr src) 4096

/-- Offset and length of a section. -/
def State.wPlace (s : State) (src t : Nat) : Option (Nat × Nat) :=
  ((wEntries (s.wHead src)).find? (fun e => e.type = t)).map (fun e => (e.off, e.len))

/-- The bytes of a section; empty when absent. -/
def State.wBytes (s : State) (src t : Nat) : List Byte :=
  match s.wPlace src t with
  | some p => s.bytesAt (ddr (src + p.1)) p.2
  | none => []

/-- Lengths of a section type (Table 7.2): least, most, unit. -/
def wLenOk (t len : Nat) : Bool :=
  match t with
  | 1 => len = 128
  | 2 => decide (len % 64 = 0 ∧ 64 ≤ len ∧ len ≤ 64 * 65535)
  | 3 => decide (8 ≤ len ∧ len ≤ 2 ^ 26)
  | 4 => decide (4096 ≤ len)
  | 5 => decide (72 ≤ len ∧ len ≤ 2 ^ 24)
  | 6 => decide (16 ≤ len ∧ len ≤ 2 ^ 30)
  | 7 => len = 64
  | 8 => decide (len ≤ 2 ^ 20)
  | _ => false

/-! ## Section contents -/

/-- Table 7.3. -/
def envelopeOf (b : List Byte) : Envelope :=
  { clustersMin := leAt b 0 2, enginesMin := leAt b 2 2, coresMin := leAt b 4 1, clockMin := leAt b 5 1, ringsMin := leAt b 6 2
    slots := leAt b 8 2, powerMin := leAt b 10 2, pagesMin := leAt b 12 4, stackBytes := leAt b 16 8, ddr4Bytes := leAt b 24 8
    tileBytes := leAt b 32 4, quadBytes := leAt b 36 4, linkVcs := leAt b 40 1, plantOut := leAt b 41 1, checkValues := leAt b 42 1
    videoDec := leAt b 43 1, videoEnc := leAt b 44 1 }

/-- R175. -/
def envelopeOk (b : List Byte) : Bool :=
  let e := envelopeOf b
  decide (1 ≤ e.clustersMin ∧ e.clustersMin ≤ 160 ∧ e.enginesMin ≤ 128 ∧ 1 ≤ e.coresMin ∧ e.coresMin ≤ 16 ∧ 16 ≤ e.clockMin ∧
    e.clockMin ≤ 64 ∧ 2 ≤ e.ringsMin ∧ e.ringsMin ≤ 4096 ∧ e.slots ≤ 2048 ∧ e.tileBytes ≤ 1048576 ∧ e.linkVcs ≤ 72 ∧
    e.plantOut ≤ 64 ∧ e.checkValues ≤ 64 ∧ e.videoDec ≤ 64 ∧ e.videoEnc ≤ 16 ∧ (e.slots = 0 → e.pagesMin = 0)) &&
  leVal (slice b 0x2D (128 - 0x2D)) = 0

/-- R182. -/
def servingOf (b : List Byte) : Serving :=
  { kvFormat := leAt b 0 1, kvInput := leAt b 1 1, tppLog2 := leAt b 2 1, specDepth := leAt b 3 1, layers := leAt b 4 2
    kvHeads := leAt b 6 2, headDim := leAt b 8 2, chunk := leAt b 10 2, maxContext := leAt b 12 4 }

/-- The loadable segments of an ELF64 image, as ranges of addresses with their bytes (PRESUMED: the ELF format; the physical address,
log). -/
def elfSegs (b : List Byte) : List (Nat × Nat × List Byte) :=
  (List.range (leAt b 56 2)).filterMap (fun k =>
    let p := leAt b 32 8 + leAt b 54 2 * k
    if leAt b p 4 = 1 then some (leAt b (p + 24) 8, leAt b (p + 40) 8, slice b (leAt b (p + 8) 8) (leAt b (p + 32) 8)) else none)

/-- The ELF header of R181: ELF64, little-endian, ET_EXEC, EM_RISCV, RVC and the double-precision ABI; its tables and file bytes lie in
it. -/
def elfOk (b : List Byte) : Bool :=
  decide (64 ≤ b.length ∧ leAt b 0 4 = 0x464C457F ∧ leAt b 4 1 = 2 ∧ leAt b 5 1 = 1 ∧ leAt b 16 2 = 2 ∧ leAt b 18 2 = 243 ∧
    leAt b 48 4 = 5 ∧ leAt b 54 2 = 56 ∧ leAt b 32 8 + 56 * leAt b 56 2 ≤ b.length) &&
  (List.range (leAt b 56 2)).all (fun k =>
    let p := leAt b 32 8 + 56 * k
    leAt b p 4 ≠ 1 || decide (leAt b (p + 8) 8 + leAt b (p + 32) 8 ≤ b.length ∧ leAt b (p + 32) 8 ≤ leAt b (p + 40) 8))

/-- The program records of SC_PROGRAMS: core and executable; `none` where a reserved or padding byte is used or the records do not end
with the section. -/
def progsFrom : Nat → List Byte → Nat → List (Nat × List Byte) → Option (List (Nat × List Byte))
  | 0, _, _, _ => none
  | k + 1, b, o, acc =>
    if o = b.length then some acc
    else
      let len := leAt b (o + 8) 8
      let next := o + 16 + roundUp len 8
      if b.length < o + 16 ∨ b.length < next ∨ leVal (slice b (o + 1) 7) ≠ 0 ∨ leVal (slice b (o + 16 + len) (roundUp len 8 - len)) ≠ 0
      then none
      else progsFrom k b next (acc ++ [(leAt b o 1, slice b (o + 16) len)])

def progsOf (b : List Byte) : Option (List (Nat × List Byte)) := progsFrom (b.length / 16 + 1) b 0 []

/-- The graph of an image. -/
def State.wGraph (s : State) (src : Nat) : Graph :=
  { ts := tensorsOf (s.wBytes src 2), ops := (opsOf (s.wBytes src 3)).getD []
    kernels := ((kernelsOf (s.wBytes src 5)).getD []).length, slots := (envelopeOf (s.wBytes src 1)).slots
    sv := (s.wPlace src 7).map (fun _ => servingOf (s.wBytes src 7)) }

/-- What the loader keeps of an image. -/
def State.wRead (s : State) (src : Nat) : WImage :=
  let h := s.wHead src
  let w := (s.wPlace src 4).getD (0, 0)
  let g := s.wGraph src
  { addr := src, len := leAt h 0x30 8, imageId := leAt h 0x38 8, version := leAt h 0x28 4, weightsAt := w.1, weightsLen := w.2
    env := envelopeOf (s.wBytes src 1), serving := g.sv, kernels := (kernelsOf (s.wBytes src 5)).getD []
    progs := ((progsOf (s.wBytes src 6)).getD []).map (fun p =>
      { core := p.1, entry := leAt p.2 24 8
        segs := (elfSegs p.2).map (fun x => (x.1, x.2.2 ++ List.replicate (x.2.1 - x.2.2.length) 0#8)) })
    digest := sha (h.take 0xD00), tMax := g.tMax }

/-! ## Checks -/

/-- The first check that fails, with its reason. -/
def firstFail (l : List (Nat × Nat × Bool)) : Option (Nat × Nat) := (l.find? (fun c => !c.2.2)).map (fun c => (c.1, c.2.1))

/-- Check 7 on a directory. -/
def State.directoryOk (s : State) (src : Nat) (h : List Byte) : Bool :=
  let es := wEntries h
  let len := leAt h 0x30 8
  let has := fun t => es.any (fun e => e.type = t)
  let slots := (envelopeOf (s.wBytes src 1)).slots
  decide ((es.map (·.type)).Nodup) &&
  es.all (fun e => decide (1 ≤ e.type ∧ e.type ≤ 8 ∧ e.off % 4096 = 0 ∧ 4096 ≤ e.off ∧ e.off + e.len ≤ len) && wLenOk e.type e.len) &&
  es.zipIdx.all (fun a => es.zipIdx.all (fun b => a.2 ≥ b.2 ||
    !decide (a.1.off < b.1.off + b.1.len ∧ b.1.off < a.1.off + a.1.len))) &&
  has 1 && has 2 && has 3 && (has 7 == decide (slots ≠ 0))

/-- Checks 1 to 7 in order. -/
def State.wHeaderCheck (s : State) (n src len : Nat) : Option (Nat × Nat) :=
  if !s.ddrOwned n src len then some (1, 0x0101)
  else
    let h := s.wHead src
    let bound := bit (leAt h 0x14 4) 0
    let block := slice h 0xD00 256
    let count := leAt h 0xC 2
    firstFail
      [(1, 0x0101, decide (leAt h 0 4 = 0x4B524F57 ∧ leAt h 8 4 = 256 ∧ 3 ≤ count ∧ count ≤ 32 ∧ leAt h 0x30 8 = len ∧ len % 4096 = 0 ∧
          4096 ≤ len) && (bound || leAt h 0x18 16 = 0)),
       (2, 0x0102, decide (leAt h 4 1 = 1 ∧ leAt h 5 3 = 0 ∧ leAt h 0xE 2 = 0 ∧ leAt h 0x14 4 ≤ 1 ∧ leAt h 0x2D 3 = 0) &&
          leVal (slice h 0x50 176) = 0 && (wEntries h).all (·.ok) &&
          leVal (slice h (0x100 + 96 * count) (96 * (32 - count))) = 0 && blockOk block && leVal (slice h 0xE00 512) = 0),
       (3, 0x0103, leAt h 0x10 4 = 0x0007A384),
       (4, 0x0104, !bound || leAt h 0x18 16 = s.identity),
       (5, 0x0105, s.verifies 4 n (h.take 0xD00) block),
       (6, 0x0106, decide (leAt h 0x40 8 ≤ 0x7FFFF ∧ leAt h 0x2C 1 ≤ s.rd F.VEC_CAP_isa_version)),
       (7, 0x0107, s.directoryOk src h)]

/-- Check 17: R181. -/
def State.progOk (s : State) (n src len : Nat) (b : List Byte) : Bool :=
  elfOk b && (elfSegs b).all (fun g => s.ddrOwned n g.1 g.2.1 && (g.2.1 = 0 || !decide (g.1 < src + len ∧ src < g.1 + g.2.1)))

/-- Checks 8 to 32 in order. A REPLACE also keeps its range from the old image's (R192). -/
def State.wSectionCheck (s : State) (n src op : Nat) : Option (Nat × Nat) :=
  let h := s.wHead src
  let len := leAt h 0x30 8
  let eb := s.wBytes src 1
  let e := envelopeOf eb
  let gb := opsOf (s.wBytes src 3)
  let g := s.wGraph src
  let svb := s.wBytes src 7
  let kb := s.wBytes src 5
  let ks := kernelsOf kb
  let pb := progsOf (s.wBytes src 6)
  let ps := pb.getD []
  let img := s.struct.image
  let own := fun m => (ownedIn m n).length
  let video := ownedIn img.video n
  let old := if op = 2 then (s.wpart n).image else none
  let granules := own img.ddr4 * 2 ^ 30
  let quads := (List.range 16).filter (fun q => (List.range 10).any (fun k => s.clusterOwner (40 * (q / 4) + 10 * (q % 4) + k) = n))
  let part := s.part n
  firstFail
    [(8, 0x0108, (wEntries h).all (fun x => x.type = 4 || digestEq (sha (s.bytesAt (ddr (src + x.off)) x.len)) x.digest)),
     (9, 0x0201, envelopeOk eb && g.check9 ((s.wPlace src 4).getD (0, 0)).2),
     (10, 0x0202, g.check10),
     (11, 0x0203, gb.isSome && g.ops.all g.opOk),
     (12, 0x0204, g.ops.all g.shapeOk),
     (13, 0x0205, g.ops.all g.outputOk),
     (14, 0x0206, g.ops.all g.padOk),
     (15, 0x0207, g.check15),
     (16, 0x0208, (s.wPlace src 5).isNone || (match ks with | some l => l.all kernelOk | none => false)),
     (17, 0x0209, pb.isSome && decide ((ps.map (·.1)).Nodup) && ps.all (fun p => s.progOk n src len p.2)),
     (18, 0x020A, g.check18 && leVal (slice svb 16 48) = 0),
     (19, 0x0301, e.clustersMin ≤ own img.clusters),
     (20, 0x0302, e.enginesMin ≤ own img.engines),
     (21, 0x0303, e.coresMin ≤ own img.cores && ps.all (fun p => decide (p.1 < own img.cores))),
     (22, 0x0304, e.ringsMin ≤ part.ringCount),
     (23, 0x0305, e.slots ≤ part.reqCount),
     (24, 0x0306, e.pagesMin ≤ part.pageCount),
     (25, 0x0307, e.stackBytes + part.pageCount * 66560 ≤ own img.engines * 2 * 0x60000000),
     (26, 0x0308, decide (len + e.ddr4Bytes ≤ granules) && (match old with
        | some o => decide (len + o.len ≤ granules) && !decide (src < o.addr + o.len ∧ o.addr < src + len)
        | none => true)),
     (27, 0x0309, quads.all (fun q => decide (e.quadBytes ≤ (s.banksOf n q).length * 2 ^ 20))),
     (28, 0x030A, e.linkVcs ≤ own img.vcs),
     (29, 0x030B, e.plantOut ≤ own img.po && e.checkValues ≤ own img.cv),
     (30, 0x030C, e.videoDec ≤ (video.filter (· < 64)).length && e.videoEnc ≤ (video.filter (64 ≤ ·)).length),
     (31, 0x030D, e.clockMin * 25 ≤ part.clockCap),
     (32, 0x030E, e.powerMin ≤ part.power)]

/-- The partition's share as the planner sees it. -/
def State.share (s : State) (n : Nat) : List Nat :=
  let img := s.struct.image
  let p := s.part n
  [p.clockCap, p.power, p.pageFirst, p.pageCount, p.ringCount, p.reqCount] ++ ownedIn img.clusters n ++ ownedIn img.engines n ++
    ownedIn img.ddr4 n ++ ownedIn img.cores n ++ ownedIn img.vcs n

/-- Checks 33 and 34. Frames of pages count as they will once the image is loaded (R201). -/
def State.wPlanCheck (s : State) (n src : Nat) : Option (Nat × Nat) :=
  let l := s.setPstate n 2
  firstFail
    [(33, 0x0401, Config.planFits (s.wHead src ++ ([1, 2, 3, 5, 6, 7].flatMap (s.wBytes src))) (s.share n)),
     (34, 0x0402, ((kernelsOf (s.wBytes src 5)).getD []).all (fun k =>
        k.streamLen = 0 || (addrOk k.streamAt && l.addrIn n k.streamAt k.streamLen)))]

/-- R77 on the nibbles of a sparse weight: the position in bits [3:2] exceeds that in bits [1:0]. -/
def nibblesOk (b : List Byte) (t : TRef) : Bool :=
  let groups := ceilDiv t.rowLen 4
  let row := ceilDiv groups 2
  (List.range t.rows).all (fun r => (List.range groups).all (fun k =>
    let v := leAt b (t.nibs + r * row + k / 2) 1
    let q := if k % 2 = 0 then v % 16 else v / 16
    decide (q % 4 < q / 4)))

/-- Checks 35 and 36. -/
def State.wWeightsCheck (s : State) (src : Nat) : Option (Nat × Nat) :=
  let g := s.wGraph src
  let w := s.wBytes src 4
  firstFail
    [(35, 0x0501, g.ts.zipIdx.all (fun p => !p.1.weight || !p.1.ref.sparse || nibblesOk w (g.stored p.2))),
     (36, 0x0502, (wEntries (s.wHead src)).all (fun e => e.type ≠ 4 || digestEq (sha w) e.digest))]

end Sys2Proof.Machine
end

