-- ==== Sys2Proof/Machine/BootOps.lean ====
section
/-! DEFINITION. What a reset clears (Table 0.3, R32), the battery-backed store at boot (R556, R458), the checks of firmware images
(R445 to R448), the settings regions (R457), and the boot sequence (R450 to R455). -/

namespace Sys2Proof.Machine

/-! ## What a module reset leaves -/

/-- Registers of the always-on island whose RO fields go on showing what they show (Table 0.3, R471), and whose ST fields outlast core power. -/
def heldRegs : List RegId :=
  [.FAULT_SRC_STATUS, .FAULT_SUMMARY, .FAULT_CTRL, .AMBER_STATE, .SEC_STATE, .PWR_LIMIT, .PWR_INPUT, .PWR_SUPPLY, .PWR_COOLANT,
   .PWR_THERMAL, .PWR_BOOKS, .BBS_BATTERY, .DDR4_STATE]

/-- The fields that a module reset keeps: ST fields (R12), and the RO fields of those registers, by register and lowest bit. Removal of core
power keeps ST fields of the always-on island only: of those registers and of FW_BOOT. -/
def heldFields (corePower : Bool) : List (Nat × Nat) :=
  RegId.all.flatMap (fun r => (r.fields.filter (fun d =>
    (d.acc = .st && (corePower || heldRegs.contains r || r = .FW_BOOT)) || (d.acc = .ro && heldRegs.contains r))).map (fun d => (r.ctorIdx, d.lo)))

/-- Whether a register key names a kept field. -/
def heldKey (corePower : Bool) (k : Nat) : Bool := let f := (Nat.unpair k).1; (heldFields corePower).contains (Nat.unpair f)

/-- Sources whose conditions lie outside the cleared blocks: SUPPLY, COOLANT, THERMAL, CAP, BATTERY, TRAY. -/
def heldSources : List Nat := [98, 99, 100, 101, 104, 105]

/-- Everything outside the always-on island is as after reset (R32): structure epoch 0, role SINGLE, P0 EMPTY. Registers keep their ST fields,
the store, flashes, keys, fault status and the test access port stay. Removal of core power leaves SDIO, the management port, a write that it feeds, and the debug module
on (R516). At a module reset FATAL causes end (R471) and module time starts at 0 (R378); otherwise core power
is removed. -/
def State.clearCore (s : State) (reset : Bool) : State :=
  let recv := s.fw.write.any (fun w => w.origin = 2)
  let slot := (s.fw.write.map (·.target)).getD 0
  let kept := if reset then none else s.fw.write.filter (fun w => w.origin = 1)
  let badMgmt := s.fw.mgmtBad || (kept.isNone && s.fw.write.any (fun w => w.target = 0))
  let t : State :=
    { State.reset with
      regs := Tab.keep s.regs (heldKey reset), bbs := s.bbs, clk := s.clk, resetAt := s.clk, fresh := s.fresh, out := s.out
      lastRead := s.lastRead, modTime := if reset then 0 else s.modTime, identity := s.identity, linkSignal := s.linkSignal, pending := s.pending
      sec := { s.sec with linkKeys := [], notAfter := [] }
      faults := { s.faults with inject := [] }
      power := { s.power with idle := [], exits := [], closed := [], target := [], inS4 := false, nextTest := [], rails := false }
      fw := { s.fw with write := kept, mgmtBad := badMgmt, halt := 0, waiting := false, chosen := none, trial := false
                        limited := false, trialEnd := 0 }
      sdio := if reset then {} else { s.sdio with recvState := if recv then 0 else s.sdio.recvState }
      mgmt := if reset then {} else s.mgmt, dbg := { ir := s.dbg.ir, byp := s.dbg.byp, dm := if reset then [] else s.dbg.dm, scan := s.dbg.scan }, fabric := { failed := s.fabric.failed } }
  let t := if recv then t.bbsWr (0x6F + slot) 1 6 else t
  (List.range 106).foldl (fun t i =>
    t.setCauses i ((t.causes i).filter (fun c => if c = 0 then !reset else heldSources.contains i))) t

/-! ## The store at boot -/

/-- Flags of the battery health record: bit 0 low, bit 1 contents lost (BBS_BATTERY). -/
def State.battFlag (s : State) (b : Nat) : Bool := bit (s.bbsRd 0x18 8) b
def State.setBattFlag (s : State) (b : Nat) (v : Bool) : State :=
  let f := s.bbsRd 0x18 8
  s.bbsWr 0x18 8 (if v then f ||| 2 ^ b else if bit f b then f - 2 ^ b else f)

/-- R458: each counter is the larger of its valid copies; with none it is 0 and the key table is locked. -/
def State.takeCounters (s : State) (storeOk : Bool) : State :=
  let st := if storeOk then some ((List.range 4).map (fun i => s.bbsRd (0x20 + 4 * i) 4)) else none
  let s := if st.isNone ∧ s.fw.mirror.isNone then s.setB F.SEC_STATE_table_locked else s
  let v := fun i => max ((st.getD []).getD i 0) ((s.fw.mirror.getD []).getD i 0)
  let vs := (List.range 4).map v
  (List.range 4).foldl (fun s i => s.setCounter i (vs.getD i 0)) s

/-- Steps 1 and 2 of Table 18.4 (R556): a store whose header CRC fails is set afresh; the counters are taken; the boot count goes up. -/
def State.checkStore (s : State) : State :=
  let s := s.wr F.SEC_STATE_table_locked 0
  let ok := decide (s.bbsRd 0 2 = 1 ∧ s.bbsRd 0xC 4 = s.bbsCrc)
  let s := if ok then s
    else
      let s := (s.event Src.battery 2).setBattFlag 1 true
      ((((s.bbsZero 0 16).bbsZero 0x70 16).bbsZero 0x80 32).bbsZero 0xA0 32).bbsZero 0x800 2048
  let s := s.takeCounters ok
  let s := s.bbsWr 0 2 1
  let s := s.bbsWr 8 4 (s.bbsRd 8 4 + 1)
  s.bbsPut 0x10 [s.bbsGet 0x10]

/-! ## Firmware images (Tables 18.2 and 18.3) -/

/-- Qualification entries of a header: companion_min, companion_max, stepping_mask (R446). -/
def qualEntries (b : List Byte) : List (Nat × Nat × Nat) :=
  (List.range (leAt b 0x2E 2)).map (fun k => (leAt b (0x100 + 16 * k) 4, leAt b (0x104 + 16 * k) 4, leAt b (0x108 + 16 * k) 4))

/-- Whether an entry covers a companion version on a stepping. -/
def qualified (b : List Byte) (version stepping : Nat) : Bool :=
  (qualEntries b).any (fun q => decide (q.1 ≤ version ∧ version ≤ q.2.1) && bit q.2.2 stepping)

def fwVersion (b : List Byte) : Nat := leAt b 0x28 4
def fwLayout (b : List Byte) : Nat := leAt b 0x2C 2

/-- Check 1 of Table 18.3 on an image of a kind. -/
def fwFormat (b : List Byte) (kind : Nat) : Bool :=
  let len := leAt b 0xC 4
  let q := leAt b 0x2E 2
  let bound := leAt b 0x14 4
  decide (leAt b 0 4 = 0x4D524946 ∧ leAt b 4 1 = 1 ∧ leAt b 5 1 = kind ∧ leAt b 6 2 = 0 ∧ leAt b 8 4 = 256 ∧ len % 8 = 0 ∧ 4096 ≤ len ∧
    len ≤ (if kind = 1 then 16777216 else 65536) ∧ bound ≤ 1 ∧ (bound = 1 ∨ leAt b 0x18 16 = 0) ∧ 1 ≤ q ∧ q ≤ 64 ∧
    leVal (slice b 0x40 192) = 0 ∧ len ≤ b.length) &&
  (List.range q).all (fun k => leAt b (0x10C + 16 * k) 4 = 0) && blockOk (slice b (len - 256) 256)

/-- Check 5: the signature verifies under a valid root slot that is not revoked. -/
def State.fwSigned (s : State) (b : List Byte) : Bool :=
  let len := leAt b 0xC 4
  let block := slice b (len - 256) 256
  (List.range 4).any (fun k => bit (s.rd F.SEC_STATE_root_valid) k && !bit (s.rd F.SEC_STATE_root_revoked) k &&
    digestEq (s.sec.roots.getD k []) (slice block 0 64) && Config.rootVerify (slice block 0 64) (b.take (len - 256)) (slice block 64 132))

/-- Checks 1 to 5 of Table 18.3: the number of the first that fails. -/
def State.fwCheck (s : State) (kind counter : Nat) (b : List Byte) : Option Nat :=
  if !fwFormat b kind then some 1
  else if leAt b 0x10 4 ≠ 0x0007A384 then some 2
  else if leAt b 0x14 4 = 1 ∧ leAt b 0x18 16 ≠ s.identity then some 3
  else if fwVersion b < s.bbsRd (0x20 + 4 * counter) 4 then some 4
  else if !s.fwSigned b then some 5
  else none

/-! ## Runtime sets (R447) -/

/-- A component of a manifest. -/
structure Component where
  kind : Nat
  off : Nat
  len : Nat
  load : Nat
  digest : List Byte
  ok : Bool
  deriving DecidableEq, Repr

/-- The components that a manifest lists. -/
def components (b : List Byte) : List Component :=
  let at_ := 0x100 + 16 * leAt b 0x2E 2
  (List.range (min 32 (leAt b at_ 4))).map (fun k =>
    let e := at_ + 8 + 96 * k
    { kind := leAt b e 2, off := leAt b (e + 8) 8, len := leAt b (e + 16) 8, load := leAt b (e + 24) 8, digest := slice b (e + 32) 64
      ok := leVal (slice b (e + 2) 6) = 0 })

/-- The bytes of a component in its slot. -/
def Component.bytes (c : Component) (b : List Byte) : List Byte := slice b c.off c.len

/-- Check 6: the manifest's body keeps R447 and every component's digest matches. -/
def State.manifestOk (s : State) (b : List Byte) : Bool :=
  let at_ := 0x100 + 16 * leAt b 0x2E 2
  let n := leAt b at_ 4
  let cs := components b
  let len := leAt b 0xC 4
  decide (1 ≤ n ∧ n ≤ 32 ∧ leAt b (at_ + 4) 4 = 0 ∧ at_ + 8 + 96 * n ≤ len - 256 ∧ (cs.filter (fun c => c.kind = 1)).length = 1) &&
  cs.all (fun c => c.ok && decide ((c.kind = 1 ∨ c.kind = 2) ∧ c.off % 4096 = 0 ∧ len ≤ c.off ∧ c.off + c.len ≤ 1610612736 ∧
    c.off + c.len ≤ b.length) && digestEq (sha (c.bytes b)) c.digest &&
    (if c.kind = 1 then elfOk (c.bytes b) && (elfSegs (c.bytes b)).all (fun g => s.ddrOwned 0 g.1 g.2.1)
     else decide (c.load % 4096 = 0) && s.ddrOwned 0 c.load c.len)) &&
  cs.zipIdx.all (fun x => cs.zipIdx.all (fun y => x.2 = y.2 || decide (x.1.off + x.1.len ≤ y.1.off ∨ y.1.off + y.1.len ≤ x.1.off)))

def State.slotBytes (s : State) (k : Nat) : List Byte := if k = 0 then s.fw.slotA else s.fw.slotB

/-- Checks 1 to 6 on the set in a slot. -/
def State.slotCheck (s : State) (k : Nat) : Option Nat :=
  match s.fwCheck 2 1 (s.slotBytes k) with
  | some c => some c
  | none => if s.manifestOk (s.slotBytes k) then none else some 6

/-- States of the slots and the running slot, in the boot record (Table 22.5). -/
def State.slotState (s : State) (k : Nat) : Nat := s.bbsRd (0x70 + k) 1
def State.setSlotState (s : State) (k v : Nat) : State := s.bbsWr (0x70 + k) 1 v
def State.runningSlot (s : State) : Nat := s.bbsRd 0x72 1

/-! ## Settings (R457) -/

/-- A settings region of `len` bytes is settled against an image's layout: reset when its CRC or its layout differs. -/
def State.settleRegion (s : State) (base len layout : Nat) (image : List Byte) (flag : Fld) : State :=
  let rest := (List.range (len - 8)).map (fun k => s.bbsGet (base + 8 + k))
  if layout = 0 ∨ (s.bbsRd base 2 = layout ∧ s.bbsRd (base + 4) 4 = crc32c rest) then s
  else
    let dflt := slice (Config.defaultSettings image) 0 (len - 8)
    ((s.bbsPut base (leBytes 2 layout ++ leBytes 2 0 ++ leBytes 4 (crc32c dflt) ++ dflt)).setB flag).event Src.boot 3

/-! ## Boot (Table 18.4) -/

/-- The bytes of the public key table that its digest covers (R427). -/
def State.keyTable (s : State) : List Byte := s.sec.keys.flatMap keyBytes

/-- Digest and generation of the table in the store match the table held (R427). -/
def State.keyTableOk (s : State) : Bool :=
  digestEq ((List.range 64).map (fun k => s.bbsGet (0x30 + k))) (sha s.keyTable) && decide (s.bbsRd 0x2C 4 = s.sec.generation)

/-- The table has changed: a new generation, and its digest in the store (R427, R458). -/
def State.sealKeys (s : State) : State :=
  let g := (s.bbsRd 0x2C 4 + 1) % 2 ^ 32
  let s := { s with sec := { s.sec with generation := g } }.setCounter 3 g
  s.bbsPut 0x30 (sha s.keyTable)

def State.setStage (s : State) (v : Nat) : State := s.wr F.FW_BOOT_stage v

/-- Step 5 of Table 18.4: the core rails come up only while EOFF is deasserted (R576), and not in OFF; DDR4 trains, or keeps its training
(R345). -/
def State.bringUp (s : State) : State :=
  if s.power.eoff || s.power.off then { s with fw := { s.fw with waiting := true } }
  else
    let s := { s with fw := { s.fw with waiting := false }, power := { s.power with rails := true } }
    (s.wr F.DDR4_STATE_mode 0).setStage 2

/-- Steps 3 and 4: the ROM checks the management image, and halts (R451) or starts MGC. -/
def State.startMgmt (s : State) : State :=
  let b := s.fw.mgmt
  let s := s.draw
  let check := if s.fw.mgmtBad then some (Config.choice s.fresh 0 % 5 + 1) else s.fwCheck 1 0 b
  match check with
  | some c => ({ s with fw := { s.fw with halt := c } }).faultPin
  | none =>
    let s := ((s.setStage 1).wr F.FW_VERSIONS_mgmt (fwVersion b)).wr F.SEC_STATE_claimed (s.bbsRd 0x73 1)
    let s := { s with sec := { s.sec with mgmtDigest := sha b } }
    let s := if s.keyTableOk && !s.rdB F.SEC_STATE_table_locked then s else (s.setB F.SEC_STATE_table_locked).event Src.boot 5
    (s.settleRegion 0x100 768 (fwLayout b) b F.FW_BOOT_reset_mgmt).bringUp

/-- Boot from step 1 (R450), out of OFF where `leave` says so (Table 20.6). A FATAL status held through it sets fault_n_low (R469). -/
def State.bootFromReset (s : State) (leave : Bool) : State :=
  let wasOff := s.power.off && leave
  let retrain := s.rdB F.DDR4_STATE_retrain
  let s := s.clearCore true
  let s := if wasOff then s.setB F.PWR_EVENT_off else s
  let s := { s with fw := { s.fw with cold := s.fw.cold || retrain }, power := { s.power with off := s.power.off && !leave } }
  let s := (if s.fatalHeld then s.setB F.FAULT_CTRL_fault_n_low else s).faultPin
  let s := (List.range 16).foldl (fun s n => s.newNonce n) s
  s.checkStore.retireClusters.startMgmt

/-- R516: core power is removed for a cause of Table 20.6. Nothing but the always-on island keeps its state; MGC runs on. Without core power
there is none to remove (R576). -/
def State.removePower (s : State) (cause : Nat) : State :=
  if !s.power.rails then s
  else
    let mgmt := s.rd F.FW_VERSIONS_mgmt
    let s := s.clearCore false
    let s := { s with power := { s.power with off := true, cause := cause, rails := false }, fw := { s.fw with cold := true } }
    ((s.wr F.PWR_LIMIT_last_off cause).wr F.FW_VERSIONS_mgmt mgmt).setStage 1

end Sys2Proof.Machine
end

