-- ==== Sys2Proof/Machine/PowerOps.lean ====
section
/-! DEFINITION. The power planner (20, 21): allowed power, grants, clocks of cluster islands, sensor pairs, next known events, idle
states. -/

namespace Sys2Proof.Machine

def State.setPower (s : State) (f : Power → Power) : State := { s with power := f s.power }

/-! ## Limits (R502, R503, R507 to R511) -/

/-- P_flow: 250 W after a sudden stop, 552 W while stale, else 690 W for each L/min of the last report (R507 to R509). Before the first report
it is free (log). -/
def State.flowLimit (s : State) : Nat :=
  if s.power.sudden then 250
  else if s.rdB F.PWR_COOLANT_flow_stale then 552
  else if s.power.everFlow then min 2000 (690 * s.rd F.PWR_COOLANT_flow / 100)
  else min 2000 (Config.firstFlow s.resetAt)

/-- T_in in units of 0.125 °C: 40 °C when both inlet sensors have failed. -/
def State.inletTemp (s : State) : Int := if s.power.inlet.cond = 3 then 320 else s.power.inlet.eff

/-- P_inlet (R511), rounded down to whole watts. -/
def inletLimit (t : Int) : Nat :=
  if t ≤ 280 then 2000
  else if t ≤ 320 then 2000 - ceilDiv (50 * (t - 280).toNat) 8
  else if t < 440 then 1750 - ceilDiv (100 * (t - 320).toNat) 8
  else 250

/-- The limits in force, with their numbers in PWR_LIMIT.limiter. -/
def State.limits (s : State) : List (Nat × Nat) :=
  [(1, s.rd F.PWR_CTRL_mgmt_cap_w), (2, 10 * s.rd (F.PWR_CAP_LVL_MAP_level (s.rd F.PWR_LIMIT_cap_lvl))),
   (if s.power.sudden then 6 else 3, s.flowLimit), (4, inletLimit s.inletTemp), (5, if s.power.sag.isSome then 250 else 2000),
   (7, if s.power.outlet.cond = 3 then 552 else 2000)]

/-- P_allow (R502). -/
def State.allowedPower (s : State) : Nat := s.limits.foldl (fun p l => min p l.2) 2000

/-- The highest-numbered limit that sets P_allow; NONE at 2,000 W. -/
def State.limiter (s : State) : Nat :=
  let p := s.allowedPower
  if p = 2000 then 0 else (s.limits.filter (fun l => l.2 = p)).foldl (fun m l => max m l.1) 0

/-! ## Grants (R506, R519) -/

/-- g_n of R506 under a ceiling. -/
def State.grantOf (s : State) (ramp n : Nat) : Nat :=
  let b := fun k => if (s.part k).present then (s.part k).power else 0
  let g0 := min (b 0) ramp
  if n = 0 then g0
  else
    let sum := (((List.range 16).drop 1).map b).sum
    if sum = 0 then 0 else min (b n) (b n * (ramp - g0) / sum)

/-- Σ max(0, issued − grant). -/
def State.recallingSum (s : State) : Nat :=
  ((List.range 16).map (fun n => s.rd F.PWR_PART_issued_w n - s.rd F.PWR_PART_grant_w n)).sum

/-- PWR_BOOKS follows the grants and issues. -/
def State.books (s : State) : State :=
  let issued := ((List.range 16).map (fun n => s.rd F.PWR_PART_issued_w n)).sum
  let rec_ := s.recallingSum
  ((s.wr F.PWR_BOOKS_issued_w issued).wr F.PWR_BOOKS_recalling rec_).wr F.PWR_BOOKS_pool_w (s.rd F.PWR_LIMIT_ramp_w + rec_ - issued)

/-- New grants under ramp_w; while a lowering recalls, what was issued beyond a grant stays issued. -/
def State.regrant (s : State) (hold : Bool) : State :=
  let ramp := s.rd F.PWR_LIMIT_ramp_w
  ((List.range 16).foldl (fun s n =>
    let g := s.grantOf ramp n
    let i := if hold then max (s.rd F.PWR_PART_issued_w n) g else g
    (s.wr F.PWR_PART_grant_w g n).wr F.PWR_PART_issued_w i n) s).books

/-- prefill_gate of every serving partition (R506). -/
def State.setGates (s : State) : State :=
  (List.range 16).foldl (fun s n =>
    match (s.wpart n).image with
    | some im =>
      if s.pstate n = 2 ∧ im.serving.isSome then
        let g := s.rd F.PWR_PART_grant_w n
        let b := (s.part n).power
        s.wr F.PWR_PART_prefill_gate (if g = b then im.tMax else max 16 (im.tMax * g / b / 16 * 16)) n
      else s
    | none => s) s

/-! ## Clocks (R40, R498, R514, R528, R530) -/

def State.dieLimit (s : State) (d : Nat) : Nat := Tab.get 64 s.power.dieLimit d

/-- Whether the module is at the floor. -/
def State.atFloor (s : State) : Bool := decide (s.rd F.PWR_LIMIT_allowed_w ≤ 250)

/-- Whether a die is held at its floor clock: a hot spot has lost both sensors (R515). -/
def State.dieHeld (s : State) (d : Nat) : Bool := (List.range 32).any (fun k => (Tab.get {} s.power.spots (32 * d + k)).cond = 3)

/-- The clock step of cluster island c under a draw. -/
def State.clockFor (s : State) (c draw : Nat) : Nat :=
  let n := s.clusterOwner c
  if s.atFloor || s.dieHeld (c / 40) then 16
  else max 16 (min (min ((s.part n).clockCap / 25) (s.dieLimit (c / 40))) (16 + Config.grantStep draw n (s.rd F.PWR_PART_grant_w n) % 49))

/-- An island's clock is set: a lowering takes effect at the divider at once, a raise when its oscillator has locked (R528). -/
def State.setClock (s : State) (c want : Nat) : State :=
  let cur := s.rd F.ISLAND_STATE_clock_step c
  let now := if s.rdB F.ISLAND_STATE_changing c then Tab.get cur s.power.target c else cur
  if want = now then s
  else
    let s := s.setPower (fun p => { p with target := Tab.insert (Tab.erase p.target c) c want })
    let s := (s.setB F.ISLAND_STATE_changing c).wr F.ISLAND_STATE_sync_depth 3 c
    if want < cur then s.wr F.ISLAND_STATE_clock_step want c else s

/-- Every cluster island in RUN takes its clock; with `down`, only where that lowers it. -/
def State.retarget (s : State) (down : Bool) : State :=
  if !s.power.rails then s
  else
    let d := s.fresh
    (List.range 160).foldl (fun s c =>
      if s.idleOf c ≠ 0 ∨ s.power.closed.contains c then s
      else
        let w := s.clockFor c d
        if down && decide (s.rd F.ISLAND_STATE_clock_step c < w) then s else s.setClock c w) s.draw

/-! ## The planner (R502 to R504) -/

/-- The effective outlet temperature has risen by 15 K or more within the preceding 60 s (R512). -/
def State.outletRising (s : State) : Bool :=
  s.power.outlets.any (fun e => decide (s.clk ≤ e.1 + 60000000000 ∧ e.2 + 120 ≤ s.power.outlet.eff))

/-- Self-tests end at the floor (R518). -/
def State.abortAllTests (s : State) : State :=
  s.setFabric (fun f => { f with testing := [], aborting := f.aborting ++ f.testing })

/-- The limiter changes; FLOW and FLOW_STOP are conditions of COOLANT (R508, R509). -/
def State.noteLimiter (s : State) (l : Nat) : State :=
  let old := s.rd F.PWR_LIMIT_limiter
  if l = old then s
  else
    let s := (s.wr F.PWR_LIMIT_limiter l).setB F.PWR_EVENT_limiter_change
    if l = 3 then s.event Src.coolant 1 true
    else if old = 3 then s.causeEnds Src.coolant 1 else s

/-- The planner recomputes P_allow, ramp_w and the grants (R502); a fall of P_allow begins the sequence of R504. -/
def State.plan (s : State) : State :=
  let p := s.allowedPower
  let old := s.rd F.PWR_LIMIT_allowed_w
  let s := s.noteLimiter s.limiter
  let s := ((s.wr F.PWR_LIMIT_allowed_w p).wr F.PWR_LIMIT_flow_w s.flowLimit).wr F.PWR_LIMIT_inlet_w (inletLimit s.inletTemp)
  let r := s.power.ramp
  let top := p * 1000000000
  let r := if top < r then top
    else if s.rd F.PWR_BOOKS_recalling = 0 ∧ !s.outletRising then min top (r + 300 * (s.clk - s.power.rampAt)) else r
  let s := (s.setPower (fun w => { w with ramp := r, rampAt := s.clk })).wr F.PWR_LIMIT_ramp_w (r / 1000000000)
  let s := if p < old then
      (s.setPower (fun w => { w with lowering := some s.clk, lowered := s.clk, missArmed := true })).wr F.PWR_LIMIT_settled 0
    else s
  let s := s.regrant s.power.lowering.isSome
  let s := if p ≤ 250 then s.abortAllTests else s
  if s.power.lowering.isSome then s else (s.setGates).retarget false

/-! ## Sensor pairs (Table 20.5) -/

/-- In range: −20 °C to 140 °C. -/
def inRange (t : Int) : Bool := decide (-160 ≤ t ∧ t ≤ 1120)

/-- A sample of a pair at a time. A sensor that reads out of range, or lower than its partner by more than 10 K, counts as failed until it has read
in range and within 3 K of its partner for 1 s. -/
def SensorPair.sample (p : SensorPair) (a b : Int) (now : Nat) : SensorPair :=
  let near := decide (-24 ≤ a - b ∧ a - b ≤ 24)
  let since := fun (ok : Bool) (o : Option Nat) => if ok && near then some (o.getD now) else none
  let nA := since (inRange a) p.nearA
  let nB := since (inRange b) p.nearB
  let healed := fun (o : Option Nat) => o.any (fun t => decide (t + 1000000000 ≤ now))
  let both := inRange a && inRange b
  let fA := !inRange a || (both && decide (a + 80 < b)) || (p.failA && !healed nA)
  let fB := !inRange b || (both && decide (b + 80 < a)) || (p.failB && !healed nB)
  let cond := if fA && fB then 3 else if fA || fB then 2 else if near then 0 else 1
  let eff := if fA && fB then 880 else if fA then b + 40 else if fB then a + 40 else max a b
  { failA := fA, failB := fB, nearA := nA, nearB := nB, cond := cond, eff := eff }

/-- Events of THERMAL that a pair's new condition records (R513). A coolant pair has no die to hold. -/
def State.pairEvent (s : State) (old new : Nat) (coolant : Bool) : State :=
  if new = old ∨ new = 0 then s
  else if new = 3 then (if coolant then (if old = 2 then s else s.event Src.thermal 2 true) else s.event Src.thermal 3 true)
  else s.event Src.thermal new true

/-! ## Next known events and idle states (R520 to R523) -/

/-- TILLER_NEXT_n (Table 11.12): whether Pn is runnable, and the time of Tiller's next event. -/
def State.tillerNext (s : State) (n : Nat) : Bool × Option Nat :=
  let slots := (s.slotsOf n).map (fun x => s.slot x)
  let run := s.stepInFlight n || slots.any (fun v => decide (1 ≤ v.state ∧ v.state ≤ 3))
  if run then
    match (s.srv n).step with
    | some st =>
      let d := Tab.get 0 (s.srv n).durations (pow2Floor st.segs.length)
      (true, if d = 0 then none else some (s.modTime + (st.start + d - s.clk)))
    | none => (true, none)
  else
    (false, ((slots.filter (fun v => v.state ≠ 0 && bit v.flags 4 && v.deadline != 0)).map (·.deadline)).min?)

/-- The earliest predicted arrival of a set of sessions (R411). -/
def State.nextFrame (s : State) (ks : List Nat) : Option Nat :=
  ((ks.filter (fun k => s.vidOpened k && !(s.vid k).encodes && (s.vid k).b 2 1 = 0)).filterMap (fun k => (s.vid k).predicted)).min?

/-- Pn's next known event and its source (R521): 1 TILLER, 2 VIDEO, 3 HINT. -/
def State.nextEvent (s : State) (n : Nat) : Option (Nat × Nat) :=
  let c := [((s.tillerNext n).2, 1), (s.nextFrame (ownedIn s.struct.image.video n), 2),
    (if s.rdB F.PWR_HINT_valid n then some (s.rd F.PWR_HINT_time n) else none, 3)]
  c.foldl (fun best e => match e.1, best with
    | some t, none => some (t, e.2)
    | some t, some b => if t < b.1 then some (t, e.2) else some b
    | none, b => b) none

/-- Exit time and break-even of a state, in ns (Table 20.8). -/
def exitNs (st : Nat) : Nat := [0, 2000, 60000, 3000000, 250000000].getD st 0
def breakEvenNs (st : Nat) : Nat := [0, 0, 200000, 20000000, 5000000000].getD st 0

/-- The wanted state of Pn (R522). -/
def State.wantedState (s : State) (n : Nat) : Nat :=
  let margin := s.rd F.PWR_CTRL_margin_us * 1000
  let deepest := s.rd F.PWR_PART_max_idle_state n
  let fits := fun st => match s.nextEvent n with
    | none => true
    | some e => decide (s.modTime + exitNs st + margin + breakEvenNs st ≤ e.1)
  if s.stepInFlight n || s.haltedUnits n then 0
  else [1, 2, 3, 4].foldl (fun w st => if decide (st ≤ deepest) && fits st then st else w) 0

/-- The islands of die d's unit of S3: its clusters and the base dies of its two stacks. -/
def dieIslands (d : Nat) : List Nat := (List.range 40).map (fun k => 40 * d + k) ++ [160 + 2 * d, 161 + 2 * d]

/-- The partitions that own a cluster of die d or an engine of its stacks. -/
def State.dieOwners (s : State) (d : Nat) : List Nat :=
  ((List.range 40).map (fun k => s.clusterOwner (40 * d + k)) ++ (List.range 32).map (fun k => s.engineOwner (32 * d + k))).dedup.filter
    (fun n => decide (n < 16))

/-- Whether die d has work in a cluster or a query at a stack. -/
def State.dieBusy (s : State) (d : Nat) : Bool :=
  (List.range 40).any (fun k => s.clusterBusy (40 * d + k)) || s.stk.queries.any (fun q => q.stack / 2 = d)

def State.setIdle (s : State) (i v : Nat) : State := s.setPower (fun p => { p with idle := Tab.set 0 p.idle i v })

/-- The islands that leave an idle state together with an island. -/
def State.idleUnit (s : State) (i : Nat) : List Nat :=
  if s.power.inS4 then List.range 193
  else if s.idleOf i = 3 then dieIslands (if i < 160 then i / 40 else (i - 160) / 2)
  else [i]

/-- S4 is left on management network traffic and on an SDIO access (R523): the exit begins. -/
def State.wakeS4 (s : State) : State := if s.power.inS4 then s.setPower (fun p => { p with exits := List.range 193 }) else s

end Sys2Proof.Machine
end

