-- ==== Sys2Proof/Machine/Power.lean ====
section
/-! DEFINITION. The commands of supply, power planner, coolant and hot spots (20). -/

namespace Sys2Proof.Machine

/-! ## The 54 V input (R499 to R501); voltages in units of 10 mV -/

/-- R499: two consecutive samples lie below the threshold: a sag begins, with the first sample as its reference, and P_allow is 250 W. -/
def execSagStart (v1 v2 : Nat) (s : State) : Res :=
  let th := 100 * s.rd F.PWR_SUPPLY_sag_threshold_v
  if s.power.sag.isSome ∨ th ≤ v1 ∨ th ≤ v2 then .next s
  else
    let t := s.clk
    let s := (s.pass 1000).wr F.PWR_INPUT_volts v2
    let s := (s.setPower (fun p => { p with sag := some t })).setB F.PWR_EVENT_sag
    .next (s.event Src.supply 1 true).plan

/-- R499: the input has stayed at or above the threshold plus 1 V for 10 ms: the sag ends. Its lowest sample and its length are kept. -/
def execSagEnd (minV us : Nat) (s : State) : Res :=
  match s.power.sag with
  | none => .next s
  | some t =>
    let s := s.advanceTo (t + 1000 * us)
    let low := s.rd F.PWR_SUPPLY_min_v
    let s := (s.inc F.PWR_SUPPLY_sags).wr F.PWR_SUPPLY_min_v (if low = 0 then min minV 65535 else min low minV)
    let s := s.wr F.PWR_SUPPLY_longest_us (max (s.rd F.PWR_SUPPLY_longest_us) (min us 65535))
    .next ((s.setPower (fun p => { p with sag := none })).causeEnds Src.supply 1).plan

/-- R500: 19 ms of a sag have lain below 40 V. -/
def execSupplyLoss (s : State) : Res := if s.power.sag.isSome then .next (s.removePower 5) else .next s

/-- A surge begins (R501). -/
def State.beginSurge (s : State) : State :=
  if s.power.surge then s
  else (((s.setPower (fun p => { p with surge := true })).inc F.PWR_SUPPLY_surges).setB F.PWR_EVENT_surge).event Src.supply 2 true

/-- R501: two consecutive samples above 60 V. -/
def execSurge (v1 v2 : Nat) (s : State) : Res :=
  if v1 ≤ 6000 ∨ v2 ≤ 6000 then .next s else .next ((s.pass 1000).wr F.PWR_INPUT_volts v2).beginSurge

/-- R501: two samples above 80 V, or a surge of 100 ms. -/
def execSurgeOff (s : State) : Res := .next (s.beginSurge.removePower 6)

/-- R505, R497: a 100 µs window ends. Its mean, and the samples of voltage and current, are shown; every 1,000th window ends one of 100 ms. A window
that ends 1 ms or later after the latest lowering, with a mean above P_allow + 25 W, is a CAP_MISS. -/
def execPowerWindow (mean volts amps : Nat) (s : State) : Res :=
  let s := s.advancePeriod 100000
  let s := ((s.wr F.PWR_INPUT_volts volts).wr F.PWR_INPUT_amps amps).wr F.PWR_INPUT_power_w mean
  let s := if s.power.surge && decide (volts ≤ 6000) then (s.setPower (fun p => { p with surge := false })).causeEnds Src.supply 2 else s
  let s := s.setPower (fun p => { p with windows := p.windows + 1, windowSum := p.windowSum + mean })
  let s := if 1000 ≤ s.power.windows then
      let s := s.wr F.PWR_INPUT_power_avg_w (s.power.windowSum / s.power.windows)
      let d := s.fresh
      let s := (List.range 16).foldl (fun s n => s.wr F.PWR_PART_power_w (Config.partPower d n) n) s.draw
      s.setPower (fun p => { p with windows := 0, windowSum := 0 })
    else s
  let p := s.power
  let lowered := p.missArmed || p.missAt.isSome
  if lowered ∧ p.lowered + 1000000 ≤ s.clk ∧ s.rd F.PWR_LIMIT_allowed_w + 25 < mean then
    if p.missArmed ∨ p.missAt.any (fun t => decide (t + 100000000 ≤ s.clk)) then
      let s := s.setPower (fun p => { p with missArmed := false, missAt := some s.clk })
      .next ((s.setB F.PWR_EVENT_cap_miss).event Src.cap 1 true)
    else .next s
  else .next (s.causeEnds Src.cap 1)

/-! ## Caps and the planner (R502 to R506) -/

/-- R503: a CAP_LVL value, stable for 1 µs, is taken. -/
def execCapLvlChange (lvl : Fin 8) (s : State) : Res := .next ((s.pass 1000).wr F.PWR_LIMIT_cap_lvl lvl.val).plan

/-- R505: a write of PWR_CTRL; its cap acts as a CAP_LVL cap does. -/
def execMgmtCapWrite (m : Master) (v : W64) (s : State) : Res :=
  guardHcs (s.isOperator m) s fun s => (s.applyWrite .PWR_CTRL v.toNat 0 0).plan

/-- R502: the planner's 100 µs. -/
def execPlannerTick (s : State) : Res := .next (s.advancePeriod 100000).plan

/-- R504 step 2: clocks are divided to fit the grants, and nothing more is recalled. -/
def execRecallDone (s : State) : Res :=
  if s.power.lowering.isSome then .next ((s.retarget true).regrant false) else .next s

/-- R504 step 3: islands take the highest step that fits, and every serving partition its gate. -/
def execLoweringSettled (s : State) : Res :=
  if s.power.lowering.isSome ∧ s.rd F.PWR_BOOKS_recalling = 0 then
    let s := (s.retarget false).setGates
    .next ((s.setPower (fun p => { p with lowering := none })).setB F.PWR_LIMIT_settled)
  else .next s

/-- R519: the audit of the books; a difference rebuilds every issue from its grant. -/
def execPowerBooksAudit (s : State) : Res :=
  let s := (s.advancePeriod 1000000).incWrap F.PWR_BOOKS_checks
  let issued := ((List.range 16).map (fun n => s.rd F.PWR_PART_issued_w n)).sum
  if issued + s.rd F.PWR_BOOKS_pool_w = s.rd F.PWR_LIMIT_ramp_w + s.recallingSum then .next s
  else .next (((s.setB F.PWR_BOOKS_mismatch).setB F.PWR_EVENT_audit_mismatch).regrant false)

/-! ## Coolant (R507 to R512) and hot spots (R513 to R515) -/

/-- R547, R508, R509: FLOW_SEQ commits a report of FLOW, unless FLOW is 0xFFFF or FLOW_SEQ repeats the one last committed. -/
def execFlowReport (flow seq : BitVec 16) (s : State) : Res :=
  let f := flow.toNat
  let s : State := { s.wakeS4 with sdio := { s.sdio with flow := f, flowSeq := seq.toNat } }
  let same := s.power.flowSeq = some seq.toNat
  let s := s.setPower (fun p => { p with flowSeq := some seq.toNat })
  if f = 0xFFFF ∨ same then .next s
  else
    let now := s.clk
    let recent := s.power.reports.filter (fun r => decide (now ≤ r.1 + 200000000))
    let stop := decide (f < 80) || recent.any (fun r => decide (2 * f < r.2))
    let was := s.power.sudden
    let s := s.setPower (fun p => { p with
      reports := (now, f) :: recent, flowAt := now, everFlow := true, sudden := stop
      lowSince := if f < 80 then some (p.lowSince.getD now) else none })
    let s := (s.wr F.PWR_COOLANT_flow (min f 4095)).wr F.PWR_COOLANT_flow_stale 0
    let s := if stop then (if was then s else (s.setB F.PWR_EVENT_flow_stop).event Src.coolant 2 true)
      else s.causeEnds Src.coolant 2
    .next s.plan

/-- R507: 100 ms without a report. -/
def execFlowStale (s : State) : Res :=
  if s.rdB F.PWR_COOLANT_flow_stale then .next s
  else .next ((s.advanceTo (s.power.flowAt + 100000000)).setB F.PWR_COOLANT_flow_stale).plan

/-- R510: every report over 2 s lies below 0.8 L/min. -/
def execFlowOff (s : State) : Res :=
  match s.power.lowSince with
  | none => .next s
  | some t => .next ((s.advanceTo (t + 2000000000)).removePower 4)

/-- One pair sampled, with its events. -/
def State.samplePairs (s : State) (inA inB outA outB : Int) : State :=
  let p := s.power
  let i := p.inlet.sample inA inB s.clk
  let o := p.outlet.sample outA outB s.clk
  let s := (s.pairEvent p.inlet.cond i.cond true).pairEvent p.outlet.cond o.cond true
  let o := if o.cond = 3 then { o with eff := p.outlet.eff } else o
  let s := s.setPower (fun p => { p with
    inlet := i, outlet := o
    outlets := (s.clk, o.eff) :: p.outlets.filter (fun e => decide (e.2 < o.eff ∧ s.clk ≤ e.1 + 60000000000)) })
  let t := s.inletTemp
  let s := (s.wr F.PWR_COOLANT_inlet (ofSigned 12 t)).wr F.PWR_COOLANT_outlet (ofSigned 12 o.eff)
  ((s.wr F.PWR_COOLANT_inlet_high (ofBool (decide (320 < t)))).wr F.PWR_COOLANT_inlet_low (ofBool (decide (t < 80)))).wr
    F.PWR_COOLANT_sensor_failed (ofBool (i.failA || i.failB || o.failA || o.failB))

/-- The hot spots of every die sampled (spot k of die d is pair 32 d + k), with PWR_THERMAL_d. -/
def State.sampleSpots (s : State) (spots : List (Int × Int)) : State :=
  let s := (spots.zipIdx.filter (fun e => e.2 < 128)).foldl (fun s e =>
    let old := Tab.get {} s.power.spots e.2
    let p := old.sample e.1.1 e.1.2 s.clk
    let s := s.pairEvent old.cond p.cond false
    let s := if p.cond = 3 && old.cond ≠ 3 then s.setB F.PWR_EVENT_die_floor else s
    s.setPower (fun w => { w with spots := Tab.set {} w.spots e.2 p })) s
  (List.range 4).foldl (fun s d =>
    let ps := (List.range 32).map (fun k => Tab.get {} s.power.spots (32 * d + k))
    let hot := ps.zipIdx.foldl (fun b e => if b.1 < e.1.eff then (e.1.eff, e.2) else b) ((ps.headD {}).eff, 0)
    let lost := ps.zipIdx.foldl (fun m e => if e.1.cond = 3 then m + 2 ^ e.2 else m) 0
    let s := ((s.wr F.PWR_THERMAL_hottest (ofSigned 12 hot.1) d).wr F.PWR_THERMAL_hottest_spot hot.2 d).wr F.PWR_THERMAL_lost_mask lost d
    (s.wr F.PWR_THERMAL_die_floor (ofBool (lost ≠ 0)) d).wr F.PWR_THERMAL_failed_spots ((ps.filter (fun p => p.failA || p.failB)).length) d) s

/-- Conditions of THERMAL that no pair is in any more end (R470, R515). -/
def State.thermalCauses (s : State) : State :=
  let cs := s.power.inlet.cond :: s.power.outlet.cond :: s.power.spots.map (fun e => e.2.cond)
  let spots := s.power.spots.map (fun e => e.2.cond)
  let s := if cs.contains 1 then s else s.causeEnds Src.thermal 1
  let s := if cs.any (fun c => 2 ≤ c) then s else s.causeEnds Src.thermal 2
  if spots.contains 3 then s else s.causeEnds Src.thermal 3

/-- R507, R513 to R516: every 20 µs the pairs are read (units of 0.125 °C). An effective hot spot of 110 °C or more, other than under R515, or an
effective outlet of 65 °C or more removes core power; in OFF the dies are not measured. -/
def execTemperatureSample (inA inB outA outB : Int) (spots : List (Int × Int)) (s : State) : Res :=
  let s := (s.advancePeriod 20000).samplePairs inA inB outA outB
  let s := if s.power.rails then s.sampleSpots spots else s
  let s := s.thermalCauses.plan
  if !s.power.rails then .next s
  else if s.power.spots.any (fun e => e.2.cond ≠ 3 && decide (880 ≤ e.2.eff)) then .next ((s.event Src.thermal 4 true).removePower 2)
  else if s.power.outlet.cond ≠ 3 ∧ 520 ≤ s.power.outlet.eff then .next ((s.event Src.coolant 3 true).removePower 3)
  else .next s

/-- R514: every 100 µs each die's clock limit goes down by 25 MHz at or above the soft limit, and up by 25 MHz for each ms 3 K below it. -/
def execSoftLimitTick (s : State) : Res :=
  let s := s.advancePeriod 100000
  if !s.power.rails then .next s
  else
    let soft : Int := ((8 * s.rd F.PWR_CTRL_soft_limit_c : Nat) : Int)
    let s := (List.range 4).foldl (fun s d =>
      let hot := toSigned 12 (s.rd F.PWR_THERMAL_hottest d)
      let lim := s.dieLimit d
      let raised := Tab.get 0 s.power.dieRaised d
      let s := if soft ≤ hot then s.setPower (fun p => { p with dieLimit := Tab.set 64 p.dieLimit d (max 16 (lim - 1)) })
        else if hot < soft - 24 ∧ raised + 1000000 ≤ s.clk ∧ lim < 64 then
          s.setPower (fun p => { p with dieLimit := Tab.set 64 p.dieLimit d (lim + 1), dieRaised := Tab.set 0 p.dieRaised d s.clk })
        else s
      s.wr F.PWR_THERMAL_clock_limit (s.dieLimit d) d) s
    .next (s.retarget s.power.lowering.isSome)

/-! ## Emergency off and the ways back (R516, R576, R580) -/

/-- R580, R516: EOFF asserted for 10 µs. Before core power has come up it is no cause of OFF (R576). -/
def execEoff (s : State) : Res :=
  if s.power.eoff then .next s
  else
    let s := (s.pass 10000).setPower (fun p => { p with eoff := true })
    if s.power.rails then .next ((s.event Src.tray 2 true).removePower 1) else .next s

/-- R580: EOFF has been low for 10 ms. The module leaves an OFF that it caused, a halt of the ROM (R451) or the wait of R576. -/
def execEoffRelease (s : State) : Res :=
  if !s.power.eoff then .next s
  else
    let s := ((s.pass 10000000).setPower (fun p => { p with eoff := false })).causeEnds Src.tray 2
    if s.power.off ∧ s.power.cause = 1 then .next (s.bootFromReset true)
    else if s.fw.halt ≠ 0 then .next (s.bootFromReset false)
    else if s.fw.waiting then .next s.bringUp
    else .next s

/-- Table 20.6: after an OFF with cause SUPPLY_LOSS, 100 ms of input from 44 V to 60 V boot the module. -/
def execSupplyRestored (s : State) : Res :=
  if s.power.off ∧ s.power.cause = 5 then .next ((s.pass 100000000).bootFromReset true) else .next s

end Sys2Proof.Machine
end

