-- ==== Sys2Proof/Machine/Islands.lean ====
section
/-! DEFINITION. The commands of idle states (20), clock islands and crossings (21), and cluster self-tests (04). -/

namespace Sys2Proof.Machine

/-! ## Idle states (R520 to R523) -/

/-- The idle state that the planner gives cluster island c under the wanted states: a die in S3 takes its clusters along. -/
def State.clusterIdle (s : State) (want : List Nat) (die3 : Nat → Bool) (c : Nat) : Nat :=
  if s.clusterBusy c then 0
  else if die3 (c / 40) then 3
  else min 2 (want.getD (s.clusterOwner c) 0)

/-- R522: every 10 µs the planner chooses a wanted state for each partition and applies it to units. A unit that is idle goes deeper at once; it
leaves its state by IDLE_EXIT, or because its partition has a step in flight. -/
def execIdleChoice (s : State) : Res :=
  let s := s.advancePeriod 10000
  if !s.power.rails || s.power.inS4 then .next s
  else
    let want := (List.range 16).map (fun n => if (s.part n).present then s.wantedState n else 0)
    let die3 := fun d => !s.dieBusy d && s.dieOwners d != [] && (s.dieOwners d).all (fun n => decide (3 ≤ want.getD n 0))
    let deeper := fun (s : State) (i st : Nat) =>
      if s.power.closed.contains i ∨ s.power.exits.contains i then s
      else if st = 0 ∧ s.shownIdle i = 0 then s.setIdle i 0
      else if s.idleOf i < st then s.setIdle i st else s
    let s' := (List.range 160).foldl (fun s c => deeper s c (s.clusterIdle want die3 c)) s
    let s' := (List.range 8).foldl (fun s m => deeper s (160 + m) (if die3 (m / 2) then 3 else 0)) s'
    let s4 := s.rdB F.PWR_CTRL_s4_enable && s.rd F.REDUN_STATE_role == 0 &&
      (List.range 16).all (fun n => !(s.part n).present || (want.getD n 0 == 4 && (n == 0 || s.pstate n != 2)))
    .next (if s4 then (s'.setPower (fun p => { p with inS4 := true })).wr F.DDR4_STATE_mode 2 else s')

/-- R523: the planner begins the exit of an island's unit, at its time or because something is addressed to it. -/
def execIdleExit (i : IslandId) (s : State) : Res :=
  if !s.power.inS4 ∧ s.idleOf i.val = 0 then .next s
  else
    let u := s.idleUnit i.val
    .next (s.setPower (fun p => { p with exits := p.exits ++ u.filter (fun k => !p.exits.contains k) }))

/-- R520: the unit is in RUN, at the clock that its grant allows. -/
def execIdleExitDone (i : IslandId) (s : State) : Res :=
  if !s.power.exits.contains i.val then .next s
  else
    let u := s.idleUnit i.val
    let s := if s.power.inS4 then (s.setPower (fun p => { p with inS4 := false })).wr F.DDR4_STATE_mode 1 else s
    let d := s.fresh
    let s := (s.draw).setPower (fun p => { p with exits := p.exits.filter (fun k => !u.contains k) })
    .next (u.foldl (fun s k =>
      let s := s.setIdle k 0
      if k < 160 then s.setClock k (s.clockFor k d) else s) s)

/-- R528: the oscillator has locked at the new setting. -/
def execClockChangeDone (i : IslandId) (s : State) : Res :=
  if s.rdB F.ISLAND_STATE_changing i.val then
    let t := Tab.get (s.rd F.ISLAND_STATE_clock_step i.val) s.power.target i.val
    let s := ((s.wr F.ISLAND_STATE_clock_step t i.val).wr F.ISLAND_STATE_changing 0 i.val).wr F.ISLAND_STATE_sync_depth
      (if 40 ≤ t then 3 else 2) i.val
    .next (s.setPower (fun p => { p with target := Tab.erase p.target i.val }))
  else .next s

/-! ## Crossings (R533, R534) -/

/-- Table 21.4: what the module does to the far island. -/
def State.crossFailed (s : State) (far : Nat) : State :=
  if far < 160 then
    (s.setFabric (fun f => { f with failed := if f.failed.contains far then f.failed else f.failed ++ [far] })).stopPartition
      (s.clusterOwner far) 3
  else if far < 168 then
    let es := (List.range 16).map (fun k => 16 * (far - 160) + k)
    let s := { s with stk := { s.stk with failed := s.stk.failed ++ es.filter (fun e => !s.stk.failed.contains e) } }
    ((es.map (fun e => s.engineOwner e)).dedup).foldl (fun s n => s.stopPartition n 5) s
  else if far < 192 then
    let s := s.wr F.REDUN_CTRL_ready 0
    if s.holdsLease ∧ s.rdB F.REDUN_STATE_partner_ready then s.giveUpLease else s
  else s

/-- R533: an unanswered handshake, an unfinished closing or a late wake raises CROSS_TIMEOUT. -/
def execCrossTimeout (near far : IslandId) (s : State) : Res :=
  let s := (s.inc F.CROSS_STATUS_timeouts).setB F.CROSS_STATUS_timeout
  let s := (s.wr F.CROSS_STATUS_far_island far.val).wr F.CROSS_STATUS_near_island near.val
  let s := (s.setB F.ISLAND_STATE_timeout far.val).setB F.ISLAND_STATE_timeout near.val
  let s := s.setPower (fun p => { p with closed := if p.closed.contains far.val then p.closed else p.closed ++ [far.val] })
  .next ((s.event Src.crossing 2).crossFailed far.val)

/-! ## Self-tests (R107, R108) -/

/-- Whether cluster c is on the retired list (Table 22.5). -/
def State.retired (s : State) (c : Nat) : Bool := (s.bbsGet (0x80 + c / 8)).toNat.testBit (c % 8)

/-- A test runs on die d. -/
def State.dieTesting (s : State) (d : Nat) : Bool := (s.fabric.testing ++ s.fabric.aborting).any (fun c => c / 40 = d)

/-- A cluster may be tested: it is idle, works, and no test runs on its die; none starts at the floor (R518). -/
def State.testable (s : State) (c : Nat) : Bool :=
  !s.clusterBusy c && !s.stepInFlight (s.clusterOwner c) && !s.fabric.failed.contains c && !s.retired c && !s.dieTesting (c / 40) && !s.atFloor &&
    (List.range 8).all (fun k => (s.unitDbg 0 (8 * c + k)).state = 0)

/-- R107: the planner may start a test of cluster c: auto_enable is 1 and its partition's next known event lies at least 1 ms ahead. -/
def State.plannerTests (s : State) (c : Nat) : Bool :=
  s.testable c && s.rdB F.TILE_SELFTEST_auto_enable (c / 40) && decide (s.clusterOwner c < 16) &&
    (match s.nextEvent (s.clusterOwner c) with | none => true | some e => decide (s.modTime + 1000000 ≤ e.1))

def State.startTest (s : State) (c : Nat) : State :=
  (s.setFabric (fun f => { f with testing := f.testing ++ [c] })).wr F.TILE_SELFTEST_result 4 (c / 40)

/-- R107: the planner tests clusters of a die round-robin: c is the first that it may test from the one after the last. -/
def execSelftestStart (c : ClusterId) (s : State) : Res :=
  let d := c.val / 40
  let from_ := Tab.get 0 s.power.nextTest d
  let order := (List.range 40).map (fun k => 40 * d + (from_ + k) % 40)
  if order.find? (fun k => s.plannerTests k) = some c.val then
    .next ((s.startTest c.val).setPower (fun p => { p with nextTest := Tab.set 0 p.nextTest d ((c.val + 1) % 40) }))
  else .next s

/-- R107, Table 4.13: firmware starts a test; start is ignored unless the cluster exists, is idle and no test runs on the die. -/
def execTileSelftestStart (m : Master) (d : DieId) (v : W64) (s : State) : Res :=
  if !s.isOperator m then .next (s.accessNote (.dcs d))
  else
    let s := s.applyWrite .TILE_SELFTEST v.toNat d.val 0
    let c := bits v.toNat 5 0
    if bit v.toNat 8 && decide (c < 40) && s.testable (40 * d.val + c) then .next (s.startTest (40 * d.val + c)) else .next s

/-- R108: a test completes. A failed one marks the cluster failed and stops its partition. -/
def execSelftestDone (c : ClusterId) (pass : Bool) (s : State) : Res :=
  if !s.fabric.testing.contains c.val then .next s
  else
    let d := c.val / 40
    let s := s.setFabric (fun f => { f with testing := f.testing.filter (fun k => k ≠ c.val) })
    let s := (s.inc F.TILE_SELFTEST_tests_done d).wr F.TILE_SELFTEST_result (if pass then 1 else 2) d
    if pass then .next s
    else
      let s := s.setFabric (fun f => { f with failed := if f.failed.contains c.val then f.failed else f.failed ++ [c.val] })
      .next ((s.event (Src.cluster d) 2).stopPartition (s.clusterOwner c.val) 3)

/-- R108: an aborted cluster is free; a step that waited for it starts once none of the partition's clusters is in a test. -/
def execSelftestAbortDone (c : ClusterId) (s : State) : Res :=
  if !s.fabric.aborting.contains c.val then .next s
  else
    let d := c.val / 40
    let n := s.clusterOwner c.val
    let s := s.setFabric (fun f => { f with aborting := f.aborting.filter (fun k => k ≠ c.val) })
    let s := ((s.inc F.TILE_SELFTEST_tests_aborted d).wr F.TILE_SELFTEST_result 3 d).event (Src.cluster d) 1
    if (s.clustersBusy n).isEmpty then
      .next (s.updSrv n (fun x => { x with step := x.step.map (fun st => if st.begun then st else { st with begun := true, start := s.clk }) }))
    else .next s

end Sys2Proof.Machine
end

