-- ==== Sys2Proof/Machine/Redundancy.lean ====
section
/-! DEFINITION. The commands of the lease protocol of an active and standby pair (R479 to R492). -/

namespace Sys2Proof.Machine

/-- Details of the REDUNDANCY source, in the order of Table 19.2. -/
def redunTakeover : Nat := 1
def redunHandover : Nat := 2
def redunExpiry : Nat := 3
def redunPathSilent : Nat := 4
def redunDual : Nat := 5
def redunWatchdog : Nat := 6
def redunRejected : Nat := 7
def redunBlocked : Nat := 8

/-- R481: a message is discarded when it uses a reserved field, another level, pair or identity. -/
def State.leaseOk (s : State) (m : LeaseMsg) : Bool :=
  decide (! m.reserved ∧ m.level = 1 ∧ m.pairId = s.struct.image.redun.pairId ∧ m.identity = s.struct.image.redun.partner)

/-- A message is accepted on its path: the path monitor restarts, and the partner is no longer silent (R485, R489). -/
def State.leaseHeard (s : State) (path : LeasePath) : State :=
  let s := match path with
    | .mgmt => { s with lease := { s.lease with lastMgmt := s.clk, everMgmt := true, notedMgmt := false } }
    | .sahvy => { s with lease := { s.lease with lastSahvy := s.clk, everSahvy := true, notedSahvy := false } }
  match path with
  | .mgmt => s.wr F.REDUN_STATE_partner_silent 0
  | .sahvy => s

/-- R481: a discarded message is counted and recorded. -/
def State.leaseDiscard (s : State) : State :=
  (s.inc F.REDUN_COUNT_rejected).event Src.redundancy redunRejected

/-- The message taken when it passes R481. On the management network it comes by the lease session only (R551). -/
def State.withLease (s : State) (path : LeasePath) (m : LeaseMsg) (f : State → State) : Res :=
  .next (if path = .mgmt ∧ ! s.mgmt.leaseUp then s else if s.leaseOk m then f (s.leaseHeard path) else s.leaseDiscard)

/-- R484: the module takes over: HELD with a lease end 20 ms ahead, a RENEW at once, the event recorded. -/
def State.takeOver (s : State) : State :=
  let s := s.setLease 2
  let s := { s with lease := { s.lease with leaseEnd := s.clk + 20000000 } }
  (s.sendRenew.inc F.REDUN_COUNT_takeovers).event Src.redundancy redunTakeover

/-- A takeover condition is met in STANDBY (R484): take over when ready and no FATAL status is held; with ready 0 record
"takeover blocked" once. -/
def State.takeoverCond (s : State) : State :=
  if s.leaseState ≠ 5 then s
  else if s.rdB F.REDUN_CTRL_ready then (if s.fatalHeld then s else s.takeOver)
  else if s.lease.blockedNoted then s
  else { s with lease := { s.lease with blockedNoted := true } }.event Src.redundancy redunBlocked

/-- A RENEW is new when it is 1 to 2^31 ahead of the last accepted (R481). -/
def State.renewIsNew (s : State) (q : Nat) : Bool :=
  let d := (q + 2 ^ 32 - s.lease.lastSeq % 2 ^ 32) % 2 ^ 32
  decide (1 ≤ d ∧ d ≤ 2 ^ 31)

/-- A standby grants: the takeover timer restarts and is armed, and GRANT leaves on both paths (R484). -/
def State.grantRenew (s : State) (q : Nat) : State :=
  let s := { s.wr F.REDUN_STATE_timer_armed 1 with lease := { s.lease with timerStart := s.clk } }
  s.sendLease 2 q

/-- R484, R486: an accepted RENEW. -/
def execRenew (path : LeasePath) (m : LeaseMsg) (s : State) : Res :=
  s.withLease path m fun s =>
    if ! s.renewIsNew m.seq then s
    else
      let s := { s with lease := { s.lease with lastSeq := m.seq, maxSeq := max s.lease.maxSeq m.seq, releaseEnd := 0 } }
      let partnerHolds := decide (m.state = 2 ∨ m.state = 3 ∨ m.state = 4)
      if s.leaseState = 5 then s.grantRenew m.seq
      else if s.leaseState = 1 then
        if partnerHolds then (s.setLease 5).grantRenew m.seq
        else if m.state = 1 then
          if s.identity < m.identity then (s.setLease 5).grantRenew m.seq else s.sendLease 3 m.seq
        else s
      else if s.holdsLease then
        if m.state = 1 then s.sendLease 3 m.seq
        else if partnerHolds ∧ s.identity < m.identity then (s.setLease 5).event Src.redundancy redunDual
        else s
      else s

/-- R483: a GRANT counts when it answers one of the last eight RENEWs; it extends the lease and moves the lease state. -/
def execGrant (path : LeasePath) (m : LeaseMsg) (s : State) : Res :=
  s.withLease path m fun s =>
    match s.lease.sent.find? (fun p => p.1 = m.seq) with
    | none => s
    | some p =>
      let s := s.wr F.REDUN_STATE_partner_ready (ofBool m.ready)
      let fin := max s.lease.leaseEnd (p.2 + 20000000)
      let l := s.leaseState
      let s := if l = 1 ∨ l = 2 ∨ l = 3 ∨ l = 4 then { s with lease := { s.lease with leaseEnd := fin } } else s
      if l = 1 ∨ l = 4 then s.setLease 2
      else if l = 3 ∧ s.clk + 10000000 ≤ fin then s.setLease 2
      else s

/-- R486: a DENY sends CLAIMING to STANDBY, which grants the RENEW that follows. -/
def execDeny (path : LeasePath) (m : LeaseMsg) (s : State) : Res :=
  s.withLease path m fun s => if s.leaseState = 1 then s.setLease 5 else s

/-- R484: a RELEASE is a takeover condition of a standby. -/
def execRelease (path : LeasePath) (m : LeaseMsg) (s : State) : Res :=
  s.withLease path m fun s => s.takeoverCond

/-- R483: every 5 ms a module in CLAIMING, HELD or SOLE sends RENEW. -/
def execRenewTimer (s : State) : Res :=
  if s.leaseState = 1 ∨ s.leaseState = 2 ∨ s.leaseState = 4 then .next (s.advanceTo s.lease.renewDue).sendRenew else .next s

/-- R483: HELD goes to DOUBT when less than 10 ms of lease remain. -/
def execLeaseDoubt (s : State) : Res :=
  if s.leaseState = 2 then .next ((s.advanceTo (s.lease.leaseEnd - 10000000 + 1)).setLease 3) else .next s

/-- R483: DOUBT goes to STANDBY at the lease end and records "lease expiry". -/
def execLeaseExpiry (s : State) : Res :=
  if s.leaseState = 3 then
    .next ((((s.advanceTo s.lease.leaseEnd).setLease 5).inc F.REDUN_COUNT_expiries).event Src.redundancy redunExpiry)
  else .next s

/-- R484: the armed takeover timer reaches 20.5 ms. -/
def execTakeoverTimer (s : State) : Res :=
  if s.leaseState = 5 ∧ s.rdB F.REDUN_STATE_timer_armed then
    .next (s.advanceTo (s.lease.timerStart + 20500000)).takeoverCond
  else .next s

/-- R485: both conditions of silence have held for 20 ms: a holder enters SOLE, a standby has a takeover condition; one that
takes over on it finds the partner silent and enters SOLE. -/
def execPartnerSilent (s : State) : Res :=
  if s.struct.image.redun.role ≠ 0 ∧ s.portQuiet then
    let s := (s.advanceTo (max s.lease.lastMgmt s.lease.lastSignal + 20000000)).setB F.REDUN_STATE_partner_silent
    let s := s.takeoverCond
    .next (if s.holdsLease then s.setLease 4 else s)
  else .next s

/-- R486: RELEASE is repeated every 1 ms until a RENEW is accepted or 20 ms have passed. -/
def execReleaseResend (s : State) : Res :=
  if s.lease.releaseEnd ≠ 0 ∧ s.lease.releaseDue ≤ s.lease.releaseEnd then
    let s := (s.advanceTo s.lease.releaseDue).sendLease 4 0
    .next { s with lease := { s.lease with releaseDue := s.lease.releaseDue + 1000000 } }
  else .next { s with lease := { s.lease with releaseEnd := 0 } }

/-- Op HANDOVER (R486): accepted in HELD or DOUBT with partner_ready 1 and the partner not silent. Answers acceptance. -/
def State.handOver (s : State) : State × Bool :=
  if (s.leaseState = 2 ∨ s.leaseState = 3) ∧ s.rdB F.REDUN_STATE_partner_ready ∧ ! s.rdB F.REDUN_STATE_partner_silent then
    ((s.giveUpLease.inc F.REDUN_COUNT_handovers).event Src.redundancy redunHandover, true)
  else (s, false)

/-- REDUN_CMD HANDOVER with its result. -/
def execHandover (m : Master) (s : State) : Res :=
  guardHcs (s.isOperator m) s fun s =>
    let r := s.handOver
    r.1.wr F.REDUN_STATE_cmd_result (if r.2 then 1 else 3)

/-- R488: a write of REDUN_CTRL with kick restarts the watchdog; its other fields take their values with it. -/
def execWatchdogKick (m : Master) (v : W64) (s : State) : Res :=
  guardHcs (s.isOperator m) s fun s =>
    let wd := bits v.toNat 31 16
    let s := if wd = 0 ∨ 10 ≤ wd then s.wr F.REDUN_CTRL_watchdog_ms wd else s
    let s := s.wr F.REDUN_CTRL_ready (bits v.toNat 0 0)
    if bit v.toNat 2 then { s with lease := { s.lease with kickAt := s.clk } } else s

/-- R488: a period without a kick records "watchdog" and, with partner_ready 1, gives the lease up. -/
def execWatchdog (s : State) : Res :=
  let ms := s.rd F.REDUN_CTRL_watchdog_ms
  if ms ≠ 0 ∧ s.holdsLease then
    let s := s.advanceTo (s.lease.kickAt + ms * 1000000)
    let s := { s with lease := { s.lease with kickAt := s.clk } }.event Src.redundancy redunWatchdog
    .next (if s.rdB F.REDUN_STATE_partner_ready then s.giveUpLease else s)
  else .next s

/-- R489: one path has carried no message for 1 s while the other carries messages. -/
def execPathSilent (path : LeasePath) (s : State) : Res :=
  let l := s.lease
  match path with
  | .mgmt =>
    if l.everSahvy ∧ l.lastMgmt < l.lastSahvy ∧ ! l.notedMgmt then
      let s := s.advanceTo (l.lastMgmt + 1000000000)
      .next ({ s with lease := { s.lease with notedMgmt := true } }.event Src.redundancy (redunPathSilent + 4096))
    else .next s
  | .sahvy =>
    if l.everMgmt ∧ l.lastSahvy < l.lastMgmt ∧ ! l.notedSahvy then
      let s := s.advanceTo (l.lastSahvy + 1000000000)
      .next ({ s with lease := { s.lease with notedSahvy := true } }.event Src.redundancy redunPathSilent)
    else .next s

/-- R492: the removal warning is recorded; a holder gives the lease up; in SINGLE the event's withdrawal sends one WITHDRAWN
datagram on every channel in RUN or HOLD. The condition lasts while PRES_LOOP is high. -/
def execRemovalWarning (s : State) : Res :=
  .next ((s.event Src.tray 1 true).giveUpLease)

end Sys2Proof.Machine
end

