-- ==== Sys2Proof/Machine/Rings.lean ====
section
/-! DEFINITION. The commands of rings and DMA engines (R309 to R328, R599). -/

namespace Sys2Proof.Machine

/-! ## Ring commands -/

/-- The descriptor in RING_DESC_n (Table 12.2). -/
def State.descBytes (s : State) (n : Nat) : List Byte :=
  (List.range 4).flatMap (fun i => leBytes 8 (s.rd F.RING_DESC_data n i))

/-- A ring descriptor read from its bytes. -/
def ringDesc (b : List Byte) : RingDesc where
  base := leAt b 0 8
  size := leAt b 8 4
  kind := leAt b 0xC 1
  weight := leAt b 0xD 1
  pair := leAt b 0xE 2
  bufBase := leAt b 0x10 8
  bufLog2 := leAt b 0x18 1
  irqCore := leAt b 0x19 1
  irqCount := leAt b 0x1A 2
  irqTime := leAt b 0x1C 2

/-- A ring descriptor's bytes (Table 12.2). -/
def RingDesc.bytes (d : RingDesc) : List Byte :=
  leBytes 8 d.base ++ leBytes 4 d.size ++ leBytes 1 d.kind ++ leBytes 1 d.weight ++ leBytes 2 d.pair ++
    leBytes 8 d.bufBase ++ leBytes 1 d.bufLog2 ++ leBytes 1 d.irqCore ++ leBytes 2 d.irqCount ++ leBytes 2 d.irqTime ++
    leBytes 2 0

/-- A power of two from 16 to 65,536. -/
def ringSizeOk (n : Nat) : Bool := (List.range 13).any (fun k => n = 16 * 2 ^ k)

/-- Checks 3 to 8 of Table 12.3; the reason of the first that fails, or 0. -/
def State.createReason (s : State) (n : Nat) (b : List Byte) : Nat :=
  let d := ringDesc b
  let unused := (d.kind ≠ 0 ∧ d.kind ≠ 3 ∧ d.weight ≠ 0) ∨ (d.kind ≠ 0 ∧ d.pair ≠ 0) ∨
    (d.kind ≠ 2 ∧ (d.bufBase ≠ 0 ∨ d.bufLog2 ≠ 0))
  let entriesBad := d.base % 64 ≠ 0 ∨ ! s.ddrOwned n d.base (64 * d.size) ∨ s.inImage n d.base (64 * d.size)
  let bufLen := d.size * 2 ^ d.bufLog2
  let bufBad := d.kind = 2 ∧ 11 ≤ d.bufLog2 ∧ d.bufLog2 ≤ 14 ∧
    (d.bufBase % 2 ^ d.bufLog2 ≠ 0 ∨ ! s.ddrOwned n d.bufBase bufLen ∨ s.inImage n d.bufBase bufLen)
  let pairOk := s.ringOwner d.pair = n ∧ s.ringKind d.pair = 1 ∧ (s.ringState d.pair = 1 ∨ s.ringState d.pair = 2)
  let fieldBad := (d.kind = 0 ∧ ¬ (1 ≤ d.weight ∧ d.weight ≤ 15)) ∨ (d.kind = 3 ∧ 1 < d.weight) ∨
    (d.kind = 2 ∧ ¬ (11 ≤ d.bufLog2 ∧ d.bufLog2 ≤ 14)) ∨
    (d.irqCore ≠ 0xFF ∧ (s.coresOf n).length ≤ d.irqCore)
  if leAt b 0x1E 2 ≠ 0 ∨ 3 < d.kind ∨ unused then 3
  else if d.size = 0 then 4
  else if ! ringSizeOk d.size then 5
  else if entriesBad ∨ bufBad then 6
  else if d.kind = 0 ∧ ¬ pairOk then 7
  else if fieldBad then 8
  else 0

/-- RING_STATUS of a window takes the result of the command just written. -/
def State.ringStatus (s : State) (n r result reason : Nat) : State :=
  let s := ((s.wr F.RING_STATUS_ring r n).wr F.RING_STATUS_result result n).wr F.RING_STATUS_reason reason n
  if result = 1 then s.setB F.RING_EVENT_cmd_done n
  else if result = 3 ∨ result = 4 then s.setB F.RING_EVENT_refused n else s

/-- A ring command of window n (R326, R328): reach, then the RANGE refusal, then the NOT_DISABLED refusal of CREATE, then the
rejections, then the command. -/
def State.ringCommand (s : State) (m : Master) (n : PartId) (isCreate : Bool) (allowed : State → Nat → Bool)
    (f : State → Nat → State) : Res :=
  guardHcs (s.isTenant n.val m) s fun s =>
    let r := s.rd F.RING_SEL_ring n.val
    if s.ringOwner r ≠ n.val then s.ringStatus n.val r 3 1
    else if isCreate ∧ s.ringState r ≠ 0 then s.ringStatus n.val r 3 2
    else if s.ringState r = 5 ∨ s.ringState r = 4 ∨ s.rdB F.RING_STATUS_busy n.val then s.ringStatus n.val r 4 0
    else if ! allowed s r then s.ringStatus n.val r 4 0
    else f s r

/-- R310: the checks run; on success the zeroing of the entries begins and the window is busy. -/
def execCreate (m : Master) (n : PartId) (s : State) : Res :=
  s.ringCommand m n true (fun _ _ => true) fun s r =>
    let reason := s.createReason n.val (s.descBytes n.val)
    if reason ≠ 0 then s.ringStatus n.val r 3 reason
    else
      let s := (s.ringStatus n.val r 0 0).setB F.RING_STATUS_busy n.val
      s.setRing r { desc := ringDesc (s.descBytes n.val), creating := true, window := n.val }

/-- R310: entries zero, both indices 0, counts 0, RUNNING; the window is no longer busy. -/
def execCreateDone (r : RingId) (s : State) : Res :=
  let x := s.ring r.val
  if x.creating then
    let s := (s.zeroRing r.val).zeroCounts r.val
    let s := (((s.wr F.RING_STATE_state 1 r.val).wr F.RING_STATE_kind x.desc.kind r.val).wr F.RING_STATE_cause 0 r.val).wr
      F.RING_STATE_drained 0 r.val
    let s := (s.updRing r.val (fun y => { y with creating := false })).wr F.RING_STATUS_busy 0 x.window
    let s := s.setB F.RING_EVENT_cmd_done x.window
    .next (if s.rd F.RING_STATUS_result x.window = 0 then s.wr F.RING_STATUS_result 1 x.window else s)
  else .next s

/-- Whether a SUBMIT ring pairs a completion ring. -/
def State.isPaired (s : State) (r : Nat) : Bool :=
  s.rings.any (fun p => s.ringState p.1 ≠ 0 && s.ringKind p.1 = 0 && p.2.desc.pair = r && p.1 ≠ r)

/-- A COMPLETION ring that nothing still uses: reserved 0 and no request slot naming it. -/
def State.completionIdle (s : State) (r : Nat) : Bool :=
  s.ringKind r ≠ 1 || (s.rd F.RING_COUNT_reserved r = 0 && ! s.slotNamesRing r)

/-- Table 12.9 op 2. -/
def execDestroy (m : Master) (n : PartId) (s : State) : Res :=
  s.ringCommand m n false
    (fun s r => s.ringState r = 2 && (s.ring r).flights = [] && s.completionIdle r && (s.ringKind r ≠ 1 || ! s.isPaired r))
    fun s r => (s.disableRing r).ringStatus n.val r 1 0

/-- A command that runs on after reporting PENDING. -/
def State.ringPending (s : State) (n r op : Nat) : State :=
  (s.ringStatus n r 2 0).updRing r (fun x => { x with window := n, op := op })

/-- Table 12.9 op 3: no new entry starts; PAUSED with cause COMMAND once the entries in flight have finished. -/
def execRingPause (m : Master) (n : PartId) (s : State) : Res :=
  s.ringCommand m n false (fun s r => s.ringState r = 1)
    fun s r => ((s.ringPending n.val r 3).updRing r (fun x => { x with stopping := true })).settleRing r

/-- Table 12.9 op 4. -/
def execRingResume (m : Master) (n : PartId) (s : State) : Res :=
  s.ringCommand m n false (fun s r => s.ringState r = 2)
    fun s r => (s.wr F.RING_STATE_state 1 r).ringStatus n.val r 1 0

/-- Table 12.9 op 5: entries up to the PI held now run, then PAUSED with drained set; a ring that the module does not consume
pauses at once. -/
def execDrain (m : Master) (n : PartId) (s : State) : Res :=
  s.ringCommand m n false (fun s r => s.ringState r = 1 || s.ringState r = 2)
    fun s r =>
      let s := s.ringPending n.val r 5
      if s.ringKind r = 0 then
        let s := (s.wr F.RING_STATE_state 3 r).wr F.RING_STATE_drained 0 r
        (s.updRing r (fun x => { x with drainTo := some (s.ringPi r), stopping := false })).settleRing r
      else ((s.pauseRing r 1).setB F.RING_STATE_drained r).ringCmdDone r

/-- Table 12.9 op 6: entries in flight stop and give no record, their reservations are released, and the zeroing begins. -/
def execRingReset (m : Master) (n : PartId) (s : State) : Res :=
  s.ringCommand m n false
    (fun s r => (s.ringState r = 1 || s.ringState r = 2 || s.ringState r = 3) && s.completionIdle r)
    fun s r => ((s.dropFlights r).ringPending n.val r 6).wr F.RING_STATE_state 4 r

/-- Table 12.9 op 6: the zeroing is done: both indices 0, counts 0, PAUSED with cause RESET. -/
def execRingResetDone (r : RingId) (s : State) : Res :=
  if s.ringState r.val = 4 then
    let s := ((s.zeroRing r.val).zeroCounts r.val).pauseRing r.val 4
    .next ((s.wr F.RING_STATE_write_blocked 0 r.val).ringCmdDone r.val)
  else .next s

/-- Table 12.9 op 7. -/
def execRingRead (m : Master) (n : PartId) (s : State) : Res :=
  s.ringCommand m n false (fun _ _ => true) fun s r =>
    let b := (s.ring r).desc.bytes
    let s := (List.range 4).foldl (fun s i => s.wr F.RING_DESC_data (leAt b (8 * i) 8) n.val i) s
    s.ringStatus n.val r 1 0

/-! ## Doorbells -/

/-- A doorbell without effect (R311); on a FENCED ring it is not even counted (R327). -/
def State.badDoorbell (s : State) (r : Nat) : State :=
  if s.ringState r = 5 then s
  else ((s.inc F.RING_COUNT_doorbell_errors r).setB F.RING_EVENT_doorbell_error (s.ringOwner r)).event Src.ring 1

/-- Masters that reach the registers of ring r (R328). -/
def State.reachesRing (s : State) (r : Nat) (m : Master) : Bool := s.isTenant (s.ringOwner r) m

/-- Whether a ring takes doorbells. -/
def State.doorbellState (s : State) (r : Nat) : Bool := s.ringState r = 1 || s.ringState r = 2

/-- R311: a write of RING_PI_r on firmware's side moves PI forward by at most the free entries. -/
def execProducerDoorbell (m : Master) (r : RingId) (v : W64) (s : State) : Res :=
  guardHcs (s.reachesRing r.val m) s fun s =>
    let x := v.toNat % 2 ^ 32
    let d := (s.ring r.val).desc
    let side := s.ringKind r.val = 0 ∨ (s.ringKind r.val = 3 ∧ d.weight = 0)
    let fwd := (x + 2 ^ 32 - s.ringPi r.val) % 2 ^ 32
    if side ∧ s.doorbellState r.val ∧ fwd ≤ d.size - s.ringFilled r.val then s.wr F.RING_PI_pi x r.val
    else s.badDoorbell r.val

/-- R311: a write of RING_CI_r on firmware's side moves CI forward by at most the filled entries; the entries written so far
no longer count towards an interrupt (R328). -/
def execConsumerDoorbell (m : Master) (r : RingId) (v : W64) (s : State) : Res :=
  guardHcs (s.reachesRing r.val m) s fun s =>
    let x := v.toNat % 2 ^ 32
    let fwd := (x + 2 ^ 32 - s.ringCi r.val) % 2 ^ 32
    if s.ringKind r.val ≠ 0 ∧ s.doorbellState r.val ∧ fwd ≤ s.ringFilled r.val then
      (s.wr F.RING_CI_ci x r.val).updRing r.val (fun y => { y with unsig := 0, firstAt := 0 })
    else s.badDoorbell r.val

/-! ## DMA engines -/

/-- Whether an engine may take the next entry of a SUBMIT ring (R316, R326). -/
def State.mayFetch (s : State) (r : Nat) : Bool :=
  let x := s.ring r
  let i := s.rd F.RING_STATE_fetch r
  decide (s.ringKind r = 0 ∧ x.flights.length < 8 ∧ ! x.stopping ∧ x.errCause = 0 ∧ i ≠ s.ringPi r) &&
  (x.flights.all (fun f => ! (f.stage = .finished && f.stops))) &&
  (s.ringState r = 1 || (s.ringState r = 3 && x.drainTo != some i))

/-- R322: an entry of the paired completion ring is reserved, then the next descriptor is fetched; without room the ring
waits. A fetch that meets an uncorrectable word or a granule of another owner ends the entry, as does a reserved form. A NONE
descriptor releases its reservation once it is read. -/
def execCompletionReservation (r : RingId) (s : State) : Res :=
  let q := (s.ring r.val).desc.pair
  if s.mayFetch r.val ∧ s.ringWritable q ∧ 0 < s.ringFree q then
    let i := s.rd F.RING_STATE_fetch r.val
    let n := s.ringOwner r.val
    let a := s.entryAt r.val i
    let b := s.bytesAt (ddr a) 64
    let s := (s.wr F.RING_COUNT_reserved (s.rd F.RING_COUNT_reserved q + 1) q).incWrap F.RING_STATE_fetch r.val
    let add := fun (s : State) (f : Flight) =>
      let s := s.updRing r.val (fun x => { x with flights := x.flights ++ [f] })
      s.wr F.RING_STATE_in_flight (s.ring r.val).flights.length r.val
    if ! s.ddrOwned n a 64 then
      let s := add s { index := i, bytes := b, fetchOk := false }
      .next (((s.finishFlight r.val i 0x11 0 (ddr a)).event (Src.isolation n) 1).retireAll r.val)
    else if (s.badUnit a 64).isSome then
      let s := (add s { index := i, bytes := b, fetchOk := false }).meetUnit a
      .next ((s.finishFlight r.val i 0x12 0 (ddr a)).retireAll r.val)
    else
      let f : Flight := { index := i, bytes := b }
      let none_ := f.mode = 2
      let s := add (if none_ then s.unreserve q else s) { f with reserved := ! none_ }
      .next (if 4 < leAt b 0 1 then (s.finishFlight r.val i 0x10 0 0).retireAll r.val else s)
  else .next s

/-- The entry that an engine starts next, when it has the form given: every earlier entry has started, and with the fence flag
every earlier entry has finished (R316). -/
def State.nextFlight (s : State) (r form : Nat) : Option Flight :=
  let fs := (s.ring r).flights
  match fs.dropWhile (fun f => f.stage ≠ .fetched) with
  | [] => none
  | f :: _ =>
    let earlier := fs.takeWhile (fun f => f.stage ≠ .fetched)
    if leAt f.bytes 0 1 = form && (! bit (leAt f.bytes 2 2) 2 || earlier.all (fun g => g.stage = .finished)) &&
       earlier.all (fun g => ! g.stops || g.stage ≠ .finished) then some f else none

/-- The head of a descriptor is well formed: level 1, no reserved flag or record mode, bytes 0x38 to 0x3F zero (R317). -/
def headOk (b : List Byte) : Bool :=
  decide (leAt b 1 1 = 1 ∧ leAt b 2 2 < 16 ∧ leAt b 2 2 % 4 ≠ 3 ∧ leAt b 0x38 8 = 0)

/-- A store of kind 0, 1 or 2. -/
def isStore (a : Nat) : Bool := decide (addrKind a < 3)

/-- How one transfer of len bytes ends: the bytes moved and, when it stops, the address in fault. Bytes before the 256-byte
block of an uncorrectable source word are written; a narrow write into an uncorrectable unit stops it too (R320, R341). -/
def State.moveEnd (s : State) (src : Option Nat) (dst len : Nat) : Nat × Option Nat :=
  let fromSrc := match src with
    | none => none
    | some a => match s.unreadable a len with
      | none => none
      | some f => some (f / 256 * 256 - a, f)
  let fromDst := if addrKind dst = 4 then
      let d := dst % 2 ^ 60
      let hit := s.badUnits.filter (fun u => decide (d / 256 ≤ u ∧ u ≤ (d + len - 1) / 256) &&
        ! decide (d ≤ u * 256 ∧ u * 256 + 256 ≤ d + len))
      hit.min?.map (fun u => (u * 256 - d, ddr (max d (u * 256))))
    else none
  match fromSrc, fromDst with
  | none, none => (len, none)
  | some p, none => (p.1, some p.2)
  | none, some p => (p.1, some p.2)
  | some p, some q => if p.1 ≤ q.1 then (p.1, some p.2) else (q.1, some q.2)

/-- An entry starts: its outcome is known and stays with it until its transfer is reported finished. -/
def State.startFlight (s : State) (r i status moved fault : Nat) : State :=
  s.updFlight r i (fun f => { f with stage := .moving, status := status, moved := moved, faultAddr := fault })

/-- Bytes written by a DMA engine count (Tables 23.1 and 23.2). Which hub engine serves a descriptor is free (R315). -/
def State.dmaBytes (s : State) (n dst len : Nat) : State :=
  ((s.count n 0x09 len ({ master := some 2, cls := some 3, range := some (dst, len) } : EvAttr)).tally
    (504 + Config.choice s.fresh 0 % 32) len).draw

/-- An entry that ends at the format or access step (R319); an access violation is also an isolation event. -/
def State.failFlight (s : State) (r : Nat) (f : Flight) (status fault : Nat) : State :=
  let s := s.finishFlight r f.index status 0 fault
  let s := if status = 0x11 then s.event (Src.isolation (s.ringOwner r)) 1 else s
  s.retireAll r

/-- A destination range that the partition may write (R188, R319). -/
def State.mayWrite (s : State) (n a len : Nat) : Bool :=
  s.addrIn n a len && ! (addrKind a = 4 && s.inImage n (a % 2 ^ 60) len)

/-- R319 with Table 12.6: a NOP of length 0 completes with EMPTY. -/
def execDmaNop (r : RingId) (s : State) : Res :=
  match s.nextFlight r.val 0 with
  | none => .next s
  | some f =>
    let b := f.bytes
    if headOk b ∧ leAt b 4 4 = 0 ∧ leVal (slice b 0x10 0x28) = 0 then
      .next ((s.finishFlight r.val f.index 1 0 0).retireAll r.val)
    else .next (s.failFlight r.val f 0x10 0)

/-- Two byte ranges that share a byte. -/
def overlaps (a la b lb : Int) : Bool := decide (0 < la ∧ 0 < lb ∧ a < b + lb ∧ b < a + la)

/-- R319: a COPY is checked and moves bytes from source to destination. -/
def execCopy (r : RingId) (s : State) : Res :=
  match s.nextFlight r.val 1 with
  | none => .next s
  | some f =>
    let b := f.bytes
    let n := s.ringOwner r.val
    let len := leAt b 4 4
    let src := leAt b 0x10 8
    let dst := leAt b 0x18 8
    let aligned := (! (isStore src || isStore dst)) || decide (src % 64 = 0 ∧ dst % 64 = 0 ∧ len % 64 = 0)
    if ! (headOk b && addrOk src && addrOk dst && aligned && leVal (slice b 0x20 0x18) = 0) ||
       overlaps src len dst len then .next (s.failFlight r.val f 0x10 0)
    else if ! s.addrIn n src len then .next (s.failFlight r.val f 0x11 src)
    else if ! s.mayWrite n dst len then .next (s.failFlight r.val f 0x11 dst)
    else if len = 0 then .next ((s.finishFlight r.val f.index 1 0 0).retireAll r.val)
    else
      let e := s.moveEnd (some src) dst len
      let s := (s.store n dst (s.load n src e.1)).dmaBytes n dst e.1
      match e.2 with
      | none => .next (s.startFlight r.val f.index 0 e.1 0)
      | some fa => .next ((s.meetAt fa).startFlight r.val f.index 0x12 e.1 fa)

/-- R319: a FILL writes its 8-byte pattern over the destination. -/
def execFill (r : RingId) (s : State) : Res :=
  match s.nextFlight r.val 2 with
  | none => .next s
  | some f =>
    let b := f.bytes
    let n := s.ringOwner r.val
    let len := leAt b 4 4
    let dst := leAt b 0x18 8
    let aligned := ! isStore dst || decide (dst % 64 = 0 ∧ len % 64 = 0)
    if ! (headOk b && addrOk dst && aligned && decide (len % 8 = 0) && leVal (slice b 0x20 0x18) = 0) then
      .next (s.failFlight r.val f 0x10 0)
    else if ! s.mayWrite n dst len then .next (s.failFlight r.val f 0x11 dst)
    else if len = 0 then .next ((s.finishFlight r.val f.index 1 0 0).retireAll r.val)
    else
      let e := s.moveEnd none dst len
      let pat := slice b 0x10 8
      let s := (s.store n dst ((List.range e.1).map (fun k => pat.getD (k % 8) 0#8))).dmaBytes n dst e.1
      match e.2 with
      | none => .next (s.startFlight r.val f.index 0 e.1 0)
      | some fa => .next ((s.meetAt fa).startFlight r.val f.index 0x12 e.1 fa)

/-- The rows of a STRIDED descriptor, moved in ascending order until one stops; answers bytes moved and the fault. -/
def State.moveRows (n len : Nat) (sst dst_ : Int) : Nat → State → Int → Int → Nat → State × Nat × Option Nat
  | 0, s, _, _, acc => (s, acc, none)
  | k + 1, s, a, d, acc =>
    let e := s.moveEnd (some a.toNat) d.toNat len
    let s := (s.store n d.toNat (s.load n a.toNat e.1)).dmaBytes n d.toNat e.1
    match e.2 with
    | none => State.moveRows n len sst dst_ k s (a + sst) (d + dst_) (acc + e.1)
    | some fa => (s, acc + e.1, some fa)

/-- Whether every row of one side of a STRIDED descriptor lies in the partition, in the unit of its base address. -/
def State.rowsIn (s : State) (ok : State → Nat → Nat → Bool) (rows len base : Nat) (stride : Int) : Option Nat :=
  let lo := min (base : Int) (base + (rows - 1 : Nat) * stride)
  let hi := max (base : Int) (base + (rows - 1 : Nat) * stride)
  let unit := fun x : Int => x.toNat / 2 ^ (if addrKind base = 4 then 60 else 48)
  if 0 ≤ lo ∧ unit lo = unit base ∧ unit hi = unit base then
    ((List.range rows).find? (fun i => ! ok s ((base : Int) + i * stride).toNat len)).map
      (fun i => ((base : Int) + i * stride).toNat)
  else some base

/-- R319: a STRIDED descriptor moves rows between strided spans that do not overlap. -/
def execStrided (r : RingId) (s : State) : Res :=
  match s.nextFlight r.val 3 with
  | none => .next s
  | some f =>
    let b := f.bytes
    let n := s.ringOwner r.val
    let len := leAt b 4 4
    let src := leAt b 0x10 8
    let dst := leAt b 0x18 8
    let rows := leAt b 0x20 4
    let ss := toSigned 64 (leAt b 0x28 8)
    let ds := toSigned 64 (leAt b 0x30 8)
    let aligned := ! (isStore src || isStore dst) ||
      decide (src % 64 = 0 ∧ dst % 64 = 0 ∧ len % 64 = 0 ∧ ss % 64 = 0 ∧ ds % 64 = 0)
    let span := fun (base : Nat) (st : Int) =>
      let e : Int := (rows - 1 : Nat) * st
      (min (base : Int) (base + e), (if e < 0 then -e else e) + len)
    let a := span src ss
    let d := span dst ds
    if ! (headOk b && addrOk src && addrOk dst && aligned && decide (1 ≤ rows ∧ rows ≤ 65536 ∧ leAt b 0x24 4 = 0)) ||
       (len ≠ 0 && overlaps a.1 a.2 d.1 d.2) then .next (s.failFlight r.val f 0x10 0)
    else match s.rowsIn (fun s x l => s.addrIn n x l) rows len src ss with
    | some fa => .next (s.failFlight r.val f 0x11 fa)
    | none => match s.rowsIn (fun s x l => s.mayWrite n x l) rows len dst ds with
      | some fa => .next (s.failFlight r.val f 0x11 fa)
      | none =>
        if len = 0 then .next ((s.finishFlight r.val f.index 1 0 0).retireAll r.val)
        else
          let e := State.moveRows n len ss ds rows s src dst 0
          match e.2.2 with
          | none => .next (e.1.startFlight r.val f.index 0 e.2.1 0)
          | some fa => .next ((e.1.meetAt fa).startFlight r.val f.index 0x12 e.2.1 fa)

/-- R316: the transfer of an entry finishes; its record is written in ring order. A LINK_WRITE finishes by the receiver's
answer instead. -/
def execDescriptorComplete (r : RingId) (index : Nat) (s : State) : Res :=
  match (s.ring r.val).flights.find? (fun f => f.index = index) with
  | none => .next s
  | some f =>
    if f.stage = .moving ∧ leAt f.bytes 0 1 ≠ 4 then
      .next ((s.updFlight r.val index (fun g => { g with stage := .finished, doneTime := s.modTime })).retireAll r.val)
    else .next s

/-- R599: every 100 us a record that an uncorrectable unit blocks is offered again, with those behind it. -/
def execEntryWriteRetry (r : RingId) (s : State) : Res :=
  if (s.ring r.val).blocked ≠ 0 then
    let s := s.advanceTo (s.ring r.val).blocked
    let subs := (s.rings.filter (fun p => p.2.desc.pair = r.val && p.2.desc.kind = 0 && p.2.flights ≠ [])).map (·.1)
    .next (subs.foldl (fun s q => s.retireAll q) s)
  else .next s

/-- R325: the totals of reserved and expected completion entries are compared. -/
def execRingAuditCheck (s : State) : Res :=
  let s := s.advancePeriod 1000000
  let reserved := (s.rings.map (fun p => s.rd F.RING_COUNT_reserved p.1)).sum
  let expected := (s.rings.map (fun p => (p.2.flights.filter (fun f => f.mode ≠ 2)).length)).sum
  let s := ((s.incWrap F.RING_AUDIT_checks).wr F.RING_AUDIT_reserved_total reserved).wr F.RING_AUDIT_expected_total expected
  if expected ≤ reserved ∧ reserved ≤ expected + 48 then .next s
  else .next ((s.setB F.RING_AUDIT_mismatch).event Src.ring 2)

/-- R328: irq_time after the first unsignalled entry the ring interrupts its irq_core. -/
def execRingIrqTimer (r : RingId) (s : State) : Res :=
  let x := s.ring r.val
  if x.unsig ≠ 0 ∧ x.desc.irqTime ≠ 0 then
    .next ((s.advanceTo (x.firstAt + x.desc.irqTime * 1000)).ringIrq r.val)
  else .next s

end Sys2Proof.Machine
end

