-- ==== Sys2Proof/Machine/Links.lean ====
section
/-! DEFINITION. The commands of the Sahvy links (R347 to R373). -/

namespace Sys2Proof.Machine

/-! ## Transfers at the source (R350, R359, R365) -/

/-- A transfer completes: its ring's entry finishes with a status and the bytes written, and its cells that have not left go. -/
def State.endTransfer (s : State) (t : Transfer) (status bytes : Nat) : State :=
  let s := s.setLinks (fun l => { l with
    transfers := l.transfers.filter (fun u => u.id ≠ t.id)
    ports := l.ports.map (fun e => (e.1, { e.2 with queues := (e.2.queues.map (fun q =>
      (q.1, q.2.filter (fun c => c.transfer ≠ some t.id)))).filter (fun q => q.2 ≠ []) })) })
  (s.finishFlight t.ring t.index status bytes 0).retireAll t.ring

/-- Cells of n bytes of a transfer (R350); `whole` when the last of them ends it. -/
def State.transferCells (s : State) (n src dst moved dstMod port vc notify tag id : Nat) (whole : Bool) : List QCell :=
  let count := ceilDiv moved 192
  (List.range count).map (fun i =>
    let len := min 192 (moved - 192 * i)
    let h := s.ctlHead 1 dstMod (s.rd F.LINK_CTRL_max_hops)
    let c : DataCell :=
      { head := { h with vc := ⟨vc % 4, by omega⟩, first := i = 0, last := whole && i + 1 = count }, keyId := 0, keyEpoch := 0
        srcPort := port, payloadLen := len, notify := notify, seq := 0, dstAddr := dst + 192 * i, transfer := id, index := i, dtag := tag
        sealed := slice (s.load n (src + 192 * i) len) 0 192, tag := [] }
    { cell := .data c, sealFor := some n, transfer := if whole then some id else none })

/-- R319, R350, R359: a LINK_WRITE descriptor starts: its cells join the VC of its first-hop port. -/
def execLinkWrite (r : RingId) (s : State) : Res :=
  match s.nextFlight r.val 4 with
  | none => .next s
  | some f =>
    let b := f.bytes
    let n := s.ringOwner r.val
    let len := leAt b 4 4
    let src := leAt b 0x10 8
    let dst := leAt b 0x18 8
    let port := leAt b 0x20 1
    let vc := leAt b 0x21 1
    let mod_ := leAt b 0x24 2
    let aligned := !(isStore src || isStore dst) || decide (src % 64 = 0 ∧ dst % 64 = 0 ∧ len % 64 = 0)
    let hop := if port = 0xFF then s.routePort mod_ else if s.linkUp port then some port else none
    let owner := if port = 0xFF then (match hop with | some q => s.vcOwner q vc | none => n) else s.vcOwner port vc
    if !(headOk b && addrOk src && addrOk dst && aligned && decide ((port ≤ 17 ∨ port = 0xFF) ∧ vc ≤ 3) && leVal (slice b 0x26 18) = 0)
    then .next (s.failFlight r.val f 0x10 0)
    else if !s.addrIn n src len then .next (s.failFlight r.val f 0x11 src)
    else if owner ≠ n ∨ (s.sealKey n).isNone then .next (s.failFlight r.val f 0x11 0)
    else if len = 0 then .next ((s.finishFlight r.val f.index 1 0 0).retireAll r.val)
    else match hop with
    | none => .next ((s.finishFlight r.val f.index 0x14 0 0).retireAll r.val)
    | some q =>
      let id := s.links.nextId
      let s1 := s.setLinks (fun l => { l with nextId := (id + 1) % 2 ^ 32 })
      match s.unreadable src len with
      | some fa =>
        let moved := fa / 256 * 256 - src
        let cells := s.transferCells n src dst moved mod_ q vc (leAt b 0x22 2) (leAt b 8 8) id false
        .next (((((s1.meetAt fa).enqueue q vc cells).finishFlight r.val f.index 0x12 moved fa)).retireAll r.val)
      | none =>
        let cells := s.transferCells n src dst len mod_ q vc (leAt b 0x22 2) (leAt b 8 8) id true
        let t : Transfer := { id := id, ring := r.val, index := f.index, part := n, port := q, unsent := cells.length }
        let s2 := (s1.startFlight r.val f.index 0 len 0).setLinks (fun l => { l with transfers := l.transfers ++ [t] })
        .next (s2.enqueue q vc cells)

/-- R365: no answer within ack_timeout_us of the last cell. -/
def execAckTimeout (r : RingId) (index : Nat) (s : State) : Res :=
  match s.links.transfers.find? (fun t => t.ring = r.val && t.index = index && t.due ≠ 0) with
  | none => .next s
  | some t => .next ((s.advanceTo t.due).endTransfer t 0x17 0)

/-! ## Ports: down, training, retraining (R367 to R371) -/

/-- The widest width whose lanes are all good (Table 14.7 step 2): lanes 0 to 7, 0 to 3 else 4 to 7, the lowest good pair. -/
def lanesUsed (good : Nat) : List Nat :=
  let all := fun l : List Nat => l.all (fun i => bit good i)
  (([[0, 1, 2, 3, 4, 5, 6, 7], [0, 1, 2, 3], [4, 5, 6, 7], [0, 1], [2, 3], [4, 5], [6, 7]] : List (List Nat)).find? all).getD []

def widthOf (good : Nat) : Nat := (lanesUsed good).length

/-- Lanes on which a signal is detected. -/
def State.signalLanes (s : State) (p : Nat) : Nat := ((List.range 8).filter (fun i => bit (Tab.get 0 s.linkSignal p) i)).length

def State.setSignal (s : State) (p lanes : Nat) : State := { s with linkSignal := Tab.set 0 s.linkSignal p lanes }

/-- The redundancy block's path over the lease port has lost its signal (R485). -/
def State.leaseSignalEnds (s : State) (p : Nat) : State :=
  if s.struct.image.redun.role ≠ 0 ∧ p = s.struct.image.redun.port then { s with lease := { s.lease with lastSignal := s.clk } } else s

/-- The cells of other sources among those that a port drops: source, source port, transfer and the cell. -/
def foreignCells (l : List QCell) : List DataCell :=
  l.filterMap (fun q => match q.cell, q.ingress with
    | .data d, some _ => if d.head.type = 1 then some d else none
    | _, _ => none)

/-- The first cell of each distinct source, source port and transfer, at most 256 (R370 step 5). -/
def distinctSources (l : List DataCell) : List DataCell :=
  (l.foldl (fun (acc : List DataCell) d =>
    if acc.any (fun e => e.head.src = d.head.src && e.srcPort = d.srcPort && e.transfer = d.transfer) then acc else acc ++ [d]) []).take 256

/-- R370: a port goes down: credits, replay buffer and queued cells go, unfinished local transfers end with LINK_DOWN, other sources are
told, and the event is recorded. A port that had no link yet only leaves its sequence. -/
def State.linkDown (s : State) (p cause : Nat) : State :=
  let st := s.linkState p
  if st = 0 ∨ (st = 1 ∧ cause ≠ 1) then s
  else
    let x := s.lport p
    let was := decide (st = 4 ∨ st = 5)
    let queued := x.queues.flatMap (fun q => q.2.map (fun c => (q.1, c)))
    let s := s.updLport p (fun _ => { since := s.clk })
    let s := (s.wr F.LINK_PORT_STATE_state (if cause = 1 then 0 else 1) p).wr F.LINK_PORT_STATE_down_cause cause p
    let s := (s.wr F.LINK_PORT_STATE_width 0 p).wr F.LINK_PORT_STATE_level 0 p
    let s := ((s.rstReg .LINK_PORT_PEER p).rstReg .LINK_PORT_PEER_ID_LO p).rstReg .LINK_PORT_PEER_ID_HI p
    let s := if cause = 1 then (s.causeEnds (Src.link p) 3).leaseSignalEnds p else s
    if !was then s
    else
      let s := queued.foldl (fun s c => match c.2.ingress with | some i => s.linkFree i c.1 | none => s) s
      let s := (s.links.transfers.filter (fun t => t.port = p && t.unsent ≠ 0)).foldl (fun s t => s.endTransfer t 0x14 0) s
      let s := (distinctSources (foreignCells (x.kept.map (·.2) ++ queued.map (·.2)))).foldl (fun s d => s.nackCell d 0x14 0) s
      ((s.inc F.LINK_PORT_ERR_link_downs p).setB F.LINK_EVENT_link_down).event (Src.link p) 3 (cause ≠ 1)

/-- Training starts (Table 14.7 step 1). -/
def State.startTraining (s : State) (p : Nat) : State :=
  (s.wr F.LINK_PORT_STATE_state 2 p).updLport p (fun x => { x with since := s.clk })

/-- Retraining starts: credits, replay buffer and queued cells stay (R369). -/
def State.startRetrain (s : State) (p : Nat) : State :=
  if s.linkUp p then
    ((s.wr F.LINK_PORT_STATE_state 5 p).updLport p (fun x => { x with since := s.clk, marks := [] })).event (Src.link p) 1
  else s

/-- R367: signal on two lanes or more of an enabled port that is DOWN starts training. -/
def execSignalDetected (p : LinkId) (lanes : BitVec 8) (s : State) : Res :=
  let s := s.setSignal p.val lanes.toNat
  .next (if s.linkState p.val = 1 ∧ 2 ≤ s.signalLanes p.val then s.startTraining p.val else s)

/-- The NEGOTIATE cell of a port (Table 14.3). -/
def State.sendNegotiate (s : State) (p : Nat) : State :=
  let id := if s.rdB F.LINK_ID_valid then s.fabricId else 0xFFFF
  let s := s.sendHop p 0x14 (leBytes 1 1 ++ leBytes 1 1 ++ leBytes 1 p ++ leBytes 1 (s.rd F.LINK_PORT_STATE_lanes_good p) ++ leBytes 2 id ++
    leBytes 2 0 ++ leBytes 16 s.identity)
  s.updLport p (fun x => { x with negDue := s.clk + 10000 })

/-- The end of a training attempt without two good lanes, or in time: DOWN. -/
def State.trainingFails (s : State) (p : Nat) : State :=
  (s.wr F.LINK_PORT_STATE_state 1 p).updLport p (fun x => { x with since := s.clk })

/-- Table 14.7 steps 2 and 3. -/
def execLinkTrainingDone (p : LinkId) (good : BitVec 8) (s : State) : Res :=
  if s.linkState p.val = 2 then
    let g := good.toNat &&& s.rd F.LINK_PORT_CTRL_lane_mask p.val
    let s := s.wr F.LINK_PORT_STATE_lanes_good g p.val
    if widthOf g = 0 then .next (s.trainingFails p.val)
    else .next (((s.wr F.LINK_PORT_STATE_width (widthOf g) p.val).wr F.LINK_PORT_STATE_state 3 p.val).sendNegotiate p.val)
  else .next s

/-- R367: step 2 has not finished within 20 ms. -/
def execLinkTrainingTimeout (p : LinkId) (s : State) : Res :=
  if s.linkState p.val = 2 then .next ((s.advanceTo ((s.lport p.val).since + 20000000)).trainingFails p.val) else .next s

/-- R367: a DOWN port tries again every 100 ms while it is enabled. -/
def execLinkRetry (p : LinkId) (signal : BitVec 8) (s : State) : Res :=
  if s.linkState p.val = 1 then
    let s := (s.advanceTo ((s.lport p.val).since + 100000000)).setSignal p.val signal.toNat
    .next (if 2 ≤ s.signalLanes p.val then s.startTraining p.val else s.updLport p.val (fun x => { x with since := s.clk }))
  else .next s

/-- Table 14.7 step 3: NEGOTIATE again. -/
def execNegotiateTimer (p : LinkId) (s : State) : Res :=
  if s.linkState p.val = 3 then .next ((s.advanceTo (s.lport p.val).negDue).sendNegotiate p.val) else .next s

/-- R368: the reason of Table 14.8 that refuses a link, judged in ascending value, or 0. -/
def State.refuseReason (s : State) (maxLevel minLevel port fabric : Nat) (malformed : Bool) : Nat :=
  let level := min 1 maxLevel
  if !s.rdB F.LINK_ID_valid ∨ fabric = 0xFFFF then 1
  else if level < 1 ∨ level < minLevel then 2
  else if fabric = s.fabricId then 3
  else if malformed ∨ 17 < port ∨ 1023 < fabric then 4
  else 0

/-- R368: the peer's NEGOTIATE; then step 4: the full grant, once no cell of the old link is held (R371). -/
def execNegotiate (p : LinkId) (maxLevel minLevel port _lanes fabricId identity : Nat) (malformed : Bool) (s : State) : Res :=
  let q := p.val
  if s.linkState q ≠ 3 then .next s
  else
    let r := s.refuseReason maxLevel minLevel port fabricId malformed
    let s := s.wr F.LINK_PORT_STATE_refuse_reason r q
    if r ≠ 0 then .next ((s.wr F.LINK_PORT_STATE_state 6 q).setB F.LINK_EVENT_refused)
    else
      let s := ((s.wr F.LINK_PORT_STATE_state 4 q).wr F.LINK_PORT_STATE_level 1 q).causeEnds (Src.link q) 3
      let s := ((s.wr F.LINK_PORT_PEER_peer_port port q).setB F.LINK_PORT_PEER_valid q).wr F.LINK_PORT_PEER_peer_id fabricId q
      let s := (s.wr F.LINK_PORT_PEER_ID_LO_identity_lo identity q).wr F.LINK_PORT_PEER_ID_HI_identity_hi (identity / 2 ^ 64) q
      let s := s.updLport q (fun _ => { since := s.clk, grantDue := true })
      .next (if (List.range 5).all (fun c => s.linkHeld q c = 0) then s.sendCredit q else s)

/-- A write of LINK_PORT_CTRL_p (R367, R369, R370, R373). -/
def State.linkCtrl (s : State) (m : Master) (p : Nat) (v : W64) : State :=
  if s.isOperator m then
    let was := s.rdB F.LINK_PORT_CTRL_enable p
    let s := s.applyWrite .LINK_PORT_CTRL v.toNat p 0
    let now := s.rdB F.LINK_PORT_CTRL_enable p
    let s :=
      if !was && now then
        let s := (s.wr F.LINK_PORT_STATE_state 1 p).updLport p (fun x => { x with since := s.clk })
        if 2 ≤ s.signalLanes p then s.startTraining p else s
      else if was && !now then s.linkDown p 1
      else s
    if bit v.toNat 1 && now then
      if s.linkState p = 6 then (s.wr F.LINK_PORT_STATE_state 1 p).updLport p (fun x => { x with since := s.clk }) else s.startRetrain p
    else s
  else s.accessNote .hcs

/-- R367: enable is set. -/
def execPortEnable (m : Master) (p : LinkId) (v : W64) (s : State) : Res := .next (s.linkCtrl m p.val v)

/-- R370: enable is cleared. -/
def execPortDisable (m : Master) (p : LinkId) (v : W64) (s : State) : Res := .next (s.linkCtrl m p.val v)

/-- R369: retrain is written. -/
def execRetrain (m : Master) (p : LinkId) (v : W64) (s : State) : Res := .next (s.linkCtrl m p.val v)

/-- R369: a lane of the port's width loses lock. -/
def execLaneLockLost (p : LinkId) (lane : Fin 8) (s : State) : Res :=
  if (lanesUsed (s.rd F.LINK_PORT_STATE_lanes_good p.val)).contains lane.val then .next (s.startRetrain p.val) else .next s

/-- The cells of the replay buffer from a place on are sent again, in order (R358). -/
def State.replay (s : State) (p : Nat) (l : List (Nat × QCell)) : State := l.foldl (fun s q => s.emit (.cell p q.2.cell)) s

/-- R369: the port comes UP at the width found, replaying what is not yet accepted, or goes down with too few good lanes. -/
def execRetrainDone (p : LinkId) (good : BitVec 8) (s : State) : Res :=
  let q := p.val
  if s.linkState q = 5 then
    let g := good.toNat &&& s.rd F.LINK_PORT_CTRL_lane_mask q
    let old := s.rd F.LINK_PORT_STATE_width q
    let s := s.wr F.LINK_PORT_STATE_lanes_good g q
    if widthOf g = 0 then .next (s.linkDown q 3)
    else
      let s := (s.wr F.LINK_PORT_STATE_width (widthOf g) q).wr F.LINK_PORT_STATE_state 4 q
      let s := if widthOf g < old then (s.setB F.LINK_EVENT_degraded).event (Src.link q) 2 else s
      let s := s.updLport q (fun x => { x with replayNo := 0, waiting := false })
      .next ((s.replay q (s.lport q).kept).pumpPort q)
  else .next s

/-- R369: a retrain has not returned to UP within 2 ms. -/
def execRetrainTimeout (p : LinkId) (s : State) : Res :=
  if s.linkState p.val = 5 then .next ((s.advanceTo ((s.lport p.val).since + 2000000)).linkDown p.val 3) else .next s

/-- R370: every lane has lost its signal. A REFUSED port stays REFUSED (R367). -/
def execSignalLost (p : LinkId) (s : State) : Res :=
  let s := (s.setSignal p.val 0).leaseSignalEnds p.val
  .next (if s.linkState p.val = 6 then s else s.linkDown p.val 2)

/-! ## Cells received (R348, R353, R355 to R366) -/

/-- Corrected words of a cell count, and start a retrain when those of their lane exceed degrade_threshold in 1 ms (R348, R369). -/
def State.linkCorrected (s : State) (p : Nat) (h : CellHead) : State :=
  if h.corrected = 0 then s
  else
    let s := s.inc F.LINK_PORT_ERR_corrected p 0 h.corrected
    let recent := ((Tab.get [] (s.lport p).marks h.lane).filter (fun t => s.clk < t + 1000000)) ++ List.replicate h.corrected s.clk
    let s := s.updLport p (fun x => { x with marks := Tab.set [] x.marks h.lane recent })
    if s.rd F.LINK_PORT_CTRL_degrade_threshold p < recent.length then s.startRetrain p else s

/-- The receiver asks for a replay, once (R358). -/
def State.askReplay (s : State) (p : Nat) : State :=
  let x := s.lport p
  if x.waiting then s
  else
    let s := (s.sendHop p 0x11 (leBytes 2 x.rxSeq)).inc F.LINK_PORT_ERR_replays p
    s.updLport p (fun x => { x with waiting := true })

/-- A numbered cell reaches a port on a channel: discarded when a word is uncorrectable or its type reserved, replayed when out of order,
else accepted and handed on (R348, R349, R358). -/
def State.receive (s : State) (p : Nat) (h : CellHead) (ch : Nat) (typeOk : Bool) (f : State → State) : Res :=
  if !s.linkUp p then .next s
  else
    let s := s.linkCorrected p h
    if !s.linkUp p then .next s
    else if h.bad then .next ((s.inc F.LINK_PORT_ERR_uncorrectable p).askReplay p)
    else if h.hopSeq ≠ (s.lport p).rxSeq then .next (s.askReplay p)
    else
      let s := s.updLport p (fun x => { x with rxSeq := (x.rxSeq + 1) % 4096, waiting := false, unheard := x.unheard + 1
                                               accepted := Tab.upd 0 x.accepted ch (· + 1) })
      let s := if typeOk then f s else (s.inc F.LINK_PORT_ERR_uncorrectable p).linkFree p ch
      .next (if 32 ≤ (s.lport p).unheard && s.linkUp p then s.sendCredit p else s)

/-- A cell of another module is forwarded with one hop less, or discarded; a discarded data cell is answered by a NACK with LINK_DOWN
(R359 to R361). -/
def State.forward (s : State) (p ch : Nat) (c : LinkCell) : State :=
  let drop := fun s : State =>
    let s := s.linkFree p ch
    match c with
    | .data d => if d.head.type = 1 then s.nackCell d 0x14 0 else s
    | .ctl _ _ => s
  if c.head.hops = 0 then drop s
  else match s.routePort c.head.dst with
    | none => drop s
    | some q => s.enqueue q ch [{ cell := c.mapHead (fun h => { h with hops := h.hops - 1 }), ingress := some p }]

/-- A cell is for this module, or is forwarded; a local cell frees its buffer once it is written. -/
def State.deliver (s : State) (p ch : Nat) (c : LinkCell) (f : State → State) : State :=
  if s.rdB F.LINK_ID_valid && c.head.dst = s.fabricId then (f s).linkFree p ch else s.forward p ch c

/-- The entry that a cell's key_id names, and its payload when its epoch and tag hold (R353). -/
def State.openCell (s : State) (c : DataCell) : Option LinkKey × Option (List Byte) :=
  match s.sec.linkKeys.find? (fun k => k.id = c.keyId) with
  | none => (none, none)
  | some k =>
    (some k, if k.tomb || k.epoch ≠ c.keyEpoch then none else Config.gcmOpen k.aes (cellIv c) (cellHeader c) (slice c.sealed 0 192) c.tag)

/-- A cell that fails authentication counts at its port, and at the removal of its partition (R353, R51). -/
def State.authFail (s : State) (p : Nat) (k : Option LinkKey) : State :=
  let s := s.inc F.LINK_PORT_AUDIT_auth_fail p
  match k with
  | some k => if s.beingRemoved k.part then s.inc F.PART_REMOVE_auth_discards else s
  | none => s

def State.dropIncoming (s : State) (i : Incoming) : State :=
  s.setLinks (fun l => { l with incoming := l.incoming.filter (fun j => ¬ (j.src = i.src ∧ j.srcPort = i.srcPort ∧ j.transfer = i.transfer)) })

/-- A transfer fails at the receiver: one NACK with the bytes written before it (R363, R364). -/
def State.failIncoming (s : State) (p : Nat) (i : Incoming) (c : DataCell) (status : Nat) : State :=
  let s := if status = 0x16 then s.inc F.LINK_PORT_AUDIT_refused p else s
  (s.dropIncoming i).nackCell c status i.written

/-- The notification of a finished transfer; a ring without room drops it (R364). -/
def State.notify (s : State) (p : Nat) (i : Incoming) : State :=
  if i.notify = 0xFFFF then s
  else
    let w : WaitRec := { status := 0, kind := 3, srcRing := i.notify, srcIndex := s.ringPi i.notify
                         body := leBytes 2 i.src ++ leBytes 1 i.srcPort ++ leBytes 1 i.vc ++ leBytes 4 0 ++ leBytes 8 i.written ++
                           leBytes 8 i.first ++ leBytes 8 i.tag ++ leBytes 8 s.modTime }
    let r := s.produce i.notify w
    if r.2 then r.1 else r.1.inc F.LINK_PORT_AUDIT_notify_dropped p

/-- A payload of an open transfer is written; the last one ends the transfer (R363, R364). -/
def State.acceptPayload (s : State) (p : Nat) (i : Incoming) (c : DataCell) (bytes : List Byte) : State :=
  let data := slice bytes 0 c.payloadLen
  if !(addrOk c.dstAddr && s.mayWrite i.part c.dstAddr c.payloadLen) then s.failIncoming p i c 0x16
  else if addrKind c.dstAddr = 4 && s.blockedUnit (c.dstAddr % 2 ^ 60) c.payloadLen then s.failIncoming p i c 0x12
  else
    let s := s.store i.part c.dstAddr data
    let i := { i with written := i.written + c.payloadLen, index := c.index, seq := c.seq }
    if c.head.last then
      ((s.dropIncoming i).notify p i).sendRouted 0x18 i.src (ackBody i.transfer i.srcPort i.vc 0 i.written)
    else (s.dropIncoming i).setLinks (fun l => { l with incoming := l.incoming ++ [i] })

/-- Checks 2 to 4 of Table 14.5. -/
def State.firstCellOk (s : State) (n : Nat) (c : DataCell) : Bool :=
  addrOk c.dstAddr && s.mayWrite n c.dstAddr (if c.head.last then c.payloadLen else 192) &&
  (c.notify = 0xFFFF || (decide (s.ringOwner c.notify = n ∧ s.ringKind c.notify = 3 ∧ (s.ring c.notify).desc.weight = 1) && s.ringState c.notify = 1)) &&
  decide (s.links.incoming.length < 4096)

/-- A data cell for this module (R353, R363). -/
def State.takeData (s : State) (p : Nat) (c : DataCell) : State :=
  let o := s.openCell c
  let cur := s.links.incoming.find? (fun i => i.src = c.head.src && i.srcPort = c.srcPort && i.transfer = c.transfer)
  let inOrder := c.head.first || (match cur with | some i => decide (c.index = i.index + 1 ∧ i.seq < c.seq) | none => true)
  match o.1, (if inOrder then o.2 else none) with
  | some k, some pt =>
    if c.head.first then
      let i : Incoming := { src := c.head.src, srcPort := c.srcPort, transfer := c.transfer, vc := c.head.vc.val, part := k.part
                            index := c.index, seq := c.seq, written := 0, first := c.dstAddr, notify := c.notify, tag := c.dtag }
      let s := s.dropIncoming i
      if s.firstCellOk k.part c then s.acceptPayload p i c pt else s.failIncoming p i c 0x16
    else match cur with
      | some i => s.acceptPayload p i c pt
      | none => s
  | k, _ =>
    let s := s.authFail p k
    match cur with
    | some i => if c.head.first then (s.dropIncoming i).nackCell c 0x15 0 else s.failIncoming p i c 0x15
    | none => if c.head.first then s.nackCell c 0x15 0 else s

/-- R363: a data cell arrives. -/
def execDataCell (p : LinkId) (c : DataCell) (s : State) : Res :=
  s.receive p.val c.head c.head.vc.val (c.head.type = 1) (fun s =>
    (s.tally (570 + p.val) 1).deliver p.val c.head.vc.val (.data c) (fun s => s.takeData p.val c))

/-- The lease message of a payload (Table 19.6) and its type; `reserved` when a reserved field or type is used. -/
def leaseOf (b : List Byte) : Nat × LeaseMsg :=
  (leAt b 0 1, { level := leAt b 1 1, state := leAt b 2 1, ready := bit (leAt b 3 1) 0, fatalHeld := bit (leAt b 3 1) 1
                 reserved := decide (leAt b 0 1 = 0 ∨ 4 < leAt b 0 1 ∨ 3 < leAt b 3 1 ∨ leAt b 6 2 ≠ 0 ∨ leAt b 12 4 ≠ 0)
                 pairId := leAt b 4 2, seq := leAt b 8 4, identity := leAt b 16 16 })

/-- The state of a next outcome. -/
def Res.stateOr (r : Res) (s : State) : State := match r with | .next t => t | _ => s

/-- A lease message taken by its type. -/
def State.takeLease (s : State) (path : LeasePath) (type : Nat) (m : LeaseMsg) : State :=
  match type with
  | 1 => (execRenew path m s).stateOr s
  | 2 => (execGrant path m s).stateOr s
  | 3 => (execDeny path m s).stateOr s
  | 4 => (execRelease path m s).stateOr s
  | _ => s.leaseDiscard

/-- R366: a LEASE cell; one that does not come from the partner over the lease port, or does not authenticate, is discarded. -/
def execLeaseCell (p : LinkId) (c : DataCell) (s : State) : Res :=
  s.receive p.val c.head c.head.vc.val (c.head.type = 2) (fun s =>
    (s.tally (570 + p.val) 1).deliver p.val c.head.vc.val (.data c) (fun s =>
      let r := s.struct.image.redun
      let peer := s.rd F.LINK_PORT_PEER_ID_LO_identity_lo p.val + 2 ^ 64 * s.rd F.LINK_PORT_PEER_ID_HI_identity_hi p.val
      let o := s.openCell c
      let mine := decide (r.role ≠ 0 ∧ p.val = r.port ∧ c.head.vc = 3 ∧ c.head.first ∧ c.head.last) && s.rdB F.LINK_PORT_PEER_valid p.val &&
        decide (peer = r.partner) && (match o.1 with | some k => k.part = 0 && k.isLease | none => false)
      match o.2 with
      | some pt => if mine then let m := leaseOf pt; s.takeLease .sahvy m.1 m.2 else (s.authFail p.val o.1).leaseDiscard
      | none => (s.authFail p.val o.1).leaseDiscard))

/-- A cumulative 16-bit count of the peer as the count it stands for, at most the count sent. -/
def returnedOf (sent v : Nat) : Nat := sent - (sent % 65536 + 65536 - v) % 65536

/-- The replay buffer past the last cell accepted. -/
def keptAfter (l : List (Nat × QCell)) (acc : Nat) : List (Nat × QCell) :=
  if l.any (fun e => e.1 = acc) then (l.dropWhile (fun e => e.1 ≠ acc)).drop 1 else l

/-- R355, R358: freed counts and the last hop_seq accepted; the first CREDIT of a link is the peer's grant (Table 14.7 step 4), and a count
equal to that of a VC_RESET ends it (R372). -/
def execCredit (p : LinkId) (freed : List (BitVec 16)) (freedCc : BitVec 16) (lastAccepted : Nat) (s : State) : Res :=
  let q := p.val
  if !s.linkUp q then .next s
  else
    let x := s.lport q
    let counts := (freed.map BitVec.toNat).take 4 ++ [freedCc.toNat]
    let ret := counts.zipIdx.foldl (fun t c => Tab.set 0 t c.2 (returnedOf (Tab.get 0 x.sent c.2) c.1)) x.returned
    let s := if x.granted then s else s.setB F.LINK_EVENT_link_up
    let kept := keptAfter x.kept lastAccepted
    let s := s.updLport q (fun x => { x with
      granted := true, returned := ret, kept := kept, replayNo := if kept.length < x.kept.length then 0 else x.replayNo
      resets := x.resets.filter (fun e => counts.getD e.1 0 ≠ e.2 % 65536) })
    .next (s.pumpPort q)

/-- R358: every kept cell from the named hop_seq on is sent again; the eighth replay without acceptance starts a retrain. -/
def execReplayReq (p : LinkId) (from_ : Nat) (s : State) : Res :=
  let q := p.val
  let x := s.lport q
  let l := x.kept.dropWhile (fun e => e.1 ≠ from_)
  if !s.linkUp q ∨ l = [] then .next s
  else
    let no := if x.replayAt = from_ then x.replayNo + 1 else 1
    let s := (s.inc F.LINK_PORT_ERR_replays q).updLport q (fun x => { x with replayAt := from_, replayNo := no })
    .next (if 8 ≤ no then s.startRetrain q else s.replay q l)

/-- R357: a failed audit. -/
def State.creditMismatch (s : State) (p : Nat) (vcs : List Nat) : State :=
  let s := s.wr F.LINK_PORT_AUDIT_mismatch_vc (vcs.foldl (fun m v => m ||| 2 ^ v) (s.rd F.LINK_PORT_AUDIT_mismatch_vc p)) p
  let s := ((s.setB F.LINK_PORT_AUDIT_credit_mismatch p).setB F.LINK_EVENT_audit_mismatch).event (Src.link p) 4
  s.linkDown p 4

/-- R357: the receiver's side of an audit; ignored while it awaits a replay. -/
def execAudit (p : LinkId) (sent : List (BitVec 16)) (s : State) : Res :=
  let q := p.val
  let x := s.lport q
  if !s.linkUp q ∨ x.waiting then .next s
  else
    let bad := (List.range 4).filter (fun v =>
      Tab.get 0 x.accepted v % 65536 ≠ (sent.getD v 0).toNat ∨ 64 < s.linkHeld q v)
    if bad = [] then .next (s.sendHop q 0x13 ((List.range 4).flatMap (fun v => leBytes 2 (Tab.get 0 x.freed v))))
    else .next (s.creditMismatch q bad)

/-- R357: the transmitter's side. -/
def execAuditReply (p : LinkId) (freed : List (BitVec 16)) (s : State) : Res :=
  let q := p.val
  let x := s.lport q
  if !s.linkUp q then .next s
  else
    let bad := (List.range 4).filter (fun v =>
      64 < ((freed.getD v 0).toNat + 65536 - Tab.get 0 x.returned v % 65536) % 65536 ∨ 64 < Tab.get 0 x.sent v - Tab.get 0 x.returned v)
    if bad = [] then .next (s.incWrap F.LINK_PORT_AUDIT_audits q) else .next (s.creditMismatch q bad)

/-- R372: the neighbour's VC_RESET: its buffered cells of the VC go, and a CREDIT returns its sent count. -/
def execVcReset (p : LinkId) (vc : Fin 4) (sent : BitVec 16) (s : State) : Res :=
  let q := p.val
  if !s.linkUp q then .next s
  else
    let s := s.setLinks (fun l => { l with ports := l.ports.map (fun e => (e.1, { e.2 with
      queues := (e.2.queues.map (fun c => (c.1, if c.1 = vc.val then c.2.filter (fun d => d.ingress ≠ some q) else c.2))).filter
        (fun c => c.2 ≠ []) })) })
    .next ((s.updLport q (fun x => { x with freed := Tab.set 0 x.freed vc.val sent.toNat })).sendCredit q)

/-- The transfer that an answer names. -/
def State.answered (s : State) (transfer srcPort : Nat) : Option Transfer :=
  s.links.transfers.find? (fun t => t.id = transfer && t.port = srcPort)

/-- R365: an ACK, for this module or forwarded. -/
def execAck (p : LinkId) (h : CellHead) (transfer srcPort vc : Nat) (bytes : Nat) (s : State) : Res :=
  s.receive p.val h 4 (h.type = 0x18) (fun s =>
    s.deliver p.val 4 (.ctl h (slice (ackBody transfer srcPort vc 0 bytes) 0 248)) (fun s =>
      match s.answered transfer srcPort with | some t => s.endTransfer t 0 bytes | none => s))

/-- R365: a NACK. -/
def execNack (p : LinkId) (h : CellHead) (transfer srcPort vc : Nat) (status bytes : Nat) (s : State) : Res :=
  s.receive p.val h 4 (h.type = 0x19) (fun s =>
    s.deliver p.val 4 (.ctl h (slice (ackBody transfer srcPort vc status bytes) 0 248)) (fun s =>
      match s.answered transfer srcPort with | some t => s.endTransfer t status bytes | none => s))

/-- R355: 100 ns after the first unreported free. -/
def execCreditReportTimer (p : LinkId) (s : State) : Res :=
  let x := s.lport p.val
  if s.linkUp p.val ∧ x.firstFree ≠ 0 ∧ !x.grantDue then .next ((s.advanceTo (x.firstFree + 100)).sendCredit p.val) else .next s

/-- R357: the audit period of a port that is UP. -/
def execAuditPeriod (p : LinkId) (s : State) : Res :=
  if s.linkUp p.val ∧ s.rdB F.LINK_CTRL_audit_enable then
    let s := s.advancePeriod (s.rd F.LINK_CTRL_audit_period_ms * 1000000)
    .next (s.sendHop p.val 0x12 ((List.range 4).flatMap (fun v => leBytes 2 (Tab.get 0 (s.lport p.val).sent v))))
  else .next s

/-- R372: VC_RESET again until its CREDIT arrives. -/
def execVcResetResend (p : LinkId) (vc : Fin 4) (s : State) : Res :=
  match (s.lport p.val).resets.find? (fun e => e.1 = vc.val) with
  | none => .next s
  | some e =>
    let s := s.advanceTo ((s.lport p.val).since + 10000)
    .next ((s.sendHop p.val 0x15 (leBytes 2 e.1 ++ leBytes 2 e.2)).updLport p.val (fun x => { x with since := s.clk }))

/-- R362, R373: a routing entry changes as one write; a write that marks a port above 17 valid has no effect. -/
def execRouteEntryWrite (m : Master) (v : W64) (s : State) : Res :=
  guardHcs (s.isOperator m) s fun s =>
    let x := v.toNat
    if (bit x 7 && 17 < bits x 4 0) || (bit x 15 && 17 < bits x 12 8) then s
    else s.setLinks (fun l => { l with routes := Tab.set 0 l.routes (s.rd F.LINK_ROUTE_IDX_module) (x &&& 0x9F9F) })

end Sys2Proof.Machine
end

