-- ==== Sys2Proof/Machine/Loader.lean ====
section
/-! DEFINITION. The commands of the work-image loader (R186 to R193). -/

namespace Sys2Proof.Machine

def State.setLoad (s : State) (n : Nat) (l : Option WLoad) : State := s.setWpart n { s.wpart n with load := l }

/-- A loader command of window n: reach, then the rejections of R186, then the command. -/
def State.loaderCommand (s : State) (m : Master) (n : PartId) (isAbort : Bool) (allowed : State → Bool) (f : State → State) :
    Res :=
  guardHcs (s.isTenant n.val m) s fun s =>
    if s.rdB F.WIMG_STATUS_busy n.val ≠ isAbort ∨ ! allowed s then s.setB F.WIMG_EVENT_cmd_rejected n.val else f s

/-- An accepted command: check, reason and progress are 0, the run state is the command's, busy is 1 (R194). -/
def State.loadStart (s : State) (n run : Nat) (l : WLoad) : State :=
  let s := ((s.wr F.WIMG_STATUS_check 0 n).wr F.WIMG_STATUS_reason 0 n).wr F.WIMG_STATUS_progress 0 n
  ((s.wr F.WIMG_STATUS_run_state run n).setB F.WIMG_STATUS_busy n).setLoad n (some l)

/-- The run state that a partition has with no loader command under way. -/
def State.restRun (s : State) (n : Nat) : Nat :=
  if s.pstate n = 2 then (if s.stopped n then 3 else 2) else 0

/-- The command under way ends with its outcome (R184). -/
def State.loadRefuse (s : State) (n check reason : Nat) : State := s.loadEnds n check reason

/-- Check 37: the first unit of a byte range of the image that holds an uncorrectable word. -/
def State.readErr (s : State) (a len : Nat) : Option Nat :=
  if len = 0 then none
  else (s.badUnits.filter (fun u => decide (a / 256 ≤ u ∧ u ≤ (a + len - 1) / 256) && s.unitRole u != 1)).min?

/-- A part of the image is read, which check 37 judges, and then judged by its own checks. -/
def State.judge (s : State) (n : Nat) (ranges : List (Nat × Nat)) (c : Option (Nat × Nat)) (f : State → State) : State :=
  match (ranges.filterMap (fun r => s.readErr r.1 r.2)).head? with
  | some u => (s.meetUnit (u * 256)).loadRefuse n 37 0x0503
  | none => match c with
    | some (k, r) => s.loadRefuse n k r
    | none => f s

/-- The byte ranges of an image's sections other than WEIGHTS. -/
def State.smallSections (s : State) (src : Nat) : List (Nat × Nat) :=
  let rd := fun o k => leVal (s.bytesAt (ddr (src + o)) k)
  (List.range (min (rd 0xC 2) 32)).filterMap (fun i =>
    let e := 0x100 + 96 * i
    if rd e 2 = 4 then none else some (src + rd (e + 8) 8, rd (e + 16) 8))

/-- The byte range of WEIGHTS. -/
def State.weightsRange (s : State) (src : Nat) : List (Nat × Nat) :=
  let im := s.wRead src
  [(src + im.weightsAt, im.weightsLen)]

/-- The header and directory are read and judged by checks 1 to 7. -/
def State.beginLoad (s : State) (n : Nat) : State :=
  match (s.wpart n).load with
  | none => s
  | some l =>
    match s.wHeaderCheck n l.src l.len with
    | some (1, r) => s.loadRefuse n 1 r
    | c => s.judge n [(l.src, 4096)] c (fun s => s.setLoad n (some { l with phase := .sections }))

/-- Table 7.8 step 1. P0 never holds tenant work (R30). -/
def execLoad (m : Master) (n : PartId) (s : State) : Res :=
  s.loaderCommand m n false (fun s => n.val ≠ 0 && s.pstate n.val = 1 && ! s.fatalHeld) fun s =>
    (s.loadStart n.val 1 { op := 1, phase := .header, src := s.rd F.WIMG_SRC_ADDR_addr n.val * 4096
                           len := s.rd F.WIMG_SRC_LEN_len n.val }).beginLoad n.val

/-- R192: the new image is checked while the old one runs. -/
def execReplace (m : Master) (n : PartId) (s : State) : Res :=
  s.loaderCommand m n false (fun s => s.pstate n.val = 2 && ! s.fatalHeld) fun s =>
    (s.loadStart n.val 5 { op := 2, phase := .header, src := s.rd F.WIMG_SRC_ADDR_addr n.val * 4096
                           len := s.rd F.WIMG_SRC_LEN_len n.val }).beginLoad n.val

/-- Table 7.8 step 2: the small sections are read and judged by checks 8 to 32. -/
def execLoadSectionsRead (n : PartId) (s : State) : Res :=
  match (s.wpart n.val).load with
  | none => .next s
  | some l =>
    if l.phase ≠ .sections then .next s
    else .next (s.judge n.val (s.smallSections l.src) (s.wSectionCheck n.val l.src l.op)
      (fun s => s.setLoad n.val (some { l with phase := .plan, image := s.wRead l.src })))

/-- R191 steps 2 and 3: clusters and cores stop, request slots clear without records, rings begin their reset, the image's
range is writable again. -/
def State.unloadEffects (s : State) (n : Nat) : State :=
  let s := ((s.stopClusters n).resetCores n).clearServing n
  let s := (s.liveRings n).foldl (fun s r =>
    if s.ringState r = 0 then s else (s.dropFlights r).wr F.RING_STATE_state 4 r) s
  match (s.wpart n).load with
  | some l => s.setWpart n { image := none, load := some { l with phase := .unloading, stopped := true } }
  | none => s

/-- The unload begins: at once, or once the step in flight has committed (R191 step 1). -/
def State.beginUnload (s : State) (n : Nat) (l : WLoad) : State :=
  let s := s.setLoad n (some { l with phase := .unloading })
  if s.stepInFlight n then s else s.unloadEffects n

/-- Table 7.8 step 3: the plan is built and checks 33 and 34 run; a LOAD goes on to copy WEIGHTS, a REPLACE unloads the old
image first. -/
def execPlanBuilt (n : PartId) (s : State) : Res :=
  match (s.wpart n.val).load with
  | none => .next s
  | some l =>
    if l.phase ≠ .plan then .next s
    else .next (s.judge n.val [] (s.wPlanCheck n.val l.src)
      (fun s => if l.op = 2 then s.beginUnload n.val l else s.setLoad n.val (some { l with phase := .weights })))

/-- WEIGHTS lies in the stacks block by block where the plan puts it (R187, R198). -/
def State.placeWeights (s : State) (n : Nat) (im : WImage) : State × List (Nat × Nat) :=
  (List.range (ceilDiv im.weightsLen 65536)).foldl (fun (p : State × List (Nat × Nat)) k =>
    let a := Config.planBlock im.digest k
    let len := min 65536 (im.weightsLen - 65536 * k)
    if addrKind a = 2 && p.1.addrIn n a 65536 then
      (p.1.store n a (p.1.bytesAt (ddr (im.addr + im.weightsAt + 65536 * k)) len), p.2 ++ [(a, 65536 * k)])
    else p) (s, [])

/-- The segments of the service-core programs are placed in the partition's service memory (R181, R187). -/
def State.placeProgs (s : State) (im : WImage) : State :=
  im.progs.foldl (fun s p => p.segs.foldl (fun s g => s.ddrPut g.1 g.2) s) s

/-- Table 7.8 steps 4 and 5: checks 35 to 37 on WEIGHTS, then the image is loaded, its range read-only, and the partition's
cores start; the partition is LOADED. -/
def execWeightsCopied (n : PartId) (s : State) : Res :=
  let p := n.val
  match (s.wpart p).load with
  | none => .next s
  | some l =>
    if l.phase ≠ .weights then .next s
    else .next (s.judge p (s.weightsRange l.src) (s.wWeightsCheck l.src) (fun s =>
      let im := s.wRead l.src
      let s := s.placeProgs im
      let s := s.setPstate p 2
      let r := s.placeWeights p im
      let s := r.1.setWpart p { image := some { im with addr := l.src, resident := r.2 }, load := none }
      let s := ((s.wr F.WIMG_STATUS_run_state 2 p).wr F.WIMG_STATUS_busy 0 p).wr F.WIMG_STATUS_progress 100 p
      let s := (s.wr F.WIMG_ACTIVE_ID_image_id im.imageId p).setB F.WIMG_EVENT_load_done p
      ((s.startServing p).startCores p).newNonce p))

/-- R191: no new step is composed, the step in flight commits, and then clusters and cores stop and the rings reset. -/
def execUnload (m : Master) (n : PartId) (s : State) : Res :=
  s.loaderCommand m n false (fun s => s.pstate n.val = 2) fun s =>
    let l : WLoad := { op := 3, phase := .unloading }
    (s.loadStart n.val 4 l).beginUnload n.val l

/-- R191 step 4: every ring reset has completed; the partition is EMPTY. A REPLACE goes on with the WEIGHTS copy of the new
image. -/
def execUnloadDone (n : PartId) (s : State) : Res :=
  let p := n.val
  match (s.wpart p).load with
  | none => .next s
  | some l =>
    if l.phase ≠ .unloading ∨ ! l.stopped then .next s
    else
      let s := (s.liveRings p).foldl (fun s r =>
        if s.ringState r = 0 then s else (((s.zeroRing r).zeroCounts r).disableRing r).setRing r {}) s
      let s := (s.setPstate p 1).wr F.WIMG_ACTIVE_ID_image_id 0 p
      let s := ((s.setCauses (Src.stop p) []).endConsent p).clearReruns p
      if l.op = 2 then .next (s.setWpart p { image := none, load := some { l with phase := .weights, stopped := false } })
      else
        let s := (s.setWpart p {}).wr F.WIMG_STATUS_run_state 0 p
        .next ((s.wr F.WIMG_STATUS_busy 0 p).setB F.WIMG_EVENT_unload_done p)

/-- Table 7.7 op 4: a LOAD, or a REPLACE before its unload, ends with reason ABORTED. -/
def execAbort (m : Master) (n : PartId) (s : State) : Res :=
  s.loaderCommand m n true
    (fun s => match (s.wpart n.val).load with
      | some l => l.op = 1 || (l.op = 2 && l.phase ≠ .unloading && s.pstate n.val = 2)
      | none => false)
    fun s => s.loadEnds n.val 0 0x0601

/-- Table 7.7 op 5. -/
def execCheck (m : Master) (n : PartId) (s : State) : Res :=
  s.loaderCommand m n false (fun s => n.val ≠ 0 && (s.pstate n.val = 1 || s.pstate n.val = 2)) fun s =>
    s.loadStart n.val 6 { op := 5, phase := .checking, src := s.rd F.WIMG_SRC_ADDR_addr n.val * 4096
                          len := s.rd F.WIMG_SRC_LEN_len n.val }

/-- R183: a CHECK has run checks 1 to 34 and reports the first that failed with check_done. -/
def execCheckDone (n : PartId) (s : State) : Res :=
  let p := n.val
  match (s.wpart p).load with
  | none => .next s
  | some l =>
    if l.phase ≠ .checking then .next s
    else
      let fin := fun (s : State) (c r : Nat) =>
        let s := (s.setLoad p none).wr F.WIMG_STATUS_run_state (s.restRun p) p
        let s := (s.wr F.WIMG_STATUS_busy 0 p).wr F.WIMG_STATUS_check c p
        (s.wr F.WIMG_STATUS_reason r p).setB F.WIMG_EVENT_check_done p
      let err := fun rs => (rs.filterMap (fun r : Nat × Nat => s.readErr r.1 r.2)).head?
      match s.wHeaderCheck p l.src l.len with
      | some (1, r) => .next (fin s 1 r)
      | c => match err [(l.src, 4096)], c with
        | some u, _ => .next (fin (s.meetUnit (u * 256)) 37 0x0503)
        | none, some (k, r) => .next (fin s k r)
        | none, none => match err (s.smallSections l.src), s.wSectionCheck p l.src l.op with
          | some u, _ => .next (fin (s.meetUnit (u * 256)) 37 0x0503)
          | none, some (k, r) => .next (fin s k r)
          | none, none => match s.wPlanCheck p l.src with
            | some (k, r) => .next (fin s k r)
            | none => .next (fin s 0 0)

end Sys2Proof.Machine
end

