-- ==== Sys2Proof/Machine/Boot.lean ====
section
/-! DEFINITION. The commands of power-up, boot and firmware update (18, 24). -/

namespace Sys2Proof.Machine

/-! ## Power-up and reset (Table 24.2, R450) -/

/-- R576: the VIN blades mate: the hold-up store charges within 300 ms, the always-on supply starts, its power-on reset is held. -/
def execVinMate (mv : Nat) (s : State) : Res :=
  if s.power.held then .next ((s.pass 300000000).wr F.PWR_INPUT_volts (mv / 10)) else .next s

/-- R576 step 3, R450: with PRES_LOOP low for 100 ms and VIN from 44 V to 60 V the power-on reset is released, and boot begins. -/
def execPowerOnResetRelease (s : State) : Res :=
  let v := s.rd F.PWR_INPUT_volts
  if s.power.held ∧ 4400 ≤ v ∧ v ≤ 6000 then
    .next (((s.pass 100000000).setPower (fun p => { p with held := false })).bootFromReset true)
  else .next s

/-- R32, R450: a module reset; it does not leave OFF (Table 20.6). -/
def execModuleReset (s : State) : Res := .next (s.bootFromReset false)

/-- R471, R493: the always-on supply fails: what survives is in the store, the flashes and the fuses. FAULT_N is released (R582). -/
def execAlwaysOnSupplyFail (s : State) : Res :=
  let t := s.clearCore true
  .next { State.reset with
    regs := Tab.keep t.regs (fun k => decide ((Nat.unpair (Nat.unpair k).1).1 = RegId.SEC_STATE.ctorIdx)), bbs := t.bbs, fresh := t.fresh
    out := t.out, lastRead := t.lastRead, identity := t.identity, sec := t.sec, fw := { t.fw with cold := true, halt := 0 }
    fabric := t.fabric, pending := t.pending }

/-! ## Choosing the slot (R453) and qualification (R455) -/

/-- A slot fails a check (R453). -/
def State.failSlot (s : State) (k check : Nat) : State :=
  ((s.setSlotState k 6).wr (if k = 0 then F.FW_BOOT_check_a else F.FW_BOOT_check_b) check).event Src.boot 1

/-- The chosen set boots, in TRIAL or not; limited mode is decided (R455). -/
def State.takeSlot (s : State) (k : Nat) (trial : Bool) : State :=
  let b := s.slotBytes k
  let st := s.rd F.FW_CAP_stepping
  let ok := qualified s.fw.mgmt (fwVersion b) st && qualified b (s.rd F.FW_VERSIONS_mgmt) st
  ({ s with fw := { s.fw with chosen := some k, trial := trial, limited := !ok } }).setStage 3

/-- Rules 3 to 5 of R453. -/
def State.chooseActive (s : State) : State :=
  let active := [0, 1].find? (fun k => s.slotState k = 5)
  let r : State × Bool := match active with
    | some k => match s.slotCheck k with
      | none => (s.takeSlot k false, true)
      | some c => (s.failSlot k c, false)
    | none => (s, false)
  if r.2 then r.1
  else
    let step := fun (r : State × Bool) (k : Nat) =>
      if r.2 || r.1.slotState k != 2 then r
      else match r.1.slotCheck k with
        | none => (r.1.takeSlot k true, true)
        | some c => (r.1.failSlot k c, false)
    let r := [0, 1].foldl step (r.1, false)
    if r.2 then r.1 else r.1.setStage 6

/-- Rules 1 and 2 of R453, then the rest. A slot left WRITING reads as EMPTY; one left in TRIAL has failed. -/
def State.chooseSlot (s : State) : State :=
  let s := [0, 1].foldl (fun s k => if s.slotState k = 1 then s.setSlotState k 0 else s) s
  let s := [0, 1].foldl (fun s k => if s.slotState k = 4 then (s.setSlotState k 6).setB F.FW_BOOT_fallback else s) s
  match [0, 1].find? (fun k => s.slotState k = 3) with
  | none => s.chooseActive
  | some k => match s.slotCheck k with
    | none => s.takeSlot k true
    | some c => ((s.failSlot k c).setB F.FW_BOOT_fallback).chooseActive

/-- R345, Table 18.4 steps 6 and 7: training ends. Without loss of power and without retrain the former result stands. -/
def execDdr4TrainingDone (passed : BitVec 8) (s : State) : Res :=
  if s.rd F.FW_BOOT_stage ≠ 2 then .next s
  else
    let m := if s.fw.cold then passed.toNat else s.rd F.DDR4_STATE_trained
    let s := ({ s with fw := { s.fw with cold := false } }).wr F.DDR4_STATE_trained m
    if m = 255 then .next (s.wr F.DDR4_STATE_mode 1).chooseSlot
    else .next ((s.wr F.DDR4_STATE_mode 3).setStage 7)

/-- Step 8: the components of a set in P0's service memory. -/
def State.copyRuntime (s : State) (b : List Byte) : State :=
  (components b).foldl (fun s c =>
    let x := c.bytes b
    if c.kind = 1 then
      (elfSegs x).foldl (fun s g => s.ddrPut g.1 (g.2.2 ++ List.replicate (g.2.1 - g.2.2.length) 0#8)) s
    else s.ddrPut c.load x) s

/-- Table 18.4 steps 8 and 9: the components are copied; the boot record is written and SC0 starts. A digest that no longer matches fails the
slot. -/
def execRuntimeCopyDone (digestsOk : Bool) (s : State) : Res :=
  match s.fw.chosen with
  | none => .next s
  | some k =>
    if s.rd F.FW_BOOT_stage ≠ 3 then .next s
    else if !digestsOk then
      let s := { s with fw := { s.fw with chosen := none } }.failSlot k 6
      .next ((if s.fw.trial then s.setB F.FW_BOOT_fallback else s).chooseActive)
    else
      let b := s.slotBytes k
      let trial := s.fw.trial
      let s := s.copyRuntime b
      let s := (s.setSlotState k (if trial then 4 else 5)).bbsWr 0x72 1 k
      let s := (s.wr F.FW_VERSIONS_runtime (fwVersion b)).setStage (if trial then 5 else 4)
      let s := { s with fw := { s.fw with chosen := none, trialEnd := if trial then s.resetAt + 600000000000 else 0 }
                        sec := { s.sec with runtimeDigest := sha (b.take (leAt b 0xC 4)) } }
      let s := if s.fw.limited then
          let s := ((s.setB F.FW_BOOT_limited).setB F.FW_BOOT_limited_seen).event Src.boot 4
          { s with struct := { s.struct with limited := true } }
        else s
      let s := s.settleRegion 0x400 1024 (fwLayout b) b F.FW_BOOT_reset_runtime
      let entry := ((components b).find? (fun c => c.kind = 1)).map (fun c => leAt (c.bytes b) 24 8)
      .next { (s.wr F.SC_STATE_state 1 0) with cores := Tab.set {} s.cores 0 { pc := entry.getD 0 } }

/-- R454: 600 s of a trial pass without CONFIRM. -/
def execTrialExpiry (s : State) : Res :=
  if s.rd F.FW_BOOT_stage = 5 then
    .next (((s.advanceTo s.fw.trialEnd).event Src.boot 2).setB F.FW_BOOT_fallback |>.bootFromReset false)
  else .next s

/-! ## Firmware commands (Tables 18.6 and 18.7) -/

/-- A running slot in use. -/
def State.slotRuns (s : State) (k : Nat) : Bool :=
  (s.rd F.FW_BOOT_stage = 4 || s.rd F.FW_BOOT_stage = 5) && s.runningSlot = k

/-- The reason of Table 18.7 that refuses a write to a target (0 management, 1 slot A, 2 slot B) of a length, judged after the source. -/
def State.writeReason (s : State) (target len : Nat) : Nat :=
  if len = 0 ∨ (if target = 0 then 16777216 else 1610612736) < len then 2
  else if target ≠ 0 ∧ (s.slotState (target - 1) = 5 ∨ s.slotState (target - 1) = 4 ∨ s.slotRuns (target - 1)) then 3
  else 0

/-- A write begins: a slot is WRITING and loses an ARMED mark. -/
def State.beginWrite (s : State) (w : FlashWrite) : State :=
  let s := { s with fw := { s.fw with write := some w } }
  if w.target = 0 then s else s.setSlotState (w.target - 1) 1

/-- The bytes of a write are in the flash. -/
def State.programmed (s : State) (w : FlashWrite) (slotSt : Nat) : State :=
  let s := { s with fw := { s.fw with write := none } }
  if w.target = 0 then { s with fw := { s.fw with mgmt := w.bytes, mgmtBad := false } }
  else
    let s := if w.target = 1 then { s with fw := { s.fw with slotA := w.bytes } } else { s with fw := { s.fw with slotB := w.bytes } }
    s.setSlotState (w.target - 1) slotSt

/-- A write fails: the slot is FAILED, or the next boot halts (Table 18.7). -/
def State.writeFails (s : State) (target : Nat) : State :=
  let s := { s with fw := { s.fw with write := none } }
  if target = 0 then { s with fw := { s.fw with mgmtBad := true } } else s.setSlotState (target - 1) 6

/-- The ops other than writes (Table 18.6): result (1 DONE, 3 REFUSED, 4 REJECTED) and reason. -/
def State.fwOp (s : State) (op slot : Nat) : State × Nat × Nat :=
  let done := fun (s : State) => (s, 1, 0)
  let bad := (s, 3, 3)
  match op with
  | 3 =>
    if s.slotState slot = 2 then
      let o := 1 - slot
      done ((if s.slotState o = 3 then s.setSlotState o 2 else s).setSlotState slot 3)
    else bad
  | 4 => if s.slotState slot = 3 then done (s.setSlotState slot 2) else bad
  | 5 =>
    if s.rd F.FW_BOOT_stage = 5 then
      let r := s.runningSlot
      let s := if s.slotState (1 - r) = 5 then s.setSlotState (1 - r) 2 else s
      done (({ s with fw := { s.fw with trialEnd := 0 } }.setSlotState r 5).setStage 4)
    else bad
  | 6 =>
    let v := s.rd F.FW_VERSIONS_mgmt
    done (if s.bbsRd 0x20 4 < v then s.setCounter 0 v else s)
  | 7 =>
    if s.rd F.FW_BOOT_stage = 5 then (s, 4, 0)
    else if s.rd F.FW_BOOT_stage = 4 then
      let v := s.rd F.FW_VERSIONS_runtime
      done (if s.bbsRd 0x24 4 < v then s.setCounter 1 v else s)
    else bad
  | _ => (s, 4, 0)

/-- FW_STATUS takes a result. -/
def State.fwResult (s : State) (result reason : Nat) : State :=
  (s.wr F.FW_STATUS_result result).wr F.FW_STATUS_reason reason

/-- Whether a flash command runs. -/
def State.fwBusy (s : State) : Bool := s.rdB F.FW_STATUS_busy || s.fw.write.isSome

/-- A write of FW_CMD: only MGC may make it, but for CONFIRM (R461); while a command runs it is rejected (R462). -/
def State.fwCommand (s : State) (ok : Bool) (f : State → State) : Res :=
  guardHcs ok s fun s => if s.fwBusy then s.fwResult 4 0 else f s

/-- WRITE_MGMT and WRITE_SLOT: the source in P0's service memory is read and the write begins. -/
def State.fwCopy (s : State) (target : Nat) : State :=
  let a := s.rd F.FW_SRC_ADDR_addr * 4096
  let len := s.rd F.FW_SRC_LEN_len
  if !s.ddrOwned 0 a len then s.fwResult 3 1
  else
    let r := s.writeReason target len
    if r ≠ 0 then s.fwResult 3 r
    else match s.badUnit a len with
      | some u => (s.meetUnit (max a (u * 256))).fwResult 3 4
      | none =>
        let s := s.beginWrite { target := target, origin := 0, bytes := s.bytesAt (ddr a) len, len := len }
        (((s.setB F.FW_STATUS_busy).wr F.FW_STATUS_progress 0).fwResult 0 0)

/-- R462: WRITE_MGMT erases the management slot and programs it. -/
def execWriteMgmt (m : Master) (s : State) : Res := s.fwCommand (m = .mgc) fun s => s.fwCopy 0

/-- R462: WRITE_SLOT programs a runtime slot. -/
def execWriteSlot (m : Master) (slot : Fin 2) (s : State) : Res := s.fwCommand (m = .mgc) fun s => s.fwCopy (slot.val + 1)

/-- R462: a write ends. An SDIO write in progress can only fail here; it is ARMED when its count reaches LENGTH (R549). -/
def execFlashWriteDone (ok : Bool) (s : State) : Res :=
  match s.fw.write with
  | none => .next s
  | some w =>
    if w.origin = 2 then
      if ok then .next s
      else
        let s := s.writeFails w.target
        .next { s with sdio := { s.sdio with recvState := 4, recvReason := 5 } }
    else if w.origin = 1 ∧ w.bytes.length < w.len then .next s
    else
      let s := s.wr F.FW_STATUS_busy 0
      if ok then .next (((s.programmed w 2).wr F.FW_STATUS_progress 100).fwResult 1 0)
      else .next ((s.writeFails w.target).fwResult 3 5)

/-- A command without a write, through FW_CMD. -/
def State.fwPlain (s : State) (op slot : Nat) : State := let r := s.fwOp op slot; r.1.fwResult r.2.1 r.2.2

/-- R462: ARM marks a VALID slot to be tried at the next boot. -/
def execArm (m : Master) (slot : Fin 2) (s : State) : Res := s.fwCommand (m = .mgc) fun s => s.fwPlain 3 slot.val
/-- R462: DISARM returns an ARMED slot to VALID. -/
def execDisarm (m : Master) (slot : Fin 2) (s : State) : Res := s.fwCommand (m = .mgc) fun s => s.fwPlain 4 slot.val
/-- R454: CONFIRM, which P0's service cores may write too (R461). -/
def execConfirm (m : Master) (s : State) : Res := s.fwCommand (s.isOperator m) fun s => s.fwPlain 5 0
/-- R459: COMMIT_MGMT. -/
def execCommitMgmt (m : Master) (s : State) : Res := s.fwCommand (m = .mgc) fun s => s.fwPlain 6 0
/-- R459: COMMIT_RUNTIME. -/
def execCommitRuntime (m : Master) (s : State) : Res := s.fwCommand (m = .mgc) fun s => s.fwPlain 7 0

/-! ## Recovery over SDIO (R460, R549) -/

def State.setSdio (s : State) (f : Sdio → Sdio) : State := { s with sdio := f s.sdio }

/-- R549: START with LENGTH, in stage RECOVERY: slot A, or B when A is ACTIVE. -/
def execRecoveryStart (len : W32) (s : State) : Res :=
  let n := len.toNat
  let s := s.wakeS4.setSdio (fun x => { x with length := n, ctrl := 1 })
  let refuse := fun r => s.setSdio (fun x => { x with recvState := 4, recvReason := r })
  if s.rd F.FW_BOOT_stage ≠ 6 ∨ s.fwBusy then .next (refuse 3)
  else if n = 0 ∨ 1610612736 < n then .next (refuse 2)
  else
    let t := if s.slotState 0 = 5 then 2 else 1
    let s := s.beginWrite { target := t, origin := 2, len := n }
    .next (s.setSdio (fun x => { x with recvState := 1, recvReason := 0, received := 0 }))

/-- R549: ABORT leaves the slot FAILED. -/
def execRecoveryAbort (s : State) : Res :=
  let s := s.wakeS4.setSdio (fun x => { x with ctrl := 2 })
  match s.fw.write with
  | some w => if w.origin = 2 then .next ((s.writeFails w.target).setSdio (fun x => { x with recvState := 0 })) else .next s
  | none => .next s

/-- R549: data program the slot as they arrive; at LENGTH it is ARMED, and another ARMED slot becomes VALID. -/
def execRecoveryData (block : List Byte) (s : State) : Res :=
  match s.fw.write with
  | none => .next s
  | some w =>
    if w.origin ≠ 2 then .next s
    else
      let b := (w.bytes ++ block).take w.len
      let s := s.setSdio (fun x => { x with received := b.length })
      let w := { w with bytes := b }
      if b.length < w.len then .next { s with fw := { s.fw with write := some w } }
      else
        let o := 2 - w.target
        let s := if s.slotState o = 3 then s.setSlotState o 2 else s
        .next ((s.programmed w 3).setSdio (fun x => { x with recvState := 3 }))

end Sys2Proof.Machine
end

