-- ==== Sys2Proof/Machine/Counters.lean ====
section
/-! DEFINITION. The commands of counters and bandwidth windows (R558 to R564). -/

namespace Sys2Proof.Machine

/-- Whether readings of Pn are coarsened: a tenant partition without an active token of a scope (R439, R562). -/
def State.coarse (s : State) (n b : Nat) : Bool := n != 0 && !s.scope n b

/-- R561: a write of PERF_CTRL_n. -/
def execFreeze (m : Master) (n : PartId) (v : W64) (s : State) : Res :=
  guardHcs (s.isTenant n.val m) s fun s => s.applyWrite .PERF_CTRL v.toNat n.val 0

/-- R562: a write of a count; Pn's own cores without PROFILE write bits [9:0] as zero. -/
def execPerfCntWrite (m : Master) (n : PartId) (j : Fin 8) (v : W64) (s : State) : Res :=
  guardHcs (s.isTenant n.val m) s fun s =>
    let x := if s.coarse n.val 2 && !s.isOperator m then v.toNat / 1024 * 1024 else v.toNat
    s.applyWrite .PERF_CNT x n.val j.val

/-- What coarsened reads of Pn's counters show from now on. -/
def State.perfLatch (s : State) (n : Nat) : State :=
  let v : PerfView :=
    { cycles := s.rd F.PERF_CYCLE_cycles n, counts := (List.range 8).map (fun j => s.rd F.PERF_CNT_count n j)
      ovf := ((List.range 8).map (fun j => s.rd (F.PERF_CTRL_ovf j) n * 2 ^ j)).sum, time := s.rd F.PERF_SAMPLE_time n / 100000 * 100000
      step := s.rd F.PERF_SAMPLE_INFO_step n, counter := s.rd F.PERF_SAMPLE_INFO_counter n }
  { s with perf := Tab.set {} s.perf n v }

/-- R562: the next multiple of 100 µs of module time. -/
def execCoarseUpdate (s : State) : Res :=
  let s := s.pass ((s.modTime / 100000 + 1) * 100000 - s.modTime)
  .next ((List.range 16).foldl (fun s n => s.perfLatch n) s)

/-- R563: a write of OPC_IDX; snap copies every counter into its shadow. -/
def execSnap (m : Master) (v : W64) (s : State) : Res :=
  guardHcs (s.isOperator m) s fun s =>
    let s := s.applyWrite .OPC_IDX v.toNat 0 0
    if bit v.toNat 63 then { s with opcShadow := s.opc } else s

/-- R564: a window ends: every port latches its bytes, seq goes up, peaks follow. -/
def execBwWindow (tx rx : List Nat) (s : State) : Res :=
  let fin := s.bwStart + s.rd F.BW_CTRL_window_us * 1000
  let s := { s.advanceTo fin with bwStart := fin }
  let s := (List.range 46).foldl (fun s q =>
    let t := tx.getD q 0
    let r := rx.getD q 0
    let s := (s.wr F.BW_TX_bytes t q).wr F.BW_RX_bytes r q
    s.wr F.BW_PEAK_peak (max (s.rd F.BW_PEAK_peak q) (max t r)) q) s
  .next (s.incWrap F.BW_CTRL_seq)

/-- R564: a write of window_us discards the running window; a length outside its limit changes nothing. -/
def execBwWindowWrite (m : Master) (v : W64) (s : State) : Res :=
  guardHcs (s.isOperator m) s fun s =>
    let w := bits v.toNat 19 0
    if 1 ≤ w ∧ w ≤ 1000000 then { s.applyWrite .BW_CTRL v.toNat 0 0 with bwStart := roundUp (s.clk + 1) 10 } else s

/-- R564: a write of clear sets the port's peak to zero. -/
def execPeakClear (m : Master) (q : BwId) (v : W64) (s : State) : Res :=
  guardHcs (s.isOperator m) s fun s => if bit v.toNat 63 then s.wr F.BW_PEAK_peak 0 q.val else s

end Sys2Proof.Machine
end

