-- ==== Sys2Proof/Machine/Service.lean ====
section
/-! DEFINITION. Interrupt queues, console, store and mailbox (R544 to R557), and the lithium cell (R556, R594). -/

namespace Sys2Proof.Machine

/-- What a read of SC_IRQ_i returns: the oldest ring of the queue, and overflow. -/
def State.irqView (s : State) (i : Nat) : Nat :=
  let o := s.rd F.SC_IRQ_overflow i * 2 ^ 62
  match Tab.get [] s.irqs i with
  | [] => o
  | r :: _ => 2 ^ 63 + o + r

/-- R557: a read of SC_IRQ_i removes the entry that it returns. MGC, P0's cores and SCi itself may make it. -/
def execScIrqRead (m : Master) (i : CoreId) (s : State) : Res :=
  if !(s.isOperator m || m == .sc i) then .next { s.accessNote .hcs with lastRead := 0 }
  else .next { s with lastRead := s.irqView i.val, irqs := Tab.set [] s.irqs i.val ((Tab.get [] s.irqs i.val).drop 1) }

/-- R550: a byte from SC_CONSOLE towards the tray; one that finds the FIFO full is dropped and counted. -/
def State.consolePut (s : State) (b : Byte) : State :=
  if s.sdio.up.length < 4096 then s.setSdio (fun x => { x with up := x.up ++ [b] }) else s.inc F.SC_CONSOLE_dropped

def execConsoleWrite (m : Master) (b : Byte) (s : State) : Res := guardHcs (s.isOperator m) s fun s => s.consolePut b

/-- What a read of SC_CONSOLE returns. -/
def State.consoleView (s : State) : Nat :=
  s.rd F.SC_CONSOLE_dropped * 2 ^ 48 + (match s.sdio.down with | [] => 0 | b :: _ => 2 ^ 17 + b.toNat * 256)

/-- R557: a read of SC_CONSOLE consumes the byte from the tray that it returns. -/
def execConsoleRead (m : Master) (s : State) : Res :=
  if !s.isOperator m then .next { s.accessNote .hcs with lastRead := 0 }
  else .next { s.setSdio (fun x => { x with down := x.down.drop 1 }) with lastRead := s.consoleView }

/-- R550: bytes from the tray, through SDIO function 3. -/
def execTrayConsoleData (bytes : List Byte) (s : State) : Res :=
  .next (s.wakeS4.setSdio (fun x =>
    let room := 4096 - x.down.length
    { x with down := x.down ++ bytes.take room, dropped := min 65535 (x.dropped + (bytes.length - room)) }))

/-- R555: a write of BBS_DATA. MGC may write the management settings and the network record, MGC and P0's cores the runtime settings; a
forbidden write records a note. -/
def execBbsWrite (m : Master) (v : W64) (s : State) : Res :=
  let a := 8 * s.rd F.BBS_IDX_word
  let mgmt := decide ((0x100 ≤ a ∧ a < 0x400) ∨ (0xA0 ≤ a ∧ a < 0xC0)) && m == .mgc
  let run := decide (0x400 ≤ a ∧ a < 0x800) && s.isOperator m
  guardHcs (mgmt || run) s fun s => s.bbsPut a (leBytes 8 v.toNat)

/-- Whether MGC runs: its image is started, and no debugger has halted it (R548, R566). -/
def State.mgcAlive (s : State) : Bool := s.fw.halt == 0 && s.rd F.FW_BOOT_stage != 0 && Tab.get 0 s.dbg.dm 0x1010 == 0

/-- R548: a write of DOORBELL submits the request, unless the mailbox is BUSY; in ROM and ROM_HALT it has no effect. -/
def execMailboxDoorbell (v : Byte) (request : List Byte) (s : State) : Res :=
  let s := s.wakeS4.setSdio (fun x => { x with doorbell := v.toNat })
  if s.rd F.FW_BOOT_stage = 0 ∨ s.fw.halt ≠ 0 then .next s
  else if s.sdio.mbx = 1 then .next s
  else
    let s := s.setSdio (fun x => { x with request := slice request 0 512 })
    .next (if v = 1#8 then s.setSdio (fun x => { x with mbx := 1, reply := [] }) else s)

/-! ## The cell (R556, R594) -/

/-- The battery health record takes a reading. -/
def State.cellReading (s : State) (mv : Nat) : State :=
  let low := s.bbsRd 0x12 2
  let s := s.bbsPut 0x10 (leBytes 2 (min mv 65535) ++ leBytes 2 (if low = 0 then min mv 65535 else min low mv))
  if mv ≤ 2600 then
    if s.battFlag 0 then s else (s.setBattFlag 0 true).event Src.battery 1 true
  else if 2700 < mv then (s.setBattFlag 0 false).causeEnds Src.battery 1
  else s

/-- R556: the hourly measurement; the hours on the cell go up. -/
def execCellMeasure (mv : Nat) (s : State) : Res :=
  let s := s.cellReading mv
  .next (s.bbsWr 0x14 4 (min 0xFFFFFF (s.bbsRd 0x14 4 + 1)))

/-- R594: the cell has read below 500 mV for 1 s and then 2,700 mV or more: the health record restarts from the new cell. -/
def execCellReplaced (mv : Nat) (s : State) : Res :=
  if mv < 2700 then .next s
  else
    let s := s.bbsPut 0x10 (leBytes 2 (min mv 65535) ++ leBytes 2 (min mv 65535) ++ leBytes 4 0)
    .next (((s.setBattFlag 0 false).causeEnds Src.battery 1).event Src.battery 3)

end Sys2Proof.Machine
end

