-- ==== Sys2Proof/Machine/ReadReg.lean ====
section
/-! DEFINITION. What a read of each register returns, and which masters reach it. Most registers are their fields; the rest show other state:
clusters, engines, page descriptors and lists, counts, clocks, books, the store. -/

namespace Sys2Proof.Machine

/-! ## Where a register lies (R8, R595) -/

/-- The instance that lies at an offset of a register's space. -/
def RegPlace.find (p : RegPlace) (off : Nat) : Option (Nat × Nat) :=
  if off < p.base then none
  else
    let d := off - p.base
    let i := if p.s1 = 0 then 0 else d / p.s1
    let e := if p.s1 = 0 then d else d % p.s1
    let j := if p.s2 = 0 then 0 else e / p.s2
    let r := if p.s2 = 0 then e else e % p.s2
    if r = 0 ∧ i < (if p.s1 = 0 then 1 else p.c1) ∧ j < (if p.s2 = 0 then 1 else p.c2) then some (i, j) else none

/-- Kind and unit of a space. -/
def spaceUnit : Space → Nat × Nat
  | .hcs => (0, 0)
  | .dcs d => (1, d.val)
  | .bcs m => (2, m.val)

/-- The register and its instance at an offset; none in a gap. -/
def regAt (sp : Space) (off : Nat) : Option (RegId × Nat × Nat) :=
  let k := spaceUnit sp
  RegId.all.findSome? (fun r =>
    if r.place.kind = k.1 then (r.place.find off).map (fun p => (r, if k.1 = 0 then p.1 else k.2, p.2)) else none)

/-! ## Who reaches it -/

/-- Whether a master may make an access to a register (R44, R109, R138, R186, R221, R275, R305, R328, R346, R373, R394, R418, R442, R461, R494,
R524, R539, R557, R571). Only the fields of the register, not its command, are judged here. -/
def State.reaches (s : State) (m : Master) (r : RegId) (i : Nat) (write : Bool) : Bool :=
  match r with
  | .VEC_CAP | .WIMG_CAP => isCore m
  | .TILLER_CAP | .RING_CAP | .PTP_TIME => if write then s.isOperator m else isCore m
  | .WIMG_SRC_ADDR | .WIMG_SRC_LEN | .WIMG_CMD | .WIMG_STATUS | .WIMG_ACTIVE_ID | .WIMG_EVENT
  | .PAGE_EPOCH | .PAGE_PBOOKS_A | .PAGE_PBOOKS_B | .PAGE_POLICY | .PAGE_PSTAT | .PAGE_PCOUNT
  | .REQ_SEL | .REQ_CMD | .REQ_STATUS | .REQ_EVENT | .REQ_COUNT | .TILLER_STAT | .TILLER_STALL | .TILLER_NEXT | .REQ_DATA
  | .RING_SEL | .RING_CMD | .RING_STATUS | .RING_EVENT | .RING_DESC
  | .PLANT_INGRESS | .VID_SEL | .VID_CMD | .VID_STATUS | .VID_DATA
  | .SEC_ADDR | .SEC_CMD | .SEC_STATUS | .KEY_EPOCH | .CONSENT_NONCE | .CONSENT_STATE
  | .PERF_CYCLE | .PERF_CNT | .PERF_CFG | .PERF_CTRL | .PERF_SAMPLE | .PERF_SAMPLE_INFO | .PERF_BASE | .PERF_LIMIT
  | .PWR_HINT => s.isTenant i m
  | .TILLER_POLICY | .PWR_PART | .PWR_NEXT => if write then s.isOperator m else s.isTenant i m
  | .RING_PI | .RING_CI | .RING_STATE | .RING_COUNT => s.isTenant (s.ringOwner i) m
  | .PO_DEST | .PO_LINK | .PO_BUF | .PO_CFG | .PO_TX | .PO_STATE => s.isTenant (s.poOwner i) m
  | .CV_CFG | .CV_DATA_ID | .CV_INIT | .CV_XOROUT | .CV_SCAN_ADDR | .CV_SCAN_LEN | .CV_RESULT | .CV_STAT => s.isTenant (s.cvOwner i) m
  | .VID_STATE => s.isTenant (s.videoOwner i) m
  | .FW_CAP | .FW_SRC_ADDR | .FW_SRC_LEN => m == .mgc
  | .FW_CMD => if write then s.isOperator m else m == .mgc
  | .FW_STATUS | .FW_BOOT | .FW_VERSIONS | .FW_FLOORS => if write then m == .mgc else s.isOperator m
  | .SC_IRQ => s.isOperator m || (!write && (match m with | .sc c => c.val == i | _ => false))
  | _ => s.isOperator m

/-! ## Clusters, islands, engines -/

/-- The state that ISLAND_STATE shows: 0 RUN, 1 GATED, 2 OFF, 3 FAILED (R529, R534). -/
def State.islandState (s : State) (i : Nat) : Nat :=
  if s.power.closed.contains i then 3 else match s.shownIdle i with | 0 => 0 | 1 => 1 | _ => 2

/-- The clock step that ISLAND_STATE and CLUSTER_STATE show: 0 while the clock is stopped (R539). -/
def State.clockStep (s : State) (i : Nat) : Nat :=
  if s.islandState i = 0 then s.rd F.ISLAND_STATE_clock_step i else 0

/-- The state of a cluster (Table 4.11); the first of these that holds (log). -/
def State.clusterState (s : State) (c : Nat) : Nat :=
  let n := s.clusterOwner c
  if s.retired c then 6
  else if s.fabric.failed.contains c then 5
  else if (s.fabric.testing ++ s.fabric.aborting).contains c then 7
  else if s.shownIdle c ≠ 0 then min (s.shownIdle c) 3
  else if s.stopped n || s.beingRemoved n then 4 else 0

/-- The state of an engine (Table 8.14). -/
def State.engineState (s : State) (e : Nat) : Nat :=
  let n := s.engineOwner e
  if n = 0xFF then 2
  else if s.stk.failed.contains e then 5
  else if s.beingRemoved n then 4
  else if 3 ≤ s.shownIdle (160 + e / 16) then 3
  else if s.stk.queries.any (fun q => q.left.contains e) then 1 else 0

/-! ## The page store -/

/-- The book's view of a page: the journal's ALLOC and EVICT applied (R264). -/
def State.effPage (s : State) (n p : Nat) : Page :=
  match s.rowOf n p with
  | none => s.page p
  | some h =>
    let j := (s.srv n).journal
    match j.findSome? (fun e => match e.edit with | .evict x r k => if r = h then some (x, k) else none | _ => none) with
    | some (x, k) => { s.page p with st := 3, cause := 1, slot := x, lpn := k }
    | none => match allocOf j h with
      | some (x, k) => { s.page p with st := 1, cause := 0, slot := x, lpn := k }
      | none => s.page p

/-- The rows of a slot's list in a view. -/
def State.listRows (s : State) (x : Nat) (eff : Bool) : List Nat :=
  let rows := (s.slot x).rows
  if !eff then rows
  else
    let j := (s.srv (s.slotOwner x)).journal
    rows.filter (fun h => !evictedIn j h) ++
      j.filterMap (fun e => match e.edit with | .alloc y r _ => if y = x then some r else none | _ => none)

/-- The next row of a list after a row head; 0x1F_FFFF at the tail. -/
def listNext : List Nat → Nat → Nat
  | a :: b :: t, h => if a = h then b else listNext (b :: t) h
  | _, _ => 0x1FFFFF

/-- A page descriptor (Table 10.2) as its low and high halves. -/
def State.descriptor (s : State) (p : Nat) (eff : Bool) : Nat × Nat :=
  let n := s.pageOwner p
  let x := if eff then s.effPage n p else s.page p
  let head := s.rowOf n p = some p
  let held := x.st = 1 ∨ x.st = 3
  let lo := x.st + x.cause * 2 ^ 3 + ofBool head * 2 ^ 6 + ofBool x.deferred * 2 ^ 7 + (if n = 0xFF then 0 else n) * 2 ^ 8 +
    (if held then x.slot * 2 ^ 16 + x.lpn % 65536 * 2 ^ 37 else 0) + ((p - (s.part n).pageFirst) % s.layers n) % 1024 * 2 ^ 27
  let hi := if head then (if x.st = 1 then listNext (s.listRows x.slot eff) p else 0) + x.score * 2 ^ 32 + x.sEpoch % 65536 * 2 ^ 48 else 0
  (lo, hi)

/-! ## Faults and the store -/

/-- FAULT_SUMMARY beside clear_refused: top_source, top_level, pending, severe, fatal. -/
def State.faultSummary (s : State) : Nat :=
  let all := List.range 106
  let top := all.foldl (fun l i => max l (s.level i)) 0
  let src := (all.find? (fun i => s.level i = top)).getD 0
  src * 2 ^ 56 + top * 2 ^ 53 + (all.filter (fun i => s.rdB F.FAULT_SRC_STATUS_pending i)).length * 2 ^ 40 +
    (all.filter (fun i => 4 ≤ s.level i)).length * 2 ^ 32 + ofBool s.fatalHeld

/-- Whether a lease path has carried an accepted message within the last 20 ms (R489). -/
def State.pathOk (s : State) (ever : Bool) (last : Nat) : Bool := ever && decide (s.clk ≤ last + 20000000)

/-- The lease remaining, in µs (REDUN_STATE). -/
def State.leaseLeft (s : State) : Nat :=
  if s.leaseState = 4 then 0xFFFFFFFF else if s.holdsLease then min 0xFFFFFFFE ((s.lease.leaseEnd - s.clk) / 1000) else 0

/-- The 8-byte word that BBS_IDX selects. -/
def State.bbsWord (s : State) : Nat := s.bbsRd (8 * s.rd F.BBS_IDX_word) 8

/-- BBS_BATTERY, from the battery health record. -/
def State.batteryView (s : State) : Nat :=
  s.bbsRd 0x10 2 * 2 ^ 48 + s.bbsRd 0x12 2 * 2 ^ 32 + min 0xFFFFFF (s.bbsRd 0x14 4) * 2 ^ 8 + ofBool (s.battFlag 1) * 2 + ofBool (s.battFlag 0)

/-- Seconds left of the trial. -/
def State.trialLeft (s : State) : Nat :=
  if s.rd F.FW_BOOT_stage = 5 then min 1023 (ceilDiv (s.fw.trialEnd - s.clk) 1000000000) else 0

/-! ## Partitions -/

/-- Whether Pn's image runs below its envelope (R190). -/
def State.belowEnvelope (s : State) (n : Nat) : Bool :=
  match (s.wpart n).image with
  | none => false
  | some im => decide (s.pstate n = 2) && decide ((s.part n).clockCap < im.env.clockMin ∨ (s.part n).power < im.env.powerMin ∨
      s.rd F.PWR_PART_grant_w n < im.env.powerMin)

/-- Slots of Pn in a state. -/
def State.slotsIn (s : State) (n st : Nat) : Nat := ((s.slotsOf n).filter (fun x => (s.slot x).state = st)).length

/-- TILLER_NEXT_n (Table 11.12). -/
def State.tillerView (s : State) (n : Nat) : Nat :=
  let r := s.tillerNext n
  ofBool r.1 * 2 ^ 63 + (match r.2 with | some t => 2 ^ 62 + t % 2 ^ 62 | none => 0)

/-- A field with valid in bit 63 and a time below it. -/
def timeView : Option Nat → Nat
  | some t => 2 ^ 63 + t % 2 ^ 63
  | none => 0

/-- Power in units of 25 W as coarsened readings give it (Table 17.10). -/
def coarseWatts (w : Nat) : Nat := (w + 12) / 25 * 25

/-- Fields replaced in a register value: the register's own value without them, plus their view. -/
def without (v : Nat) (fs : List Fld) : Nat := fs.foldl (fun v f => v - bits v f.hi f.lo * 2 ^ f.lo) v

/-- PWR_PART_n as a master reads it (R439, R524). -/
def State.partView (s : State) (m : Master) (n : Nat) : Nat :=
  let raw := s.rdRaw .PWR_PART n
  let w := s.rd F.PWR_PART_power_w n
  let w := if n ≠ 0 ∧ (!s.isOperator m || s.coarse n 3) then coarseWatts w else w
  let st := ((ownedIn s.struct.image.clusters n).map (fun c => s.shownIdle c)).foldl max 0
  let src := match s.nextEvent n with | some e => e.2 | none => 0
  without raw [F.PWR_PART_power_w, F.PWR_PART_next_source, F.PWR_PART_state] + w % 4096 * 2 ^ 28 + src * 2 ^ 8 + st

/-! ## Reads -/

/-- What a counter register of Pn shows once coarsened (R562); the counts as of the latest multiple of 100 µs. -/
def State.perfCoarse (s : State) (r : RegId) (n j : Nat) : Nat :=
  let v := Tab.get {} s.perf n
  match r with
  | .PERF_CYCLE => v.cycles / 1024
  | .PERF_CNT => v.counts.getD j 0 / 1024
  | .PERF_CTRL => without (s.rdRaw r n j) ((List.range 8).map (fun k => F.PERF_CTRL_ovf k)) + v.ovf * 2 ^ 8
  | .PERF_SAMPLE => v.time
  | .PERF_SAMPLE_INFO => v.step * 2 ^ 16 + v.counter
  | _ => s.rdRaw r n j

/-- A register as a master that reaches it reads it. -/
def State.readReg (s : State) (m : Master) (r : RegId) (i j : Nat) : Nat :=
  let raw := s.rdRaw r i j
  match r with
  | .CLUSTER_STATE =>
    let c := 40 * i + j
    let n := s.clusterOwner c
    s.clockStep c * 2 ^ 40 + (if n < 16 then n else 0) * 2 ^ 36 + s.clusterState c
  | .ISLAND_STATE => without raw [F.ISLAND_STATE_clock_step, F.ISLAND_STATE_state] + s.clockStep i * 2 ^ 9 + s.islandState i
  | .VE_STATE => ((List.range 16).map (fun e => s.engineState (16 * i + e) * 2 ^ (4 * e))).sum
  | .WIMG_STATUS => without raw [F.WIMG_STATUS_below_envelope] + ofBool (s.belowEnvelope i) * 2 ^ 5
  | .NYPRA_VERSION => s.bbsRd 0x28 4 * 2 ^ 32 + s.rd F.NYPRA_VERSION_active
  | .PAGE_TRANSIT =>
    let waiting := (s.serve.map (fun e => (e.2.journal.filter (fun x => x.deferred)).length)).sum
    let moving := (s.pages.zero.map (fun z => s.layers z.part)).sum
    s.journalUsed * 2 ^ 47 + s.rd F.PAGE_TRANSIT_journal_peak * 2 ^ 30 + waiting * 2 ^ 13 + min 64 moving
  | .PAGE_EPOCH => ofBool (s.stepInFlight i) * 2 ^ 49 + (s.srv i).journal.length * 2 ^ 32 + s.rd F.PAGE_EPOCH_epoch i
  | .PAGE_READ_LO => (s.descriptor (s.rd F.PAGE_READ_IDX_page) (s.rdB F.PAGE_READ_IDX_view)).1
  | .PAGE_READ_HI => (s.descriptor (s.rd F.PAGE_READ_IDX_page) (s.rdB F.PAGE_READ_IDX_view)).2
  | .PAGE_LIST_LO =>
    let l := s.listRows (s.rd F.PAGE_LIST_IDX_slot) (s.rdB F.PAGE_LIST_IDX_view)
    l.getLast?.getD 0x1FFFFF * 2 ^ 21 + l.head?.getD 0x1FFFFF
  | .PAGE_LIST_HI =>
    let x := s.rd F.PAGE_LIST_IDX_slot
    (s.slot x).len * 2 ^ 17 + (s.listRows x (s.rdB F.PAGE_LIST_IDX_view)).length
  | .REQ_COUNT => s.slotsIn i 1 + s.slotsIn i 2 * 2 ^ 12 + s.slotsIn i 3 * 2 ^ 24 + s.slotsIn i 4 * 2 ^ 36 + s.slotsIn i 5 * 2 ^ 48
  | .TILLER_NEXT => s.tillerView i
  | .LINK_ROUTE_DATA => Tab.get 0 s.links.routes (s.rd F.LINK_ROUTE_IDX_module)
  | .LINK_PORT_CREDIT =>
    ((List.range 4).map (fun v => min 255 (s.linkHeld i v) * 2 ^ (8 * v + 32) + min 255 (s.linkAvail i v) * 2 ^ (8 * v))).sum
  | .PTP_TIME => s.modTime
  | .PO_STATE => without raw [F.PO_STATE_state] + s.poState i
  | .VID_NEXT => timeView (s.nextFrame (List.range 64))
  | .SEC_STATE => without raw [F.SEC_STATE_entries_used] + min 511 s.sec.linkKeys.length * 2 ^ 20
  | .KEY_EPOCH =>
    let ks := s.sec.linkKeys.filter (fun k => k.part = i && !k.tomb)
    s.rd F.KEY_EPOCH_epoch i * 2 ^ 32 + ks.length * 2 ^ 24 + ofBool (ks.any (fun k => k.isSeal))
  | .FW_BOOT =>
    without raw [F.FW_BOOT_slot_a, F.FW_BOOT_slot_b, F.FW_BOOT_running_slot, F.FW_BOOT_limited, F.FW_BOOT_trial_left_s] +
      s.slotState 0 % 16 * 2 ^ 56 + s.slotState 1 % 16 * 2 ^ 52 + s.runningSlot % 2 * 2 ^ 51 + ofBool s.struct.limited * 2 ^ 50 + s.trialLeft
  | .FW_FLOORS => s.bbsRd 0x24 4 * 2 ^ 32 + s.bbsRd 0x20 4
  | .FAULT_CAP => without raw [F.FAULT_CAP_inject] + ofBool (s.rd F.SEC_STATE_lifecycle = 0) * 2 ^ 40
  | .FAULT_SUMMARY => s.faultSummary + s.rd F.FAULT_SUMMARY_clear_refused * 2 ^ 16
  | .FAULT_SRC_CFG | .FAULT_SRC_STATUS => if i < 106 then raw else 0
  | .AMBER_STATE =>
    s.rd F.AMBER_STATE_lost * 2 ^ 48 + ((List.range 256).filter (fun k => s.amberSlot k ≠ 0)).length * 2 ^ 39 + s.bootCount * 2 ^ 33
  | .AMBER_DATA => s.amberSlot (s.rd F.AMBER_IDX_index)
  | .REDUN_STATE =>
    without raw [F.REDUN_STATE_lease_left_us, F.REDUN_STATE_mgmt_path_ok, F.REDUN_STATE_sahvy_path_ok] + s.leaseLeft * 2 ^ 32 +
      ofBool (s.pathOk s.lease.everMgmt s.lease.lastMgmt) * 2 ^ 13 + ofBool (s.pathOk s.lease.everSahvy s.lease.lastSahvy) * 2 ^ 12
  | .PWR_PART => s.partView m i
  | .PWR_NEXT => timeView ((s.nextEvent i).map (·.1))
  | .PWR_COOLANT =>
    let since := if s.power.everFlow then s.power.flowAt else s.resetAt
    without raw [F.PWR_COOLANT_flow_age_ms] + min 255 ((s.clk - since) / 1000000) * 2 ^ 16
  | .BBS_DATA => s.bbsWord
  | .BBS_BATTERY => s.batteryView
  | .SC_STATE => without raw [F.SC_STATE_partition] + (if s.coreOwner i < 16 then s.coreOwner i else 0) * 2 ^ 36
  | .SC_IRQ => s.irqView i
  | .SC_CONSOLE => s.consoleView
  | .OPC_DATA =>
    let k := s.rd F.OPC_IDX_index
    if s.rdB F.OPC_IDX_shadow then Tab.get 0 s.opcShadow k else Tab.get 0 s.opc k
  | .PERF_CYCLE => if (ownedIn s.struct.image.clusters i) = [] then 0 else if s.coarse i 2 then s.perfCoarse r i j else raw
  | .PERF_CNT | .PERF_CTRL | .PERF_SAMPLE | .PERF_SAMPLE_INFO => if s.coarse i 2 then s.perfCoarse r i j else raw
  | _ => raw

/-- A read of a register with what reading does: SC_IRQ and SC_CONSOLE lose what they returned (R557). The value goes to `lastRead`. -/
def State.takeRead (s : State) (m : Master) (r : RegId) (i j : Nat) : State :=
  let v := s.readReg m r i j
  let s := match r with
    | .SC_IRQ => { s with irqs := Tab.set [] s.irqs i ((Tab.get [] s.irqs i).drop 1) }
    | .SC_CONSOLE => s.setSdio (fun x => { x with down := x.down.drop 1 })
    | _ => s
  { s with lastRead := v }

end Sys2Proof.Machine
end

