-- ==== Sys2Proof/Machine/Security.lean ====
section
/-! DEFINITION. The security commands of the register windows (R434 to R443). -/

namespace Sys2Proof.Machine

/-- The partition whose granules a requester's buffer must lie in: P0's for MGC, a service core's owner otherwise (R442). -/
def State.requester (s : State) : Master → Nat
  | .mgc => 0
  | .sc i => s.coreOwner i.val
  | .other => 0xFF

/-- The buffer of a command: the byte address that SEC_ADDR_n names when it has the form R442 asks for. -/
def State.secBuffer (s : State) (m : Master) (n len : Nat) (write : Bool) : Option Nat :=
  let a := s.rd F.SEC_ADDR_addr n
  let b := a % 2 ^ 60
  let p := s.requester m
  if addrOk a && addrKind a = 4 && a % 64 = 0 && s.ddrOwned p b len && ! (write && s.inImage p b len) then some b else none

/-- SEC_STATUS of a window takes a command's result: DONE when the reason is 0, REFUSED otherwise. -/
def State.secStatus (s : State) (n reason : Nat) : State :=
  (s.wr F.SEC_STATUS_result (if reason = 0 then 1 else 3) n).wr F.SEC_STATUS_reason reason n

/-- A security command: reach (R442), the rejection while busy, then the command, which answers its reason. -/
def State.secCommand (s : State) (m : Master) (n : PartId) (f : State → State × Nat) : Res :=
  guardHcs (s.isTenant n.val m) s fun s =>
    if s.rdB F.SEC_STATUS_busy n.val then s.wr F.SEC_STATUS_result 4 n.val
    else let r := f s; r.1.secStatus n.val r.2

/-- R434, R435: the report is written to the buffer, which keeps its nonce. -/
def execAttest (m : Master) (n : PartId) (s : State) : Res :=
  s.secCommand m n fun s =>
    match s.secBuffer m n.val 2816 true with
    | none => (s, 1)
    | some a =>
      match s.badUnit (a + 0x20) 64 with
      | some u => (s.meetUnit (max a (u * 256)), 0xD)
      | none =>
        if s.blockedUnit a 2816 then (s, 0xD)
        else
          let req := match m with | .mgc => 0xFF | _ => s.requester m
          (({ s with fresh := s.fresh + 1 }).ddrPut a (s.report req (s.bytesAt (ddr (a + 0x20)) 64)), 0)

/-- R433: the blob in the buffer is unwrapped into the link key table. -/
def execKeyImport (m : Master) (n : PartId) (s : State) : Res :=
  s.secCommand m n fun s =>
    match s.secBuffer m n.val 256 false with
    | none => (s, 1)
    | some a =>
      match s.badUnit a 256 with
      | some u => (s.meetUnit (max a (u * 256)), 0xD)
      | none => s.importKey n.val (s.bytesAt (ddr a) 256)

/-- R442: the partition's entry is removed. -/
def execKeyDelete (m : Master) (n : PartId) (keyId : BitVec 16) (s : State) : Res :=
  s.secCommand m n fun s => s.deleteKey n.val keyId.toNat

/-- R437: only MGC and P0's cores may issue it; another core's command is refused with RANGE. -/
def execConsentSubmit (m : Master) (n : PartId) (s : State) : Res :=
  s.secCommand m n fun s =>
    if ! s.isOperator m then (s, 1)
    else match s.secBuffer m n.val 512 false with
      | none => (s, 1)
      | some a =>
        match s.badUnit a 512 with
        | some u => (s.meetUnit (max a (u * 256)), 0xD)
        | none => s.submitConsent n.val (s.bytesAt (ddr a) 512)

/-- R438: the active token ends. -/
def execConsentRevoke (m : Master) (n : PartId) (s : State) : Res :=
  s.secCommand m n fun s => (s.endConsent n.val, 0)

/-- R438: module time reaches not_after. -/
def execConsentExpiry (n : PartId) (s : State) : Res :=
  if s.rdB F.CONSENT_STATE_active n.val then
    let na := Tab.get 0 s.sec.notAfter n.val
    .next ((if s.modTime < na then s.pass (na - s.modTime) else s).endConsent n.val)
  else .next s

end Sys2Proof.Machine
end

