-- ==== Sys2Proof/Machine/Serving.lean ====
section
/-! DEFINITION. The commands of the page store and of serving control (R246 to R306). -/

namespace Sys2Proof.Machine

/-- After the advance that ended a step: an UNLOAD or REPLACE that waited for it goes on, else the next step is composed. -/
def State.afterStep (s : State) (n : Nat) : State :=
  match (s.wpart n).load with
  | some l => if l.phase = .unloading ∧ !l.stopped then s.unloadEffects n else s.compose n
  | none => s.compose n

/-- R292 to R298: the step's last operator is complete; its token output is `tokens`. -/
def execStepCommit (n : PartId) (tokens : List (List Nat)) (s : State) : Res :=
  match (s.srv n.val).step with
  | none => .next s
  | some st => if st.begun ∧ ! s.haltedUnits n.val then .next ((s.commitStep n.val st tokens).afterStep n.val) else .next s

/-- R295: the step in flight is discarded without commit. -/
def execStepDiscard (n : PartId) (s : State) : Res :=
  match (s.srv n.val).step with
  | none => .next s
  | some _ => .next ((s.discardBoundary n.val).afterStep n.val)

/-- R256: with no step in flight, standing edits take effect by an advance of the page store's own. -/
def execStandingEditAdvance (n : PartId) (s : State) : Res :=
  if (s.srv n.val).step.isSome ∨ ((s.srv n.val).journal = [] ∧ s.pages.cmd ≠ some n.val) then .next s
  else .next (((s.advance n.val false).afterAdvance n.val).compose n.val)

/-! ## Zero-and-check, audit, patrol -/

/-- R272: every word of the row's pages is written to zero. -/
def execZeroAndCheck (head : Nat) (s : State) : Res :=
  match s.pages.zero.find? (fun z => z.head = head && !z.zeroed) with
  | none => .next s
  | some z =>
    let hit := fun a => (s.rowPages z.part z.head).any (fun p => match s.frame p with
      | some (pc, off) => decide (2 * 2 ^ 60 + pc * 2 ^ 48 + off ≤ a ∧ a < 2 * 2 ^ 60 + pc * 2 ^ 48 + off + 66560)
      | none => false)
    let s := s.zeroWhere hit
    .next { s with pages := { s.pages with zero := s.pages.zero.map (fun y => if y.head = head then { y with zeroed := true } else y) } }

/-- R272: pages that read back uncorrectable are FAILED, a page that QUARANTINE named is FIRMWARE, the other pages of such a row are
NO_ROW; a row without one returns to FREE. -/
def execZeroAndCheckDone (head : Nat) (failed : List Nat) (s : State) : Res :=
  match s.pages.zero.find? (fun z => z.head = head && z.zeroed) with
  | none => .next s
  | some z =>
    let n := z.part
    let bad := (s.rowPages n z.head).filter (fun p => failed.contains p)
    let s := { s with pages := { s.pages with zero := s.pages.zero.filter (fun y => y.head ≠ head) } }
    let s := bad.foldl (fun s _ => ((s.inc F.PAGE_ANOMALY_zero_check_fail).setB F.PAGE_EVENT_zero_check_fail).event Src.pageStore 3) s
    let l := s.layers n
    if bad = [] ∧ z.named.isNone then
      .next (((s.setRow n z.head {}).moveBook n 3 0 l).bump F.PAGE_PSTAT_rows_free n true)
    else
      let s := s.setRow n z.head { st := 2, cause := 3 }
      let s := bad.foldl (fun s p => s.setPage p { st := 2, cause := 4 }) s
      let s := match z.named with | some p => s.setPage p { st := 2, cause := 5 } | none => s
      .next ((s.moveBook n 3 2 l).bump F.PAGE_PSTAT_rows_usable n false)

/-- R264: a sweep starts by the start bit, or every 1 s while auto_enable is 1. A start while a sweep runs is ignored. -/
def execAuditSweep (start : Option Master) (s : State) : Res :=
  match start with
  | some m => guardHcs (s.isOperator m) s fun s => s.setB F.PAGE_AUDIT_running
  | none =>
    if s.rdB F.PAGE_AUDIT_auto_enable ∧ !s.rdB F.PAGE_AUDIT_running then
      .next ((s.advancePeriod 1000000000).setB F.PAGE_AUDIT_running)
    else .next s

/-- R264: a sweep ends; a mismatch is recorded and stops its partition. -/
def execAuditSweepDone (mismatch : Option (PartId × Fin 5)) (skips : Nat) (s : State) : Res :=
  if !s.rdB F.PAGE_AUDIT_running then .next s
  else
    let s := ((s.wr F.PAGE_AUDIT_running 0).inc F.PAGE_AUDIT_sweeps).inc F.PAGE_AUDIT_skipped 0 0 skips
    match mismatch with
    | none => .next s
    | some (n, b) =>
      let s := ((s.setB F.PAGE_AUDIT_mismatch).wr F.PAGE_AUDIT_mismatch_book b.val).wr F.PAGE_AUDIT_mismatch_partition n.val
      .next (((s.setB F.PAGE_EVENT_audit_mismatch).event Src.pageStore 5).stopPartition n.val 9)

/-- An uncorrectable word of hub SRAM in the page store (R273). -/
def State.sramBad (s : State) : State :=
  ((s.inc F.PAGE_ANOMALY_sram_uncorrectable).setB F.PAGE_EVENT_sram_uncorrectable).event Src.pageStore 4

/-- R273: a pass over descriptors, list records and journal: corrected words, and uncorrectable ones by descriptor page, list
record's slot and journal entry's partition. -/
def execPagePatrolPass (corrected : Nat) (badDesc badList badJournal : List Nat) (s : State) : Res :=
  let s := s.advancePeriod (s.rd F.PAGE_PATROL_period_s * 1000000000)
  let s := (s.inc F.PAGE_ANOMALY_sram_corrected 0 0 corrected).events Src.pageStore 2 corrected
  let s := badDesc.foldl (fun s p =>
    let n := s.pageOwner (p % 2097152)
    if n = 0xFF then s.sramBad else s.sramBad.stopPartition n 8) s
  let s := badList.foldl (fun s x =>
    let n := s.slotOwner (x % 2048)
    if n = 0xFF then s.sramBad else s.sramBad.stopPartition n 8) s
  let s := badJournal.foldl (fun s n => s.sramBad.stopPartition (n % 16) 8) s
  .next (s.inc F.PAGE_PATROL_passes)

/-! ## PAGE_CMD (R256, R259, R261, R271) -/

/-- A page command is rejected. -/
def State.pageReject (s : State) : State := (s.wr F.PAGE_CMD_STATUS_result 3).setB F.PAGE_EVENT_cmd_rejected

/-- A page command waits for the advance of its partition. -/
def State.pageWait (s : State) (n : Nat) (deferred : Bool) : State :=
  let s := { s with pages := { s.pages with cmd := some n } }
  (s.setB F.PAGE_CMD_STATUS_busy).wr F.PAGE_CMD_STATUS_result (if deferred then 2 else 0)

/-- A page command: reach, then the rejections of PAGE_CMD, then its edit. -/
def State.pageCommand (s : State) (m : Master) (allowed : State → Bool) (f : State → State) : Res :=
  guardHcs (s.isOperator m) s fun s =>
    if s.rdB F.PAGE_CMD_STATUS_busy || !allowed s || decide (65536 < s.journalUsed + 1025) then s.pageReject else f s

/-- Whether a page's row was allocated for the step in flight: its book is ALLOCATED while its descriptor is still FREE. -/
def State.pageAllocated (s : State) (n p : Nat) : Bool :=
  (s.page p).st = 1 || (match s.rowOf n p with | some h => (allocOf (s.srv n).journal h).isSome | none => false)

/-- Op 1: a FREE page is withheld with its row at the next advance; an ALLOCATED page drops its row. -/
def execQuarantine (m : Master) (page : Nat) (s : State) : Res :=
  let p := page % 2097152
  s.pageCommand m (fun s => (s.page p).st = 0 || (s.page p).st = 1) fun s =>
    let n := s.pageOwner p
    if s.pageAllocated n p then
      let pin := s.pinned n p
      (s.dropPage n p true).pageWait n pin
    else (s.enter n { edit := .quarantine p }).pageWait n false

/-- Op 2: a FAILED or FIRMWARE page returns to FREE at the next advance. -/
def execPageRelease (m : Master) (page : Nat) (s : State) : Res :=
  let p := page % 2097152
  s.pageCommand m (fun s => (s.page p).st = 2 && ((s.page p).cause = 4 || (s.page p).cause = 5)) fun s =>
    (s.enter (s.pageOwner p) { edit := .release p }).pageWait (s.pageOwner p) false

/-- R261: FENCE completes at the advance that ends the step in flight, or performs an advance at once. -/
def execFence (m : Master) (n : PartId) (s : State) : Res :=
  s.pageCommand m (fun s => (s.serving n.val).isSome) fun s =>
    let s := s.pageWait n.val false
    if (s.srv n.val).step.isSome then s else ((s.advance n.val false).afterAdvance n.val).compose n.val

/-! ## Request commands (R280 to R282, R296 to R304) -/

/-- The result of a request command in REQ_STATUS_n. -/
def State.reqStatus (s : State) (n x result reason : Nat) : State :=
  let s := ((s.wr F.REQ_STATUS_slot x n).wr F.REQ_STATUS_result result n).wr F.REQ_STATUS_reason reason n
  let s := s.wr F.REQ_STATUS_slot_state (if (s.slotsOf n).contains x then (s.slot x).state else 0) n
  if result = 1 then s.setB F.REQ_EVENT_cmd_done n
  else if result = 3 ∨ result = 4 then s.setB F.REQ_EVENT_refused n else s

/-- A request command of window n on the selected slot: reach, the range of the slot, the states that Table 11.2 allows. -/
def State.reqCommand (s : State) (m : Master) (n : Nat) (states : List Nat) (f : State → Nat → State) : Res :=
  guardHcs (s.isTenant n m) s fun s =>
    let x := s.rd F.REQ_SEL_slot n
    if !(s.slotsOf n).contains x || !states.contains (s.slot x).state then s.reqStatus n x 4 0 else f s x

/-- The bytes of REQ_DATA_n. -/
def State.reqData (s : State) (n : Nat) : List Byte := (List.range 16).flatMap (fun i => leBytes 8 (s.rd F.REQ_DATA_data n i))

/-- Table 11.3: the reason of the first check that fails, or 0. -/
def State.submitCheck (s : State) (n x : Nat) (b : List Byte) : Nat :=
  let v := slotOf b
  let total := v.promptLen + v.maxTokens
  match (if s.stopped n then none else s.serving n) with
  | none => 1
  | some sv =>
    if !(s.slotsOf n).contains x then 2
    else if (s.slot x).state ≠ 0 then 3
    else if leAt b 0x1E 2 ≠ 0 ∨ leAt b 0x74 12 ≠ 0 ∨ v.flags / 32 ≠ 0 ∨ 7 < v.prio ∨ (bit v.flags 1 ∧ !bit v.flags 0) then 4
    else if v.promptLen = 0 then 5
    else if sv.maxContext < total ∨ s.rd F.PAGE_PSTAT_rows_usable n < ceilDiv total (s.tpp n) then 6
    else if v.tokAddr % 64 ≠ 0 ∨ v.tokCap < total ∨ !s.ddrOwned n v.tokAddr (4 * v.tokCap) ∨ s.inImage n v.tokAddr (4 * v.tokCap) then 7
    else if s.ringOwner v.ring ≠ n ∨ s.ringKind v.ring ≠ 1 ∨ s.ringState v.ring = 0 then 8
    else if v.deadline ≠ 0 ∧ v.deadline ≤ s.modTime then 9
    else 0

/-- R281, R282: SUBMIT. -/
def execSubmit (m : Master) (n : PartId) (s : State) : Res :=
  guardHcs (s.isTenant n.val m) s fun s =>
    let p := n.val
    let x := s.rd F.REQ_SEL_slot p
    let b := s.reqData p
    let why := s.submitCheck p x b
    if why ≠ 0 then s.reqStatus p x 3 why
    else
      let v := slotOf b
      let q := (s.srv p).nextSeq
      let v := { v with known := v.promptLen, seqNo := q % 2 ^ 32, submitTime := s.modTime, state := 1 }
      let s := s.updSrv p (fun y => { y with nextSeq := q + 1 })
      if v.maxTokens = 0 then
        let s := (s.setSlot x { v with state := 5 }).closeSlot p x false
        (s.writeRecords p s.modTime [{ slot := x, status := stComplete }]).reqStatus p x 1 0
      else ((s.setSlot x v).reqStatus p x 1 0).compose p

/-- Whether a step in flight of Pn holds a slot. -/
def State.inStep (s : State) (n x : Nat) : Bool :=
  match (s.srv n).step with
  | some st => st.segs.any (fun g => g.slot = x)
  | none => false

/-- R299: CANCEL is settled at once for a QUEUED or PAUSED slot that no step holds, else at the next boundary. -/
def execCancel (m : Master) (n : PartId) (s : State) : Res :=
  let p := n.val
  s.reqCommand m p [1, 2, 3, 4, 5] fun s x =>
    let v := s.slot x
    if v.state = 5 ∨ v.cancel then s.reqStatus p x 1 0
    else if (v.state = 1 ∨ v.state = 4) ∧ !s.inStep p x ∧ !s.stopped p then
      let s := (s.setSlot x { v with state := 5, pause := false }).closeSlot p x false
      (s.writeRecords p s.modTime [{ slot := x, status := stCancelled }]).reqStatus p x 1 0
    else (s.setSlot x { v with cancel := true }).reqStatus p x 2 0

/-- R299: PAUSE is settled like CANCEL. -/
def execReqPause (m : Master) (n : PartId) (s : State) : Res :=
  let p := n.val
  s.reqCommand m p [1, 2, 3] fun s x =>
    let v := s.slot x
    if v.pause then s.reqStatus p x 1 0
    else if v.state = 1 ∧ !s.inStep p x ∧ !s.stopped p then
      let s := s.setSlot x { v with state := 4, drafts := [] }
      (s.writeRecords p s.modTime [{ slot := x, status := stPaused }]).reqStatus p x 1 0
    else (s.setSlot x { v with pause := true }).reqStatus p x 2 0

/-- R298: RESUME appends count tokens and makes a paused slot runnable, or is refused with LENGTH. -/
def execReqResume (m : Master) (n : PartId) (count : Nat) (s : State) : Res :=
  let p := n.val
  s.reqCommand m p [4] fun s x =>
    let v := s.slot x
    let total := v.known + count + (v.maxTokens - v.tokensOut)
    let ctx := match s.serving p with | some sv => sv.maxContext | none => 0
    if v.tokCap < total ∨ ctx < total ∨ s.rd F.PAGE_PSTAT_rows_usable p < ceilDiv total (s.tpp p) then s.reqStatus p x 3 6
    else
      let k := v.known + count
      let s := s.setSlot x { v with known := k, state := if v.len = k - 1 then 3 else 2 }
      (s.reqStatus p x 1 0).compose p

/-- R280: READ copies the slot's entry into REQ_DATA. -/
def execReqRead (m : Master) (n : PartId) (s : State) : Res :=
  let p := n.val
  s.reqCommand m p [0, 1, 2, 3, 4, 5] fun s x =>
    let b := (s.slot x).bytes
    let s := (List.range 16).foldl (fun s i => s.wr F.REQ_DATA_data (leAt b (8 * i) 8) p i) s
    s.reqStatus p x 1 0

/-- R296: with no step running, Tiller settles a passed deadline within 10 us. -/
def execDeadlineSettlement (n : PartId) (s : State) : Res :=
  let p := n.val
  if (s.serving p).isNone ∨ s.stopped p ∨ (s.srv p).step.isSome then .next s
  else .next ((s.settleIdle p).compose p)

/-- R304: with no step running, waiting records are offered again every 100 us. -/
def execRecordRetry (n : PartId) (s : State) : Res :=
  let p := n.val
  if s.stopped p ∨ (s.srv p).step.isSome ∨ (s.srv p).waits = [] then .next s
  else .next (((s.pass 100000).reoffer p).afterAdvance p)

end Sys2Proof.Machine
end

