-- ==== Sys2Proof/Machine/TileOps.lean ====
section
/-! DEFINITION. Tiles (04): where a tile lies, launches and their faults, uncorrectable words in tile and quadrant stores. -/

namespace Sys2Proof.Machine

/-- The die of a tile, and the quadrant 4d + q that holds it (R18). -/
def dieOf (t : Nat) : Nat := t / 320
def quadOfTile (t : Nat) : Nat := 4 * (t / 320) + t % 320 / 80

/-- The address of a byte of a tile store, and of a quadrant store (Table 5.12). -/
def tileAddr (t off : Nat) : Nat := t * 2 ^ 48 + off
def quadAddr (q off : Nat) : Nat := 2 ^ 60 + q * 2 ^ 48 + off

def State.run (s : State) (t : Nat) : TileRun := Tab.get {} s.fabric.runs t
def State.setRun (s : State) (t : Nat) (r : TileRun) : State := s.setFabric (fun f => { f with runs := Tab.set {} f.runs t r })
def State.queue (s : State) (t q : Nat) : List StreamCmd := Tab.get [] s.fabric.queues (4 * t + q)
def State.setQueue (s : State) (t q : Nat) (l : List StreamCmd) : State :=
  s.setFabric (fun f => { f with queues := Tab.set [] f.queues (4 * t + q) l })

/-- A thread group of the launch on a tile replaced. -/
def State.setGroup (s : State) (t g : Nat) (x : Group) : State :=
  s.setRun t { s.run t with groups := (s.run t).groups.set g x }

/-- The launch that a tile runs ends on every tile that it names. -/
def State.endLaunch (s : State) (id : Nat) : State :=
  s.setFabric (fun f => { f with runs := f.runs.filter (fun e => e.2.id ≠ id) })

/-- The first kernel fault of a die since cause was cleared is kept in VEC_FAULT (Table 5.18). -/
def State.vecFault (s : State) (t g pc cause : Nat) : State :=
  let d := dieOf t
  if s.rd F.VEC_FAULT_cause d ≠ 0 then s
  else
    let s := ((s.wr F.VEC_FAULT_cause cause d).wr F.VEC_FAULT_partition (s.run t).part d).wr F.VEC_FAULT_tile (t % 320) d
    (s.wr F.VEC_FAULT_group g d).wr F.VEC_FAULT_pc pc d

/-- A kernel fault other than REG_PARITY (R137): the launch stops, the fault is recorded in VEC_FAULT and on the partition's isolation
source, the step in flight is discarded and the partition stops. -/
def State.kernelFault (s : State) (t g pc cause : Nat) : State :=
  let n := (s.run t).part
  let s := s.vecFault t g pc cause
  let s := s.endLaunch (s.run t).id
  (s.event (Src.isolation n) (if cause = 4 then 1 else 3)).stopPartition n 1

/-- The clusters of a tile store, and of a quadrant-store bank: a shared bank runs with the lowest-numbered cluster of the partition
that owns it (R96). -/
def State.clusterOfBank (s : State) (q bank : Nat) : Nat :=
  let first := 40 * (q / 4) + 10 * (q % 4)
  if bank < 20 then first + bank / 2
  else
    let n := bankOwner s.struct.image q bank
    first + ((List.range 10).find? (fun k => s.clusterOwner (first + k) = n)).getD 0

/-- An uncorrectable word met by work of Pn in the store of `key`, whose cluster is c (R104, R105): the step or invocation is discarded
and resident words are reloaded; a second one in the same store within the repeated run stops the partition and fails the
cluster. -/
def State.storeBad (s : State) (n key c : Nat) : State :=
  if s.pstate n ≠ 2 ∨ s.stopped n then s
  else
    let x := Tab.get {} s.reruns n
    if x.active && x.units.contains key then
      (s.setFabric (fun f => { f with failed := if f.failed.contains c then f.failed else f.failed ++ [c] })).stopPartition n 2
    else
      let s := s.discardBoundary n
      let s := { s with reruns := Tab.set {} s.reruns n { active := true, units := x.units ++ [key] } }
      s.setFabric (fun f => { f with reloads := if f.reloads.contains n then f.reloads else f.reloads ++ [n] })

/-- An uncorrectable word is recorded in TILE_STORE_ERR and on the store source of its die. -/
def State.noteStore (s : State) (quad : Bool) (unit word : Nat) : State :=
  let d := if quad then unit % 16 / 4 else dieOf unit
  let s := (s.inc F.TILE_STORE_ERR_uncorrectable d).wr F.TILE_STORE_ERR_store (if quad then 2 else 1) d
  let s := (s.wr F.TILE_STORE_ERR_unit (if quad then unit % 4 else unit % 320) d).wr F.TILE_STORE_ERR_word word d
  s.event (Src.store d) 2

/-- Owner, key and cluster of the store that holds a word: tile stores by tile, quadrant stores by bank of 65,536 words. -/
def State.storeUnit (s : State) (quad : Bool) (unit word : Nat) : Nat × Nat × Nat :=
  if quad then
    let bank := word / 65536
    (bankOwner s.struct.image (unit % 16) bank, 2 ^ 60 + (unit % 16) * 32 + bank, s.clusterOfBank (unit % 16) bank)
  else (s.clusterOwner (unit / 8), unit, unit / 8)

/-- R104: a read meets an uncorrectable word of a tile store or quadrant store. -/
def execTileStoreUncorrectable (quad : Bool) (unit : TileId) (word : Nat) (s : State) : Res :=
  let u := s.storeUnit quad unit.val word
  .next ((s.noteStore quad unit.val word).storeBad u.1 u.2.1 u.2.2)

/-- R104 steps 2 and 3: the reload is done and the step or invocation runs again. -/
def execTileReloadDone (n : PartId) (s : State) : Res :=
  if s.fabric.reloads.contains n.val then
    .next ((s.setFabric (fun f => { f with reloads := f.reloads.filter (fun p => p ≠ n.val) })).compose n.val)
  else .next s

/-- R106: a pass of the patrol over the stores of a die. An uncorrectable word of resident data is reloaded at once; a step-local one
is handled as for a read when a step in flight owns it, and else written to zero. -/
def execTilePatrolPass (d : DieId) (corrected : Nat) (bad : List (Bool × TileId × Nat)) (s : State) : Res :=
  let s := s.advancePeriod (s.rd F.TILE_PATROL_period_s d.val * 1000000000)
  let s := (s.inc F.TILE_STORE_ERR_corrected d.val 0 corrected).events (Src.store d.val) 1 corrected
  .next (bad.foldl (fun s b =>
    let quad := b.1
    let unit := b.2.1.val
    let word := b.2.2
    let u := s.storeUnit quad unit word
    let s := s.noteStore quad unit word
    let digest := match (s.wpart u.1).image with | some im => im.digest | none => []
    let at_ := (if quad then quadAddr (unit % 16) 0 else tileAddr unit 0) + 16 * word
    if s.pstate u.1 = 2 && Config.residentWord digest at_ then s
    else if s.stepInFlight u.1 then s.storeBad u.1 u.2.1 u.2.2
    else s.zeroWhere (fun a => decide (at_ ≤ a ∧ a < at_ + 16))) s)

/-! ## Stream commands (R98 to R102) -/

/-- The tiles that a stream command writes: those of the mask in the tile's cluster, or the tile alone. -/
def streamTargets (t mask : Nat) : List Nat :=
  if mask = 0 then [t] else ((List.range 8).filter (fun k => bit mask k)).map (fun k => 8 * (t / 8) + k)

/-- The bytes of a stream command move. -/
def State.moveStream (s : State) (t : Nat) (c : StreamCmd) : State :=
  if c.out then s.store c.part c.remote (s.bytesAt (tileAddr t c.off) c.len)
  else
    let b := s.load c.part c.remote c.len
    (streamTargets t c.mask).foldl (fun s u => s.putBytes (tileAddr u c.off) b) s

/-- Whether a token of a tile has an outstanding command. -/
def State.tokenBusy (s : State) (t tok : Nat) : Bool :=
  (List.range 4).any (fun q => (s.queue t q).any (fun c => c.token = tok))

/-- R101, R128: the oldest command of a queue completes, and groups that wait for its token go on once it has no other command.
A halted tile starts none (R568). -/
def execStreamCommandDone (t : TileId) (q : Fin 4) (s : State) : Res :=
  if (s.unitDbg 0 t.val).state = 2 then .next s else
  match s.queue t.val q.val with
  | [] => .next s
  | c :: rest =>
    let s := (s.moveStream t.val c).setQueue t.val q.val rest
    let s := s.count c.part 0x05 c.len ({ master := some 0, cls := some 1, range := some (c.remote, c.len) } : EvAttr)
    if s.tokenBusy t.val c.token then .next s
    else
      let r := s.run t.val
      .next (s.setRun t.val { r with groups := r.groups.map (fun g =>
        if g.wait = 8 + c.token then { g with wait := 0, pc := g.pc + 1 } else g) })

/-! ## Launches (R112 to R115, R179) -/

/-- The argument block of a launch (R179). -/
def argBlock (ins outs : List BufRef) (consts : List W64) : List Byte :=
  (ins ++ outs).flatMap (fun b => leBytes 8 b.addr) ++ (ins ++ outs).flatMap (fun b => leBytes 8 b.len) ++
    consts.flatMap (fun c => leBytes 8 c.toNat)

/-- A group at the start of a launch (R114). -/
def startGroup (args : Nat) : Group := { s := Tab.set 0#64 [] 0 (BitVec.ofNat 64 args) }

/-- Whether a breakpoint of the selected unit matches an instruction of a kernel on tile t (R568). -/
def State.bpHits (s : State) (t kernel pc : Nat) : Bool :=
  s.dbgKind == 0 && s.dbgUnit == t && s.unitOpen 0 t &&
    s.dbg.bps.any (fun x => bit x.2 31 && decide (bits x.2 23 13 = kernel ∧ bits x.2 12 0 = pc))

/-- Tile t halts on a breakpoint. -/
def State.bpHalt (s : State) (t : Nat) : State := s.setUnitDbg 0 t { s.unitDbg 0 t with state := 2, hit := true }

/-- R112 to R114, R179: the plan launches kernel k of Pn's image on tiles that Pn owns and that run no launch. -/
def execKernel (n : PartId) (k : Nat) (tiles : List TileId) (ins outs : List BufRef) (consts : List W64) (args : Nat)
    (s : State) : Res :=
  let p := n.val
  let ts := (tiles.map (·.val)).dedup
  let kern := match (s.wpart p).image with | some im => im.kernels[k]? | none => none
  match kern with
  | none => .next s
  | some kn =>
    if s.pstate p ≠ 2 ∨ s.stopped p ∨ ts = [] ∨ !(ts.all (fun t => s.clusterOwner (t / 8) = p && (s.run t).id = 0)) then .next s
    else
      let id := s.fabric.launches + 1
      let run : TileRun := { id := id, part := p, kernel := k, code := kn.code, args := args, tileBase := kn.tileBase, tileLen := kn.tileLen
                             quadBase := kn.quadBase, quadLen := kn.quadLen, budget := kn.budget, tiles := ts
                             groups := List.replicate kn.groups (startGroup args) }
      let s := s.setFabric (fun f => { f with launches := id })
      .next (ts.foldl (fun s t => (s.putBytes (tileAddr t args) (argBlock ins outs consts)).setRun t run) s |> fun s =>
        (ts.filter (fun t => s.bpHits t k 0)).foldl (fun s t => s.bpHalt t) s)

/-- R115: a launch still running at the end of its budget, which does not count while the tile is halted (Table 23.6), stops with kernel fault BUDGET. The group and instruction recorded are
free. -/
def execBudget (t : TileId) (s : State) : Res :=
  if (s.run t.val).id = 0 ∨ (s.unitDbg 0 t.val).state ≠ 0 then .next s
  else
    let s := s.draw
    .next (s.kernelFault t.val (Config.choice s.fresh 0 % 32) (Config.choice s.fresh 1 % 8192) 5)

/-- R137: a vector register parity error is handled as an uncorrectable word of the tile's store. -/
def execRegParity (t : TileId) (g : Fin 32) (s : State) : Res :=
  let r := s.run t.val
  if r.id = 0 ∨ r.groups.length ≤ g.val then .next s
  else
    let s := s.vecFault t.val g.val (r.groups.getD g.val {}).pc 6
    .next ((s.event (Src.store (dieOf t.val)) 3).storeBad r.part t.val (t.val / 8))

end Sys2Proof.Machine
end

