-- ==== Sys2Proof/Machine/Operands.lean ====
section
/-! DEFINITION. Operand forms of lane kernels (R116 to R120, R125): fields of the word, registers of a group, the second and third
sources of both forms, writing results, issue. -/

namespace Sys2Proof.Machine

/-! ## Fields of the word (Table 5.2) -/

def lw (w : W64) (hi lo : Nat) : Nat := bits w.toNat hi lo
def lClass (w : W64) : Nat := lw w 63 60
def lOp (w : W64) : Nat := lw w 59 54
def lPg (w : W64) : Nat := lw w 53 51
def lPn (w : W64) : Bool := bit w.toNat 50
def lImmForm (w : W64) : Bool := bit w.toNat 49
def lSat (w : W64) : Bool := bit w.toNat 48
def lRm (w : W64) : Nat := lw w 47 46
def lDst (w : W64) : Nat := lw w 45 40
def lA (w : W64) : Nat := lw w 39 34
def lB (w : W64) : Nat := lw w 33 28
def lC (w : W64) : Nat := lw w 27 22
def lAux (w : W64) (hi lo : Nat) : Nat := lw w hi lo
def lAux2 (w : W64) : Nat := lw w 33 32
def lImm (w : W64) : W32 := BitVec.ofNat 32 (lw w 31 0)
/-- The immediate read as a signed value. -/
def lImmS (w : W64) : Int := (lImm w).toInt
/-- Bit sb of R118: src_b names a scalar register. -/
def lSb (w : W64) : Bool := bit w.toNat 21

/-! ## Registers of a group (Table 5.1) -/

def Group.vreg (g : Group) (r lane : Nat) : W32 := Tab.get 0#32 g.v (64 * r + lane)
def Group.setV (g : Group) (r lane : Nat) (x : W32) : Group := { g with v := Tab.set 0#32 g.v (64 * r + lane) x }
def Group.sreg (g : Group) (r : Nat) : W64 := Tab.get 0#64 g.s r
def Group.setS (g : Group) (r : Nat) (x : W64) : Group := { g with s := Tab.set 0#64 g.s r x }
/-- A predicate as a mask of 64 lanes; p7 reads true. -/
def Group.pred (g : Group) (p : Nat) : Nat := if p = 7 then 2 ^ 64 - 1 else Tab.get 0 g.p p
/-- A predicate written; p7 cannot be. -/
def Group.setPred (g : Group) (p mask : Nat) : Group := if p = 7 then g else { g with p := Tab.set 0 g.p p (mask % 2 ^ 64) }

/-- Whether the guarding predicate enables a lane (R120). -/
def Group.enabled (g : Group) (w : W64) (lane : Nat) : Bool := bit (g.pred (lPg w)) lane != lPn w

/-- The lanes that an instruction acts in, ascending. -/
def Group.lanes (g : Group) (w : W64) : List Nat := (List.range 64).filter (fun l => g.enabled w l)

/-! ## Sources -/

/-- The first source in a lane. -/
def Group.srcA (g : Group) (w : W64) (lane : Nat) : W32 := g.vreg (lA w) lane
/-- The second source in a lane: an immediate, a scalar register's low half, or a vector register (R117, R118). -/
def Group.srcB (g : Group) (w : W64) (lane : Nat) : W32 :=
  if lImmForm w then lImm w else if lSb w then (g.sreg (lB w)).truncate 32 else g.vreg (lB w) lane
/-- The third source: src_c, or dst in the immediate form (R117). -/
def Group.srcC (g : Group) (w : W64) (lane : Nat) : W32 :=
  if lImmForm w then g.vreg (lDst w) lane else g.vreg (lC w) lane

/-- The second source of a SCALAR operation: an immediate, sign-extended, or a scalar register. -/
def Group.scalB (g : Group) (w : W64) : W64 := if lImmForm w then (lImm w).signExtend 64 else g.sreg (lB w)

/-! ## Results -/

/-- A result written to dst in every enabled lane, computed from the registers as they were before. -/
def Group.mapDst (g : Group) (w : W64) (f : Nat → W32) : Group := (g.lanes w).foldl (fun x l => x.setV (lDst w) l (f l)) g

/-- The next instruction. -/
def Group.next (g : Group) : Group := { g with pc := g.pc + 1 }

/-! ## Issue -/

/-- The group that issues a word: the tile runs a launch, the group waits for nothing, the word is the one at its program counter
and belongs to the operation. -/
def State.issue (s : State) (t g : Nat) (w : W64) (cls : Nat) (ops : Nat → Bool) : Option Group :=
  let r := s.run t
  let d := s.unitDbg 0 t
  if r.id = 0 ∨ (d.state ≠ 0 ∧ ¬ (0 < d.steps ∧ d.group = g)) then none
  else match r.groups[g]? with
    | none => none
    | some x =>
      if x.wait = 0 ∧ r.code[x.pc]? = some w.toNat ∧ lClass w = cls ∧ ops (lOp w) then some x else none

/-- An issued instruction counts as VEC_ISSUE (Tables 23.1 and 23.2). -/
def State.vecIssued (s : State) (t : Nat) : State :=
  (s.count (s.run t).part 0x03 1 ({ master := some 0 } : EvAttr)).tally (160 + t / 8) 1

/-- After an instruction: a step is used up, and the tile halts when a group has reached a breakpoint of the selected unit (R568). -/
def State.laneDone (before s : State) (t : Nat) : State :=
  let d := s.unitDbg 0 t
  let s := if d.steps = 0 then s else s.setUnitDbg 0 t { d with steps := d.steps - 1 }
  let old := (before.run t).groups
  let r := s.run t
  if r.id ≠ 0 && r.groups.zipIdx.any (fun g => (old.getD g.2 {}).pc != g.1.pc && s.bpHits t r.kernel g.1.pc) then s.bpHalt t else s

/-- An instruction that changes registers of its group only. -/
def State.laneReg (s : State) (t g : Nat) (w : W64) (cls : Nat) (ops : Nat → Bool) (f : Group → Group) : Res :=
  match s.issue t g w cls ops with
  | none => .next s
  | some x => .next (State.laneDone s ((s.vecIssued t).setGroup t g (f x).next) t)

/-- An instruction whose effect reaches beyond its group. -/
def State.laneAct (s : State) (t g : Nat) (w : W64) (cls : Nat) (ops : Nat → Bool) (f : State → Group → State) : Res :=
  match s.issue t g w cls ops with
  | none => .next s
  | some x => .next (State.laneDone s (f (s.vecIssued t) x) t)

/-- An FP32 or integer operation of two sources in each enabled lane. -/
def State.lane2 (s : State) (t g : Nat) (w : W64) (cls op : Nat) (f : W32 → W32 → W32) : Res :=
  s.laneReg t g w cls (· == op) (fun x => x.mapDst w (fun l => f (x.srcA w l) (x.srcB w l)))

/-- An operation of one source. -/
def State.lane1 (s : State) (t g : Nat) (w : W64) (cls op : Nat) (f : W32 → W32) : Res :=
  s.laneReg t g w cls (· == op) (fun x => x.mapDst w (fun l => f (x.srcA w l)))

/-- An operation of three sources. -/
def State.lane3 (s : State) (t g : Nat) (w : W64) (cls op : Nat) (f : W32 → W32 → W32 → W32) : Res :=
  s.laneReg t g w cls (· == op) (fun x => x.mapDst w (fun l => f (x.srcA w l) (x.srcB w l) (x.srcC w l)))

/-- A SCALAR operation of two sources. -/
def State.scal2 (s : State) (t g : Nat) (w : W64) (op : Nat) (f : W64 → W64 → W64) : Res :=
  s.laneReg t g w 9 (· == op) (fun x => x.setS (lDst w) (f (x.sreg (lA w)) (x.scalB w)))

/-! ## Memory of lanes (R125, R132, R133, R136) -/

/-- The address that a MEM instruction forms in a lane. -/
def Group.memAddr (g : Group) (w : W64) (lane : Nat) : Nat :=
  (((g.sreg (lB w)).toNat : Int) + (g.vreg (lA w) lane).toNat + toSigned 16 (lAux w 21 6)) % (2 ^ 64 : Int) |>.toNat

/-- The cause of the first fault of an access of some size at a store offset: 1 misaligned, 2 outside the window. -/
def accessFault (base len a size : Nat) : Nat :=
  if a % size ≠ 0 then 1 else if base ≤ a ∧ a + size ≤ base + len then 0 else 2

/-- A byte of a tile store as a lane reads it: a word that an uncompleted SIN writes may be read old or new, and which is free
(R136). -/
def State.laneByte (s : State) (t off : Nat) : Byte :=
  let cover := (List.range 32).flatMap (fun k =>
    let u := 8 * (t / 8) + k / 4
    (s.queue u (k % 4)).filter (fun c => !c.out && (streamTargets u c.mask).contains t && decide (c.off ≤ off ∧ off < c.off + c.len)))
  cover.foldl (fun b c =>
    if Config.choice s.fresh (off / 16) % 2 = 1 then (s.load c.part (c.remote + (off - c.off)) 1).getD 0 b else b)
    (s.byte (tileAddr t off))

/-- Bytes of the store that a MEM instruction names: the tile store, or the partition's share of the quadrant store. -/
def State.laneLoad (s : State) (t : Nat) (quad : Bool) (off n : Nat) : List Byte :=
  if quad then s.load (s.run t).part (quadAddr (quadOfTile t) off) n
  else (List.range n).map (fun k => s.laneByte t (off + k))

def State.laneStore (s : State) (t : Nat) (quad : Bool) (off : Nat) (b : List Byte) : State :=
  if quad then s.store (s.run t).part (quadAddr (quadOfTile t) off) b else s.putBytes (tileAddr t off) b

/-- The window of a store. -/
def TileRun.window (r : TileRun) (quad : Bool) : Nat × Nat := if quad then (r.quadBase, r.quadLen) else (r.tileBase, r.tileLen)

/-- A MEM instruction: when an enabled lane's access faults, the lowest such lane's fault stops the launch before anything moves;
else the lanes act in ascending order. -/
def State.laneMem (s : State) (t g : Nat) (w : W64) (ops : Nat → Bool) (quad : Bool) (size : Nat)
    (f : State → Group → Group → Nat → Nat → State × Group) : Res :=
  s.laneAct t g w 7 ops (fun s x =>
    let win := (s.run t).window quad
    let bad := (x.lanes w).filterMap (fun l =>
      let c := accessFault win.1 win.2 (x.memAddr w l) size
      if c = 0 then none else some c)
    match bad.head? with
    | some c => s.kernelFault t g x.pc c
    | none =>
      let s := s.draw
      let r := (x.lanes w).foldl (fun (p : State × Group) l => f p.1 x p.2 l (x.memAddr w l)) (s, x)
      r.1.setGroup t g r.2.next)

/-- A load of up to 4 bytes into dst, extended by `ext`. -/
def State.memLoad (s : State) (t g : Nat) (w : W64) (op : Nat) (quad : Bool) (size : Nat) (ext : Nat → W32) : Res :=
  s.laneMem t g w (· == op) quad size (fun s _ y l a => (s, y.setV (lDst w) l (ext (leVal (s.laneLoad t quad a size)))))

/-- A load of 16 bytes into four registers. -/
def State.memLoad128 (s : State) (t g : Nat) (w : W64) (op : Nat) (quad : Bool) : Res :=
  s.laneMem t g w (· == op) quad 16 (fun s _ y l a =>
    let b := s.laneLoad t quad a 16
    (s, (List.range 4).foldl (fun y k => y.setV (lDst w + k) l (BitVec.ofNat 32 (leAt b (4 * k) 4))) y))

/-- A store of up to 4 bytes from src_c. -/
def State.memStore (s : State) (t g : Nat) (w : W64) (op : Nat) (quad : Bool) (size : Nat) : Res :=
  s.laneMem t g w (· == op) quad size (fun s x y l a => (s.laneStore t quad a (leBytes size (x.vreg (lC w) l).toNat), y))

/-- A store of 16 bytes from four registers. -/
def State.memStore128 (s : State) (t g : Nat) (w : W64) (op : Nat) (quad : Bool) : Res :=
  s.laneMem t g w (· == op) quad 16 (fun s x y l a =>
    (s.laneStore t quad a ((List.range 4).flatMap (fun k => leBytes 4 (x.vreg (lC w + k) l).toNat)), y))

/-- The six atomics by op (mod 16): old value, operand and, for CAS, the value that dst held. -/
def atomFn (op : Nat) (old v cmp : W32) : W32 :=
  match op % 16 with
  | 0 => fAdd 0 old v
  | 1 => old + v
  | 2 => fMax old v
  | 3 => if old.toInt < v.toInt then v else old
  | 4 => v
  | _ => if old = cmp then v else old

/-- An atomic of each enabled lane in ascending order; the old value goes to dst (R125, R133). -/
def State.memAtom (s : State) (t g : Nat) (w : W64) (ops : Nat → Bool) (quad : Bool) : Res :=
  s.laneMem t g w ops quad 4 (fun s x y l a =>
    let old := BitVec.ofNat 32 (leVal (s.laneLoad t quad a 4))
    let new := atomFn (lOp w) old (x.vreg (lC w) l) (x.vreg (lDst w) l)
    (s.laneStore t quad a (leBytes 4 new.toNat), y.setV (lDst w) l old))

end Sys2Proof.Machine
end

