-- ==== Sys2Proof/Machine/Flags.lean ====
section
/-! DEFINITION. The predicates of lane kernels (R120, R123) and the count of NaN conversions (R124): the flags of this block. -/

namespace Sys2Proof.Machine

/-- The condition of a comparison on an ordering: 0 EQ, 1 NE, 2 LT, 3 LE, 4 GT, 5 GE (R123). -/
def condHolds (c : Nat) (lt eq : Bool) : Bool :=
  match c with
  | 0 => eq
  | 1 => !eq
  | 2 => lt
  | 3 => lt || eq
  | 4 => !lt && !eq
  | _ => !lt

/-- FCMP: with a NaN, NE and UNORD are true and every other condition false; −0 equals +0. -/
def fcmpHolds (c : Nat) (a b : W32) : Bool :=
  if (decF a).isNan || (decF b).isNan then decide (c = 1 ∨ c = 6)
  else if c = 6 then false
  else condHolds c ((decF a).lt (decF b)) (!(decF a).lt (decF b) && !(decF b).lt (decF a))

def icmpHolds (c : Nat) (a b : W32) : Bool := condHolds c (decide (a.toInt < b.toInt)) (decide (a = b))
def ucmpHolds (c : Nat) (a b : W32) : Bool := condHolds c (decide (a.toNat < b.toNat)) (decide (a = b))

/-- A comparison's bit in each enabled lane, set, or combined by AND or OR with the predicate's present value. -/
def cmpMask (g : Group) (w : W64) (f : Nat → Bool) : Nat :=
  let old := g.pred (lDst w)
  (List.range 64).foldl (fun m l =>
    let o := bit old l
    let v := if g.enabled w l then
        (match lAux w 17 16 with
         | 1 => o && f l
         | 2 => o || f l
         | _ => f l)
      else o
    m + ofBool v * 2 ^ l) 0

/-- A CMP instruction (R123). -/
def State.laneCmp (s : State) (t g : Nat) (w : W64) (op : Nat) (f : Nat → W32 → W32 → Bool) : Res :=
  s.laneReg t g w 4 (· == op) (fun x =>
    x.setPred (lDst w) (cmpMask x w (fun l => f (lAux w 20 18) (x.srcA w l) (x.srcB w l))))

/-- NaN values converted are counted on the die (R124). -/
def State.countNan (s : State) (t k : Nat) : State := s.inc F.VEC_FAULT_cvt_nan (dieOf t) 0 k

/-- A predicate's branch condition over all 64 lanes: 0 any true, 1 all true, 2 none true (Table 5.4). -/
def predMeets (mask c : Nat) : Bool :=
  match c with
  | 0 => mask != 0
  | 1 => decide (mask = 2 ^ 64 - 1)
  | _ => mask == 0

/-- A scalar register's branch condition: 0 zero, 1 nonzero, 2 negative, 3 non-negative. -/
def scalarMeets (x : W64) (c : Nat) : Bool :=
  match c with
  | 0 => x == 0#64
  | 1 => x != 0#64
  | 2 => decide (x.toInt < 0)
  | _ => decide (0 ≤ x.toInt)

end Sys2Proof.Machine
end

