-- ==== Sys2Proof/Machine/Lanes.lean ====
section
/-! DEFINITION. The lane instructions (Tables 5.4 to 5.13). -/

namespace Sys2Proof.Machine

/-! ## CTRL (Table 5.4) -/

/-- A branch of the group by a signed count of instructions. -/
def Group.branch (g : Group) (w : W64) : Group := { g with pc := ((g.pc : Int) + lImmS w).toNat }

/-- Table 5.4 0x00. -/
def execNop (t : TileId) (g : Fin 32) (w : W64) (s : State) : Res := s.laneReg t.val g.val w 0 (· == 0x00) id

/-- Groups at a barrier go on once every group of the tile has arrived or ended (R134). -/
def releaseBar (gs : List Group) (b : Nat) : List Group :=
  if gs.all (fun x => decide (x.wait = 1 ∨ x.wait = 2 + b)) then
    gs.map (fun x => if x.wait = 2 + b then { x with wait := 0, pc := x.pc + 1 } else x)
  else gs

/-- A launch has ended once every group on every tile has executed EXIT (R114); with it ends a repeated run that has no step. -/
def State.launchOver (s : State) (t : Nat) : State :=
  let r := s.run t
  if r.id ≠ 0 ∧ r.tiles.all (fun u => (s.run u).groups.all (fun x => x.wait = 1)) then
    let s := s.endLaunch r.id
    if (s.serving r.part).isNone then s.clearReruns r.part else s
  else s

/-- Table 5.4 0x01: the group ends, and counts as arrived at every barrier. -/
def execExit (t : TileId) (g : Fin 32) (w : W64) (s : State) : Res :=
  s.laneAct t.val g.val w 0 (· == 0x01) (fun s x =>
    let s := s.setGroup t.val g.val { x with wait := 1 }
    let gs := (List.range 4).foldl (fun gs b => releaseBar gs b) (s.run t.val).groups
    (s.setRun t.val { s.run t.val with groups := gs }).launchOver t.val)

/-- Table 5.4 0x02. -/
def execBra (t : TileId) (g : Fin 32) (w : W64) (s : State) : Res :=
  s.laneAct t.val g.val w 0 (· == 0x02) (fun s x => s.setGroup t.val g.val (x.branch w))

/-- Table 5.4 0x03. -/
def execBrs (t : TileId) (g : Fin 32) (w : W64) (s : State) : Res :=
  s.laneAct t.val g.val w 0 (· == 0x03) (fun s x =>
    s.setGroup t.val g.val (if scalarMeets (x.sreg (lA w)) (lAux2 w) then x.branch w else x.next))

/-- Table 5.4 0x04. -/
def execBrp (t : TileId) (g : Fin 32) (w : W64) (s : State) : Res :=
  s.laneAct t.val g.val w 0 (· == 0x04) (fun s x =>
    s.setGroup t.val g.val (if predMeets (x.pred (lA w)) (lAux2 w) then x.branch w else x.next))

/-- Table 5.4 0x05 (R134). -/
def execBar (t : TileId) (g : Fin 32) (w : W64) (s : State) : Res :=
  s.laneAct t.val g.val w 0 (· == 0x05) (fun s x =>
    let b := lw w 1 0
    let s := s.setGroup t.val g.val { x with wait := 2 + b }
    s.setRun t.val { s.run t.val with groups := releaseBar (s.run t.val).groups b })

/-- Table 5.4 0x08 (R128). -/
def execSwait (t : TileId) (g : Fin 32) (w : W64) (s : State) : Res :=
  s.laneAct t.val g.val w 0 (· == 0x08) (fun s x =>
    s.setGroup t.val g.val (if s.tokenBusy t.val (lw w 2 0) then { x with wait := 8 + lw w 2 0 } else x.next))

/-! ## FALU (Table 5.5) -/

/-- Table 5.5 0x00. -/
def execFadd (t : TileId) (g : Fin 32) (w : W64) (s : State) : Res :=
  s.lane2 t.val g.val w 1 0x00 (fAdd (lRm w))

/-- Table 5.5 0x01. -/
def execFsub (t : TileId) (g : Fin 32) (w : W64) (s : State) : Res :=
  s.lane2 t.val g.val w 1 0x01 (fSub (lRm w))

/-- Table 5.5 0x02. -/
def execFmul (t : TileId) (g : Fin 32) (w : W64) (s : State) : Res :=
  s.lane2 t.val g.val w 1 0x02 (fMul (lRm w))

/-- Table 5.5 0x03. -/
def execFfma (t : TileId) (g : Fin 32) (w : W64) (s : State) : Res :=
  s.lane3 t.val g.val w 1 0x03 (fFma (lRm w))

/-- Table 5.5 0x04. -/
def execFmin (t : TileId) (g : Fin 32) (w : W64) (s : State) : Res :=
  s.lane2 t.val g.val w 1 0x04 fMin

/-- Table 5.5 0x05. -/
def execFmax (t : TileId) (g : Fin 32) (w : W64) (s : State) : Res :=
  s.lane2 t.val g.val w 1 0x05 fMax

/-- Table 5.5 0x06. -/
def execFabs (t : TileId) (g : Fin 32) (w : W64) (s : State) : Res :=
  s.lane1 t.val g.val w 1 0x06 fAbs

/-- Table 5.5 0x07. -/
def execFneg (t : TileId) (g : Fin 32) (w : W64) (s : State) : Res :=
  s.lane1 t.val g.val w 1 0x07 fNeg

/-- Table 5.5 0x08. -/
def execFsqrt (t : TileId) (g : Fin 32) (w : W64) (s : State) : Res :=
  s.lane1 t.val g.val w 1 0x08 (fSqrt (lRm w))

/-- Table 5.5 0x09. -/
def execFldexp (t : TileId) (g : Fin 32) (w : W64) (s : State) : Res :=
  s.lane2 t.val g.val w 1 0x09 (fLdexp (lRm w))

/-- Table 5.5 0x0A. -/
def execFrint (t : TileId) (g : Fin 32) (w : W64) (s : State) : Res :=
  s.lane1 t.val g.val w 1 0x0A (fRint (lRm w))

/-- Table 5.5 0x0B. -/
def execFclamp (t : TileId) (g : Fin 32) (w : W64) (s : State) : Res :=
  s.lane3 t.val g.val w 1 0x0B fClamp

/-! ## FFUN (Table 5.6) -/

/-- Table 5.6 0x00. -/
def execFrcp (t : TileId) (g : Fin 32) (w : W64) (s : State) : Res :=
  s.lane1 t.val g.val w 2 0x00 fRcp

/-- Table 5.6 0x01. -/
def execFrsq (t : TileId) (g : Fin 32) (w : W64) (s : State) : Res :=
  s.lane1 t.val g.val w 2 0x01 fRsq

/-- Table 5.6 0x02; both sources are vector registers. -/
def execFdiv (t : TileId) (g : Fin 32) (w : W64) (s : State) : Res :=
  s.laneReg t.val g.val w 2 (· == 0x02) (fun x => x.mapDst w (fun l => fDiv (x.srcA w l) (x.vreg (lB w) l)))

/-- Table 5.6 0x03. -/
def execFexp2 (t : TileId) (g : Fin 32) (w : W64) (s : State) : Res :=
  s.lane1 t.val g.val w 2 0x03 fExp2

/-- Table 5.6 0x04. -/
def execFexp (t : TileId) (g : Fin 32) (w : W64) (s : State) : Res :=
  s.lane1 t.val g.val w 2 0x04 fExp

/-- Table 5.6 0x05. -/
def execFlog2 (t : TileId) (g : Fin 32) (w : W64) (s : State) : Res :=
  s.lane1 t.val g.val w 2 0x05 fLog2

/-- Table 5.6 0x06. -/
def execFtanh (t : TileId) (g : Fin 32) (w : W64) (s : State) : Res :=
  s.lane1 t.val g.val w 2 0x06 fTanh

/-- Table 5.6 0x07. -/
def execFsigm (t : TileId) (g : Fin 32) (w : W64) (s : State) : Res :=
  s.lane1 t.val g.val w 2 0x07 fSigm

/-! ## IALU (Table 5.7) -/

/-- Table 5.7 0x00. -/
def execIadd (t : TileId) (g : Fin 32) (w : W64) (s : State) : Res :=
  s.lane2 t.val g.val w 3 0x00 (· + ·)

/-- Table 5.7 0x01. -/
def execIsub (t : TileId) (g : Fin 32) (w : W64) (s : State) : Res :=
  s.lane2 t.val g.val w 3 0x01 (· - ·)

/-- Table 5.7 0x02. -/
def execImul (t : TileId) (g : Fin 32) (w : W64) (s : State) : Res :=
  s.lane2 t.val g.val w 3 0x02 (· * ·)

/-- Table 5.7 0x03. -/
def execImad (t : TileId) (g : Fin 32) (w : W64) (s : State) : Res :=
  s.lane3 t.val g.val w 3 0x03 (fun a b c => a * b + c)

/-- Table 5.7 0x04. -/
def execAnd (t : TileId) (g : Fin 32) (w : W64) (s : State) : Res :=
  s.lane2 t.val g.val w 3 0x04 (· &&& ·)

/-- Table 5.7 0x05. -/
def execOr (t : TileId) (g : Fin 32) (w : W64) (s : State) : Res :=
  s.lane2 t.val g.val w 3 0x05 (· ||| ·)

/-- Table 5.7 0x06. -/
def execXor (t : TileId) (g : Fin 32) (w : W64) (s : State) : Res :=
  s.lane2 t.val g.val w 3 0x06 (· ^^^ ·)

/-- Table 5.7 0x07. -/
def execNot (t : TileId) (g : Fin 32) (w : W64) (s : State) : Res :=
  s.lane1 t.val g.val w 3 0x07 (~~~ ·)

/-- Table 5.7 0x08. -/
def execShl (t : TileId) (g : Fin 32) (w : W64) (s : State) : Res :=
  s.lane2 t.val g.val w 3 0x08 (fun a b => a <<< (b.toNat % 32))

/-- Table 5.7 0x09. -/
def execShru (t : TileId) (g : Fin 32) (w : W64) (s : State) : Res :=
  s.lane2 t.val g.val w 3 0x09 (fun a b => a >>> (b.toNat % 32))

/-- Table 5.7 0x0A. -/
def execShrs (t : TileId) (g : Fin 32) (w : W64) (s : State) : Res :=
  s.lane2 t.val g.val w 3 0x0A (fun a b => a.sshiftRight (b.toNat % 32))

/-- Table 5.7 0x0B. -/
def execImin (t : TileId) (g : Fin 32) (w : W64) (s : State) : Res :=
  s.lane2 t.val g.val w 3 0x0B (fun a b => if a.toInt ≤ b.toInt then a else b)

/-- Table 5.7 0x0C. -/
def execImax (t : TileId) (g : Fin 32) (w : W64) (s : State) : Res :=
  s.lane2 t.val g.val w 3 0x0C (fun a b => if a.toInt ≤ b.toInt then b else a)

/-- Table 5.7 0x0D. -/
def execUmin (t : TileId) (g : Fin 32) (w : W64) (s : State) : Res :=
  s.lane2 t.val g.val w 3 0x0D (fun a b => if a.toNat ≤ b.toNat then a else b)

/-- Table 5.7 0x0E. -/
def execUmax (t : TileId) (g : Fin 32) (w : W64) (s : State) : Res :=
  s.lane2 t.val g.val w 3 0x0E (fun a b => if a.toNat ≤ b.toNat then b else a)

/-! ## CMP (Table 5.8) -/

/-- Table 5.8 0x00 (R123). -/
def execFcmp (t : TileId) (g : Fin 32) (w : W64) (s : State) : Res :=
  s.laneCmp t.val g.val w 0x00 fcmpHolds

/-- Table 5.8 0x01 (R123). -/
def execIcmp (t : TileId) (g : Fin 32) (w : W64) (s : State) : Res :=
  s.laneCmp t.val g.val w 0x01 icmpHolds

/-- Table 5.8 0x02 (R123). -/
def execUcmp (t : TileId) (g : Fin 32) (w : W64) (s : State) : Res :=
  s.laneCmp t.val g.val w 0x02 ucmpHolds

/-! ## CVT (Table 5.9, R124) -/

/-- Element e of some width in a register. -/
def elemOf (width e : Nat) (x : W32) : Nat := x.toNat >>> (width * e) % 2 ^ width

/-- Element e of a register replaced; every other bit stays. -/
def putElem (width e : Nat) (x : W32) (v : Nat) : W32 :=
  let m := (2 ^ width - 1) <<< (width * e)
  BitVec.ofNat 32 (x.toNat - (x.toNat &&& m) + (v % 2 ^ width) <<< (width * e))

/-- The element position of a conversion. -/
def lElem (w : W64) : Nat := lAux w 19 16

/-- Table 5.9 0x00 to 0x08. -/
def execF32Fmt (t : TileId) (g : Fin 32) (w : W64) (s : State) : Res :=
  s.laneReg t.val g.val w 5 (fun o => decide (o ≤ 0x08)) (fun x =>
    x.mapDst w (fun l => roundF 0 (narrowDec (lOp w) (elemOf (narrowWidth (lOp w)) (lElem w) (x.srcA w l)))))

/-- Table 5.9 0x09. -/
def execF32S32 (t : TileId) (g : Fin 32) (w : W64) (s : State) : Res := s.lane1 t.val g.val w 5 0x09 (s32F32 (lRm w))

/-- Table 5.9 0x0A. -/
def execF32Mxi8 (t : TileId) (g : Fin 32) (w : W64) (s : State) : Res :=
  s.lane1 t.val g.val w 5 0x0A (fun a => roundF 0 (mxi8Dec (elemOf 8 (lElem w) a)))

/-- A narrowing conversion with its count of NaN values. -/
def State.laneNarrow (s : State) (t g : Nat) (w : W64) (ops : Nat → Bool) (counts : Bool) (f : Group → Nat → W32) : Res :=
  s.laneAct t g w 5 ops (fun s x =>
    let k := if counts then ((x.lanes w).filter (fun l => (decF (x.srcA w l)).isNan)).length else 0
    (s.countNan t k).setGroup t g (x.mapDst w (f x)).next)

/-- Table 5.9 0x10 to 0x18. NaN values into E2M3, E3M2, E2M1, INT8 and INT4 are counted. -/
def execFmtF32 (t : TileId) (g : Fin 32) (w : W64) (s : State) : Res :=
  let k := lOp w - 0x10
  s.laneNarrow t.val g.val w (fun o => decide (0x10 ≤ o ∧ o ≤ 0x18)) (decide (4 ≤ k)) (fun x l =>
    putElem (narrowWidth k) (lElem w) (x.vreg (lDst w) l) (narrowEnc k (lRm w) (lSat w) (decF (x.srcA w l))))

/-- Table 5.9 0x19. -/
def execS32F32 (t : TileId) (g : Fin 32) (w : W64) (s : State) : Res :=
  s.laneNarrow t.val g.val w (· == 0x19) true (fun x l => f32S32 (lRm w) (x.srcA w l))

/-- Table 5.9 0x1A. -/
def execMxi8F32 (t : TileId) (g : Fin 32) (w : W64) (s : State) : Res :=
  s.laneNarrow t.val g.val w (· == 0x1A) true (fun x l =>
    putElem 8 (lElem w) (x.vreg (lDst w) l) (mxi8Enc (lRm w) (decF (x.srcA w l))))

/-- Table 5.9 0x20: the scale codes of lanes 0 to 31 and 32 to 63; disabled lanes do not count, and a block with no enabled lane
gives code 0. -/
def execMxscale (t : TileId) (g : Fin 32) (w : W64) (s : State) : Res :=
  s.laneReg t.val g.val w 5 (· == 0x20) (fun x =>
    let code := fun h => mxScaleCode (lElem w) (((x.lanes w).filter (fun l => l / 32 = h)).map (fun l => decF (x.srcA w l)))
    x.mapDst w (fun l => BitVec.ofNat 32 (code (l / 32))))

/-! ## MOVE (Table 5.10) -/

/-- Table 5.10 0x00. -/
def execMov (t : TileId) (g : Fin 32) (w : W64) (s : State) : Res :=
  s.laneReg t.val g.val w 6 (· == 0x00) (fun x => x.mapDst w (fun l => if lImmForm w then lImm w else x.srcA w l))

/-- Table 5.10 0x01. -/
def execSel (t : TileId) (g : Fin 32) (w : W64) (s : State) : Res :=
  s.laneReg t.val g.val w 6 (· == 0x01) (fun x =>
    x.mapDst w (fun l => if bit (x.pred (lC w)) l then x.srcA w l else x.srcB w l))

/-- Table 5.10 0x02. -/
def execLaneid (t : TileId) (g : Fin 32) (w : W64) (s : State) : Res :=
  s.laneReg t.val g.val w 6 (· == 0x02) (fun x => x.mapDst w (fun l => BitVec.ofNat 32 l))

/-- Table 5.10 0x03. -/
def execBcast (t : TileId) (g : Fin 32) (w : W64) (s : State) : Res :=
  s.laneReg t.val g.val w 6 (· == 0x03) (fun x => x.mapDst w (fun _ => (x.sreg (lA w)).truncate 32))

/-- A shuffle reads its source from another lane, enabled or not (R120). -/
def State.laneShuffle (s : State) (t g : Nat) (w : W64) (op : Nat) (src : Group → Nat → Nat) : Res :=
  s.laneReg t g w 6 (· == op) (fun x => x.mapDst w (fun l => x.srcA w (src x l)))

/-- Table 5.10 0x04. -/
def execShflIdx (t : TileId) (g : Fin 32) (w : W64) (s : State) : Res :=
  s.laneShuffle t.val g.val w 0x04 (fun x l => (x.srcB w l).toNat % 64)

/-- Table 5.10 0x05. -/
def execShflXor (t : TileId) (g : Fin 32) (w : W64) (s : State) : Res :=
  s.laneShuffle t.val g.val w 0x05 (fun _ l => (l ^^^ lw w 5 0) % 64)

/-- Table 5.10 0x06. -/
def execShflUp (t : TileId) (g : Fin 32) (w : W64) (s : State) : Res :=
  s.laneShuffle t.val g.val w 0x06 (fun _ l => if lw w 5 0 ≤ l then l - lw w 5 0 else l)

/-- Table 5.10 0x07. -/
def execShflDown (t : TileId) (g : Fin 32) (w : W64) (s : State) : Res :=
  s.laneShuffle t.val g.val w 0x07 (fun _ l => if l + lw w 5 0 ≤ 63 then l + lw w 5 0 else l)

/-- Table 5.10 0x08. -/
def execVote (t : TileId) (g : Fin 32) (w : W64) (s : State) : Res :=
  s.laneReg t.val g.val w 6 (· == 0x08) (fun x =>
    x.setS (lDst w) (BitVec.ofNat 64 ((x.lanes w).foldl (fun m l => m + ofBool (bit (x.pred (lA w)) l) * 2 ^ l) 0)))

/-- Table 5.10 0x09: guarded by the lane that it reads. -/
def execVtos (t : TileId) (g : Fin 32) (w : W64) (s : State) : Res :=
  s.laneReg t.val g.val w 6 (· == 0x09) (fun x =>
    let l := lw w 5 0
    if x.enabled w l then x.setS (lDst w) ((x.srcA w l).setWidth 64) else x)

/-! ## MEM (Table 5.11) -/

/-- Table 5.11 0x00. -/
def execLdU8 (t : TileId) (g : Fin 32) (w : W64) (s : State) : Res :=
  s.memLoad t.val g.val w 0x00 false 1 (fun v => BitVec.ofNat 32 v)

/-- Table 5.11 0x01. -/
def execLdS8 (t : TileId) (g : Fin 32) (w : W64) (s : State) : Res :=
  s.memLoad t.val g.val w 0x01 false 1 (fun v => (BitVec.ofNat 8 v).signExtend 32)

/-- Table 5.11 0x02. -/
def execLdU16 (t : TileId) (g : Fin 32) (w : W64) (s : State) : Res :=
  s.memLoad t.val g.val w 0x02 false 2 (fun v => BitVec.ofNat 32 v)

/-- Table 5.11 0x03. -/
def execLdS16 (t : TileId) (g : Fin 32) (w : W64) (s : State) : Res :=
  s.memLoad t.val g.val w 0x03 false 2 (fun v => (BitVec.ofNat 16 v).signExtend 32)

/-- Table 5.11 0x04. -/
def execLd32 (t : TileId) (g : Fin 32) (w : W64) (s : State) : Res :=
  s.memLoad t.val g.val w 0x04 false 4 (fun v => BitVec.ofNat 32 v)

/-- Table 5.11 0x10. -/
def execQld32 (t : TileId) (g : Fin 32) (w : W64) (s : State) : Res :=
  s.memLoad t.val g.val w 0x10 true 4 (fun v => BitVec.ofNat 32 v)

/-- Table 5.11 0x05. -/
def execLd128 (t : TileId) (g : Fin 32) (w : W64) (s : State) : Res :=
  s.memLoad128 t.val g.val w 0x05 false

/-- Table 5.11 0x11. -/
def execQld128 (t : TileId) (g : Fin 32) (w : W64) (s : State) : Res :=
  s.memLoad128 t.val g.val w 0x11 true

/-- Table 5.11 0x08. -/
def execSt8 (t : TileId) (g : Fin 32) (w : W64) (s : State) : Res :=
  s.memStore t.val g.val w 0x08 false 1

/-- Table 5.11 0x09. -/
def execSt16 (t : TileId) (g : Fin 32) (w : W64) (s : State) : Res :=
  s.memStore t.val g.val w 0x09 false 2

/-- Table 5.11 0x0A. -/
def execSt32 (t : TileId) (g : Fin 32) (w : W64) (s : State) : Res :=
  s.memStore t.val g.val w 0x0A false 4

/-- Table 5.11 0x12. -/
def execQst32 (t : TileId) (g : Fin 32) (w : W64) (s : State) : Res :=
  s.memStore t.val g.val w 0x12 true 4

/-- Table 5.11 0x0B. -/
def execSt128 (t : TileId) (g : Fin 32) (w : W64) (s : State) : Res :=
  s.memStore128 t.val g.val w 0x0B false

/-- Table 5.11 0x13. -/
def execQst128 (t : TileId) (g : Fin 32) (w : W64) (s : State) : Res :=
  s.memStore128 t.val g.val w 0x13 true

/-- Table 5.11 0x20. -/
def execAtomFadd (t : TileId) (g : Fin 32) (w : W64) (s : State) : Res :=
  s.memAtom t.val g.val w (· == 0x20) false

/-- Table 5.11 0x21. -/
def execAtomIadd (t : TileId) (g : Fin 32) (w : W64) (s : State) : Res :=
  s.memAtom t.val g.val w (· == 0x21) false

/-- Table 5.11 0x22. -/
def execAtomFmax (t : TileId) (g : Fin 32) (w : W64) (s : State) : Res :=
  s.memAtom t.val g.val w (· == 0x22) false

/-- Table 5.11 0x23. -/
def execAtomImax (t : TileId) (g : Fin 32) (w : W64) (s : State) : Res :=
  s.memAtom t.val g.val w (· == 0x23) false

/-- Table 5.11 0x24. -/
def execAtomXchg (t : TileId) (g : Fin 32) (w : W64) (s : State) : Res :=
  s.memAtom t.val g.val w (· == 0x24) false

/-- Table 5.11 0x25. -/
def execAtomCas (t : TileId) (g : Fin 32) (w : W64) (s : State) : Res :=
  s.memAtom t.val g.val w (· == 0x25) false

/-- Table 5.11 0x30 to 0x35. -/
def execQatom (t : TileId) (g : Fin 32) (w : W64) (s : State) : Res :=
  s.memAtom t.val g.val w (fun o => decide (0x30 ≤ o ∧ o ≤ 0x35)) true

/-! ## STREAM (R126 to R128) -/

/-- The command that a STREAM word names. -/
def streamOf (x : Group) (w : W64) (out : Bool) (part : Nat) : StreamCmd where
  out := out
  remote := (x.sreg (lA w)).toNat
  off := (x.sreg (lB w)).toNat
  len := (x.sreg (lC w)).toNat
  mask := lAux w 16 9
  token := lAux w 19 17
  part := part

/-- What a stream command meets (R98, R102, R127, R128): 0 accepted, 1 a zero length, 2 malformed, 3 outside the partition. -/
def State.streamCheck (s : State) (c : StreamCmd) : Nat :=
  if c.len = 0 then 1
  else if 3 ≤ addrKind c.remote ∨ !addrOk c.remote ∨ c.remote % 64 ≠ 0 ∨ c.off % 64 ≠ 0 ∨ c.len % 64 ≠ 0 ∨ 16 * 2 ^ 20 < c.len ∨
      2 ^ 20 ≤ c.off then 2
  else if !s.addrIn c.part c.remote c.len ∨ 2 ^ 20 < c.off + c.len then 3
  else 0

/-- A STREAM instruction; it blocks while its queue holds 16 commands (R130). -/
def State.laneStream (s : State) (t g : Nat) (w : W64) (op : Nat) (out : Bool) : Res :=
  s.laneAct t g w 8 (· == op) (fun s x =>
    let q := lAux w 21 20
    let c := streamOf x w out (s.run t).part
    match s.streamCheck c with
    | 1 => s.setGroup t g x.next
    | 2 => s.kernelFault t g x.pc 3
    | 3 => s.kernelFault t g x.pc 4
    | _ =>
      if 16 ≤ (s.queue t q).length then s
      else (s.setGroup t g x.next).setQueue t q (s.queue t q ++ [c]))

/-- STREAM 0x00: from the remote address into the tile stores that the mask names. -/
def execSin (t : TileId) (g : Fin 32) (w : W64) (s : State) : Res := s.laneStream t.val g.val w 0x00 false

/-- STREAM 0x01: from the tile store to the remote address. -/
def execSout (t : TileId) (g : Fin 32) (w : W64) (s : State) : Res := s.laneStream t.val g.val w 0x01 true

/-! ## SCALAR (Table 5.13) -/

/-- Table 5.13 0x00. -/
def execSadd (t : TileId) (g : Fin 32) (w : W64) (s : State) : Res :=
  s.scal2 t.val g.val w 0x00 (· + ·)

/-- Table 5.13 0x01. -/
def execSsub (t : TileId) (g : Fin 32) (w : W64) (s : State) : Res :=
  s.scal2 t.val g.val w 0x01 (· - ·)

/-- Table 5.13 0x02. -/
def execSmul (t : TileId) (g : Fin 32) (w : W64) (s : State) : Res :=
  s.scal2 t.val g.val w 0x02 (· * ·)

/-- Table 5.13 0x03. -/
def execSand (t : TileId) (g : Fin 32) (w : W64) (s : State) : Res :=
  s.scal2 t.val g.val w 0x03 (· &&& ·)

/-- Table 5.13 0x04. -/
def execSor (t : TileId) (g : Fin 32) (w : W64) (s : State) : Res :=
  s.scal2 t.val g.val w 0x04 (· ||| ·)

/-- Table 5.13 0x05. -/
def execSxor (t : TileId) (g : Fin 32) (w : W64) (s : State) : Res :=
  s.scal2 t.val g.val w 0x05 (· ^^^ ·)

/-- Table 5.13 0x06. -/
def execSshl (t : TileId) (g : Fin 32) (w : W64) (s : State) : Res :=
  s.scal2 t.val g.val w 0x06 (fun a b => a <<< (b.toNat % 64))

/-- Table 5.13 0x07. -/
def execSshr (t : TileId) (g : Fin 32) (w : W64) (s : State) : Res :=
  s.scal2 t.val g.val w 0x07 (fun a b => a >>> (b.toNat % 64))

/-- Table 5.13 0x0B. -/
def execSsar (t : TileId) (g : Fin 32) (w : W64) (s : State) : Res :=
  s.scal2 t.val g.val w 0x0B (fun a b => a.sshiftRight (b.toNat % 64))

/-- Table 5.13 0x08. -/
def execSmov (t : TileId) (g : Fin 32) (w : W64) (s : State) : Res :=
  s.laneReg t.val g.val w 9 (· == 0x08) (fun x =>
    x.setS (lDst w) (if lImmForm w then (lImm w).signExtend 64 else x.sreg (lA w)))

/-- Table 5.13 0x09. -/
def execSmovhi (t : TileId) (g : Fin 32) (w : W64) (s : State) : Res :=
  s.laneReg t.val g.val w 9 (· == 0x09) (fun x =>
    x.setS (lDst w) (BitVec.ofNat 64 ((lImm w).toNat * 2 ^ 32 + (x.sreg (lDst w)).toNat % 2 ^ 32)))

/-- What SREAD selects. The launch index and the cycle count are free. -/
def State.sreadValue (s : State) (t g sel : Nat) : W64 :=
  let r := s.run t
  match sel with
  | 0 => BitVec.ofNat 64 g
  | 1 => BitVec.ofNat 64 r.groups.length
  | 2 => Config.launchIndex r.id t
  | 3 => BitVec.ofNat 64 t
  | 4 => Config.cycles s.fresh
  | _ => BitVec.ofNat 64 r.args

/-- Table 5.13 0x0A. -/
def execSread (t : TileId) (g : Fin 32) (w : W64) (s : State) : Res :=
  s.laneAct t.val g.val w 9 (· == 0x0A) (fun s x =>
    let s := s.draw
    s.setGroup t.val g.val (x.setS (lDst w) (s.sreadValue t.val g.val (lw w 31 0))).next)

/-- Table 5.13 0x0C: an access in the tile-store window, aligned to 8 bytes (R132). -/
def execSld (t : TileId) (g : Fin 32) (w : W64) (s : State) : Res :=
  s.laneAct t.val g.val w 9 (· == 0x0C) (fun s x =>
    let a := ((x.sreg (lA w)) + (lImm w).signExtend 64).toNat
    let r := s.run t.val
    match accessFault r.tileBase r.tileLen a 8 with
    | 0 =>
      let s := s.draw
      s.setGroup t.val g.val (x.setS (lDst w) (BitVec.ofNat 64 (leVal (s.laneLoad t.val false a 8)))).next
    | c => s.kernelFault t.val g.val x.pc c)

end Sys2Proof.Machine
end

