-- ==== Sys2Proof/Machine/Tensors.lean ====
section
/-! DEFINITION. Tensors of an operator (06, 07): where an element lies, reading it, and writing a tensor. -/

namespace Sys2Proof.Machine

/-! ## Reading -/

/-- A little-endian number of n bytes read for Pn. -/
def State.loadNat (s : State) (n a len : Nat) : Nat := leVal (s.load n a len)

/-- The code of the k-th stored element of a row. -/
def State.storedCode (s : State) (n : Nat) (t : TRef) (row k : Nat) : Nat :=
  let w := fmtBits t.fmt
  let b := k * w
  s.loadNat n (t.addr + row * t.rowBytes + b / 8) ((w + 7) / 8 + 1) >>> (b % 8) % 2 ^ w

/-- The code at a position of a row; none where a sparse row stores nothing there (R76). -/
def State.codeAt (s : State) (n : Nat) (t : TRef) (row pos : Nat) : Option Nat :=
  if t.sparse then
    let g := pos / 4
    let nib := s.loadNat n (t.nibs + row * ceilDiv (ceilDiv t.rowLen 4) 2 + g / 2) 1 >>> (4 * (g % 2)) % 16
    if pos % 4 = nib % 4 then some (s.storedCode n t row (2 * g))
    else if pos % 4 = nib / 4 then some (s.storedCode n t row (2 * g + 1))
    else none
  else some (s.storedCode n t row pos)

/-- The value of an element, its block scale applied (R60). -/
def State.elem (s : State) (n : Nat) (t : TRef) (axis : Nat) (idx : List Nat) : FV :=
  let p := t.place idx
  let v := match s.codeAt n t p.1 p.2 with | some c => fmtDec t.fmt c | none => .num false 0 0
  if fmtMx t.fmt then
    let c := s.loadNat n (t.scaleAt axis idx) 1
    if c = 0xFF then .nan else v.shift ((c : Int) - 127)
  else v

/-- An element widened exactly to FP32. -/
def State.elemF (s : State) (n : Nat) (t : TRef) (idx : List Nat) : W32 := roundF 0 (s.elem n t t.lastAxis idx)

/-- An element as a code, for formats without scale and sparsity: index tensors and byte moves. -/
def State.elemCode (s : State) (n : Nat) (t : TRef) (idx : List Nat) : Nat :=
  let p := t.place idx
  s.storedCode n t p.1 p.2

/-! ## Writing -/

/-- Codes of w bits packed from bit 0 (R59). -/
def packCodes (w : Nat) (codes : List Nat) : Nat := codes.zipIdx.foldl (fun a c => a + (c.1 % 2 ^ w) * 2 ^ (w * c.2)) 0

/-- A tensor written from the codes of its elements; lanes beyond C and padding are zero (R141, R59). -/
def State.putCodes (s : State) (n : Nat) (t : TRef) (code : List Nat → Nat) : State :=
  (List.range t.rows).foldl (fun s r =>
    let codes := (List.range t.rowLen).map (fun k => match t.unplace r k with | some i => code i | none => 0)
    s.store n (t.addr + r * t.rowBytes) (leBytes t.rowBytes (packCodes (fmtBits t.fmt) codes))) s

/-- Values held while an operator runs, at their row-major places. -/
def tableOf {α : Type} (ext : List Nat) (f : List Nat → α) : Array α := ((allIdx ext).map f).toArray

/-- The 32 elements of the block that holds an element along an axis. -/
def blockOf (ext : List Nat) (axis : Nat) (vals : Array FV) (idx : List Nat) : List FV :=
  let b := idx.getD axis 0 / 32 * 32
  (List.range 32).map (fun k =>
    if b + k < ext.getD axis 0 then vals.getD (flat ext (idx.set axis (b + k))) .nan else .num false 0 0)

/-- A tensor written from values: each element converted once (R69 to R71), MX blocks formed along an axis (R62, R63). Answers the NaN
values converted to integers (Table 3.6). -/
def State.putValues (s : State) (n : Nat) (t : TRef) (axis rm : Nat) (sat : Option Bool) (f : List Nat → FV) : State × Nat :=
  let vals := tableOf t.ext f
  let at_ := fun idx => vals.getD (flat t.ext idx) .nan
  if fmtMx t.fmt then
    let k := t.fmt - 5
    let scale := fun idx => mxScaleCode k (blockOf t.ext axis vals idx)
    let s := s.putCodes n t (fun idx => mxElement k (scale idx) (at_ idx))
    ((allIdx t.ext).foldl (fun s idx => if idx.getD axis 0 % 32 = 0 then s.store n (t.scaleAt axis idx) [BitVec.ofNat 8 (scale idx)] else s) s, 0)
  else
    (s.putCodes n t (fun idx => fmtEnc t.fmt rm (sat.getD (satDefault t.fmt)) (at_ idx)),
      if t.fmt = 11 ∨ t.fmt = 12 then (vals.toList.filter FV.isNan).length else 0)

/-! ## Running an operator -/

/-- The dies on which a partition has clusters. -/
def State.diesOf (s : State) (n : Nat) : List Nat := (List.range 4).filter (fun d => (List.range 40).any (fun c => s.clusterOwner (40 * d + c) = n))

/-- NaN values converted to INT8 or INT4 are counted on a die of the plan's choice (R71). -/
def State.countNanOp (s : State) (n draw k : Nat) : State :=
  if k = 0 then s
  else
    let dies := s.diesOf n
    s.inc F.VEC_FAULT_cvt_nan (dies.getD (Config.choice draw 0xCA % max dies.length 1) 0) 0 k

/-- R102: an access outside the partition moves nothing, records the isolation event, and discards the step or invocation, which runs
again when it is composed afresh. -/
def State.operatorViolation (s : State) (n : Nat) : State := ((s.event (Src.isolation n) 1).discardBoundary n).compose n

/-- An operator of Pn: it runs while Pn is LOADED and not stopped; while a unit of Pn is halted it waits (R570); with an
extent of 0 it does nothing (R140); a range outside the
partition is R102's. The plan's free choices are drawn under one number. -/
def State.operator (s : State) (n : Nat) (refs : List (TRef × Nat)) (valid : Bool) (run : State → Nat → State) : Res :=
  if s.pstate n ≠ 2 ∨ s.stopped n ∨ s.haltedUnits n ∨ !valid ∨ !(refs.all (fun r => r.1.ok)) then .next s
  else if refs.any (fun r => r.1.ext.contains 0) then .next s
  else if !((refs.flatMap (fun r => r.1.ranges r.2)).all (fun r => addrOk r.1 && s.addrIn n r.1 r.2)) then .next (s.operatorViolation n)
  else .next ((run s.draw s.fresh).countFree n 0x05 s.fresh)

def optRef (t : Option TRef) : List (TRef × Nat) := match t with | some t => [t.ax] | none => []

end Sys2Proof.Machine
end

