-- ==== Sys2Proof/Machine/Operators.lean ====
section
/-! DEFINITION. The operator catalogue (06) without attention. -/

namespace Sys2Proof.Machine

/-! ## Elementwise chains (R159, R160) -/

def geluA : W32 := roundF 0 (FV.quot (.num false 44715 0) (.num false 1000000 0)).1
def geluB : W32 := roundF 0 (FV.quot (.num false 79788456 0) (.num false 100000000 0)).1
def fOne : W32 := 0x3F800000#32
def fHalf : W32 := 0x3F000000#32

/-- A step of Table 6.7. -/
def chainOp (op : Nat) (t b c : W32) : W32 :=
  match op with
  | 0x00 => fAdd 0 t b
  | 0x01 => fSub 0 t b
  | 0x02 => fSub 0 b t
  | 0x03 => fMul 0 t b
  | 0x04 => fDiv t b
  | 0x05 => fFma 0 t b c
  | 0x06 => fMin t b
  | 0x07 => fMax t b
  | 0x08 => fClamp t b c
  | 0x09 => fAbs t
  | 0x0A => fNeg t
  | 0x0B => fSqrt 0 t
  | 0x0C => fRsq t
  | 0x0D => fRcp t
  | 0x0E => fExp t
  | 0x0F => fExp2 t
  | 0x10 => fLog2 t
  | 0x11 => fTanh t
  | 0x12 => fSigm t
  | 0x13 => fMax t 0#32
  | 0x14 => fMul 0 t (fSigm t)
  | 0x15 =>
    let u := fMul 0 (fMul 0 t t) t
    let u := fMul 0 (fFma 0 u geluA t) geluB
    fMul 0 (fMul 0 (fAdd 0 (fTanh u) fOne) t) fHalf
  | 0x16 => if (decF b).lt (decF t) then t else fMul 0 t c
  | _ => fRint 0 t

/-- A chain within the limits of R159 to R161 for an output shape; `extra` counts input 0 where the chain's inputs do not list it. -/
def chainOk (c : Chain) (out : List Nat) : Bool :=
  decide (1 ≤ c.steps.length ∧ c.steps.length ≤ 16 ∧ c.inputs.length ≤ 3) &&
  c.steps.all (fun p => decide (p.op ≤ 0x17 ∧ p.src ≤ c.inputs.length)) && c.inputs.all (fun t => broadcastOk t.ext out)

/-- The steps of a chain on one element. -/
def State.chainRun (s : State) (n : Nat) (c : Chain) (idx : List Nat) (t : W32) : W32 :=
  c.steps.foldl (fun t p =>
    let b := if p.src = 0 then p.b else
      match c.inputs[p.src - 1]? with
      | some r => s.elemF n r (broadcastIdx r.ext idx)
      | none => p.b
    chainOp p.op t b p.c) t

def State.epilogue (s : State) (n : Nat) (epi : Option Chain) (idx : List Nat) (t : W32) : W32 :=
  match epi with
  | some c => s.chainRun n c idx t
  | none => t

def epiOk (epi : Option Chain) (out : List Nat) : Bool := match epi with | some c => chainOk c out | none => true
def epiRefs (epi : Option Chain) : List (TRef × Nat) := match epi with | some c => c.inputs.map TRef.ax | none => []
def epiRm (epi : Option Chain) : Nat := match epi with | some c => c.rm.val | none => 0
def epiSat (epi : Option Chain) : Option Bool := match epi with | some c => c.sat | none => none

/-- A tensor written from FP32 results; NaN conversions are counted. -/
def State.putF (s : State) (n draw : Nat) (t : TRef) (rm : Nat) (sat : Option Bool) (f : List Nat → W32) : State :=
  let r := s.putValues n t t.lastAxis rm sat (fun i => decF (f i))
  r.1.countNanOp n draw r.2

/-- Cycles that the matrix unit spends on a product count by a free amount on a cluster of the plan's choice (R85, Tables 23.1, 23.2). -/
def State.matmulBusy (s : State) (n draw : Nat) : State :=
  let cl := ownedIn s.struct.image.clusters n
  (s.countFree n 0x02 draw).tally (cl.getD (Config.choice draw 0xB0 % max cl.length 1) 0) (Config.choice draw 0xB1)

/-- CHAIN. -/
def execChain (n : PartId) (x y : TRef) (c : Chain) (s : State) : Res :=
  s.operator n.val (x.ax :: y.ax :: c.inputs.map TRef.ax) (chainOk c y.ext && decide (x.ext = y.ext)) (fun s d =>
    s.putF n.val d y c.rm.val c.sat (fun i => s.chainRun n.val c i (s.elemF n.val x i)))

/-! ## Matrix products (R145 to R147) -/

/-- Bias of an element along one axis: +0 without one. -/
def State.biasAt (s : State) (n : Nat) (bias : Option TRef) (k : Nat) : W32 :=
  match bias with | some t => s.elemF n t [k] | none => 0#32

def biasOk (bias : Option TRef) (k : Nat) : Bool := match bias with | some t => decide (t.ext = [k] ∧ t.fmt = 0) | none => true

/-- After the merge: out_scale, then the epilogue (R146, R147). -/
def State.finish (s : State) (n : Nat) (outScale : W32) (epi : Option Chain) (idx : List Nat) (t : W32) : W32 :=
  s.epilogue n epi idx (fMul 0 t outScale)

/-- MATMUL. The blocks of an MX operand lie along the reduction dimension (R60). -/
def execMatmul (n : PartId) (a b : TRef) (bias : Option TRef) (y : TRef) (transA transB : Bool) (outScale : W32)
    (epi : Option Chain) (s : State) : Res :=
  let la := swapLast a.ext transA
  let lb := swapLast b.ext transB
  let m := la.dropLast.getLastD 1
  let k := la.getLastD 1
  let c := lb.getLastD 1
  let batch := broadcastShape la.dropLast.dropLast lb.dropLast.dropLast
  let axA := if transA then a.ext.length - 2 else a.ext.length - 1
  let axB := if transB then b.ext.length - 1 else b.ext.length - 2
  let valid := decide (2 ≤ a.ext.length ∧ 2 ≤ b.ext.length ∧ a.layout = 0 ∧ b.layout = 0 ∧ lb.dropLast.getLastD 1 = k ∧
      y.ext = batch ++ [m, c] ∧ k ≤ 1048576 ∧ a.sparse = false ∧ (b.sparse → transB)) &&
    broadcastOk la.dropLast.dropLast batch && broadcastOk lb.dropLast.dropLast batch && pairOk a.fmt b.fmt &&
    biasOk bias c && epiOk epi y.ext
  s.operator n.val ([(a, axA), (b, axB), y.ax] ++ optRef bias ++ epiRefs epi) valid (fun s d =>
    s.putF n.val d y (epiRm epi) (epiSat epi) (fun i =>
      let bi := i.dropLast.dropLast
      let row := i.dropLast.getLastD 0
      let col := i.getLastD 0
      let prods := (List.range k).map (fun j =>
        let ia := broadcastIdx la.dropLast.dropLast bi ++ (if transA then [j, row] else [row, j])
        let ib := broadcastIdx lb.dropLast.dropLast bi ++ (if transB then [col, j] else [j, col])
        FV.mul (s.elem n.val a axA ia) (s.elem n.val b axB ib))
      let pick := fun q => Config.choice d (Nat.pair (flat y.ext i) q)
      s.finish n.val outScale epi i (reduceChunks pick (chunked (min (kcOf a.fmt) (kcOf b.fmt)) prods) (s.biasAt n.val bias col)))
      |>.matmulBusy n.val d)

/-! ## Convolution (R148 to R157) -/

/-- The pad value of mode CONSTANT in X's format (Table 6.4). -/
def padConst (f mode : Nat) (v : W32) : FV :=
  if mode ≠ 1 then .num false 0 0
  else if fmtMx f then
    let c := mxScaleCode (f - 5) (List.replicate 32 (decF v))
    (mxDec (f - 5) (mxElement (f - 5) c (decF v))).shift ((c : Int) - 127)
  else fmtDec f (fmtEnc f 0 true (decF v))

/-- The padded input (R149). -/
def State.convInput (s : State) (n : Nat) (x : TRef) (p : ConvParam) (img c : Nat) (y z : Nat) : FV :=
  match x.ext with
  | [_, _, h, w] =>
    match padPos p.mode h ((y : Int) - p.pt), padPos p.mode w ((z : Int) - p.pl) with
    | some a, some b => s.elem n x x.lastAxis [img, c, a, b]
    | _, _ => padConst x.fmt p.mode p.padValue
  | _ => .nan

/-- Filter positions, i outermost, then j. -/
def taps (p : ConvParam) : List (Nat × Nat) := (List.range p.fh).flatMap (fun i => (List.range p.fw).map (fun j => (i, j)))

/-- Which path of Table 6.6 a convolution takes: 0 window, 1 matrix product, 2 frequency domain, 3 direct. -/
def convPath (x wt : TRef) (p : ConvParam) : Nat :=
  let float := fun f : Nat => decide (1 ≤ f ∧ f ≤ 9)
  if 1 < p.groups then 0
  else if p.fh = 1 ∧ p.fw = 1 ∧ p.pt = 0 ∧ p.pb = 0 ∧ p.pl = 0 ∧ p.pr = 0 then 1
  else if 15 ≤ p.fh ∧ 15 ≤ p.fw ∧ p.dh = 1 ∧ p.dw = 1 ∧ p.sh = 1 ∧ p.sw = 1 ∧ !p.direct ∧ float x.fmt ∧ float wt.fmt then 2
  else 3

/-- The least power of two not below v. -/
def ceilPow2 (v : Nat) : Nat := if v ≤ 1 then 1 else 2 ^ (Nat.log2 (v - 1) + 1)

/-- An FP32 value within a bound of an exact one: free where several are (R78). -/
def freeIn (pick : Nat) (y bound : FV) : W32 :=
  let off : Int := (pick % (2 ^ 33 + 1) : Nat) - (2 ^ 32 : Nat)
  let w := roundF 0 (FV.add 0 y (FV.mul bound (FV.ofInt off (-32))))
  if (decF w).within y bound then w else roundF 0 y

/-- CONV. `in_` gives the padded input of the window's tap, `w_` the filter. -/
def execConv (n : PartId) (x wt : TRef) (bias : Option TRef) (y : TRef) (p : ConvParam) (outScale : W32)
    (epi : Option Chain) (s : State) : Res :=
  match x.ext, wt.ext, y.ext with
  | [ni, c, h, w], [k, cg, fh, fw], [no, ko, ph, pw] =>
    let wr := filterRef wt
    let valid := convParamOk p h w && decide (p.fh = fh ∧ p.fw = fw ∧ 1 ≤ p.groups ∧ p.groups ≤ c ∧ c % p.groups = 0 ∧ k % p.groups = 0 ∧
        cg = c / p.groups ∧ no = ni ∧ ko = k ∧ c ≤ 65535 ∧ k ≤ 65535 ∧ ph = outExtent h p.pt p.pb fh p.sh p.dh ∧
        pw = outExtent w p.pl p.pr fw p.sw p.dw ∧ x.sparse = false) && pairOk x.fmt wt.fmt && biasOk bias k && epiOk epi y.ext &&
      (!(fmtMx x.fmt) || x.layout = 2) && (!(fmtMx y.fmt) || y.layout = 2) && isFinite (decF p.padValue)
    s.operator n.val ([x.ax, wr.ax, y.ax] ++ optRef bias ++ epiRefs epi) valid (fun s d =>
      let path := convPath x wt p
      s.putF n.val d y (epiRm epi) (epiSat epi) (fun idx =>
        match idx with
        | [img, f, oy, ox] =>
          let g := f / (k / p.groups)
          let inp := fun (ch : Nat) (ij : Nat × Nat) => s.convInput n.val x p img (g * cg + ch) (oy * p.sh + ij.1 * p.dh) (ox * p.sw + ij.2 * p.dw)
          let fil := fun (ch : Nat) (ij : Nat × Nat) => s.elem n.val wr wr.lastAxis (filterIdx wt [f, ch, ij.1, ij.2])
          let bs := s.biasAt n.val bias f
          let pick := fun q => Config.choice d (Nat.pair (flat y.ext idx) q)
          let t := match path with
            | 0 => ((taps p).flatMap (fun ij => (List.range cg).map (fun ch => (ch, ij)))).foldl
                (fun acc q => fFma 0 (roundF 0 (inp q.1 q.2)) (roundF 0 (fil q.1 q.2)) acc) bs
            | 2 =>
              let nt := max 64 (ceilPow2 (4 * max fh fw))
              let ty := oy / (nt - fh + 1) * (nt - fh + 1)
              let tx := ox / (nt - fw + 1) * (nt - fw + 1)
              let tile := fun ch => (List.range nt).flatMap (fun i => (List.range nt).map (fun j =>
                if ty + i < h + p.pt + p.pb ∧ tx + j < w + p.pl + p.pr then s.convInput n.val x p img ch (ty + i) (tx + j) else .num false 0 0))
              let sumAbs := fun l : List FV => exactSum (l.map FV.abs)
              let total := exactSum ((List.range cg).map (fun ch => FV.mul (sumAbs (tile ch)) (sumAbs ((taps p).map (fil ch)))))
              let exact := exactSum ((taps p).flatMap (fun ij => (List.range cg).map (fun ch => FV.mul (inp ch ij) (fil ch ij))))
              if isFinite total then
                fAdd 0 bs (freeIn (pick 0) exact (FV.mul (.num false (12 * Nat.log2 nt + 2 * cg) (-24)) total))
              else BitVec.ofNat 32 (pick 1)
            | _ =>
              let mx := fmtMx x.fmt || fmtMx wt.fmt
              let tapProds := fun ij => (List.range cg).map (fun ch => FV.mul (inp ch ij) (fil ch ij)) ++
                (if mx then List.replicate (roundUp cg 32 - cg) (FV.num false 0 0) else [])
              reduceChunks pick (chunked (min (kcOf x.fmt) (kcOf wt.fmt)) ((taps p).flatMap tapProds)) bs
          s.finish n.val outScale epi idx t
        | _ => 0#32)
      |>.matmulBusy n.val d)
  | _, _, _ => .next s

/-! ## Pooling (R158) -/

/-- POOL. -/
def execPool (n : PartId) (x y : TRef) (p : ConvParam) (avg countPad : Bool) (s : State) : Res :=
  match x.ext, y.ext with
  | [ni, c, h, w], [no, co, ph, pw] =>
    let valid := convParamOk { p with mode := 0 } h w && decide (no = ni ∧ co = c ∧ ph = outExtent h p.pt p.pb p.fh p.sh p.dh ∧
        pw = outExtent w p.pl p.pr p.fw p.sw p.dw ∧ p.pt ≤ p.dh * (p.fh - 1) ∧ p.pb ≤ p.dh * (p.fh - 1) ∧
        p.pl ≤ p.dw * (p.fw - 1) ∧ p.pr ≤ p.dw * (p.fw - 1)) && (!(fmtMx x.fmt) || x.layout = 2) && (!(fmtMx y.fmt) || y.layout = 2)
    s.operator n.val [x.ax, y.ax] valid (fun s d =>
      s.putF n.val d y 0 none (fun idx =>
        match idx with
        | [img, ch, oy, ox] =>
          let inside := (taps p).filterMap (fun ij =>
            match padPos 0 h (((oy * p.sh + ij.1 * p.dh : Nat) : Int) - p.pt), padPos 0 w (((ox * p.sw + ij.2 * p.dw : Nat) : Int) - p.pl) with
            | some a, some b => some (s.elemF n.val x [img, ch, a, b])
            | _, _ => none)
          if avg then
            let count := if countPad then p.fh * p.fw else inside.length
            let zeros := if countPad then List.replicate (p.fh * p.fw - inside.length) 0#32 else []
            let inv := fQuot 1 count
            fMul 0 (sumFree (fun q => Config.choice d (Nat.pair (flat y.ext idx) q)) (inside ++ zeros)) inv
          else
            match inside with
            | [] => 0#32
            | v :: t => t.foldl fMax (fMax v v)
        | _ => 0#32))
  | _, _ => .next s

/-! ## Reductions, softmax, normalisation (R162 to R164) -/

/-- The indices that reduce to an output position, in row-major order of the reduced axes. -/
def fibre (ext : List Nat) (axes : List Nat) (idx : List Nat) : List (List Nat) :=
  (allIdx (axes.map (fun a => ext.getD a 1))).map (fun r =>
    (axes.zip r).foldl (fun i ar => i.set ar.1 ar.2) idx)

/-- Position of the best element among those that are not NaN, the lowest on equal values; +0 exceeds −0 (Table 6.8). -/
def argBest (better : W32 → W32 → Bool) (l : List W32) : Nat :=
  ((l.zipIdx.foldl (fun (b : Option (W32 × Nat)) v =>
    if (decF v.1).isNan then b
    else match b with
      | none => some v
      | some w => if better v.1 w.1 then some v else b) none).map (·.2)).getD 0

def foldF (f : W32 → W32 → W32) (l : List W32) : W32 :=
  match l with
  | [] => 0#32
  | v :: t => t.foldl f (f v v)

/-- REDUCE. -/
def execReduce (n : PartId) (x y : TRef) (axes : BitVec 6) (fn : Fin 7) (s : State) : Res :=
  let ax := maskAxes x.ext.length axes
  let out := ax.foldl (fun e a => e.set a 1) x.ext
  let valid := decide (ax ≠ [] ∧ y.ext = out ∧ axes.toNat < 2 ^ x.ext.length ∧ ((fn.val = 5 ∨ fn.val = 6) ↔ y.fmt = 13))
  s.operator n.val [x.ax, y.ax] valid (fun s d =>
    let cnt := prodL (ax.map (fun a => x.ext.getD a 1))
    let vals := fun idx => (fibre x.ext ax idx).map (s.elemF n.val x)
    let pick := fun idx q => Config.choice d (Nat.pair (flat y.ext idx) q)
    match fn.val with
    | 5 => s.putCodes n.val y (fun i => argBest (fun a b => fLess b a) (vals i))
    | 6 => s.putCodes n.val y (fun i => argBest fLess (vals i))
    | k => s.putF n.val d y 0 none (fun i =>
        match k with
        | 0 => sumFree (pick i) (vals i)
        | 1 => fMul 0 (sumFree (pick i) (vals i)) (fQuot 1 cnt)
        | 2 => sumFree (pick i) ((vals i).map (fun v => fMul 0 v v))
        | 3 => foldF fMax (vals i)
        | _ => foldF fMin (vals i)))

/-- SOFTMAX. -/
def execSoftmax (n : PartId) (x y : TRef) (scale : W32) (s : State) : Res :=
  s.operator n.val [x.ax, y.ax] (decide (x.ext = y.ext)) (fun s d =>
    let last := x.ext.length - 1
    let rowOf := fun i : List Nat => (fibre x.ext [last] i).map (fun j => fMul 0 (s.elemF n.val x j) scale)
    s.putF n.val d y 0 none (fun i =>
      let t := rowOf i
      let mx := foldF fMax t
      if decF mx = .inf true then 0#32
      else
        let e := t.map (fun v => fExp (fSub 0 v mx))
        let sm := sumFree (fun q => Config.choice d (Nat.pair (flat (x.ext.set last 1) (i.set last 0)) q)) e
        fMul 0 (e.getD (i.getD last 0) 0#32) (fRcp sm)))

/-- The scale or shift of a channel; `none` where the operator has none. -/
def State.vecAt (s : State) (n : Nat) (t : Option TRef) (k : Nat) : Option W32 := t.map (fun t => s.elemF n t [k])
def vecOk (t : Option TRef) (k : Nat) : Bool := match t with | some t => decide (t.ext = [k]) | none => true

/-- NORM. The sums of one group of elements are formed once, whichever element they serve. -/
def execNorm (n : PartId) (x y : TRef) (form : Fin 3) (eps : W32) (gn : Nat) (gamma beta : Option TRef) (s : State) : Res :=
  let last := x.ext.length - 1
  let chan := if form.val = 2 then 1 else last
  let c := x.ext.getD chan 1
  let valid := decide (x.ext = y.ext ∧ (form.val = 2 → x.ext.length = 4 ∧ 1 ≤ gn ∧ c % gn = 0)) && vecOk gamma c && vecOk beta c &&
    !((decF eps).isNan) && !((decF eps).lt (.num false 0 0)) && !((FV.num false 1 0).lt (decF eps))
  s.operator n.val ([x.ax, y.ax] ++ optRef gamma ++ optRef beta) valid (fun s d =>
    let per := if form.val = 2 then c / gn else 1
    let group := fun i : List Nat =>
      if form.val = 2 then
        let g := i.getD 1 0 / per
        (allIdx [per, x.ext.getD 2 1, x.ext.getD 3 1]).map (fun r => [i.getD 0 0, g * per + r.getD 0 0, r.getD 1 0, r.getD 2 0])
      else fibre x.ext [last] i
    let key := fun i : List Nat => if form.val = 2 then Nat.pair (i.getD 0 0) (i.getD 1 0 / per) else flat (x.ext.set last 1) (i.set last 0)
    s.putF n.val d y 0 none (fun i =>
      let vs := (group i).map (s.elemF n.val x)
      let pick := fun q => Config.choice d (Nat.pair (key i) q)
      let inv := fQuot 1 vs.length
      let v := s.elemF n.val x i
      let ch := i.getD chan 0
      let scaled := fun t => match s.vecAt n.val gamma ch with | some g => fMul 0 t g | none => t
      if form.val = 1 then
        let ms := fMul 0 (sumFree (fun q => pick (2 * q)) (vs.map (fun a => fMul 0 a a))) inv
        scaled (fMul 0 v (fRsq (fAdd 0 ms eps)))
      else
        let mu := fMul 0 (sumFree (fun q => pick (2 * q)) vs) inv
        let sq := vs.map (fun a => fMul 0 (fSub 0 a mu) (fSub 0 a mu))
        let var := fMul 0 (sumFree (fun q => pick (2 * q + 1)) sq) inv
        let t := scaled (fMul 0 (fSub 0 v mu) (fRsq (fAdd 0 var eps)))
        match s.vecAt n.val beta ch with | some b => fAdd 0 t b | none => t))

/-! ## Gather and scatter (R165, R166) -/

/-- Index-range events of Pn, counted as event 0x0F of Table 23.6. -/
def State.indexEvents (s : State) (n k : Nat) : State := s.count n 0x0F k

/-- A signed index tensor's value. -/
def State.indexAt (s : State) (n : Nat) (t : TRef) (idx : List Nat) : Int := toSigned 32 (s.elemCode n t idx)

/-- GATHER moves bytes: elements, and the scale bytes of whole blocks (R165). -/
def execGather (n : PartId) (tb idx y : TRef) (s : State) : Res :=
  let rowExt := tb.ext.drop 1
  let rows := tb.ext.headD 1
  let valid := decide (idx.fmt = 13 ∧ y.ext = idx.ext ++ rowExt ∧ y.fmt = tb.fmt ∧ rowExt ≠ [] ∧ tb.layout = 0 ∧ y.layout = 0 ∧
    tb.sparse = false ∧ y.sparse = false)
  s.operator n.val [tb.ax, idx.ax, y.ax] valid (fun s _ =>
    let inRange := fun i : Int => decide (0 ≤ i ∧ i < rows)
    let at_ := fun i : List Nat => s.indexAt n.val idx (i.take idx.ext.length)
    let src := fun i : List Nat => (at_ i).toNat :: i.drop idx.ext.length
    let bad := ((allIdx idx.ext).filter (fun i => !inRange (s.indexAt n.val idx i))).length
    let s' := s.putCodes n.val y (fun i => if inRange (at_ i) then s.elemCode n.val tb (src i) else 0)
    let s' := if fmtMx y.fmt then
        (allIdx y.ext).foldl (fun t i => if i.getLastD 0 % 32 = 0 then
          t.store n.val (y.scaleAt y.lastAxis i) [BitVec.ofNat 8 (if inRange (at_ i) then s.loadNat n.val (tb.scaleAt tb.lastAxis (src i)) 1 else 0)]
          else t) s'
      else s'
    s'.indexEvents n.val bad)

/-- SCATTER. -/
def execScatter (n : PartId) (d idx u : TRef) (mode : Fin 3) (s : State) : Res :=
  let rowExt := d.ext.drop 1
  let rows := d.ext.headD 1
  let valid := decide (idx.fmt = 13 ∧ u.ext = idx.ext ++ rowExt ∧ rowExt ≠ [] ∧ (if mode.val = 0 then u.fmt = d.fmt else u.fmt = 0 ∧ d.fmt = 0) ∧
    d.layout = 0 ∧ u.layout = 0 ∧ d.sparse = false ∧ u.sparse = false)
  s.operator n.val [d.ax, idx.ax, u.ax] valid (fun s dr =>
    let inRange := fun i : Int => decide (0 ≤ i ∧ i < rows)
    let all := allIdx idx.ext
    let good := all.filter (fun i => inRange (s.indexAt n.val idx i))
    let forRow := fun r : Nat => good.filter (fun i => s.indexAt n.val idx i = r)
    let touched := fun r : Nat => !(forRow r).isEmpty
    let s' := s.putCodes n.val d (fun e =>
      let r := e.headD 0
      if !touched r then s.elemCode n.val d e
      else
        let us := (forRow r).map (fun i => s.elemCode n.val u (i ++ e.drop 1))
        let old := BitVec.ofNat 32 (s.elemCode n.val d e)
        match mode.val with
        | 0 => us.getLastD 0
        | 1 => ((shuffle (fun q => Config.choice dr (Nat.pair (flat d.ext e) q)) 0 us).foldl (fun a v => fAdd 0 a (BitVec.ofNat 32 v)) old).toNat
        | _ => (us.foldl (fun a v => fMax a (BitVec.ofNat 32 v)) old).toNat)
    let s' := if fmtMx d.fmt then
        good.foldl (fun t i => (allIdx rowExt).foldl (fun t e => if e.getLastD 0 % 32 = 0 then
          t.store n.val (d.scaleAt d.lastAxis ((s.indexAt n.val idx i).toNat :: e)) [BitVec.ofNat 8 (s.loadNat n.val (u.scaleAt u.lastAxis (i ++ e)) 1)]
          else t) t) s'
      else s'
    s'.indexEvents n.val (all.length - good.length))

/-! ## Transforms and conversion (R167, R168) -/

/-- π with 192 fraction bits. -/
def piFix : Nat := 19720096697726538562396133364228268891463450865190089732560

/-- Terms of cos and sin for an angle with 192 fraction bits, by Horner from the top; `o` is 0 for cos and 1 for sin. -/
def trigSeries : Nat → Nat → Int → Int → Int
  | 0, _, _, acc => acc
  | k + 1, o, x2, acc => trigSeries k o x2 ((fpOne : Int) - x2 * acc / (fpOne : Int) / (((2 * k + 1 + o) * (2 * k + 2 + o) : Nat) : Int))

/-- cos and sin of 2πk/N with 192 fraction bits. -/
def twiddle (k n : Nat) : Int × Int :=
  let k' : Int := if 2 * (k % n) < n then (k % n : Nat) else ((k % n : Nat) : Int) - n
  let x : Int := 2 * (piFix : Int) * k' / (n : Int)
  let x2 := x * x / (fpOne : Int)
  (trigSeries 30 0 x2 (fpOne : Int), x * trigSeries 30 1 x2 (fpOne : Int) / (fpOne : Int))

/-- FFT: the exact transform, each output free within R167's bound; where an input is not finite the spec states no value. -/
def execFft (n : PartId) (x y : TRef) (axes : Nat) (inverse realInput : Bool) (s : State) : Res :=
  let r := x.ext.length
  let ax := if axes = 2 then [r - 2, r - 1] else [r - 1]
  let lens := ax.map (fun a => x.ext.getD a 1)
  let lenOk := fun l : Nat => decide (16 ≤ l ∧ l ≤ 1024 ∧ 2 ^ Nat.log2 l = l)
  let valid := decide ((axes = 1 ∨ axes = 2) ∧ axes ≤ r ∧ x.ext = y.ext ∧ y.fmt = 14 ∧ x.fmt = (if realInput then 0 else 14) ∧
    x.layout = 0 ∧ y.layout = 0 ∧ x.sparse = false ∧ y.sparse = false) && lens.all lenOk
  s.operator n.val [x.ax, y.ax] valid (fun s d =>
    let total := prodL lens
    let re := fun i => fp32.dec (s.elemCode n.val x i % 2 ^ 32)
    let im := fun i => if realInput then FV.num false 0 0 else fp32.dec (s.elemCode n.val x i / 2 ^ 32)
    s.putCodes n.val y (fun k =>
      let src := fibre x.ext ax k
      let finite := src.all (fun j => isFinite (re j) && isFinite (im j))
      let pick := fun q => Config.choice d (Nat.pair (flat y.ext k) q)
      if !finite then pick 0 % 2 ^ 64
      else
        let ph := fun j : List Nat => ((ax.zip lens).map (fun al => k.getD al.1 0 * j.getD al.1 0 % al.2 * (total / al.2))).sum
        let terms := src.map (fun j =>
          let t := twiddle (ph j) total
          let c := FV.ofInt t.1 (-(fpBits : Int))
          let sn := FV.ofInt (if inverse then t.2 else -t.2) (-(fpBits : Int))
          (FV.add 0 (FV.mul (re j) c) (FV.mul (im j) sn).neg, FV.add 0 (FV.mul (re j) sn) (FV.mul (im j) c)))
        let down : FV := .num false 1 (if inverse then -(Nat.log2 total : Int) else 0)
        let mag := exactSum (src.map (fun j => FV.root (FV.add 0 (FV.mul (re j) (re j)) (FV.mul (im j) (im j)))))
        let bound := FV.mul (.num false (4 * Nat.log2 total) (-24)) mag
        let a := FV.mul down (exactSum (terms.map (·.1)))
        let b := FV.mul down (exactSum (terms.map (·.2)))
        let x := freeIn (pick 1) a bound
        let z := freeIn (pick 2) b bound
        let dx := FV.add 0 (decF x) a.neg
        let dz := FV.add 0 (decF z) b.neg
        if (FV.mul bound bound).lt (FV.add 0 (FV.mul dx dx) (FV.mul dz dz)) then (roundF 0 a).toNat + (roundF 0 b).toNat * 2 ^ 32
        else x.toNat + z.toNat * 2 ^ 32))

/-- CONVERT: a layout change alone moves bytes; else each element is scaled, rounded to FP32 and converted once. -/
def execConvert (n : PartId) (x y : TRef) (scale : W32) (rm : Fin 4) (sat : Option Bool) (mxAxis : Nat) (s : State) : Res :=
  let ax := if laneCount y.layout ≠ 0 then 1 else mxAxis
  let valid := decide (x.ext = y.ext ∧ ax < y.ext.length ∧ x.fmt ≤ 12 ∧ y.fmt ≤ 12 ∧ y.sparse = false)
  s.operator n.val [x.ax, (y, ax)] valid (fun s d =>
    if x.fmt = y.fmt ∧ scale = fOne ∧ !fmtMx x.fmt ∧ !x.sparse then .putCodes s n.val y (s.elemCode n.val x)
    else
      let r := s.putValues n.val y ax rm.val sat (fun i => decF (fMul 0 (s.elemF n.val x i) scale))
      r.1.countNanOp n.val d r.2)

end Sys2Proof.Machine
end

