-- ==== Sys2Proof/Machine/Video.lean ====
section
/-! DEFINITION. The commands of the video codec (R396 to R418). -/

namespace Sys2Proof.Machine

/-! ## Session commands (R415, R416) -/

def State.vidResult (s : State) (n result reason : Nat) : State :=
  ((s.wr F.VID_STATUS_result result n).wr F.VID_STATUS_reason reason n).wr F.VID_STATUS_busy 0 n

/-- Bytes 0 to 63 of a window's VID_DATA registers. -/
def State.vidData (s : State) (n : Nat) : List Byte := (List.range 8).flatMap (fun i => leBytes 8 (s.rd F.VID_DATA_data n i))

/-- A command of window n on the session that VID_SEL names: reach, RANGE, STATE, then the command, which answers a reason of Table 16.8 or
its effect. -/
def State.vidCommand (s : State) (m : Master) (n : PartId) (allowed : State → Nat → Bool) (f : State → Nat → Nat ⊕ State) : Res :=
  guardHcs (s.isTenant n.val m) s fun s =>
    let k := s.rd F.VID_SEL_session n.val
    if 79 < k ∨ s.videoOwner k ≠ n.val then s.vidResult n.val 3 1
    else if !allowed s k then s.vidResult n.val 3 2
    else match f s k with
      | .inl r => s.vidResult n.val 3 r
      | .inr t => t.vidResult n.val 1 0

/-- Pool buffer bytes for samples of b half-bytes pairs: 2 for 8-bit streams, 4 for 10-bit ones (R402). -/
def poolBuffer (w h b : Nat) : Nat := roundUp (roundUp w 16 * roundUp h 16 * b) 4096

/-- Luma samples per second of a session's declared pictures (R397). -/
def vidLoad (w h fps : Nat) : Nat := ceilDiv w 16 * ceilDiv h 16 * 256 * fps

/-- Bytes of an output buffer at the declared size (Table 16.5). A RAW picture of an 8-bit stream is the least that a stream may need. -/
def outBytes (x : VidSession) : Nat :=
  if x.b 0x1A 1 = 0 then roundUp (x.b 4 2) 64 * (x.b 6 2 + ceilDiv (x.b 6 2) 2)
  else
    let px := x.b 0x28 2 * x.b 0x2A 2
    let ch := if x.b 0x1C 1 = 1 then 16 else 3
    px * ch * (if x.b 0x1B 1 ≤ 2 then 2 else 1)

/-- A field unused by the session's kind, or a reserved one, is used (reason RESERVED). -/
def vidReserved (x : VidSession) : Bool :=
  if x.encodes then x.b 2 1 ≠ 0 || x.b 0xA 1 ≠ 0 || x.b 0x1D 1 ≠ 0 || x.b 0x2E 2 ≠ 0 || leVal (slice x.desc 0x36 10) ≠ 0
  else x.b 0x1E 2 ≠ 0 || x.b 0x3C 4 ≠ 0

/-- Whether every field lies in Table 16.7 and the load fits the shares (reason FIELD). Fields of an input or output form that the
descriptor does not choose are not judged (DEDUCED, log). -/
def vidFieldsOk (x : VidSession) (k : Nat) : Bool :=
  let w := x.b 4 2
  let h := x.b 6 2
  let fps := x.b 8 2
  decide (x.b 1 1 ≤ 1 ∧ 1 ≤ x.shares ∧ x.shares ≤ 16 ∧ w % 2 = 0 ∧ h % 2 = 0 ∧ vidLoad w h fps ≤ x.shares * 62668800) &&
  (if x.encodes then
    decide (64 ≤ k ∧ x.shares = 1 ∧ 2 ≤ w ∧ w ≤ 1920 ∧ 2 ≤ h ∧ h ≤ 1088 ∧ 1 ≤ fps ∧ fps ≤ 60 ∧ x.b 0xB 1 = 2 ∧ 96 ≤ x.b 0xE 1 ∧ x.b 0xE 1 ≤ 127 ∧
      x.b 0xF 1 ≤ 3 ∧ x.b 0x1A 1 ≤ 51 ∧ x.b 0x1A 1 ≤ x.b 0x1B 1 ∧ x.b 0x1B 1 ≤ 51 ∧ x.b 0x1C 1 ≤ 63 ∧ 1 ≤ x.b 0x1E 2 ∧ 100 ≤ x.b 0x28 4 ∧
      x.b 0x28 4 ≤ 100000)
  else
    decide (k + x.shares - 1 ≤ 63 ∧ x.b 0 1 = 0 ∧ x.b 2 1 ≤ 1 ∧ x.b 0xA 1 ≤ 1 ∧ (x.b 2 1 = 0 → x.b 0xA 1 = 0) ∧ 64 ≤ w ∧ w ≤ 4096 ∧ 64 ≤ h ∧
      h ≤ 2304 ∧ 1 ≤ fps ∧ fps ≤ 240 ∧ 2 ≤ x.b 0xB 1 ∧ x.b 0xB 1 ≤ 17 ∧ x.b 0x1A 1 ≤ 1 ∧ x.b 0x2C 4 % 64 = 0 ∧ outBytes x ≤ x.b 0x2C 4) &&
    (!x.rtp || decide (96 ≤ x.b 0xE 1 ∧ x.b 0xE 1 ≤ 127 ∧ x.b 0xF 1 ≤ 64)) &&
    (x.b 0x1A 1 = 0 || decide (x.b 0x1B 1 ∈ [1, 2, 3, 11] ∧ x.b 0x1C 1 ≤ 1 ∧ x.b 0x1D 1 ≤ 2 ∧ 16 ≤ x.b 0x28 2 ∧ x.b 0x28 2 ≤ 4096 ∧
      16 ≤ x.b 0x2A 2 ∧ x.b 0x2A 2 ≤ 4096)))

/-- The reason that refuses an OPEN, or 0; the reasons are judged in ascending value (DEDUCED, log). -/
def State.openReason (s : State) (n k : Nat) (x : VidSession) : Nat :=
  let pool := x.b 0x10 8
  let poolLen := x.b 0xB 1 * poolBuffer (x.b 4 2) (x.b 6 2) 2
  let r := x.ring
  let ringOk := decide (s.ringOwner r = n ∧ s.ringKind r = 3 ∧ (s.ring r).desc.weight = 1 ∧ s.ringState r = 1)
  let out := x.b 0x20 8
  let outLen := (s.ring r).desc.size * x.b 0x2C 4
  let outOk := x.encodes || !ringOk || ((addrKind out = 2 || addrKind out = 4) && addrOk out && s.mayWrite n out outLen)
  let udp := x.b 0xC 2
  let p := s.part n
  let bound := (List.range 64).any (fun j => j ≠ k && s.vidOpened j && s.videoOwner j = n && (s.vid j).rtp && (s.vid j).b 0xC 2 = udp)
  if vidReserved x then 3
  else if !vidFieldsOk x k then 4
  else if (List.range (x.shares - 1)).any (fun j => s.videoOwner (k + 1 + j) ≠ n || s.vidState (k + 1 + j) ≠ 0) then 5
  else if !s.ddrOwned n pool poolLen || s.inImage n pool poolLen || !outOk then 6
  else if !ringOk then 7
  else if x.rtp && (!decide (p.udpFirst ≤ udp ∧ udp < p.udpFirst + p.udpCount) || bound) then 8
  else 0

/-- OPEN (R397, R416). -/
def execVidOpen (m : Master) (n : PartId) (s : State) : Res :=
  s.vidCommand m n (fun s k => s.vidState k = 0) fun s k =>
    let x : VidSession := { desc := s.vidData n.val }
    match s.openReason n.val k x with
    | 0 =>
      let s := (s.rstReg .VID_STATE k).setVidState k 1
      let s := (List.range (x.shares - 1)).foldl (fun s j => s.setVidState (k + 1 + j) 4) s
      .inr (s.setVid k { x with marks := List.replicate (x.b 0xB 1) 0, qp := x.b 0x1A 1, seqOut := x.b 0x24 4 % 65536 })
    | r => .inl r

/-- CLOSE. -/
def execClose (m : Master) (n : PartId) (s : State) : Res :=
  s.vidCommand m n State.vidOpened fun s k => .inr (s.closeSession k)

/-- FEED: the two words of VID_DATA join the queue (R412, R415). A decode feed names plain DDR4 bytes (DEDUCED, log). -/
def execFeed (m : Master) (n : PartId) (s : State) : Res :=
  s.vidCommand m n (fun s k => s.vidOpened k && !(s.vid k).rtp) fun s k =>
    let x := s.vid k
    let a := s.rd F.VID_DATA_data n.val 0
    let w := s.rd F.VID_DATA_data n.val 1
    let len := w % 2 ^ 25
    let pitch := w % 65536
    let src := pitch * (x.b 6 2 + ceilDiv (x.b 6 2) 2)
    let reserved := !x.encodes && bits w 62 25 ≠ 0
    let field := if x.encodes then decide (pitch % 64 = 0 ∧ x.b 4 2 ≤ pitch) else decide (1 ≤ len ∧ len ≤ 16777216)
    let inMem := if x.encodes then (addrKind a = 2 || addrKind a = 4) && addrOk a && s.addrIn n.val a src else s.ddrOwned n.val a len
    if reserved then .inl 3 else if !field then .inl 4 else if !inMem then .inl 6
    else if 16 ≤ x.feeds.length then .inl 9
    else .inr (s.setVid k { x with feeds := x.feeds ++ [(a, w)] })

/-- FLUSH: queued input goes; pictures that wait leave as PICTURE_DECODED reports them; the session is in SYNC (R404). -/
def execFlush (m : Master) (n : PartId) (s : State) : Res :=
  s.vidCommand m n State.vidOpened fun s k =>
    let x := s.vid k
    let x := { x with window := [], cur := none, units := [], feeds := [], lossAt := 0, lossDue := false, nextSeq := none
                      letOut := !x.encodes && s.vidState k = 2 }
    .inr ((s.setVid k x).setVidState k 1)

/-- READ: the descriptor of an open session. -/
def execVidRead (m : Master) (n : PartId) (s : State) : Res :=
  s.vidCommand m n (fun s k => s.vidOpened k || (s.vidState k = 5 && (s.vid k).desc ≠ [])) fun s k =>
    .inr ((List.range 8).foldl (fun s i => s.wr F.VID_DATA_data (leAt (s.vid k).desc (8 * i) 8) n.val i) s)

/-- R401: 20 ms after the first later packet the missing ones are lost. -/
def execPacketLossTimeout (k : SessId) (s : State) : Res :=
  let x := s.vid k.val
  if x.lossAt ≠ 0 ∧ x.window ≠ [] then
    let s := s.advanceTo (x.lossAt + 20000000)
    let x := VidSession.drain (x.window.length + 1) x true
    .next (s.setVid k.val { x with lossAt := if x.window = [] then 0 else s.clk })
  else .next s

/-! ## Decode output (R404 to R409) -/

/-- The samples of a plane whose concealed blocks take the co-located samples of the last output picture, or the mid-level (R405). -/
def concealPlane (w bw : Nat) (blocks : Nat) (bad : List Nat) (mid : Nat) (old : Option (List Nat)) (plane : List Nat) : List Nat :=
  plane.zipIdx.map (fun p =>
    let b := p.2 / max w 1 / bw * blocks + p.2 % max w 1 / bw
    if bad.contains b then (match old with | some o => o.getD p.2 mid | none => mid) else p.1)

/-- A picture with its concealed blocks filled. -/
def concealed (pic : Picture) (last : Option Picture) : Picture :=
  let old := match last with | some q => if q.width = pic.width ∧ q.height = pic.height then some q else none | none => none
  let mid := if pic.tenBit then 0x200 else 0x80
  let bl := ceilDiv pic.width 16
  let f := fun w bw (o : Option (List Nat)) p => concealPlane w bw bl pic.concealed mid o p
  let cw := ceilDiv pic.width 2
  { pic with luma := f pic.width 16 (old.map (·.luma)) pic.luma, cb := f cw 8 (old.map (·.cb)) pic.cb, cr := f cw 8 (old.map (·.cr)) pic.cr }

/-- A row of RAW samples: bytes, or 16-bit words with the sample in bits [15:6] (Table 16.5). -/
def rawRow (tenBit : Bool) (l : List Nat) : List Byte :=
  l.flatMap (fun v => if tenBit then leBytes 2 (v * 64) else leBytes 1 v)

/-- RAW output: NV12 or P010. -/
def State.putRaw (s : State) (n a : Nat) (pic : Picture) : State :=
  let cw := ceilDiv pic.width 2
  let pitch := roundUp (pic.width * (if pic.tenBit then 2 else 1)) 64
  let s := (List.range pic.height).foldl (fun s y =>
    s.store n (a + y * pitch) (rawRow pic.tenBit (pic.luma.drop (y * pic.width) |>.take pic.width))) s
  (List.range (ceilDiv pic.height 2)).foldl (fun s y =>
    let row := (List.range cw).flatMap (fun x => [pic.cb.getD (y * cw + x) 0, pic.cr.getD (y * cw + x) 0])
    s.store n (a + (pic.height + y) * pitch) (rawRow pic.tenBit row)) s

def natF (v : Nat) : W32 := roundF 0 (FV.ofInt v 0)
/-- A decimal constant of m × 10^(−6) in FP32. -/
def milF (v : Nat) : W32 := roundF 0 (FV.quot (.num false v 0) (.num false 1000000 0)).1

/-- The source coordinate of an output position along an axis (R407 step 1). -/
def srcCoord (x extent out : Nat) : W32 :=
  let t := fSub 0 (fDiv (fMul 0 (fAdd 0 (natF x) fHalf) (natF extent)) (natF out)) fHalf
  fMin (fMax t 0#32) (natF (extent - 1))

/-- A plane sampled bilinearly: along x, then along y, each as a + f × (b − a) (DEDUCED, log). -/
def samplePlane (w h : Nat) (plane : List Nat) (x y : W32) : W32 :=
  let cx := fMin x (natF (w - 1))
  let cy := fMin y (natF (h - 1))
  let x0 := (toIntClamp 1 0 65535 (decF cx)).toNat
  let y0 := (toIntClamp 1 0 65535 (decF cy)).toNat
  let at_ := fun i j => natF (plane.getD (min j (h - 1) * w + min i (w - 1)) 0)
  let mix := fun f a b => fAdd 0 a (fMul 0 f (fSub 0 b a))
  let fx := fSub 0 cx (natF x0)
  mix (fSub 0 cy (natF y0)) (mix fx (at_ x0 y0) (at_ (x0 + 1) y0)) (mix fx (at_ x0 (y0 + 1)) (at_ (x0 + 1) (y0 + 1)))

/-- R, G and B of an output position, each clamped to 0 to 1 (R407 steps 1 to 3). -/
def rgbAt (pic : Picture) (outW outH matrix : Nat) (x y : Nat) : List W32 :=
  let cw := ceilDiv pic.width 2
  let ch := ceilDiv pic.height 2
  let sx := srcCoord x pic.width outW
  let sy := srcCoord y pic.height outH
  let hx := fMul 0 sx fHalf
  let hy := fMul 0 sy fHalf
  let depth := fun v => if pic.tenBit then fDiv v (natF 4) else v
  let yy := depth (samplePlane pic.width pic.height pic.luma sx sy)
  let cb := fSub 0 (depth (samplePlane cw ch pic.cb hx hy)) (natF 128)
  let cr := fSub 0 (depth (samplePlane cw ch pic.cr hx hy)) (natF 128)
  let yn := if pic.fullRange then fDiv yy (natF 255) else fDiv (fSub 0 yy (natF 16)) (natF 219)
  let span := natF (if pic.fullRange then 255 else 224)
  let pb := fDiv cb span
  let pr := fDiv cr span
  let bt601 := decide (matrix = 2 ∨ (matrix = 0 ∧ (pic.matrix = 5 ∨ pic.matrix = 6)))
  let k := fun a b => milF (if bt601 then a else b)
  let clamp := fun v => fMin (fMax v 0#32) fOne
  [clamp (fAdd 0 yn (fMul 0 (k 1402000 1574800) pr)),
   clamp (fSub 0 (fSub 0 yn (fMul 0 (k 344136 187300) pb)) (fMul 0 (k 714136 468100) pr)),
   clamp (fAdd 0 yn (fMul 0 (k 1772000 1855600) pb))]

/-- TENSOR output (R407). -/
def State.putTensor (s : State) (n a : Nat) (x : VidSession) (pic : Picture) : State :=
  let w := x.b 0x28 2
  let h := x.b 0x2A 2
  let t : TRef := ⟨a, 0, 0, x.b 0x1B 1, x.b 0x1C 1, [1, 3, h, w], false⟩
  let bf := fun o => roundF 0 (fmtDec 1 (x.b o 2))
  (s.putValues n t t.lastAxis 0 (some true) (fun i =>
    let c := i.getD 1 0
    let v := (rgbAt pic w h (x.b 0x1D 1) (i.getD 3 0) (i.getD 2 0)).getD c 0#32
    decF (fMul 0 (fSub 0 v (bf (0x30 + 2 * c))) (bf (0x36 + 2 * c))))).1

/-- A record of session k on its ring; answers whether it was written (R408, R409). -/
def State.vidRecord (s : State) (k status : Nat) (body : List Byte) : State × Bool :=
  let r := (s.vid k).ring
  let t := s.produce r { status := status, kind := 3, srcRing := r, srcIndex := s.ringPi r, body := body }
  if t.2 then ((t.1.tally (660 + k) 1).count (s.videoOwner k) 0x15 1 { master := some 5, cls := some 6 }, true) else t

/-- R404: cause LIMIT: the session is REFUSED with one record that consumes no buffer. -/
def State.vidRefuse (s : State) (k : Nat) (pic : Picture) : State :=
  let x := s.vid k
  let body := leBytes 1 k ++ leBytes 1 (8 * ofBool x.gap) ++ leBytes 1 5 ++ leBytes 1 0 ++ leBytes 4 x.frameNo ++ leBytes 8 pic.arrival ++
    leBytes 4 pic.rtpTime ++ leBytes 4 0 ++ leBytes 8 0 ++ leBytes 2 0 ++ leBytes 2 0 ++ leBytes 4 0 ++ leBytes 8 s.modTime
  let s := s.setVidState k 3
  let r := s.vidRecord k 0x19 body
  if r.2 then (r.1.inc F.VID_STATE_damaged k).setVid k { x with gap := false } else r.1

/-- R406 to R409: a picture leaves the pool in output order. The marks of the pool are those that the stream's standard sets, which the
spec leaves to it. -/
def execPictureDecoded (k : SessId) (pic : Picture) (s : State) : Res :=
  let x := s.vid k.val
  let st := s.vidState k.val
  if !s.vidOpened k.val ∨ x.encodes then .next s
  else
    let s := if pic.damage = 4 then s.event Src.video 1 else s
    if pic.damage = 5 then .next (if st = 3 then s else s.vidRefuse k.val pic)
    else if !pic.randomAccess ∧ st ≠ 2 ∧ !(st = 1 ∧ (x.letOut ∨ pic.recovering)) then .next s
    else
      let n := s.videoOwner k.val
      let total := ceilDiv pic.width 16 * ceilDiv pic.height 16
      let d := s.fresh
      let s := s.draw.setVidState k.val (if pic.randomAccess ∨ pic.recovering then 2 else st)
      let units := if x.rtp then x.units.drop 1 else x.units
      let feeds := if x.rtp then x.feeds else (x.feeds.dropWhile (fun f => !bit f.2 63)).drop 1
      let bad := !x.unreliable || pic.randomAccess
      let unrel := (!bad && x.unreliable) || pic.recovering
      let hurt := decide (pic.concealed ≠ []) || pic.fromDamaged
      let marks := (List.range x.marks.length).map (fun i => Config.choice d i % 8)
      let x := { x with units := units, feeds := feeds, marks := marks, letOut := x.letOut && !pic.randomAccess
                        unreliable := (x.unreliable && !pic.randomAccess) || hurt || pic.recovering }
      if total ≤ pic.concealed.length then .next (s.setVid k.val { x with gap := true })
      else
        let full := concealed pic x.picture
        let changed := match x.picture with | some q => q.width ≠ pic.width || q.height ≠ pic.height | none => false
        let r := x.ring
        let status := if pic.concealed ≠ [] ∨ unrel then 0x19 else 0
        let y := { x with picture := some full, frameNo := (x.frameNo + 1) % 2 ^ 32 }
        let i := s.ringPi r % max (s.ring r).desc.size 1
        let buf := x.b 0x20 8 + i * x.b 0x2C 4
        let room := s.ringWritable r && decide (0 < s.ringFree r) &&
          !(addrKind buf = 4 && s.blockedUnit (buf % 2 ^ 60) (x.b 0x2C 4)) && !s.blockedUnit (s.entryAt r (s.ringPi r)) 64
        if !room then .next ((s.inc F.VID_STATE_dropped k.val).setVid k.val { y with gap := true })
        else
          let s := if x.b 0x1A 1 = 0 then s.putRaw n buf full else s.putTensor n buf x full
          let flags := ofBool (pic.concealed ≠ []) + 2 * ofBool unrel + 4 * ofBool pic.randomAccess + 8 * ofBool x.gap + 16 * ofBool changed
          let body := leBytes 1 k.val ++ leBytes 1 flags ++ leBytes 1 pic.damage ++ leBytes 1 0 ++ leBytes 4 x.frameNo ++
            leBytes 8 (if x.rtp then pic.arrival else 0) ++ leBytes 4 (if x.rtp then pic.rtpTime else 0) ++ leBytes 4 pic.concealed.length ++
            leBytes 8 buf ++ leBytes 2 pic.width ++ leBytes 2 pic.height ++ leBytes 4 total ++ leBytes 8 s.modTime
          let t := (s.vidRecord k.val status body).1
          let t := if status = 0x19 then t.inc F.VID_STATE_damaged k.val else t
          .next (t.setVid k.val { y with gap := false })

/-! ## Encoding (R412 to R414) -/

/-- The NAL units of an Annex B access unit: what stands between start codes (PRESUMED, log). `acc` is the unit that grows. -/
def nalUnits : List Byte → List Byte → List (List Byte)
  | [], acc => if acc = [] then [] else [acc]
  | 0#8 :: 0#8 :: 1#8 :: t, acc => (if acc = [] then [] else [acc]) ++ nalUnits t []
  | b :: t, acc => nalUnits t (acc ++ [b])

/-- A list cut into pieces of at most n. -/
def pieces (n : Nat) : Nat → List Byte → List (List Byte)
  | 0, _ => []
  | k + 1, l => if l = [] then [] else l.take n :: pieces n k (l.drop n)

/-- The RTP payloads of a NAL unit: itself up to 1,400 bytes, else fragmentation units of RFC 6184 (FU-A) or RFC 7798 (FU). -/
def nalPayloads (h265 : Bool) (nal : List Byte) : List (List Byte) :=
  if nal.length ≤ 1400 then [nal]
  else
    let hd := if h265 then 2 else 1
    let ps := pieces (1400 - hd - 1) nal.length (nal.drop hd)
    let b0 := leAt nal 0 1
    ps.zipIdx.map (fun p =>
      let se := 128 * ofBool (p.2 = 0) + 64 * ofBool (p.2 + 1 = ps.length)
      if h265 then leBytes 1 (b0 &&& 0x81 ||| 98) ++ slice nal 1 1 ++ leBytes 1 (se + b0 / 2 % 64) ++ p.1
      else leBytes 1 (b0 &&& 0xE0 ||| 28) ++ leBytes 1 (se + b0 % 32) ++ p.1)

/-- An access unit leaves as RTP (R414): packets of a port that is not UP are dropped and counted. -/
def State.sendRtp (s : State) (k stamp : Nat) (au : List Byte) : State :=
  let x := s.vid k
  let p := x.b 0xF 1
  let ps := (nalUnits au []).flatMap (nalPayloads (x.b 1 1 = 1))
  let s := ps.zipIdx.foldl (fun s q =>
    let m := 128 * ofBool (q.2 + 1 = ps.length)
    let pkt := [0x80#8] ++ leBytes 1 (m + x.b 0xE 1) ++ beBytes 2 (x.seqOut + q.2) ++ beBytes 4 stamp ++ beBytes 4 (x.b 0x24 4) ++ q.1
    if s.rd F.PLANT_PORT_STATE_link p = 3 then
      (s.emit (.frame p (s.udpFrame p (x.b 0x30 6) (x.b 0x20 4) (x.b 0x2C 2) (x.b 0xC 2) (x.b 0x1C 1) pkt))).tally (592 + p) 1
    else s.inc F.VID_STATE_dropped k) s
  s.setVid k { s.vid k with seqOut := (x.seqOut + ps.length) % 65536 }

/-- The next QP from the bits of the last fps units (R413). -/
def nextQp (q base most bitsSum cap : Nat) : Nat :=
  if 9 * cap < 10 * bitsSum then min (q + 1) most else if 10 * bitsSum < 7 * cap then max (q - 1) base else q

/-- R414: an access unit is encoded from the feed at the head of the queue. A source that cannot be read gives READ_UNCORRECTABLE and
sends nothing. `idr` is as R412 determines it; another value is impossible. -/
def execEncodeDone (k : SessId) (au : List Byte) (idr : Bool) (s : State) : Res :=
  let x := s.vid k.val
  if !s.vidOpened k.val ∨ !x.encodes then .next s
  else match x.feeds with
  | [] => .next s
  | f :: rest =>
    let n := s.videoOwner k.val
    let capture := bits f.2 62 16 * 1024
    let stamp := capture * 9 / 100000 % 2 ^ 32
    let len := f.2 % 65536 * (x.b 6 2 + ceilDiv (x.b 6 2) 2)
    let record := fun (s : State) status flags qp bytes =>
      (s.vidRecord k.val status (leBytes 1 k.val ++ leBytes 1 flags ++ leBytes 1 qp ++ leBytes 1 0 ++ leBytes 4 bytes ++ leBytes 8 capture ++
        leBytes 4 stamp)).1
    if !s.addrIn n f.1 len ∨ (s.unreadable f.1 len).isSome then
      let s := match s.unreadable f.1 len with | some a => s.meetAt a | none => s
      .next (record (s.setVid k.val { x with feeds := rest }) 0x12 0 x.qp 0)
    else if idr ≠ (x.encoded % max (x.b 0x1E 2) 1 = 0 || bit f.2 63) then .next s
    else
      let sizes := (x.sizes ++ [8 * au.length]).reverse.take (x.b 8 2) |>.reverse
      let sum := sizes.sum
      let cap := x.b 0x28 4 * 1000
      let above := decide (cap < sum)
      let s := (s.setVidState k.val 2).setVid k.val
        { x with feeds := rest, sizes := sizes, encoded := x.encoded + 1, qp := nextQp x.qp (x.b 0x1A 1) (x.b 0x1B 1) sum cap
                 marks := if x.encoded % 2 = 0 then [2, 0] else [0, 2] }
      let s := s.sendRtp k.val stamp au
      let s := if above then s.inc F.VID_STATE_foreign k.val else s
      .next (record s 0 (ofBool idr + 2 * ofBool above) x.qp au.length)

end Sys2Proof.Machine
end

