-- ==== Sys2Proof/Machine/Access.lean ====
section
/-! DEFINITION. Accesses to the control spaces (R9, R11 to R14, R44, R595): a write of any register, with what the registers of each chapter
do beside taking their fields; the accesses that are errors. -/

namespace Sys2Proof.Machine

/-- The state that a meaning leads to. -/
def nextOf (s : State) : Res → State
  | .next t => t
  | _ => s

/-- A register value as a 64-bit word. -/
def word (v : Nat) : W64 := BitVec.ofNat 64 v

/-- A write of PLANT_PORT_CTRL_k (R374): an enabled port is DOWN until its link comes up; a disabled one ends its link and its cause. -/
def State.plantCtrl (s : State) (k v : Nat) : State :=
  let was := s.rdB F.PLANT_PORT_CTRL_enable k
  let s := s.applyWrite .PLANT_PORT_CTRL v k 0
  let now := s.rdB F.PLANT_PORT_CTRL_enable k
  if was = now then s
  else if now then s.wr F.PLANT_PORT_STATE_link 1 k
  else ((s.wr F.PLANT_PORT_STATE_link 0 k).causeEnds (Src.plant k) 2).ptpChoose

/-- A write of PTP_CTRL (R379, R380): PTP disabled is FREE_RUN. -/
def State.ptpCtrl (s : State) (v : Nat) : State :=
  let s := s.applyWrite .PTP_CTRL v 0 0
  if s.rdB F.PTP_CTRL_enable then s.ptpChoose
  else { s.wr F.PTP_STATE_state 0 with ptp := { s.ptp with good := 0, interval := 0, due := 0, slew := 0 } }

/-- NYPRA_CMD (Table 2.14). -/
def State.nypraWrite (s : State) (m : Master) (v : Nat) : State :=
  nextOf s (match bits v 3 0 with
    | 1 => execVerify m s
    | 2 => execApply m s
    | 3 => execDiscard m s
    | 4 => execRemove m (Fin.ofNat 16 (bits v 11 8)) s
    | 5 => execCommitVersion m s
    | _ => s.nypraCommand m fun s => s.setB F.NYPRA_EVENT_cmd_rejected)

/-- WIMG_CMD_n (Table 7.7). -/
def State.wimgWrite (s : State) (m : Master) (n : PartId) (v : Nat) : State :=
  nextOf s (match bits v 3 0 with
    | 1 => execLoad m n s
    | 2 => execReplace m n s
    | 3 => execUnload m n s
    | 4 => execAbort m n s
    | 5 => execCheck m n s
    | _ => s.loaderCommand m n false (fun _ => false) fun s => s)

/-- PAGE_CMD (Table 10.8). -/
def State.pageWrite (s : State) (m : Master) (v : Nat) : State :=
  nextOf s (match bits v 3 0 with
    | 1 => execQuarantine m (bits v 32 12) s
    | 2 => execPageRelease m (bits v 32 12) s
    | 3 => execFence m (Fin.ofNat 16 (bits v 11 8)) s
    | _ => s.pageCommand m (fun _ => false) fun s => s)

/-- REQ_CMD_n (Table 11.2). -/
def State.reqWrite (s : State) (m : Master) (n : PartId) (v : Nat) : State :=
  nextOf s (match bits v 3 0 with
    | 1 => execSubmit m n s
    | 2 => execCancel m n s
    | 3 => execReqPause m n s
    | 4 => execReqResume m n (bits v 28 8) s
    | 5 => execReqRead m n s
    | _ => s.reqCommand m n.val [] fun s _ => s)

/-- RING_CMD_n (Table 12.9). -/
def State.ringWrite (s : State) (m : Master) (n : PartId) (v : Nat) : State :=
  nextOf s (match bits v 3 0 with
    | 1 => execCreate m n s
    | 2 => execDestroy m n s
    | 3 => execRingPause m n s
    | 4 => execRingResume m n s
    | 5 => execDrain m n s
    | 6 => execRingReset m n s
    | 7 => execRingRead m n s
    | _ => s.ringCommand m n false (fun _ _ => false) fun s _ => s)

/-- VID_CMD_n (Table 16.11); a reserved op is refused with RESERVED. -/
def State.vidWrite (s : State) (m : Master) (n : PartId) (v : Nat) : State :=
  nextOf s (match bits v 2 0 with
    | 1 => execVidOpen m n s
    | 2 => execClose m n s
    | 3 => execFeed m n s
    | 4 => execFlush m n s
    | 5 => execVidRead m n s
    | _ => s.vidCommand m n (fun _ _ => true) fun _ _ => .inl 3)

/-- SEC_CMD_n (Table 17.14). -/
def State.secWrite (s : State) (m : Master) (n : PartId) (v : Nat) : State :=
  nextOf s (match bits v 3 0 with
    | 1 => execAttest m n s
    | 2 => execKeyImport m n s
    | 3 => execKeyDelete m n (BitVec.ofNat 16 (bits v 31 16)) s
    | 4 => execConsentSubmit m n s
    | 5 => execConsentRevoke m n s
    | _ => guardHcs (s.isTenant n.val m) s fun s => s.wr F.SEC_STATUS_result 4 n.val)

/-- FW_CMD (Table 18.6); P0's service cores may write CONFIRM only (R461). -/
def State.fwCmdWrite (s : State) (m : Master) (v : Nat) : State :=
  let k : Fin 2 := Fin.ofNat 2 (bits v 4 4)
  nextOf s (match bits v 3 0 with
    | 1 => execWriteMgmt m s
    | 2 => execWriteSlot m k s
    | 3 => execArm m k s
    | 4 => execDisarm m k s
    | 5 => execConfirm m s
    | 6 => execCommitMgmt m s
    | 7 => execCommitRuntime m s
    | _ => s.fwCommand (m = .mgc) fun s => s.fwResult 4 0)

/-- FAULT_CMD (Table 19.11). -/
def State.faultWrite (s : State) (m : Master) (v : Nat) : State :=
  let i : SourceId := Fin.ofNat 256 (bits v 15 8)
  nextOf s (match bits v 3 0 with
    | 1 => execFaultAck m i s
    | 2 => execFaultClear m i s
    | 3 => execAckAll m s
    | _ => guardHcs (s.isOperator m) s fun s => s.faultCmd 4 0)

/-- A write by a master that reaches the register: its fields take their values (R11, R13), and what the register's chapter adds happens. -/
def State.writeReg (s : State) (m : Master) (r : RegId) (i j v : Nat) : State :=
  let plain := s.applyWrite r v i j
  let n : PartId := Fin.ofNat 16 i
  let k : ChanId := Fin.ofNat 64 i
  match r with
  | .NYPRA_CMD => s.nypraWrite m v
  | .WIMG_CMD => s.wimgWrite m n v
  | .TILE_SELFTEST => nextOf s (execTileSelftestStart m (Fin.ofNat 4 i) (word v) s)
  | .PAGE_AUDIT => if bit v 0 then nextOf plain (execAuditSweep (some m) plain) else plain
  | .PAGE_CMD => s.pageWrite m v
  | .REQ_CMD => s.reqWrite m n v
  | .REQ_EVENT => if (s.srv i).waits = [] then plain else plain.setB F.REQ_EVENT_completion_wait i
  | .RING_CMD => s.ringWrite m n v
  | .RING_PI => nextOf s (execProducerDoorbell m (Fin.ofNat 4096 i) (word v) s)
  | .RING_CI => nextOf s (execConsumerDoorbell m (Fin.ofNat 4096 i) (word v) s)
  | .LINK_ID => if (List.range 18).all (fun p => s.linkState p ≤ 1) then plain else s
  | .LINK_ROUTE_DATA => nextOf s (execRouteEntryWrite m (word v) s)
  | .LINK_PORT_CTRL => s.linkCtrl m i (word v)
  | .PLANT_PORT_CTRL => s.plantCtrl i v
  | .PTP_CTRL => s.ptpCtrl v
  | .PO_CFG => plain.setPo i { plain.poChan i with due := plain.clk + plain.rd F.PO_CFG_period_ms i * 1000000 }
  | .PO_TX => nextOf s (execPoTx m k (BitVec.ofNat 11 v) s)
  | .CV_CFG => nextOf s (execCvCfgWrite m k (word v) s)
  | .CV_SCAN_LEN => nextOf s (execScanStart m k (word v) s)
  | .VID_CMD => s.vidWrite m n v
  | .SEC_CMD => s.secWrite m n v
  | .FW_CMD => s.fwCmdWrite m v
  | .FAULT_CTRL => plain.faultPin
  | .FAULT_CMD => s.faultWrite m v
  | .FAULT_INJECT => nextOf s (execFaultInject m (word v) s)
  | .FAULT_SRC_CFG | .FAULT_SRC_STATUS => if i < 106 then plain else s
  | .AMBER_IDX => nextOf s (execAmberLogClear m (word v) s)
  | .REDUN_CTRL => nextOf s (execWatchdogKick m (word v) s)
  | .REDUN_CMD => if bits v 3 0 = 1 then nextOf s (execHandover m s) else s.wr F.REDUN_STATE_cmd_result 4
  | .PWR_CTRL => nextOf s (execMgmtCapWrite m (word v) s)
  | .PWR_CAP_LVL_MAP => plain.plan
  | .BBS_DATA => nextOf s (execBbsWrite m (word v) s)
  | .BBS_BATTERY => if bit v 1 then s.setBattFlag 1 false else s
  | .SC_CONSOLE => s.consolePut (BitVec.ofNat 8 v)
  | .PERF_CNT => nextOf s (execPerfCntWrite m n (Fin.ofNat 8 j) (word v) s)
  | .PERF_CTRL => nextOf s (execFreeze m n (word v) s)
  | .OPC_IDX => nextOf s (execSnap m (word v) s)
  | .BW_CTRL => nextOf s (execBwWindowWrite m (word v) s)
  | .BW_PEAK => nextOf s (execPeakClear m (Fin.ofNat 46 i) (word v) s)
  | _ => plain

/-- An aligned 64-bit write at an offset: a gap and a register out of the master's reach are errors (R595, R44). -/
def State.writeAt (s : State) (m : Master) (sp : Space) (off v : Nat) : State :=
  match (if off % 8 = 0 then regAt sp off else none) with
  | none => s.accessNote sp
  | some (r, i, j) => if s.reaches m r i true then s.writeReg m r i j v else s.accessNote sp

/-- An aligned 64-bit read at an offset, with its value in `lastRead`; an error reads zero. -/
def State.readAt (s : State) (m : Master) (sp : Space) (off : Nat) : State :=
  match (if off % 8 = 0 then regAt sp off else none) with
  | none => { s.accessNote sp with lastRead := 0 }
  | some (r, i, j) => if s.reaches m r i false then s.takeRead m r i j else { s.accessNote sp with lastRead := 0 }

/-- A failed access: a note on the space's access-error source; a read returns zero (R9). -/
def State.accessFails (s : State) (sp : Space) (write : Bool) : State :=
  let s := s.accessNote sp
  if write then s else { s with lastRead := 0 }

/-- R11, R13: an aligned 64-bit write. -/
def execRegisterWrite (m : Master) (sp : Space) (off : Nat) (v : W64) (s : State) : Res := .next (s.writeAt m sp off v.toNat)

/-- R9: an access that is not an aligned 64-bit one. -/
def execAccessError (sp : Space) (_off : Nat) (write : Bool) (s : State) : Res := .next (s.accessFails sp write)

/-- R595: an aligned access where no register lies. Where one lies the command does not arise: a read is that register's, a write has no value
to give (log). -/
def execUndefinedOffsetAccess (m : Master) (sp : Space) (off : Nat) (write : Bool) (s : State) : Res :=
  match (if off % 8 = 0 then regAt sp off else none) with
  | none => .next (s.accessFails sp write)
  | some _ => .next (if write then s else s.readAt m sp off)

/-- R44: an access by a master that may not make it. Where it may, the command does not arise (log). -/
def execForbiddenMasterAccess (m : Master) (sp : Space) (off : Nat) (write : Bool) (s : State) : Res :=
  match (if off % 8 = 0 then regAt sp off else none) with
  | none => .next (s.accessFails sp write)
  | some (r, i, _) =>
    if s.reaches m r i write then .next (if write then s else s.readAt m sp off) else .next (s.accessFails sp write)

end Sys2Proof.Machine
end

