-- ==== Sys2Proof/Machine/StackOps.lean ====
section
/-! DEFINITION. Base dies (08): vectors in page frames, the compressor, what an engine computes on a query, the merge unit, and
uncorrectable stack words. -/

namespace Sys2Proof.Machine

/-! ## Vectors in frames (Table 10.1) -/

/-- The address of a byte of pseudo-channel pc. -/
def pcAddr (pc off : Nat) : Nat := 2 * 2 ^ 60 + pc * 2 ^ 48 + off

/-- Scale groups of a vector, and its stride. -/
def kvGroups (v : Serving) : Nat := ceilDiv v.headDim 64
def kvStride (v : Serving) : Nat := if v.kvFormat = 0 then 32 * kvGroups v else 16 * ceilDiv v.headDim 16

/-- The place of a vector among those of its page. -/
def kvIndex (v : Serving) (value : Bool) (head tok : Nat) : Nat := (ofBool value * v.kvHeads + head) * 2 ^ v.tppLog2 + tok

/-- The address of a page's frame; 0 where it has none. -/
def State.frameAddr (s : State) (page : Nat) : Nat := match s.frame page with | some (pc, off) => pcAddr pc off | none => 0

/-- A stored vector as decoded values (R64, R67, R66). -/
def State.kvRead (s : State) (v : Serving) (page : Nat) (value : Bool) (head tok : Nat) : List FV :=
  let i := kvIndex v value head tok
  let base := s.frameAddr page
  (List.range v.headDim).map (fun d =>
    if v.kvFormat = 0 then
      let b := (s.byte (base + i * kvStride v + d / 2)).toNat
      let sc := (s.byte (base + 65536 + i * kvGroups v + d / 64)).toNat
      FV.mul (e4m3.dec sc) (e2m1.dec (if d % 2 = 0 then b % 16 else b / 16))
    else e4m3.dec (s.byte (base + i * kvStride v + d)).toNat)

/-- The compressor writes a vector (R65, R67): its bytes, scale bytes and counters. `vec` holds codes in kv_input format. -/
def State.kvStore (s : State) (v : Serving) (page : Nat) (value : Bool) (head tok : Nat) (vec : List Nat) : State :=
  match s.frame page with
  | none => s
  | some (pc, off) =>
    let m := pc / 32
    let i := kvIndex v value head tok
    let base := pcAddr pc off
    let vals := (List.range v.headDim).map (fun d => fmtDec v.kvInput (vec.getD d 0))
    let s := (s.count (s.pageOwner page) 0x06 1 ({ master := some 1, cls := some 2 } : EvAttr)).tally (448 + m) 1
    if v.kvFormat = 0 then
      let gs := (chunked 64 vals).map kv4Group
      let codes := gs.flatMap (fun g => g.2.1 ++ List.replicate (64 - g.2.1.length) 0)
      let s := s.putBytes (base + i * kvStride v) (leBytes (kvStride v) (packCodes 4 codes))
      let s := s.putBytes (base + 65536 + i * kvGroups v) (gs.map (fun g => BitVec.ofNat 8 g.1))
      gs.foldl (fun s g =>
        let s := if g.2.2.1 then (s.inc F.KV_COMP_COUNT_nonfinite m).event (Src.stack m) 3 else s
        if g.2.2.2 then (s.inc F.KV_COMP_COUNT_saturated m).event (Src.stack m) 3 else s) s
    else
      let es := vals.map kv8Element
      let s := s.putBytes (base + i * kvStride v) (slice (es.map (fun e => BitVec.ofNat 8 e.1)) 0 (kvStride v))
      es.foldl (fun s e => if e.2 then (s.inc F.KV_COMP_COUNT_saturated m).event (Src.stack m) 3 else s) s

/-- The row of a slot that holds a position: in its list, or allocated for the step in flight (R265). -/
def State.rowAt (s : State) (n x pos : Nat) : Option Nat :=
  let k := pos / s.tpp n
  match (s.slot x).rows.find? (fun h => (s.page h).lpn = k) with
  | some h => some h
  | none => (s.srv n).journal.findSome? (fun e => match e.edit with | .alloc y r j => if y = x ∧ j = k then some r else none | _ => none)

/-- The page of a slot's position in a layer. -/
def State.pageAt (s : State) (n x layer pos : Nat) : Option Nat := (s.rowAt n x pos).map (· + layer)

/-- The engine of a page (R196), and its stack. -/
def State.engineOf (s : State) (page : Nat) : Option Nat := (s.frame page).map (fun f => f.1 / 2)

/-! ## What a walker computes (R212, R213) -/

/-- The score of a query row against a key (R212 steps 1 to 3). -/
def kvScore (scale : W32) (q k : List FV) : W32 :=
  let groups := chunked 64 ((q.zip k).map (fun p => FV.mul p.1 p.2))
  fMul 0 scale (groups.foldl (fun acc g => roundF 0 (FV.add 0 (decF acc) (exactSum g))) 0#32)

def negInf : W32 := 0xFF800000#32

/-- One token taken into a row's state (R212 step 4). -/
def RowAcc.take (a : RowAcc) (sc : W32) (v : List FV) : RowAcc :=
  if sc = negInf then a
  else
    let m := fMax a.m sc
    let c := if a.m = negInf then 0#32 else fExp (fSub 0 a.m m)
    let w := fExp (fSub 0 sc m)
    { m := m, l := fFma 0 a.l c w
      o := v.zipIdx.map (fun x => fFma 0 (a.o.getD x.2 0#32) c (fMul 0 w (roundF 0 x.1))) }

/-- Two partial rows merged (R218). -/
def RowAcc.merge (a b : RowAcc) : RowAcc :=
  if a.m = negInf then b
  else if b.m = negInf then a
  else
    let m := fMax a.m b.m
    let x := fExp (fSub 0 a.m m)
    let y := fExp (fSub 0 b.m m)
    { m := m, l := fFma 0 a.l x (fMul 0 b.l y)
      o := a.o.zipIdx.map (fun t => fFma 0 t.1 x (fMul 0 (b.o.getD t.2 0#32) y)) }

/-- What a walk gives: rows, pages walked, tokens included, mass records, pages left out. -/
structure Walk where
  rows : List RowAcc := []
  pages : Nat := 0
  tokens : Nat := 0
  masses : List Mass := []
  bad : List Nat := []
  deriving DecidableEq, Repr

/-- An empty row of head_dim elements. -/
def emptyRow (d : Nat) : RowAcc := { o := List.replicate d 0#32 }

/-- The walk of engine e on a query (R212, R213, R219, R236): the pages of the slot's list in its pseudo-channels up to the committed
length, in list order, then the carried tokens that lie there. Pages dropped in this epoch, and those in `bad`, are left out. -/
def State.walk (s : State) (q : Query) (e : Nat) (bad : List Nat) : Walk :=
  match s.serving q.part with
  | none => {}
  | some v =>
    let n := s.tpp q.part
    let x := s.slot q.slot
    let most := q.limits.foldl max 0
    let qs := q.rows.map (fun r => r.map (fmtDec v.kvInput))
    let take := fun (rows : List RowAcc) (page tok pos : Nat) =>
      let k := s.kvRead v page false q.head tok
      let w := s.kvRead v page true q.head tok
      let scores := qs.zipIdx.map (fun r => if pos < q.limits.getD r.2 0 then some (kvScore q.scale r.1 k) else none)
      (rows.zipIdx.map (fun a => match scores.getD a.2 none with | some sc => a.1.take sc w | none => a.1), scores.filterMap id)
    let pages := x.rows.filterMap (fun h =>
      let p := h + q.layer
      let lpn := (s.page h).lpn
      if s.engineOf p = some e ∧ lpn * n < min x.len most then some (p, lpn) else none)
    let w := pages.foldl (fun (w : Walk) pl =>
      if (s.srv q.part).droppedPages.contains pl.1 then { w with bad := w.bad ++ [pl.1] }
      else if bad.contains pl.1 then
        { w with bad := w.bad ++ [pl.1], masses := w.masses ++ [({ page := pl.1, layer := q.layer, head := q.head, pm := 0#32, ps := 0#32 } : Mass)] }
      else
        let toks := (List.range n).filter (fun t => decide (pl.2 * n + t < min x.len most))
        let r := toks.foldl (fun (a : List RowAcc × List W32) t =>
          let u := take a.1 pl.1 t (pl.2 * n + t)
          (u.1, a.2 ++ u.2)) (w.rows, [])
        let pm := foldF fMax r.2
        let ps := sumFree (fun k => Config.choice s.fresh (Nat.pair pl.1 k)) (r.2.map (fun sc => fExp (fSub 0 sc pm)))
        { w with rows := r.1, pages := w.pages + 1, tokens := w.tokens + toks.length
                 masses := w.masses ++ [({ page := pl.1, layer := q.layer, head := q.head, pm := pm, ps := ps } : Mass)] })
      { rows := q.rows.map (fun _ => emptyRow v.headDim) }
    (q.carried.filter (fun c => s.engineOf c.2 = some e && decide (c.1 < most))).foldl (fun (w : Walk) c =>
      { w with rows := (take w.rows c.2 (c.1 % n) c.1).1, tokens := w.tokens + 1 }) w

/-- What the module keeps of a walk: counts, mass records of the step (R243), and the slot's mark when a page was left out (R244). -/
def State.noteWalk (s : State) (q : Query) (e : Nat) (w : Walk) : State :=
  let s := (s.count q.part 0x07 w.tokens ({ master := some 1 } : EvAttr)).tally (320 + e) w.tokens
  let s := (s.count q.part 0x08 w.pages ({ master := some 1 } : EvAttr)).draw
  s.updSrv q.part (fun x => { x with step := x.step.map (fun t => { t with
    masses := t.masses ++ w.masses.filter (fun r => !w.bad.contains r.page)
    dropped := if w.bad ≠ [] ∧ !t.dropped.contains q.slot then t.dropped ++ [q.slot] else t.dropped }) })

/-- The bytes of a partial (R217). -/
def Query.partialBytes (q : Query) : List Byte :=
  leBytes 2 q.queryId ++ leBytes 1 q.stack ++ leBytes 1 (ofBool q.dropped) ++ leBytes 1 q.rows.length ++ leBytes 3 0 ++
    leBytes 4 q.pages ++ leBytes 4 q.tokens ++ q.acc.flatMap (fun a => leBytes 4 a.m.toNat ++ leBytes 4 a.l.toNat) ++
    q.acc.flatMap (fun a => a.o.flatMap (fun w => leBytes 4 w.toNat))

/-- Engines of Pn in a stack. -/
def State.enginesIn (s : State) (n m : Nat) : List Nat := (ownedIn s.struct.image.engines n).filter (fun e => e / 16 = m)

/-- R216: a query is discarded; the event is recorded, and the step in flight is discarded without commit. -/
def State.queryDiscard (s : State) (n : Nat) : State := ((s.event (Src.isolation n) 2).discardBoundary n).compose n

/-! ## Uncorrectable stack words (Table 8.2) -/

/-- The page whose frame holds a byte of a pseudo-channel of Pn. -/
def State.pageOfByte (s : State) (n pc off : Nat) : Option Nat :=
  let pcs := s.pcsOf n
  let p := (0x60000000 - 1 - off) / 66560 * pcs.length + pcs.idxOf pc
  if p < (s.part n).pageCount then some ((s.part n).pageFirst + p) else none

/-- The tag of a byte's block, as STACK_ERR codes it: 1 FREE, 2 RESIDENT, 3 STEP_LOCAL, 4 PAGES. -/
def State.blockTag (s : State) (pc off : Nat) : Nat :=
  let n := s.engineOwner (pc / 2)
  if s.pstate n ≠ 2 then 1
  else if s.pagesFloor n pc ≤ off then 4
  else match (s.wpart n).image with
    | none => 1
    | some im =>
      if im.resident.any (fun b => b.1 = pcAddr pc (off / 65536 * 65536)) then 2
      else if Config.stepLocal im.digest (pcAddr pc (off / 65536 * 65536)) then 3 else 1

/-- The word is recorded in STACK_ERR and on the stack source. -/
def State.noteStack (s : State) (pc word : Nat) : State :=
  let m := pc / 32
  let s := (s.inc F.STACK_ERR_uncorrectable m).wr F.STACK_ERR_tag (s.blockTag pc (16 * word)) m
  ((s.wr F.STACK_ERR_pc (pc % 32) m).wr F.STACK_ERR_word word m).event (Src.stack m) 2

/-- A resident block read again from its DDR4 copy; none when the copy is itself uncorrectable (R205). -/
def State.reloadBlock (s : State) (n block : Nat) : Option State :=
  match (s.wpart n).image with
  | none => some s
  | some im =>
    match im.resident.find? (fun b => b.1 = block) with
    | none => some s
    | some b =>
      let src := im.addr + im.weightsAt + b.2
      let len := min 65536 (im.weightsLen - b.2)
      if s.badUnits.any (fun u => decide (src / 256 ≤ u ∧ u ≤ (src + len - 1) / 256)) then none
      else some (s.putBytes block (slice (s.bytesAt (ddr src) len) 0 65536))

/-- The step or invocation of Pn is discarded for a rerun; a second uncorrectable word in the same unit within the repeated run stops
the partition (R205, R211). Answers whether it stopped. -/
def State.rerun (s : State) (n key cause : Nat) : State × Bool :=
  let x := Tab.get {} s.reruns n
  if x.active && x.units.contains key then (s.stopPartition n cause, true)
  else
    let s := s.discardBoundary n
    ({ s with reruns := Tab.set {} s.reruns n { active := true, units := x.units ++ [key] } }, false)

/-- A page drops (R219, R271): its number is kept until the epoch changes. -/
def State.stackDrop (s : State) (n page : Nat) : State :=
  let s := s.dropPage n page false
  s.updSrv n (fun x => { x with droppedPages := if x.droppedPages.contains page then x.droppedPages else x.droppedPages ++ [page] })

/-- Table 8.2 on one word. -/
def State.stackBad (s : State) (pc word : Nat) (byPatrol : Bool) : State :=
  let off := 16 * word
  let n := s.engineOwner (pc / 2)
  let tag := s.blockTag pc off
  let block := pcAddr pc (off / 65536 * 65536)
  let zero := fun s : State => s.zeroWhere (fun a => decide (pcAddr pc off ≤ a ∧ a < pcAddr pc off + 16))
  let s := s.noteStack pc word
  let again := fun s : State =>
    let r := s.rerun n block 4
    if r.2 then r.1 else r.1.compose n
  match tag with
  | 2 =>
    if byPatrol then (s.reloadBlock n block).getD s
    else
      let s := { s with stk := { s.stk with reloads := s.stk.reloads ++ [(n, block)] } }
      let r := s.rerun n block 4
      if r.2 then { r.1 with stk := { r.1.stk with reloads := r.1.stk.reloads.filter (fun b => b.1 ≠ n) } } else r.1
  | 3 => if !byPatrol ∨ s.stepInFlight n then again s else zero s
  | 4 =>
    match s.pageOfByte n pc off with
    | some p => if s.pageAllocated n p || (s.page p).st = 3 then s.stackDrop n p else if byPatrol then zero s else s
    | none => if byPatrol then zero s else s
  | _ => if byPatrol then zero s else s

end Sys2Proof.Machine
end

