-- ==== Sys2Proof/Machine/Stacks.lean ====
section
/-! DEFINITION. The commands of base dies (08). -/

namespace Sys2Proof.Machine

/-- R207: the plan's KV write of one vector. A page outside the partition moves nothing and is R102's. -/
def execKvWrite (n : PartId) (page tok head : Nat) (value : Bool) (vec : List (BitVec 16)) (s : State) : Res :=
  match s.serving n.val with
  | none => .next s
  | some v =>
    if s.stopped n.val then .next s
    else if s.pageOwner page ≠ n.val then .next (s.operatorViolation n.val)
    else if 2 ^ v.tppLog2 ≤ tok ∨ v.kvHeads ≤ head ∨ vec.length ≠ v.headDim then .next s
    else .next (s.kvStore v page value head tok (vec.map (·.toNat)))

/-- R209: an expanded read of a token range into a tile store, as BF16. -/
def execExpandedRead (n : PartId) (t : TileId) (page first count head : Nat) (value : Bool) (dst : Nat) (s : State) : Res :=
  match s.serving n.val with
  | none => .next s
  | some v =>
    if s.stopped n.val then .next s
    else if s.pageOwner page ≠ n.val ∨ s.clusterOwner (t.val / 8) ≠ n.val ∨ 2 ^ 20 < dst + 2 * v.headDim * count then
      .next (s.operatorViolation n.val)
    else if 2 ^ v.tppLog2 < first + count ∨ v.kvHeads ≤ head ∨ (s.srv n.val).droppedPages.contains page then .next s
    else
      let bytes := (List.range count).flatMap (fun k =>
        (s.kvRead v page value head (first + k)).flatMap (fun x => leBytes 2 (bf16.enc 0 false x)))
      let s := s.count n.val 0x05 bytes.length ({ master := some 0, cls := some 2, range := some (s.frameAddr page, bytes.length) } : EvAttr)
      .next (s.putBytes (tileAddr t.val dst) bytes)

/-- The query that a base die finds in the bytes it receives, when they pass R216; `none` discards it. -/
def State.parseQuery (s : State) (n m : Nat) (v : Serving) (b : List Byte) : Option (Query × List (Nat × Nat × List Nat × List Nat)) :=
  let rows := leAt b 1 1
  let fresh := leAt b 2 1
  let slot := leAt b 4 2
  let layer := leAt b 6 2
  let head := leAt b 8 2
  let hd := leAt b 0xA 2
  let scale := BitVec.ofNat 32 (leAt b 0x10 4)
  let reply := leAt b 0x18 8
  let vec := fun at_ => (List.range hd).map (fun d => leAt b (at_ + 2 * d) 2)
  let limits := (List.range rows).map (fun r => leAt b (64 + 4 * r) 4)
  let at0 := 64 + 4 * rows
  let at1 := at0 + 2 * hd * rows
  let recs := (List.range fresh).map (fun k =>
    let a := at1 + k * (4 + 4 * hd)
    (leAt b a 4, vec (a + 4), vec (a + 4 + 2 * hd)))
  let pages := recs.map (fun r => s.pageAt n slot layer r.1)
  let good := decide (leAt b 0 1 = 1 ∧ 1 ≤ rows ∧ rows ≤ 64 ∧ fresh ≤ 9 ∧ leAt b 3 1 = 0 ∧ layer < v.layers ∧ head < v.kvHeads ∧ hd = v.headDim ∧
      leAt b 0x14 4 = 0 ∧ leVal (slice b 0x23 29) = 0 ∧ b.length = at1 + fresh * (4 + 4 * hd) ∧ addrKind reply = 0) &&
    addrOk reply && isFinite (decF scale) && limits.all (fun l => decide (l ≤ v.maxContext)) && s.slotOwner slot = n &&
    s.addrIn n reply (16 + 8 * rows + 4 * hd * rows) &&
    pages.all (fun p => match p with
      | some p => s.pageOwner p = n && (s.engineOf p).map (· / 16) = some m
      | none => false)
  if good then
    some ({ part := n, stack := m, slot := slot, layer := layer, head := head, scale := scale, reply := reply, queryId := leAt b 0x20 2
            limits := limits, rows := (List.range rows).map (fun r => vec (at0 + 2 * hd * r))
            carried := (recs.zip pages).filterMap (fun r => r.2.map (fun p => (r.1.1, p)))
            left := s.enginesIn n m, acc := List.replicate rows (emptyRow hd) },
          (recs.zip pages).filterMap (fun r => r.2.map (fun p => (r.1.1, p, r.1.2.1, r.1.2.2))))
  else none

/-- The new tokens of a query go through the compressor (R214 step 2). -/
def State.writeCarried (s : State) (v : Serving) (head : Nat) (recs : List (Nat × Nat × List Nat × List Nat)) : State :=
  recs.foldl (fun s r =>
    let tok := r.1 % 2 ^ v.tppLog2
    (s.kvStore v r.2.1 false head tok r.2.2.1).kvStore v r.2.1 true head tok r.2.2.2) s

/-- R214 steps 1 and 2, R216: the query is checked and its new tokens are written; the dispatcher holds it (R220). A query reaches only
stacks in which the partition owns an engine. -/
def execVetiverQuery (n : PartId) (m : StackId) (bytes : List Byte) (s : State) : Res :=
  match s.serving n.val with
  | none => .next s
  | some v =>
    if s.stopped n.val ∨ (s.enginesIn n.val m.val).isEmpty then .next s
    else match s.parseQuery n.val m.val v bytes with
      | none => .next (s.queryDiscard n.val)
      | some (q, recs) =>
        let s := s.writeCarried v q.head recs
        .next { s with stk := { s.stk with queries := s.stk.queries ++ [q] } }

/-- Queries that wait in or are walked by an engine's queue. -/
def State.engineQueue (s : State) (e : Nat) : List Query := s.stk.queries.filter (fun q => q.accepted && q.left.contains e)

/-- The first query that satisfies a test is changed. -/
def updFirst (p : Query → Bool) (f : Query → Query) : List Query → List Query
  | [] => []
  | q :: t => if p q then f q :: t else q :: updFirst p f t

/-- R220: the oldest query that the dispatcher holds for Pn is accepted once every engine it addresses has room. -/
def execQueryAccepted (n : PartId) (m : StackId) (s : State) : Res :=
  let held := fun q : Query => !q.accepted && q.part = n.val && q.stack = m.val
  if (s.enginesIn n.val m.val).all (fun e => decide ((s.engineQueue e).length < 32)) then
    .next { s with stk := { s.stk with queries := updFirst held (fun q => { q with accepted := true }) s.stk.queries } }
  else .next s

/-- R212 to R219: engine e finishes the oldest query of its queue; a breakpoint halts it at the start of one (R568). The last of the query's engines has the partial written to the reply
address. The word of a page that could not be read is free. -/
def execEngineWalk (e : EngineId) (badPages : List Nat) (s : State) : Res :=
  let mine := fun q : Query => q.accepted && q.left.contains e.val
  match s.stk.queries.find? mine with
  | none => .next s
  | some q =>
    let met := badPages.filter (fun p => s.engineOf p = some e.val && s.pageOwner p = q.part &&
      (s.slot q.slot).rows.contains (p - q.layer) && !(s.srv q.part).droppedPages.contains p)
    let w := s.walk q e.val met
    let d := s.unitDbg 1 e.val
    let stop := d.state ≠ 0 ∧ d.steps < max 1 w.pages
    let hit := d.state = 0 && !d.hit && s.dbgKind == 1 && s.dbgUnit == e.val && s.unitOpen 1 e.val &&
      s.dbg.bps.any (fun b => bit b.2 31 && decide (bits b.2 23 13 = q.slot ∧ bits b.2 9 0 = q.layer))
    if hit then .next (s.setUnitDbg 1 e.val { d with state := 2, hit := true }) else
    if stop then .next s else
    let s := s.setUnitDbg 1 e.val { d with steps := d.steps - max 1 w.pages, hit := d.hit && decide (d.state ≠ 0) }
    let s := s.noteWalk q e.val w
    let s := met.foldl (fun s p =>
      match s.frame p with
      | some (pc, off) => ((s.noteStack pc (off / 16 + Config.choice s.fresh p % 4160)).draw).stackDrop q.part p
      | none => s) s
    let q' : Query := { q with left := q.left.filter (· ≠ e.val), acc := (q.acc.zip w.rows).map (fun r => r.1.merge r.2)
                               pages := q.pages + w.pages, tokens := q.tokens + w.tokens, dropped := q.dropped || w.bad ≠ [] }
    if q'.left = [] then
      let s := { s with stk := { s.stk with queries := s.stk.queries.eraseP mine } }
      .next (s.store q.part q.reply q'.partialBytes)
    else .next { s with stk := { s.stk with queries := updFirst mine (fun _ => q') s.stk.queries } }

/-- R211: a page buffer meets a parity error; the second one in the same engine within the repeated run fails the engine and stops the
partition. -/
def execPageBufferParity (e : EngineId) (s : State) : Res :=
  let n := s.engineOwner e.val
  if s.pstate n ≠ 2 ∨ s.stopped n then .next s
  else
    let m := e.val / 16
    let s := s.event (Src.engine m) 1
    let key := 2 ^ 62 + e.val
    let x := Tab.get {} s.reruns n
    if x.active && x.units.contains key then
      let s := { s with stk := { s.stk with failed := if s.stk.failed.contains e.val then s.stk.failed else s.stk.failed ++ [e.val] } }
      .next ((s.event (Src.engine m) 2).stopPartition n 5)
    else .next ((s.rerun n key 5).1.compose n)

/-- R204: a read for work in flight, or the patrol, meets an uncorrectable word. -/
def execStackUncorrectable (pc : PcId) (word : Nat) (byPatrol : Bool) (s : State) : Res :=
  .next (s.stackBad pc.val (word % (0x60000000 / 16)) byPatrol)

/-- Table 8.2, RESIDENT: the blocks of Pn are reloaded and the step or invocation runs again; an uncorrectable DDR4 copy stops the
partition (R205). -/
def execStackBlockReloadDone (n : PartId) (s : State) : Res :=
  let mine := s.stk.reloads.filter (fun b => b.1 = n.val)
  if mine = [] then .next s
  else
    let s := { s with stk := { s.stk with reloads := s.stk.reloads.filter (fun b => b.1 ≠ n.val) } }
    let r := mine.foldl (fun (a : State × Bool) b => match a.1.reloadBlock n.val b.2 with | some s => (s, a.2) | none => (a.1, true)) (s, false)
    .next (if r.2 then r.1.stopPartition n.val 4 else r.1.compose n.val)

/-- R203: a pass of the patrol over a stack. -/
def execStackPatrolPass (m : StackId) (corrected : Nat) (bad : List (Fin 32 × Nat)) (s : State) : Res :=
  let s := s.advancePeriod (s.rd F.STACK_SCRUB_period_s m.val * 1000000000)
  let s := (s.inc F.STACK_ERR_corrected m.val 0 corrected).events (Src.stack m.val) 1 corrected
  let s := bad.foldl (fun s b => s.stackBad (32 * m.val + b.1.val) (b.2 % (0x60000000 / 16)) true) s
  .next (s.inc F.STACK_SCRUB_passes m.val)

end Sys2Proof.Machine
end

