-- ==== Sys2Proof/Machine/Attention.lean ====
section
/-! DEFINITION. The attention operators (09). -/

namespace Sys2Proof.Machine

/-- The step in flight of Pn when it has begun, with its serving section and its rows. -/
def State.stepRows (s : State) (n : Nat) : Option (Serving × Step × Nat) :=
  match s.serving n, (s.srv n).step with
  | some v, some st => if st.begun then some (v, st, (st.segs.map (·.count)).sum) else none
  | _, _ => none

/-- Attributes and operands of both operators within R228 and R229. -/
def attnOk (v : Serving) (layer qHeads t : Nat) (scale : W32) (ins outs : List TRef) : Bool :=
  decide (layer < v.layers ∧ 1 ≤ v.kvHeads ∧ qHeads % v.kvHeads = 0 ∧ 1 ≤ qHeads / v.kvHeads ∧ qHeads / v.kvHeads ≤ 64) &&
  isFinite (decF scale) && !(decF scale).isZero && (ins ++ outs).all (fun x => x.layout = 0 && !x.sparse && x.ext.headD 0 = t)

def kvOperandsOk (v : Serving) (qHeads t : Nat) (q k w : TRef) : Bool :=
  decide (q.ext = [t, qHeads, v.headDim] ∧ k.ext = [t, v.kvHeads, v.headDim] ∧ w.ext = k.ext ∧ q.fmt = v.kvInput ∧ k.fmt = v.kvInput ∧
    w.fmt = v.kvInput)

def outOk (o : TRef) (ext : List Nat) : Bool := decide (o.ext = ext ∧ o.fmt ≤ 2)

/-- The segment that a row belongs to. -/
def segOf (segs : List Seg) (r : Nat) : Option Seg := segs.find? (fun g => decide (g.first ≤ r ∧ r < g.first + g.count))

/-- A vector of a tensor [T, heads, head_dim] as codes. -/
def State.vecCodes (s : State) (n : Nat) (t : TRef) (r h d : Nat) : List Nat := (List.range d).map (fun i => s.elemCode n t [r, h, i])

/-- A slot joins the step's dropped-slot list (R244). -/
def State.dropSlot (s : State) (n x : Nat) : State :=
  s.updSrv n (fun y => { y with step := y.step.map (fun t => { t with dropped := if t.dropped.contains x then t.dropped else t.dropped ++ [x] }) })

/-- y of a row: o × FRCP(l), zero when l is 0 (R231 step 4, R239). -/
def RowAcc.out (a : RowAcc) (d : Nat) : W32 := if (decF a.l).isZero then 0#32 else fMul 0 (a.o.getD d 0#32) (fRcp a.l)

/-! ## Prefill on tiles (R231 to R233) -/

/-- One key block taken into a row (R231 step 3). `js` are the block's positions with their scores, values included or not. The spec does
not say whether a product and a sum that follow it are fused: free. -/
def prefillBlock (pick : Nat → Nat) (a : RowAcc) (js : List (W32 × List FV)) : RowAcc :=
  let m := fMax a.m (foldF fMax (js.map (·.1)))
  if js = [] ∨ m = negInf then a
  else
    let c := if a.m = negInf then 0#32 else fExp (fSub 0 a.m m)
    let ps := js.map (fun j => bf16.dec (bf16.enc 0 false (decF (fExp (fSub 0 j.1 m)))))
    let comb := fun (k : Nat) (x y : W32) => if pick k % 2 = 0 then fFma 0 x c y else fAdd 0 (fMul 0 x c) y
    { m := m
      l := comb 0 a.l (sumFree (fun q => pick (3 * q + 1)) (ps.map (roundF 0)))
      o := a.o.zipIdx.map (fun x =>
        comb (3 * x.2 + 2) x.1 (reduceChunks (fun q => pick (3 * Nat.pair x.2 q + 3)) (chunked 16 ((ps.zip js).map (fun pj => FV.mul pj.1 (pj.2.2.getD x.2 .nan)))) 0#32)) }

/-- The result of one row and query head of a prefill segment. The plan's block sizes and its split of the key range are free. -/
def State.prefillRow (s : State) (n layer : Nat) (v : Serving) (g : Seg) (scale : W32) (qv : List FV) (i kvHead : Nat) (pick : Nat → Nat)
    (bq bk : Nat) : RowAcc :=
  let p := g.pos + i
  let lastRow := g.pos + min g.count ((i / bq + 1) * bq) - 1
  let blocks := (List.range (lastRow / bk + 1)).map (fun b => (List.range bk).filterMap (fun e =>
    let j := b * bk + e
    if g.pos + g.count ≤ j then none
    else match s.pageAt n g.slot layer j with
      | none => none
      | some page =>
        if (s.srv n).droppedPages.contains page then none
        else
          let tok := j % s.tpp n
          let k := s.kvRead v page false kvHead tok
          let dot := reduceChunks (fun q => pick (5 * Nat.pair j q)) (chunked 16 ((qv.zip k).map (fun x => FV.mul x.1 x.2))) 0#32
          some (if j ≤ p then fMul 0 scale dot else negInf, s.kvRead v page true kvHead tok)))
  let cuts := (blocks.zipIdx.foldl (fun (c : List (List (List (W32 × List FV) × Nat))) b =>
    if c.isEmpty || pick (5 * b.2 + 1) % 2 = 1 then c ++ [[b]] else c.dropLast ++ [c.getLastD [] ++ [b]]) [])
  let parts := cuts.map (fun bs => bs.foldl (fun a b => prefillBlock (fun q => pick (5 * Nat.pair b.2 q + 2)) a b.1) (emptyRow v.headDim))
  (shuffle (fun q => pick (5 * q + 3)) 0 parts).foldl RowAcc.merge (emptyRow v.headDim)

/-- ATTN_PREFILL. -/
def execAttnPrefill (n : PartId) (layer qHeads : Nat) (scale : W32) (q k v o : TRef) (s : State) : Res :=
  match s.stepRows n.val with
  | none => .next s
  | some (sv, st, t) =>
    let p := n.val
    let valid := attnOk sv layer qHeads t scale [q, k, v] [o] && kvOperandsOk sv qHeads t q k v && outOk o [t, qHeads, sv.headDim]
    s.operator p [q.ax, k.ax, v.ax, o.ax] valid (fun s d =>
      let mine := st.segs.filter (fun g => g.kind = 0)
      let grp := qHeads / sv.kvHeads
      let s := mine.foldl (fun s g => (List.range g.count).foldl (fun s i => (List.range sv.kvHeads).foldl (fun s h =>
        match s.pageAt p g.slot layer (g.pos + i) with
        | some page =>
          let tok := (g.pos + i) % s.tpp p
          (s.kvStore sv page false h tok (s.vecCodes p k (g.first + i) h sv.headDim)).kvStore sv page true h tok
            (s.vecCodes p v (g.first + i) h sv.headDim)
        | none => s) s) s) s
      let bq := 16 * (1 + Config.choice d 1 % 16)
      let bk := 16 * (1 + Config.choice d 2 % 64)
      let rows := tableOf [t, qHeads] (fun i => match i with
        | [r, h] =>
          match segOf mine r with
          | some g => s.prefillRow p layer sv g scale ((s.vecCodes p q r h sv.headDim).map (fmtDec sv.kvInput)) (r - g.first) (h / grp)
              (fun x => Config.choice d (3 + Nat.pair (Nat.pair r h) x)) bq bk
          | none => {}
        | _ => {})
      let s := mine.foldl (fun s g =>
        if (List.range (g.pos + g.count)).any (fun j => match s.pageAt p g.slot layer j with
          | some page => (s.srv p).droppedPages.contains page
          | none => false) then s.dropSlot p g.slot else s) s
      (s.putF p d o 0 none (fun i => match i with
        | [r, h, e] => (rows.getD (flat [t, qHeads] [r, h]) {}).out e
        | _ => 0#32)).matmulBusy p d)

/-! ## Decode in the stacks (R234 to R240) -/

/-- The queries of a segment and kv_head, without stack (R234, R235): each with its first local head and its number of heads. -/
def State.segQueries (s : State) (n layer qHeads : Nat) (v : Serving) (scale : W32) (q : TRef) (g : Seg) (k : Nat) : List (Nat × Query) :=
  let grp := qHeads / v.kvHeads
  let per := max 1 (if 64 < grp * g.count then 64 / g.count else grp)
  (List.range (ceilDiv grp per)).map (fun b =>
    let hs := (List.range per).filterMap (fun h => if b * per + h < grp then some (b * per + h) else none)
    let pairs := hs.flatMap (fun h => (List.range g.count).map (fun i => (h, i)))
    (b * per, { part := n, stack := 0, slot := g.slot, layer := layer, head := k, scale := scale, reply := 0, queryId := 0
                limits := pairs.map (fun hi => g.pos + hi.2 + 1)
                rows := pairs.map (fun hi => s.vecCodes n q (g.first + hi.2) (grp * k + hi.1) v.headDim)
                carried := (List.range g.count).filterMap (fun i => (s.pageAt n g.slot layer (g.pos + i)).map (fun p => (g.pos + i, p))) }))

/-- A query served in every stack and merged on the tile, both in arrival order (R218, R239); its normaliser record (R242). -/
def State.serveQuery (s : State) (q : Query) : State × List RowAcc :=
  let empty := q.rows.map (fun r => emptyRow r.length)
  let dies := (List.range 8).filter (fun m => !(s.enginesIn q.part m).isEmpty)
  let r := dies.foldl (fun (a : State × List (List RowAcc)) m =>
    let es := shuffle (fun x => Config.choice a.1.fresh (Nat.pair m x)) 0 (a.1.enginesIn q.part m)
    let w := es.foldl (fun (b : State × List RowAcc) e =>
      let w := b.1.walk q e []
      (b.1.noteWalk q e w, (b.2.zip w.rows).map (fun x => x.1.merge x.2))) (a.1, empty)
    (w.1, a.2 ++ [w.2])) (s, [])
  let parts := shuffle (fun x => Config.choice r.1.fresh x) 0 r.2
  let rows := parts.foldl (fun a b => (a.zip b).map (fun x => x.1.merge x.2)) empty
  let big := foldF fMax (rows.map (·.m))
  let l := sumFree (fun x => Config.choice r.1.fresh (100 + x)) (rows.map (fun a => fMul 0 a.l (fExp (fSub 0 a.m big))))
  let rec_ : Norm := { slot := q.slot, layer := q.layer, head := q.head, m := big, l := l }
  (r.1.draw.updSrv q.part (fun x => { x with step := x.step.map (fun t => { t with norms := t.norms ++ [rec_] }) }), rows)

/-- ATTN_DECODE in mode FULL or PARTIAL: the new tokens are written, every query is served, and its rows are given as (row, head, state).
A query that R216 discards has no result. -/
def State.decodeRows (s : State) (n layer qHeads : Nat) (v : Serving) (scale : W32) (q k w : TRef) (segs : List Seg) :
    Option (State × List (Nat × Nat × RowAcc)) :=
  let grp := qHeads / v.kvHeads
  let bad := segs.any (fun g => decide (v.maxContext < g.pos + g.count) ||
    (List.range g.count).any (fun i => (s.pageAt n g.slot layer (g.pos + i)).isNone))
  if bad then none
  else
    let s := segs.foldl (fun s g => (List.range v.kvHeads).foldl (fun s h =>
      s.writeCarried v h ((List.range g.count).filterMap (fun i => (s.pageAt n g.slot layer (g.pos + i)).map (fun p =>
        (g.pos + i, p, s.vecCodes n k (g.first + i) h v.headDim, s.vecCodes n w (g.first + i) h v.headDim))))) s) s
    let all := segs.flatMap (fun g => (List.range v.kvHeads).flatMap (fun h =>
      (s.segQueries n layer qHeads v scale q g h).map (fun x => (g, h, x))))
    some (all.foldl (fun (a : State × List (Nat × Nat × RowAcc)) x =>
      let r := a.1.serveQuery x.2.2.2
      let g := x.1
      (r.1, a.2 ++ r.2.zipIdx.map (fun y => (g.first + y.2 % g.count, grp * x.2.1 + x.2.2.1 + y.2 / g.count, y.1)))) (s, []))

/-- A row of a partial tensor (Table 9.3). -/
def State.partialRow (s : State) (n : Nat) (t : TRef) (r h d : Nat) : RowAcc :=
  let at_ := fun e => BitVec.ofNat 32 (s.elemCode n t [r, h, e])
  { m := at_ 0, l := at_ 1, o := (List.range d).map (fun e => at_ (e + 2)) }

/-- O written: rows of DECODE and VERIFY segments from their states, all others copied from O_in (Table 9.3). -/
def State.putDecode (s : State) (n : Nat) (segs : List Seg) (oin o : TRef) (row : Nat → Nat → RowAcc) : State :=
  s.putCodes n o (fun i => match i with
    | [r, h, e] =>
      match segOf segs r with
      | some _ => fmtEnc o.fmt 0 false (decF ((row r h).out e))
      | none => s.elemCode n oin i
    | _ => 0)

/-- ATTN_DECODE. -/
def execAttnDecode (n : PartId) (layer qHeads : Nat) (scale : W32) (mode : Fin 3) (q k v oin : TRef) (parts : List TRef)
    (o : TRef) (s : State) : Res :=
  match s.stepRows n.val with
  | none => .next s
  | some (sv, st, t) =>
    let p := n.val
    let d := sv.headDim
    let mine := st.segs.filter (fun g => g.kind ≠ 0)
    if mode.val = 2 then
      let valid := attnOk sv layer qHeads t scale (oin :: parts) [o] && decide (1 ≤ parts.length ∧ parts.length ≤ 7 ∧ oin.fmt = o.fmt ∧ oin.ext = o.ext) &&
        outOk o [t, qHeads, d] && parts.all (fun x => decide (x.ext = [t, qHeads, d + 2] ∧ x.fmt = 0))
      s.operator p (oin.ax :: o.ax :: parts.map TRef.ax) valid (fun s _ =>
        s.putDecode p mine oin o (fun r h => (parts.map (fun x => s.partialRow p x r h d)).foldl RowAcc.merge (emptyRow d)))
    else
      let full := mode.val = 0
      let valid := attnOk sv layer qHeads t scale [q, k, v] [o] && kvOperandsOk sv qHeads t q k v &&
        (if full then outOk o [t, qHeads, d] && decide (oin.fmt = o.fmt ∧ oin.ext = o.ext ∧ oin.layout = 0 ∧ oin.sparse = false)
         else decide (o.ext = [t, qHeads, d + 2] ∧ o.fmt = 0))
      s.operator p ([q.ax, k.ax, v.ax, o.ax] ++ (if full then [oin.ax] else [])) valid (fun s _ =>
        match s.decodeRows p layer qHeads sv scale q k v mine with
        | none => s.queryDiscard p
        | some (s, rows) =>
          let row := fun r h => ((rows.find? (fun x => x.1 = r && x.2.1 = h)).map (·.2.2)).getD (emptyRow d)
          if full then s.putDecode p mine oin o row
          else s.putCodes p o (fun i => match i with
            | [r, h, e] =>
              let a := if (segOf mine r).isSome then row r h else emptyRow d
              if e = 0 then a.m.toNat else if e = 1 then a.l.toNat else (a.o.getD (e - 2) 0#32).toNat
            | _ => 0))

end Sys2Proof.Machine
end

