-- ==== Sys2Proof/Machine/Cores.lean ====
section
/-! DEFINITION. What an instruction of a service core does outside the core (R540 to R545): its place in Table 22.1, faults, counts. What
happens between its registers is that of the RISC-V specifications, which the spec names and does not repeat (log). -/

namespace Sys2Proof.Machine

/-- Where a physical address of a core lies (Table 22.1). -/
inductive CorePlace where
  | ddr4 (a : Nat)
  | space (sp : Space) (off : Nat)
  | nowhere
  deriving DecidableEq, Repr

/-- Table 22.1. -/
def corePlace (a : Nat) : CorePlace :=
  if a < 0x4000000000 then .ddr4 a
  else if a < 0x4001000000 then .space .hcs (a - 0x4000000000)
  else if 0x4010000000 ≤ a ∧ a < 0x4014000000 then
    .space (.dcs (Fin.ofNat 4 ((a - 0x4010000000) / 0x1000000))) ((a - 0x4010000000) % 0x1000000)
  else if 0x4020000000 ≤ a ∧ a < 0x4028000000 then
    .space (.bcs (Fin.ofNat 8 ((a - 0x4020000000) / 0x1000000))) ((a - 0x4020000000) % 0x1000000)
  else .nowhere

/-- R542: an access-fault exception is counted. -/
def State.coreFault (s : State) (i : Nat) : State := s.inc F.SC_STATE_access_faults i

/-- Whether a register access is one that the register rules of its space allow to a master (R9, R44, R595). -/
def State.regAllowed (s : State) (m : Master) (sp : Space) (off size : Nat) (write : Bool) : Bool :=
  size = 8 && off % 8 = 0 &&
    (match regAt sp off with | some (r, i, _) => s.reaches m r i write | none => false)

/-- Whether a core's DDR4 access is in the partition's granules and, for a store, outside a loaded image's range. -/
def State.coreDdr4Ok (s : State) (n a size : Nat) (write : Bool) : Bool :=
  s.ddrOwned n a size && !(write && s.inImage n a size)

/-- An instruction of SCi is retired after some cycles: its counters count it (Tables 23.1 and 23.2). -/
def State.coreRetires (s : State) (i : Nat) (mode : Fin 3) (cycles : Nat) : State :=
  let n := s.coreOwner i
  let at_ : EvAttr := { priv := some mode.val }
  let s := (s.count n 0x10 1 at_).tally (740 + i) 1
  (s.count n 0x11 cycles at_).tally (756 + i) cycles

/-- Bytes loaded or stored by a service core. -/
def State.coreBytes (s : State) (i : Nat) (mode : Fin 3) (a size : Nat) : State :=
  s.count (s.coreOwner i) 0x12 size { priv := some mode.val, range := some (ddr a, size) }

/-- A load, a store or an AMO with the value that it writes. `amo` is never allowed on a register space (R542). -/
def State.coreAccess (s : State) (i : CoreId) (mode : Fin 3) (addr size : Nat) (write : Option Nat) (amo : Bool) : State :=
  let n := s.coreOwner i.val
  let cycles := Config.choice s.fresh 0
  let s := s.draw
  if addr % size ≠ 0 then s
  else match corePlace addr with
    | .nowhere => s.coreFault i.val
    | .ddr4 a =>
      if !s.coreDdr4Ok n a size write.isSome then s.coreFault i.val
      else match (if write.isSome && !amo then none else s.badUnit a size) with
        | some _ => (s.meetUnit a).coreFault i.val
        | none =>
          if write.isSome && s.blockedUnit a size then s.coreFault i.val
          else
            let old := leVal (s.bytesAt (ddr a) size)
            let s := match write with
              | some v => s.ddrPut a (leBytes size v)
              | none => s
            let s := if write.isNone || amo then { s with lastRead := old } else s
            (s.coreBytes i.val mode a (if amo then 2 * size else size)).coreRetires i.val mode cycles
    | .space sp off =>
      if amo then s.coreFault i.val
      else if !s.regAllowed (.sc i) sp off size write.isSome then (s.accessFails sp write.isSome).coreFault i.val
      else
        let s := match write with
          | some v => s.writeAt (.sc i) sp off v
          | none => s.readAt (.sc i) sp off
        s.coreRetires i.val mode cycles

/-- A core whose dcsr.step is set halts after the instruction (R566). -/
def State.coreStepped (s : State) (i : Nat) : State := if bit (Tab.get 0 s.dbg.dm (0x2000 + i)) 2 then s.wr F.SC_STATE_state 3 i else s

/-- Access sizes of RV64. -/
def coreSize (n : Nat) : Bool := n == 1 || n == 2 || n == 4 || n == 8

/-- R540 to R545: a core in RUN or WFI executes an instruction. A misaligned access raises its exception and is not completed; a core that is
in RESET, HALTED or STOPPED executes none. -/
def execScInstruction (i : CoreId) (mode : Fin 3) (a : ScAct) (s : State) : Res :=
  let st := s.rd F.SC_STATE_state i.val
  if ¬ (st = 1 ∨ st = 2) then .next s
  else
    let s := s.wr F.SC_STATE_state 1 i.val
    let s := match a with
      | .retire cycles => s.coreRetires i.val mode cycles
      | .load addr size => if coreSize size then s.coreAccess i mode addr size none false else s
      | .store addr size v => if coreSize size then s.coreAccess i mode addr size (some v.toNat) false else s
      | .amo addr size v => if size == 4 || size == 8 then s.coreAccess i mode addr size (some v.toNat) true else s
      | .wfi => (s.coreRetires i.val mode 1).wr F.SC_STATE_state 2 i.val
    .next (s.coreStepped i.val)

end Sys2Proof.Machine
end

