-- ==== Sys2Proof/Machine/Debug.lean ====
section
/-! DEFINITION. The serial debug port (R565 to R570): test access port, debug module, unit debug words. -/

namespace Sys2Proof.Machine

def State.setDbg (s : State) (f : Debug → Debug) : State := { s with dbg := f s.dbg }

/-! ## Test access port (R565) -/

/-- The TAP instruction is loaded. -/
def State.tap (s : State) (code : Nat) : State := s.setDbg (fun d => { d with ir := code })

/-- The bypass register passes one bit on; IEEE 1149.1 captures 0 in it (PRESUMED). -/
def State.bypassed (s : State) (b : Bool) : State := { s.setDbg (fun d => { d with byp := b }) with lastRead := 0 }

/-- What a pin shows is outside the model: a sample of the boundary scan register is free. -/
def State.sampled (s : State) (v : List Bool) : State :=
  { s.draw.setDbg (fun d => { d with scan := v }) with lastRead := Config.choice s.fresh 0 }

/-- R565: EXTEST drives boundary scan only in FACTORY or DEPOT while core power is OFF. -/
def execExtest (v : List Bool) (s : State) : Res :=
  let s := s.tap 0x00
  if (s.rd F.SEC_STATE_lifecycle = 0 ∨ s.rd F.SEC_STATE_lifecycle = 2) ∧ s.power.off then .next (s.sampled v)
  else .next (s.bypassed (v.getLastD false))

/-- R565: 0x1A38_4E1B with the stepping in bits 31 to 28. -/
def execIdcode (s : State) : Res :=
  .next { s.tap 0x01 with lastRead := 0xA384E1B + s.rd F.FW_CAP_stepping % 16 * 2 ^ 28 }

def execSamplePreload (v : List Bool) (s : State) : Res := .next ((s.tap 0x02).sampled v)

/-- DTMCS of RISC-V Debug 0.13.2 (PRESUMED): version 1, abits 9, no sticky error; the idle hint is free. -/
def execDtmcs (_v : W32) (s : State) : Res :=
  .next { (s.tap 0x10).draw with lastRead := 1 + 9 * 16 + Config.choice s.fresh 0 % 8 * 4096 }

def execBypass (b : Bool) (s : State) : Res := .next ((s.tap 0x1F).bypassed b)

/-! ## Unit debug (R567 to R570) -/

/-- The result of the last op or access. -/
def State.dbgResult (s : State) (code : Nat) : State := s.setDbg (fun d => { d with result := code })

/-- Whether the selected unit may be debugged. -/
def State.selOpen (s : State) : Bool := s.unitOpen s.dbgKind s.dbgUnit

/-- The thread group that UDBG_SEL names. -/
def State.dbgGroup (s : State) : Nat := bits s.dbg.sel 15 11

/-- R568: HALT stops the selected unit at its next boundary; a second one has no effect (R570). -/
def State.haltUnit (s : State) : State :=
  if !s.selOpen then s
  else
    let d := s.unitDbg s.dbgKind s.dbgUnit
    (if d.state = 0 then s.setUnitDbg s.dbgKind s.dbgUnit { d with state := 1, hit := false, steps := 0 } else s).dbgResult 0

/-- R568: RESUME of a halted unit; of a running one it has no effect. -/
def State.resumeUnit (s : State) : State :=
  if !s.selOpen then s
  else
    let d := s.unitDbg s.dbgKind s.dbgUnit
    (if d.state = 0 then s else s.setUnitDbg s.dbgKind s.dbgUnit { d with state := 0, steps := 0, hit := d.hit && s.dbgKind == 1 }).dbgResult 0

/-- R568: STEP of a halted unit: one instruction of the selected group, or one page. -/
def State.stepUnit (s : State) : State :=
  if !s.selOpen then s
  else
    let d := s.unitDbg s.dbgKind s.dbgUnit
    (if d.state = 2 then s.setUnitDbg s.dbgKind s.dbgUnit { d with steps := d.steps + 1, group := s.dbgGroup } else s).dbgResult 0

def execUnitHalt (s : State) : Res := .next s.haltUnit
def execUnitResume (s : State) : Res := .next s.resumeUnit
def execUnitStep (s : State) : Res := .next s.stepUnit

/-- R568: a halting unit is still: the first that is HALTING reports HALTED. -/
def execUnitHalted (s : State) : Res :=
  match s.dbg.units.find? (fun e => e.2.state = 1) with
  | none => .next s
  | some e => .next (s.setUnitDbg (e.1 / 4096) (e.1 % 4096) { e.2 with state := 2 })

/-- The address of UDBG_ADDR. -/
def State.dbgAddr (s : State) : Nat := s.dbg.addr

/-- Whether tile t is HALTED. -/
def State.tileHalted (s : State) (t : Nat) : Bool := (s.unitDbg 0 t).state = 2

/-- Whether a store may be written under debug: its owning tile, or every tile of its bank's cluster, is HALTED (R569). -/
def State.storeHalted (s : State) (n a : Nat) : Bool :=
  let u := a % 2 ^ 60 / 2 ^ 48
  match addrKind a with
  | 0 => s.tileHalted u
  | 1 =>
    let c := s.clusterOfBank u (s.phys n a % 2 ^ 48 / 2 ^ 20)
    (List.range 8).all (fun k => s.tileHalted (8 * c + k))
  | _ => true

/-- The status of a unit memory access (R569), 0 when it may move. PAGES blocks may be read. -/
def State.unitAccess (s : State) (write : Bool) : Nat :=
  let n := s.unitPart s.dbgKind s.dbgUnit
  let a := s.dbgAddr
  let whole := addrKind a = 2 && s.engineOwner (a % 2 ^ 60 / 2 ^ 48 / 2) = n && !s.beingRemoved n
  if !s.selOpen || !s.scope n 1 then 0x30
  else if !addrOk a || a % 4 ≠ 0 then 0x10
  else if !(s.addrIn n a 4 || (whole && !write)) then 0x11
  else if write && addrKind a = 4 && s.inImage n (a % 2 ^ 60) 4 then 0x11
  else if write && !s.storeHalted n a then 0x30
  else if (s.unreadable a 4).isSome || (write && addrKind a = 4 && s.blockedUnit (a % 2 ^ 60) 4) then 0x12
  else 0

/-- The unit memory access is refused or failed: nothing moves. -/
def State.unitFails (s : State) (code : Nat) : State :=
  (if code = 0x12 then s.meetAt s.dbgAddr else s).dbgResult code

/-- 4 is added to the address. -/
def State.dbgAdvance (s : State) : State := s.setDbg (fun d => { d with addr := (d.addr + 4) % 2 ^ 64 })

/-- R569: 4 bytes are read into UDBG_DATA. -/
def State.unitRead (s : State) : State :=
  let c := s.unitAccess false
  if c ≠ 0 then s.unitFails c
  else
    let v := leVal (s.load (s.unitPart s.dbgKind s.dbgUnit) s.dbgAddr 4)
    ((s.setDbg (fun d => { d with data := v })).dbgAdvance).dbgResult 0

/-- R569: UDBG_DATA is written. -/
def State.unitWrite (s : State) : State :=
  let c := s.unitAccess true
  if c ≠ 0 then s.unitFails c
  else ((s.store (s.unitPart s.dbgKind s.dbgUnit) s.dbgAddr (leBytes 4 s.dbg.data)).dbgAdvance).dbgResult 0

def execUnitMemRead (s : State) : Res := .next s.unitRead
def execUnitMemWrite (s : State) : Res := .next s.unitWrite

/-- UDBG_STATUS (Table 23.5). -/
def State.unitStatus (s : State) : Nat :=
  let d := s.unitDbg s.dbgKind s.dbgUnit
  if !s.selOpen then 0x30 * 2 ^ 24
  else
    let pc := if s.dbgKind = 0 ∧ d.state = 2 then ((s.run s.dbgUnit).groups.getD s.dbgGroup {}).pc else 0
    s.dbg.result % 256 * 2 ^ 24 + pc % 2 ^ 13 * 2 ^ 3 + ofBool (d.hit && d.state != 0) * 4 + d.state

/-- What a DMI read of a unit debug word returns; a word written only reads 0. -/
def State.unitWord (s : State) (a : Nat) : Nat :=
  match a with
  | 0x100 => s.dbg.sel
  | 0x102 => s.unitStatus
  | 0x103 | 0x104 | 0x105 | 0x106 => Tab.get 0 s.dbg.bps (a - 0x103)
  | 0x107 => s.dbg.addr % 2 ^ 32
  | 0x108 => s.dbg.addr / 2 ^ 32
  | 0x109 => s.dbg.data
  | _ => 0

/-- A DMI write of a unit debug word. Reserved bits stay 0. -/
def State.unitPut (s : State) (a v : Nat) : State :=
  match a with
  | 0x100 => s.setDbg (fun d => { d with sel := v &&& 0x8000FFFF })
  | 0x101 => match bits v 2 0 with
    | 1 => s.haltUnit
    | 2 => s.resumeUnit
    | 3 => s.stepUnit
    | _ => s
  | 0x103 | 0x104 | 0x105 | 0x106 => s.setDbg (fun d => { d with bps := Tab.set 0 d.bps (a - 0x103) (v &&& 0x80FFFFFF) })
  | 0x107 => s.setDbg (fun d => { d with addr := d.addr / 2 ^ 32 * 2 ^ 32 + v })
  | 0x108 => s.setDbg (fun d => { d with addr := d.addr % 2 ^ 32 + v * 2 ^ 32 })
  | 0x109 => s.setDbg (fun d => { d with data := v })
  | 0x10A => if bit v 0 then s.unitWrite else s.unitRead
  | _ => s

/-! ## Debug module (R566). The places of its words and bits are those of RISC-V External Debug Support 0.13.2 (PRESUMED). -/

/-- Words of the module that are kept between accesses, and beyond its addresses: bit 0 of 0x1010 MGC halted, 0x2000 + h dcsr of hart h, 0x3000 + h
its resume acknowledged. -/
def State.dmWord (s : State) (a : Nat) : Nat := Tab.get 0 s.dbg.dm a
def State.setDm (s : State) (a v : Nat) : State := s.setDbg (fun d => { d with dm := Tab.set 0 d.dm a v })

/-- The hart that dmcontrol selects. -/
def State.dmHart (s : State) : Nat := bits (s.dmWord 0x10) 25 16 + bits (s.dmWord 0x10) 15 6 * 1024

/-- Whether a hart exists for the debugger, with a further scope where one is asked (R566): 0 HALT, 1 MEMORY. -/
def State.hartOpen (s : State) (h scope : Nat) : Bool :=
  if h < 16 then decide (s.coreOwner h < 16) && s.scope (s.coreOwner h) 0 && s.scope (s.coreOwner h) scope
  else if h = 16 then
    (s.rd F.SEC_STATE_lifecycle == 0 || s.rd F.SEC_STATE_lifecycle == 2) && !s.rdB F.SEC_STATE_debug_lock && s.scope 0 0 && s.scope 0 scope
  else false

def State.hartHalted (s : State) (h : Nat) : Bool := if h = 16 then s.dmWord 0x1010 != 0 else s.rd F.SC_STATE_state h == 3

/-- Whether a hart runs: a core in RUN or WFI; MGC once it is started. -/
def State.hartRuns (s : State) (h : Nat) : Bool :=
  if h = 16 then s.mgcAlive else s.rd F.SC_STATE_state h == 1 || s.rd F.SC_STATE_state h == 2

def State.hartHalt (s : State) (h : Nat) : State :=
  if !s.hartRuns h then s else if h = 16 then s.setDm 0x1010 1 else s.wr F.SC_STATE_state 3 h

def State.hartResume (s : State) (h : Nat) : State :=
  if !s.hartHalted h then s
  else (if h = 16 then s.setDm 0x1010 0 else s.wr F.SC_STATE_state 1 h).setDm (0x3000 + h) 1

/-- dmstatus of the selected hart: version 2, authenticated, nonexistent, unavailable, halted, running, resume acknowledged. -/
def State.dmStatus (s : State) : Nat :=
  let h := s.dmHart
  let ex := s.hartOpen h 0
  let halted := ex && s.hartHalted h
  let runs := ex && s.hartRuns h
  2 + 2 ^ 7 + ofBool halted * (3 * 2 ^ 8) + ofBool runs * (3 * 2 ^ 10) + ofBool (ex && !halted && !runs) * (3 * 2 ^ 12) +
    ofBool (!ex) * (3 * 2 ^ 14) + ofBool (ex && s.dmWord (0x3000 + h) != 0) * (3 * 2 ^ 16)

/-- abstractcs: two data words for each of two arguments of 64 bits, a program buffer of two words, cmderr. -/
def State.abstractCs (s : State) : Nat := 4 + bits (s.dmWord 0x16) 10 8 * 2 ^ 8 + 2 * 2 ^ 24

def State.cmdErr (s : State) (e : Nat) : State := s.setDm 0x16 (e * 2 ^ 8)

/-- The two arguments of an abstract command. -/
def State.dmArg (s : State) (k : Nat) : Nat := s.dmWord (4 + 2 * k) + s.dmWord (5 + 2 * k) * 2 ^ 32
def State.setDmArg (s : State) (k v : Nat) : State := (s.setDm (4 + 2 * k) (v % 2 ^ 32)).setDm (5 + 2 * k) (v / 2 ^ 32 % 2 ^ 32)

/-- Access Register: a register's value is free, but for dcsr as it was last written; the program buffer's effect lies inside the core. -/
def State.accessRegister (s : State) (h v : Nat) : State :=
  let dcsr := bits v 15 0 = 0x7B0
  if !s.hartHalted h then s.cmdErr 4
  else if !bit v 17 then s
  else if bit v 16 then (if dcsr then s.setDm (0x2000 + h) (s.dmArg 0 % 2 ^ 32) else s)
  else s.draw.setDmArg 0 (if dcsr then s.dmWord (0x2000 + h) else Config.choice s.fresh 0)

/-- Access Memory on a service core reaches what the core could (R566); it fails with cmderr 3 otherwise. What MGC reaches the spec does not
state: whether the command succeeds, and what it reads, is free there. -/
def State.accessMemory (s : State) (h v : Nat) : State :=
  let size := 2 ^ bits v 22 20
  let a := s.dmArg 1
  let wr := bit v 16
  let past := fun (s : State) => if bit v 19 then s.setDmArg 1 (a + size) else s
  if !s.hartOpen h 1 then s.cmdErr 3
  else if bit v 23 ∨ 8 < size then s.cmdErr 2
  else if h = 16 then
    let d := s.fresh
    let s := s.draw
    if Config.choice d 0 % 2 = 0 then s.cmdErr 3 else past (if wr then s else s.setDmArg 0 (Config.choice d 1))
  else if a % size ≠ 0 then s.cmdErr 3
  else match corePlace a with
    | .nowhere => s.cmdErr 3
    | .ddr4 b =>
      if !s.coreDdr4Ok (s.coreOwner h) b size wr then s.cmdErr 3
      else if !wr && (s.badUnit b size).isSome then (s.meetUnit b).cmdErr 3
      else if wr && s.blockedUnit b size then s.cmdErr 3
      else past (if wr then s.ddrPut b (leBytes size (s.dmArg 0)) else s.setDmArg 0 (leVal (s.bytesAt (ddr b) size)))
    | .space sp off =>
      let m : Master := .sc (Fin.ofNat 16 h)
      if !s.regAllowed m sp off size wr then s.cmdErr 3
      else if wr then past (s.writeAt m sp off (s.dmArg 0))
      else let s := s.readAt m sp off; past (s.setDmArg 0 s.lastRead)

/-- A write of command: none runs while cmderr is nonzero; other command types are not supported. -/
def State.abstractCommand (s : State) (v : Nat) : State :=
  let h := s.dmHart
  if bits (s.dmWord 0x16) 10 8 ≠ 0 then s
  else if !s.hartOpen h 0 then s.cmdErr 4
  else match bits v 31 24 with
    | 0 => s.accessRegister h v
    | 2 => s.accessMemory h v
    | _ => s.cmdErr 2

/-- A write of dmcontrol: dmactive 0 resets the module; haltreq halts, and resumereq resumes, the selected hart. -/
def State.dmControl (s : State) (v : Nat) : State :=
  if !bit v 0 then s.setDbg (fun d => { d with dm := Tab.keep d.dm (fun k => decide (0x1000 ≤ k)) })
  else
    let s := s.setDm 0x10 (v &&& 0x03FFFFC1)
    let h := s.dmHart
    if !s.hartOpen h 0 then s
    else if bit v 31 then s.hartHalt h
    else if bit v 30 then (s.setDm (0x3000 + h) 0).hartResume h
    else s

/-- What a DMI read of the debug module returns. -/
def State.dmRead (s : State) (a : Nat) : Nat :=
  match a with
  | 0x11 => s.dmStatus
  | 0x16 => s.abstractCs
  | 0x17 => 0
  | _ => if a = 0x10 ∨ a = 0x20 ∨ a = 0x21 ∨ (4 ≤ a ∧ a < 8) then s.dmWord a else 0

/-- A DMI write of the debug module. -/
def State.dmWrite (s : State) (a v : Nat) : State :=
  match a with
  | 0x10 => s.dmControl v
  | 0x16 => s.setDm 0x16 (s.dmWord 0x16 &&& (2 ^ 32 - 1 - (v &&& 0x700)))
  | 0x17 => s.abstractCommand v
  | _ => if a = 0x20 ∨ a = 0x21 ∨ (4 ≤ a ∧ a < 8) then s.setDm a v else s

/-- R565 to R567: a DMI access; a read goes to `lastRead`. -/
def execDmi (write : Bool) (addr : BitVec 9) (v : W32) (s : State) : Res :=
  let s := s.tap 0x11
  let a := addr.toNat
  if 0x100 ≤ a then .next (if write then s.unitPut a v.toNat else { s with lastRead := s.unitWord a })
  else if a < 0x80 then .next (if write then s.dmWrite a v.toNat else { s with lastRead := s.dmRead a })
  else .next (if write then s else { s with lastRead := 0 })

end Sys2Proof.Machine
end

