-- ==== Sys2Proof/Machine/Management.lean ====
section
/-! DEFINITION. The commands of the management network and of the SDIO mailbox (R548 to R554, R597), and the sessions of the port (R551). -/

namespace Sys2Proof.Machine

/-! ## Requests and replies (Table 22.3) -/

/-- Status codes of Table 12.5 that MGC answers with. -/
def stOk : Nat := 0
def stNotPermitted : Nat := 0x30
def stBusy : Nat := 0x32
def stInvalid : Nat := 0x33

/-- A reply message (Table 22.3). -/
def replyBytes (op status id reason : Nat) (body : List Byte) : List Byte :=
  leBytes 4 (16 + body.length) ++ leBytes 2 op ++ [0#8, BitVec.ofNat 8 status] ++ leBytes 4 id ++ leBytes 2 reason ++ [0#8, 0#8] ++ body

/-- A reply leaves by the request's path; over SDIO it lies in the reply area, and the mailbox is REPLY_READY (R548). -/
def State.reply (s : State) (r : Req) (op status reason : Nat) (body : List Byte) : State :=
  let b := replyBytes op status r.id reason body
  match r.path with
  | .mgmt => s.emit (.reply b)
  | .sdio => s.setSdio (fun x => { x with reply := b, mbx := 2 })

/-- Whether a request is before MGC: MGC runs, and the session is open or the mailbox BUSY (R548, R551). -/
def State.before (s : State) (r : Req) : Bool :=
  s.mgcAlive && (match r.path with
    | .mgmt => Tab.get 0 s.mgmt.sessions r.session.val != 0
    | .sdio => s.sdio.mbx == 1)

/-- The request is taken: its session was last used now, and S4 ends (R523). -/
def State.taken (s : State) (r : Req) : State :=
  let s := s.wakeS4
  match r.path with
  | .mgmt => { s with mgmt := { s.mgmt with sessions := Tab.set 0 s.mgmt.sessions r.session.val (s.clk + 1) } }
  | .sdio => s

/-- What a command may be sent by: SDIO, a table that is locked (R427), a client whose chain ends in no OPERATOR_CA entry (R428, R440). -/
structure Gate where
  sdio : Bool := false
  locked : Bool := false
  claim : Bool := false

/-- R553: whether the path admits a command. -/
def State.permits (s : State) (r : Req) (g : Gate) : Bool :=
  match r.path with
  | .sdio => g.sdio
  | .mgmt =>
    if s.rdB F.SEC_STATE_table_locked then g.locked
    else g.claim || s.mgmt.trusted.contains r.session.val

/-- A command answered in the order of R552: path, head and body, block. The block answers its state, status, reason and body. -/
def State.serveReq (s : State) (r : Req) (op : Nat) (g : Gate) (bodyOk : Bool) (f : State → State × Nat × Nat × List Byte) : Res :=
  if !s.before r then .next s
  else
    let s := s.taken r
    if !s.permits r g then .next (s.reply r op stNotPermitted 0 [])
    else if r.malformed || !bodyOk then .next (s.reply r op stInvalid 0 [])
    else let x := f s; .next (x.1.reply r op x.2.1 x.2.2.1 x.2.2.2)

/-- What a block answers: done, refused with a reason (R553), busy. -/
def served (s : State) (body : List Byte := []) : State × Nat × Nat × List Byte := (s, stOk, 0, body)
def refusedWith (s : State) (reason : Nat) : State × Nat × Nat × List Byte := (s, stInvalid, reason, [])
def blockBusy (s : State) : State × Nat × Nat × List Byte := (s, stBusy, 0, [])

/-- A result with a reason, 0 for success. -/
def byReason (x : State × Nat) : State × Nat × Nat × List Byte := if x.2 = 0 then served x.1 else refusedWith x.1 x.2

/-- A register as MGC reads it, in 8 bytes. -/
def State.regBytes (s : State) (r : RegId) : List Byte := leBytes 8 (s.readReg .mgc r 0 0)

/-! ## Status, log, faults -/

/-- Op 0x01. -/
def execStatus (r : Req) (s : State) : Res :=
  s.serveReq r 0x01 { sdio := true, locked := true } true fun s =>
    served s ([RegId.FAULT_SUMMARY, .FW_BOOT, .FW_VERSIONS, .PWR_LIMIT, .PWR_INPUT, .REDUN_STATE].flatMap s.regBytes)

/-- Op 0x02, R597: a slot above 255 is returned as zero. -/
def execAmberRead (r : Req) (first : Byte) (s : State) : Res :=
  s.serveReq r 0x02 { sdio := true, locked := true } true fun s =>
    served s (s.regBytes .AMBER_STATE ++ (List.range 32).flatMap (fun k =>
      leBytes 8 (if first.toNat + k ≤ 255 then s.amberSlot (first.toNat + k) else 0)))

/-- Op 0x03: as AMBER_IDX.clear (R477). -/
def execAmberClear (r : Req) (s : State) : Res :=
  s.serveReq r 0x03 { sdio := true } true fun s => served ((s.bbsZero 0x800 2048).wr F.AMBER_STATE_lost 0)

/-- Op 0x04: a FAULT_CMD value (R470). -/
def execFault (r : Req) (v : W64) (s : State) : Res :=
  s.serveReq r 0x04 {} true fun s =>
    let s := s.faultWrite .mgc v.toNat
    if s.rd F.FAULT_CMD_STATUS_result = 1 then served s else refusedWith s (s.rd F.FAULT_CMD_STATUS_reason)

/-! ## Power -/

/-- R517: what a power-on command asks for. Voltages in units of 10 mV, temperatures of 0.125 °C. -/
def State.powerOnOk (s : State) : Bool :=
  let t := s.inletTemp
  s.power.off && s.power.everFlow && !s.rdB F.PWR_COOLANT_flow_stale && decide (80 ≤ s.rd F.PWR_COOLANT_flow ∧ t ≤ 320 ∧ s.power.outlet.eff ≤ t + 40 ∧
    4400 ≤ s.rd F.PWR_INPUT_volts ∧ s.rd F.PWR_INPUT_volts ≤ 6000)

/-- Op 0x10: boots the module (R517). The reply goes before the boot clears the mailbox. -/
def execPowerOn (r : Req) (s : State) : Res :=
  if s.before r && s.permits r { sdio := true } && !r.malformed && s.powerOnOk then
    .next (((s.taken r).reply r 0x10 stOk 0 []).bootFromReset true)
  else s.serveReq r 0x10 { sdio := true } true fun s => refusedWith s 0

/-- Whether a write to the management slot holds POWER_OFF and RESET back (R554). -/
def State.mgmtWriting (s : State) (r : Req) : Bool := s.fw.write.any (fun w => w.target = 0) && !r.force

/-- Op 0x11: OFF with cause COMMAND (Table 20.6). -/
def execPowerOff (r : Req) (s : State) : Res :=
  s.serveReq r 0x11 { sdio := true } true fun s => if s.mgmtWriting r then blockBusy s else served (s.removePower 7)

/-- Op 0x12: a module reset, without a reply (R548): the mailbox is IDLE, the reply area zero, every session closed. -/
def execReset (r : Req) (s : State) : Res :=
  if s.before r && s.permits r { sdio := true } && !r.malformed && !s.mgmtWriting r then .next ((s.taken r).bootFromReset false)
  else s.serveReq r 0x12 { sdio := true } true fun s => blockBusy s

/-- Op 0x13: the management cap, 250 to 2,000 W (R505). -/
def execSetCap (r : Req) (w : Nat) (s : State) : Res :=
  s.serveReq r 0x13 {} (decide (250 ≤ w ∧ w ≤ 2000)) fun s => served (s.wr F.PWR_CTRL_mgmt_cap_w w).plan

/-- Op 0x14: as REDUN_CMD (R486). -/
def execMgmtHandover (r : Req) (s : State) : Res :=
  s.serveReq r 0x14 {} true fun s =>
    let x := s.handOver
    let s := x.1.wr F.REDUN_STATE_cmd_result (if x.2 then 1 else 3)
    if x.2 then served s else refusedWith s 0

/-! ## Attestation, keys, lifecycle -/

/-- Op 0x20: the report as MGC (R434). -/
def execMgmtAttest (r : Req) (nonce : List Byte) (s : State) : Res :=
  s.serveReq r 0x20 {} (decide (nonce.length = 64)) fun s => served { s with fresh := s.fresh + 1 } (s.report 0xFF nonce)

/-- An entry as the table keeps it: with the digest of its key; module-scope roles have no partition (R426). -/
def tableEntry (k : PubKey) : PubKey := { k with part := if k.role < 4 then 0 else k.part, digest := sha k.key }

/-- The module is claimed, in SEC_STATE and in the boot record. -/
def State.setClaimed (s : State) (v : Nat) : State := (s.wr F.SEC_STATE_claimed v).bbsWr 0x73 1 v

/-- Op 0x21, R428: an unclaimed module takes the client's root as OPERATOR_CA. -/
def execClaim (r : Req) (root : PubKey) (s : State) : Res :=
  s.serveReq r 0x21 { claim := true } true fun s =>
    if s.rdB F.SEC_STATE_claimed ∨ 64 ≤ s.sec.keys.length then refusedWith s 0
    else
      let s := { s with sec := { s.sec with keys := s.sec.keys ++ [tableEntry { root with role := 2 }] }
                        mgmt := { s.mgmt with trusted := s.mgmt.trusted ++ (if s.mgmt.trusted.contains r.session.val then [] else [r.session.val]) } }
      served (s.setClaimed 1).sealKeys

/-- Op 0x22: an entry joins the table of 64 (R426, R428). -/
def execKeyEnrol (r : Req) (k : PubKey) (s : State) : Res :=
  s.serveReq r 0x22 {} (decide (1 ≤ k.role ∧ k.role ≤ 5 ∧ k.part < 16)) fun s =>
    let e := tableEntry k
    if s.sec.keys.contains e then served s
    else if 64 ≤ s.sec.keys.length then refusedWith s 0
    else served { s with sec := { s.sec with keys := s.sec.keys ++ [e] } }.sealKeys

/-- Op 0x23: an entry leaves the table; nothing that it verified is verified again (R428). -/
def execKeyRemove (r : Req) (digest : List Byte) (role part : Nat) (s : State) : Res :=
  s.serveReq r 0x23 {} (decide (1 ≤ role ∧ role ≤ 5 ∧ part < 16)) fun s =>
    let hit := fun k : PubKey => k.role = role && (role < 4 || k.part = part) && digestEq k.digest digest
    if s.sec.keys.any hit then served { s with sec := { s.sec with keys := s.sec.keys.filter (fun k => !hit k) } }.sealKeys
    else refusedWith s 0

/-- Whether a valid, non-revoked root slot has signed a command (R423, R427). -/
def State.rootSigned (s : State) (slot : Fin 4) (msg sig : List Byte) : Bool :=
  bit (s.rd F.SEC_STATE_root_valid) slot.val && !bit (s.rd F.SEC_STATE_root_revoked) slot.val &&
    Config.rootVerify (s.sec.roots.getD slot.val []) msg sig

/-- Op 0x24, R427: table_locked is released; digest and generation follow the table. -/
def execUnlock (r : Req) (slot : Fin 4) (sig : List Byte) (s : State) : Res :=
  s.serveReq r 0x24 { locked := true } true fun s =>
    if !s.rootSigned slot (leBytes 2 0x24 ++ leBytes 16 s.identity) sig then refusedWith s 5
    else if s.rdB F.SEC_STATE_table_locked then served (s.wr F.SEC_STATE_table_locked 0).sealKeys
    else served s

/-- Op 0x25, R423: a transition: FACTORY to PRODUCTION, PRODUCTION to DEPOT (at most 7 times), DEPOT to PRODUCTION, which erases the key
table, the link keys and the Nypra floor and leaves the unit UNCLAIMED. -/
def execLifecycle (r : Req) (target : Fin 3) (slot : Fin 4) (sig : List Byte) (s : State) : Res :=
  s.serveReq r 0x25 {} true fun s =>
    let l := s.rd F.SEC_STATE_lifecycle
    let n := s.rd F.SEC_STATE_depot_returns
    if !s.rootSigned slot (leBytes 2 0x25 ++ leBytes 1 target.val ++ leBytes 16 s.identity) sig then refusedWith s 5
    else if l = 0 ∧ target = 1 then
      served { s.wr F.SEC_STATE_lifecycle 1 with faults := { s.faults with inject := [] } }
    else if l = 1 ∧ target = 2 ∧ n < 7 then served ((s.wr F.SEC_STATE_lifecycle 2).wr F.SEC_STATE_depot_returns (n + 1))
    else if l = 2 ∧ target = 1 then
      let s := { s.wr F.SEC_STATE_lifecycle 1 with sec := { s.sec with keys := [], linkKeys := [] } }
      served ((s.setCounter 2 0).setClaimed 0).sealKeys
    else refusedWith s 0xC

/-- Op 0x26 (R433). -/
def execLinkKeyImport (r : Req) (blob : List Byte) (s : State) : Res :=
  s.serveReq r 0x26 {} (decide (blob.length = 256)) fun s => byReason (s.importKey (leAt blob 5 1) blob)

/-- Op 0x27 (R432). -/
def execLinkKeyDelete (r : Req) (n : PartId) (keyId : BitVec 16) (s : State) : Res :=
  s.serveReq r 0x27 {} true fun s => byReason (s.deleteKey n.val keyId.toNat)

/-- Op 0x28 (R437): the window is that of the token's partition. -/
def execMgmtConsentSubmit (r : Req) (token : List Byte) (s : State) : Res :=
  s.serveReq r 0x28 {} (decide (token.length = 512)) fun s =>
    if 16 ≤ leAt token 5 1 then refusedWith s 4 else byReason (s.submitConsent (leAt token 5 1) token)

/-- Op 0x29 (R438). -/
def execMgmtConsentRevoke (r : Req) (n : PartId) (s : State) : Res :=
  s.serveReq r 0x29 {} true fun s => served (s.endConsent n.val)

/-! ## Structure and firmware -/

/-- Op 0x30: a NYPRA_CMD value, with the image for VERIFY. Without core power there is no loader. -/
def execNypra (r : Req) (v : W64) (image : List Byte) (s : State) : Res :=
  s.serveReq r 0x30 {} true fun s =>
    if !s.power.rails then refusedWith s 0
    else if s.rdB F.NYPRA_STATUS_busy then blockBusy s
    else if bits v.toNat 3 0 = 1 then
      let s := s.setStruct (fun t => { t with staged := some { bytes := image, len := image.length } })
      served (((s.wr F.NYPRA_STATUS_failed_check 0).wr F.NYPRA_STATUS_failed_section 0).setNypra nypraVerifying true)
    else
      let was := s.rdB F.NYPRA_EVENT_cmd_rejected
      let t := (s.wr F.NYPRA_EVENT_cmd_rejected 0).nypraWrite .mgc v.toNat
      let bad := t.rdB F.NYPRA_EVENT_cmd_rejected
      let t := if was then t.setB F.NYPRA_EVENT_cmd_rejected else t
      if bad then refusedWith t 0
      else if t.nypraState = nypraRefused then refusedWith t (t.rd F.NYPRA_STATUS_failed_check)
      else served t

/-- A chunk joins a write: a final one completes it, and FLASH_WRITE_DONE then ends it (R462). -/
def State.fwChunk (s : State) (w : FlashWrite) (final : Bool) (data : List Byte) : State × Nat × Nat × List Byte :=
  let b := w.bytes ++ data
  let most := if w.target = 0 then 16777216 else 1610612736
  if most < b.length ∨ (final ∧ b.length = 0) then refusedWith (s.writeFails w.target) 2
  else served { s with fw := { s.fw with write := some { w with bytes := b, len := if final then b.length else b.length + 1 } } }

/-- Op 0x40, R554: chunks in ascending offset from 0 without gaps; one out of order ends the write as a failed one. -/
def execFwWrite (r : Req) (target : Fin 3) (off : Nat) (final : Bool) (data : List Byte) (s : State) : Res :=
  s.serveReq r 0x40 { locked := true } true fun s =>
    let t := target.val
    match s.fw.write with
    | some w =>
      if w.origin ≠ 1 ∨ w.len = w.bytes.length then blockBusy s
      else if w.target ≠ t ∨ off ≠ w.bytes.length then refusedWith (s.writeFails w.target) 0
      else s.fwChunk w final data
    | none =>
      if s.rdB F.FW_STATUS_busy then blockBusy s
      else if off ≠ 0 then refusedWith s 0
      else
        let reason := s.writeReason t (max 1 data.length)
        if reason ≠ 0 then refusedWith s reason
        else
          let w : FlashWrite := { target := t, origin := 1 }
          (s.beginWrite w).fwChunk w final data

/-- Op 0x41: a FW_CMD value other than a write (Table 18.6). -/
def execFwCtrl (r : Req) (v : W64) (s : State) : Res :=
  let op := bits v.toNat 3 0
  s.serveReq r 0x41 { locked := true } (decide (3 ≤ op ∧ op ≤ 7)) fun s =>
    if s.fwBusy then blockBusy s
    else
      let x := s.fwOp op (bits v.toNat 4 4)
      let s := x.1.fwResult x.2.1 x.2.2
      if x.2.1 = 1 then served s else refusedWith s x.2.2

/-- Op 0x50: the network record of the store, for the next module reset (R554, Table 22.5). -/
def execSetNetwork (r : Req) (record : List Byte) (s : State) : Res :=
  s.serveReq r 0x50 {} (decide (record.length = 32 ∧ leVal (slice record 16 16) = 0)) fun s => served (s.bbsPut 0xA0 record)

/-! ## Sessions (R551) -/

/-- R440: while the clock is neither LOCKED nor HOLDOVER validity periods are not checked, and the connection is recorded as a note. The spec
names no source and no detail for it: free (log). -/
def State.noteUnchecked (s : State) : State :=
  let st := s.rd F.PTP_STATE_state
  if st = 2 ∨ st = 3 then s
  else s.draw.eventAt (Config.choice s.fresh 0 % 106) (Config.choice s.fresh 1 % 8192) 1 false false

/-- The lowest session number that is free. -/
def State.freeSession (s : State) : Option Nat := (List.range 4).find? (fun i => Tab.get 0 s.mgmt.sessions i = 0)

/-- R551: a peer opens a connection, or closes one. The command service takes up to four whose client's certificate chains to an OPERATOR_CA
entry, or any client of an unclaimed module or of a locked table; the lease service takes its partner. A client that closes names its session in
`peer`; one that opens the lease session, its identity. -/
def execMgmtSessionOpen (lease : Bool) (opened : Bool) (certOk : Bool) (peer : Nat) (s : State) : Res :=
  if !s.mgcAlive then .next s
  else
    let s := s.wakeS4
    if lease then
      if opened then
        if certOk ∧ s.struct.image.redun.role ≠ 0 ∧ peer = s.struct.image.redun.partner ∧ ! s.mgmt.leaseUp then
          .next { s.noteUnchecked with mgmt := { s.mgmt with leaseUp := true } }
        else .next s
      else .next { s with mgmt := { s.mgmt with leaseUp := false, leaseDue := if s.mgmt.leaseUp then s.clk + 1000000000 else s.mgmt.leaseDue } }
    else if opened then
      match s.freeSession with
      | none => .next s
      | some i =>
        if certOk ∨ ! s.rdB F.SEC_STATE_claimed ∨ s.rdB F.SEC_STATE_table_locked then
          let s := s.noteUnchecked
          .next { s with mgmt := { s.mgmt with sessions := Tab.set 0 s.mgmt.sessions i (s.clk + 1)
                                               trusted := if certOk then s.mgmt.trusted ++ [i] else s.mgmt.trusted } }
        else .next s
    else
      .next { s with mgmt := { s.mgmt with sessions := Tab.set 0 s.mgmt.sessions peer 0, trusted := s.mgmt.trusted.filter (· ≠ peer) } }

/-- R551: a session idle for 300 s is closed. -/
def execSessionIdleTimeout (i : Fin 4) (s : State) : Res :=
  match Tab.get 0 s.mgmt.sessions i.val with
  | 0 => .next s
  | t + 1 =>
    let s := s.advanceTo (t + 300000000000)
    .next { s with mgmt := { s.mgmt with sessions := Tab.set 0 s.mgmt.sessions i.val 0, trusted := s.mgmt.trusted.filter (· ≠ i.val) } }

/-- R551: the module with the lower identity tries the lease session every 1 s while it is down. -/
def execLeaseSessionRetry (connected : Bool) (s : State) : Res :=
  let x := s.struct.image.redun
  if !s.mgcAlive ∨ s.mgmt.leaseUp ∨ x.role = 0 ∨ x.partner ≤ s.identity then .next s
  else
    let s := s.advanceTo s.mgmt.leaseDue
    .next { s with mgmt := { s.mgmt with leaseUp := connected, leaseDue := s.clk + 1000000000 } }

end Sys2Proof.Machine
end

