-- ==== Sys2Proof/Machine/Dispatch.lean ====
section
/-! DEFINITION. Every command and its meaning. -/

namespace Sys2Proof.Machine

def exec (i : Instr) (s : State) : Host.Outcome State Fault Refusal :=
  match i with
  | .registerWrite m sp off v => Sys2Proof.Machine.execRegisterWrite m sp off v s
  | .accessError sp off write => Sys2Proof.Machine.execAccessError sp off write s
  | .undefinedOffsetAccess m sp off write => Sys2Proof.Machine.execUndefinedOffsetAccess m sp off write s
  | .forbiddenMasterAccess m sp off write => Sys2Proof.Machine.execForbiddenMasterAccess m sp off write s
  | .vinMate mv => Sys2Proof.Machine.execVinMate mv s
  | .powerOnResetRelease => Sys2Proof.Machine.execPowerOnResetRelease s
  | .moduleReset => Sys2Proof.Machine.execModuleReset s
  | .ddr4TrainingDone passed => Sys2Proof.Machine.execDdr4TrainingDone passed s
  | .runtimeCopyDone digestsOk => Sys2Proof.Machine.execRuntimeCopyDone digestsOk s
  | .bootScrubDone => Sys2Proof.Machine.execBootScrubDone s
  | .partitionBecomesEmpty n => Sys2Proof.Machine.execPartitionBecomesEmpty n s
  | .verify m => Sys2Proof.Machine.execVerify m s
  | .verifyDone => Sys2Proof.Machine.execVerifyDone s
  | .apply m => Sys2Proof.Machine.execApply m s
  | .applyScrubDone => Sys2Proof.Machine.execApplyScrubDone s
  | .applyDone => Sys2Proof.Machine.execApplyDone s
  | .discard m => Sys2Proof.Machine.execDiscard m s
  | .remove m n => Sys2Proof.Machine.execRemove m n s
  | .removalDrainDone => Sys2Proof.Machine.execRemovalDrainDone s
  | .removalTimeout => Sys2Proof.Machine.execRemovalTimeout s
  | .removalScrubDone => Sys2Proof.Machine.execRemovalScrubDone s
  | .commitVersion m => Sys2Proof.Machine.execCommitVersion m s
  | .streamCommandDone t q => Sys2Proof.Machine.execStreamCommandDone t q s
  | .tileStoreUncorrectable quad unit word => Sys2Proof.Machine.execTileStoreUncorrectable quad unit word s
  | .tileReloadDone n => Sys2Proof.Machine.execTileReloadDone n s
  | .tilePatrolPass d corrected bad => Sys2Proof.Machine.execTilePatrolPass d corrected bad s
  | .selftestStart c => Sys2Proof.Machine.execSelftestStart c s
  | .tileSelftestStart m d v => Sys2Proof.Machine.execTileSelftestStart m d v s
  | .selftestDone c pass => Sys2Proof.Machine.execSelftestDone c pass s
  | .selftestAbortDone c => Sys2Proof.Machine.execSelftestAbortDone c s
  | .kernel n k tiles ins outs consts args => Sys2Proof.Machine.execKernel n k tiles ins outs consts args s
  | .budget t => Sys2Proof.Machine.execBudget t s
  | .regParity t g => Sys2Proof.Machine.execRegParity t g s
  | .nop t g w => Sys2Proof.Machine.execNop t g w s
  | .exit t g w => Sys2Proof.Machine.execExit t g w s
  | .bra t g w => Sys2Proof.Machine.execBra t g w s
  | .brs t g w => Sys2Proof.Machine.execBrs t g w s
  | .brp t g w => Sys2Proof.Machine.execBrp t g w s
  | .bar t g w => Sys2Proof.Machine.execBar t g w s
  | .swait t g w => Sys2Proof.Machine.execSwait t g w s
  | .fadd t g w => Sys2Proof.Machine.execFadd t g w s
  | .fsub t g w => Sys2Proof.Machine.execFsub t g w s
  | .fmul t g w => Sys2Proof.Machine.execFmul t g w s
  | .ffma t g w => Sys2Proof.Machine.execFfma t g w s
  | .fmin t g w => Sys2Proof.Machine.execFmin t g w s
  | .fmax t g w => Sys2Proof.Machine.execFmax t g w s
  | .fabs t g w => Sys2Proof.Machine.execFabs t g w s
  | .fneg t g w => Sys2Proof.Machine.execFneg t g w s
  | .fsqrt t g w => Sys2Proof.Machine.execFsqrt t g w s
  | .fldexp t g w => Sys2Proof.Machine.execFldexp t g w s
  | .frint t g w => Sys2Proof.Machine.execFrint t g w s
  | .fclamp t g w => Sys2Proof.Machine.execFclamp t g w s
  | .frcp t g w => Sys2Proof.Machine.execFrcp t g w s
  | .frsq t g w => Sys2Proof.Machine.execFrsq t g w s
  | .fdiv t g w => Sys2Proof.Machine.execFdiv t g w s
  | .fexp2 t g w => Sys2Proof.Machine.execFexp2 t g w s
  | .fexp t g w => Sys2Proof.Machine.execFexp t g w s
  | .flog2 t g w => Sys2Proof.Machine.execFlog2 t g w s
  | .ftanh t g w => Sys2Proof.Machine.execFtanh t g w s
  | .fsigm t g w => Sys2Proof.Machine.execFsigm t g w s
  | .iadd t g w => Sys2Proof.Machine.execIadd t g w s
  | .isub t g w => Sys2Proof.Machine.execIsub t g w s
  | .imul t g w => Sys2Proof.Machine.execImul t g w s
  | .imad t g w => Sys2Proof.Machine.execImad t g w s
  | .and t g w => Sys2Proof.Machine.execAnd t g w s
  | .or t g w => Sys2Proof.Machine.execOr t g w s
  | .xor t g w => Sys2Proof.Machine.execXor t g w s
  | .not t g w => Sys2Proof.Machine.execNot t g w s
  | .shl t g w => Sys2Proof.Machine.execShl t g w s
  | .shru t g w => Sys2Proof.Machine.execShru t g w s
  | .shrs t g w => Sys2Proof.Machine.execShrs t g w s
  | .imin t g w => Sys2Proof.Machine.execImin t g w s
  | .imax t g w => Sys2Proof.Machine.execImax t g w s
  | .umin t g w => Sys2Proof.Machine.execUmin t g w s
  | .umax t g w => Sys2Proof.Machine.execUmax t g w s
  | .fcmp t g w => Sys2Proof.Machine.execFcmp t g w s
  | .icmp t g w => Sys2Proof.Machine.execIcmp t g w s
  | .ucmp t g w => Sys2Proof.Machine.execUcmp t g w s
  | .f32Fmt t g w => Sys2Proof.Machine.execF32Fmt t g w s
  | .f32S32 t g w => Sys2Proof.Machine.execF32S32 t g w s
  | .f32Mxi8 t g w => Sys2Proof.Machine.execF32Mxi8 t g w s
  | .fmtF32 t g w => Sys2Proof.Machine.execFmtF32 t g w s
  | .s32F32 t g w => Sys2Proof.Machine.execS32F32 t g w s
  | .mxi8F32 t g w => Sys2Proof.Machine.execMxi8F32 t g w s
  | .mxscale t g w => Sys2Proof.Machine.execMxscale t g w s
  | .mov t g w => Sys2Proof.Machine.execMov t g w s
  | .sel t g w => Sys2Proof.Machine.execSel t g w s
  | .laneid t g w => Sys2Proof.Machine.execLaneid t g w s
  | .bcast t g w => Sys2Proof.Machine.execBcast t g w s
  | .shflIdx t g w => Sys2Proof.Machine.execShflIdx t g w s
  | .shflXor t g w => Sys2Proof.Machine.execShflXor t g w s
  | .shflUp t g w => Sys2Proof.Machine.execShflUp t g w s
  | .shflDown t g w => Sys2Proof.Machine.execShflDown t g w s
  | .vote t g w => Sys2Proof.Machine.execVote t g w s
  | .vtos t g w => Sys2Proof.Machine.execVtos t g w s
  | .ldU8 t g w => Sys2Proof.Machine.execLdU8 t g w s
  | .ldS8 t g w => Sys2Proof.Machine.execLdS8 t g w s
  | .ldU16 t g w => Sys2Proof.Machine.execLdU16 t g w s
  | .ldS16 t g w => Sys2Proof.Machine.execLdS16 t g w s
  | .ld32 t g w => Sys2Proof.Machine.execLd32 t g w s
  | .ld128 t g w => Sys2Proof.Machine.execLd128 t g w s
  | .st8 t g w => Sys2Proof.Machine.execSt8 t g w s
  | .st16 t g w => Sys2Proof.Machine.execSt16 t g w s
  | .st32 t g w => Sys2Proof.Machine.execSt32 t g w s
  | .st128 t g w => Sys2Proof.Machine.execSt128 t g w s
  | .qld32 t g w => Sys2Proof.Machine.execQld32 t g w s
  | .qld128 t g w => Sys2Proof.Machine.execQld128 t g w s
  | .qst32 t g w => Sys2Proof.Machine.execQst32 t g w s
  | .qst128 t g w => Sys2Proof.Machine.execQst128 t g w s
  | .atomFadd t g w => Sys2Proof.Machine.execAtomFadd t g w s
  | .atomIadd t g w => Sys2Proof.Machine.execAtomIadd t g w s
  | .atomFmax t g w => Sys2Proof.Machine.execAtomFmax t g w s
  | .atomImax t g w => Sys2Proof.Machine.execAtomImax t g w s
  | .atomXchg t g w => Sys2Proof.Machine.execAtomXchg t g w s
  | .atomCas t g w => Sys2Proof.Machine.execAtomCas t g w s
  | .qatom t g w => Sys2Proof.Machine.execQatom t g w s
  | .sin t g w => Sys2Proof.Machine.execSin t g w s
  | .sout t g w => Sys2Proof.Machine.execSout t g w s
  | .sadd t g w => Sys2Proof.Machine.execSadd t g w s
  | .ssub t g w => Sys2Proof.Machine.execSsub t g w s
  | .smul t g w => Sys2Proof.Machine.execSmul t g w s
  | .sand t g w => Sys2Proof.Machine.execSand t g w s
  | .sor t g w => Sys2Proof.Machine.execSor t g w s
  | .sxor t g w => Sys2Proof.Machine.execSxor t g w s
  | .sshl t g w => Sys2Proof.Machine.execSshl t g w s
  | .sshr t g w => Sys2Proof.Machine.execSshr t g w s
  | .ssar t g w => Sys2Proof.Machine.execSsar t g w s
  | .smov t g w => Sys2Proof.Machine.execSmov t g w s
  | .smovhi t g w => Sys2Proof.Machine.execSmovhi t g w s
  | .sread t g w => Sys2Proof.Machine.execSread t g w s
  | .sld t g w => Sys2Proof.Machine.execSld t g w s
  | .matmul n a b bias y transA transB outScale epi => Sys2Proof.Machine.execMatmul n a b bias y transA transB outScale epi s
  | .conv n x wt bias y p outScale epi => Sys2Proof.Machine.execConv n x wt bias y p outScale epi s
  | .pool n x y p avg countPad => Sys2Proof.Machine.execPool n x y p avg countPad s
  | .chain n x y c => Sys2Proof.Machine.execChain n x y c s
  | .reduce n x y axes fn => Sys2Proof.Machine.execReduce n x y axes fn s
  | .softmax n x y scale => Sys2Proof.Machine.execSoftmax n x y scale s
  | .norm n x y form eps gn gamma beta => Sys2Proof.Machine.execNorm n x y form eps gn gamma beta s
  | .gather n tb idx y => Sys2Proof.Machine.execGather n tb idx y s
  | .scatter n d idx u mode => Sys2Proof.Machine.execScatter n d idx u mode s
  | .fft n x y axes inverse realInput => Sys2Proof.Machine.execFft n x y axes inverse realInput s
  | .convert n x y scale rm sat mxAxis => Sys2Proof.Machine.execConvert n x y scale rm sat mxAxis s
  | .attnPrefill n layer qHeads scale q k v o => Sys2Proof.Machine.execAttnPrefill n layer qHeads scale q k v o s
  | .attnDecode n layer qHeads scale mode q k v oin parts o => Sys2Proof.Machine.execAttnDecode n layer qHeads scale mode q k v oin parts o s
  | .load m n => Sys2Proof.Machine.execLoad m n s
  | .loadSectionsRead n => Sys2Proof.Machine.execLoadSectionsRead n s
  | .planBuilt n => Sys2Proof.Machine.execPlanBuilt n s
  | .weightsCopied n => Sys2Proof.Machine.execWeightsCopied n s
  | .replace m n => Sys2Proof.Machine.execReplace m n s
  | .unload m n => Sys2Proof.Machine.execUnload m n s
  | .unloadDone n => Sys2Proof.Machine.execUnloadDone n s
  | .abort m n => Sys2Proof.Machine.execAbort m n s
  | .check m n => Sys2Proof.Machine.execCheck m n s
  | .checkDone n => Sys2Proof.Machine.execCheckDone n s
  | .kvWrite n page tok head value vec => Sys2Proof.Machine.execKvWrite n page tok head value vec s
  | .expandedRead n t page first count head value dst => Sys2Proof.Machine.execExpandedRead n t page first count head value dst s
  | .vetiverQuery n m bytes => Sys2Proof.Machine.execVetiverQuery n m bytes s
  | .queryAccepted n m => Sys2Proof.Machine.execQueryAccepted n m s
  | .engineWalk e badPages => Sys2Proof.Machine.execEngineWalk e badPages s
  | .pageBufferParity e => Sys2Proof.Machine.execPageBufferParity e s
  | .stackUncorrectable pc word byPatrol => Sys2Proof.Machine.execStackUncorrectable pc word byPatrol s
  | .stackBlockReloadDone n => Sys2Proof.Machine.execStackBlockReloadDone n s
  | .stackPatrolPass m corrected bad => Sys2Proof.Machine.execStackPatrolPass m corrected bad s
  | .stepCommit n tokens => Sys2Proof.Machine.execStepCommit n tokens s
  | .stepDiscard n => Sys2Proof.Machine.execStepDiscard n s
  | .standingEditAdvance n => Sys2Proof.Machine.execStandingEditAdvance n s
  | .zeroAndCheck head => Sys2Proof.Machine.execZeroAndCheck head s
  | .zeroAndCheckDone head failed => Sys2Proof.Machine.execZeroAndCheckDone head failed s
  | .auditSweep start => Sys2Proof.Machine.execAuditSweep start s
  | .auditSweepDone mismatch skips => Sys2Proof.Machine.execAuditSweepDone mismatch skips s
  | .pagePatrolPass corrected badDesc badList badJournal => Sys2Proof.Machine.execPagePatrolPass corrected badDesc badList badJournal s
  | .quarantine m page => Sys2Proof.Machine.execQuarantine m page s
  | .pageRelease m page => Sys2Proof.Machine.execPageRelease m page s
  | .fence m n => Sys2Proof.Machine.execFence m n s
  | .submit m n => Sys2Proof.Machine.execSubmit m n s
  | .cancel m n => Sys2Proof.Machine.execCancel m n s
  | .reqPause m n => Sys2Proof.Machine.execReqPause m n s
  | .reqResume m n count => Sys2Proof.Machine.execReqResume m n count s
  | .reqRead m n => Sys2Proof.Machine.execReqRead m n s
  | .deadlineSettlement n => Sys2Proof.Machine.execDeadlineSettlement n s
  | .recordRetry n => Sys2Proof.Machine.execRecordRetry n s
  | .create m n => Sys2Proof.Machine.execCreate m n s
  | .createDone r => Sys2Proof.Machine.execCreateDone r s
  | .destroy m n => Sys2Proof.Machine.execDestroy m n s
  | .ringPause m n => Sys2Proof.Machine.execRingPause m n s
  | .ringResume m n => Sys2Proof.Machine.execRingResume m n s
  | .drain m n => Sys2Proof.Machine.execDrain m n s
  | .ringReset m n => Sys2Proof.Machine.execRingReset m n s
  | .ringResetDone r => Sys2Proof.Machine.execRingResetDone r s
  | .ringRead m n => Sys2Proof.Machine.execRingRead m n s
  | .producerDoorbell m r v => Sys2Proof.Machine.execProducerDoorbell m r v s
  | .consumerDoorbell m r v => Sys2Proof.Machine.execConsumerDoorbell m r v s
  | .completionReservation r => Sys2Proof.Machine.execCompletionReservation r s
  | .dmaNop r => Sys2Proof.Machine.execDmaNop r s
  | .copy r => Sys2Proof.Machine.execCopy r s
  | .fill r => Sys2Proof.Machine.execFill r s
  | .strided r => Sys2Proof.Machine.execStrided r s
  | .linkWrite r => Sys2Proof.Machine.execLinkWrite r s
  | .descriptorComplete r index => Sys2Proof.Machine.execDescriptorComplete r index s
  | .entryWriteRetry r => Sys2Proof.Machine.execEntryWriteRetry r s
  | .ringAuditCheck => Sys2Proof.Machine.execRingAuditCheck s
  | .ringIrqTimer r => Sys2Proof.Machine.execRingIrqTimer r s
  | .ddr4Uncorrectable addr byPatrol => Sys2Proof.Machine.execDdr4Uncorrectable addr byPatrol s
  | .weightsUnitRestored addr ok => Sys2Proof.Machine.execWeightsUnitRestored addr ok s
  | .ddr4PatrolPass corrected bad => Sys2Proof.Machine.execDdr4PatrolPass corrected bad s
  | .dataCell p c => Sys2Proof.Machine.execDataCell p c s
  | .leaseCell p c => Sys2Proof.Machine.execLeaseCell p c s
  | .credit p freed freedCc lastAccepted => Sys2Proof.Machine.execCredit p freed freedCc lastAccepted s
  | .replayReq p from_ => Sys2Proof.Machine.execReplayReq p from_ s
  | .audit p sent => Sys2Proof.Machine.execAudit p sent s
  | .auditReply p freed => Sys2Proof.Machine.execAuditReply p freed s
  | .negotiate p maxLevel minLevel port lanes fabricId identity malformed => Sys2Proof.Machine.execNegotiate p maxLevel minLevel port lanes fabricId identity malformed s
  | .vcReset p vc sent => Sys2Proof.Machine.execVcReset p vc sent s
  | .ack p h transfer srcPort vc bytes => Sys2Proof.Machine.execAck p h transfer srcPort vc bytes s
  | .nack p h transfer srcPort vc status bytes => Sys2Proof.Machine.execNack p h transfer srcPort vc status bytes s
  | .creditReportTimer p => Sys2Proof.Machine.execCreditReportTimer p s
  | .auditPeriod p => Sys2Proof.Machine.execAuditPeriod p s
  | .signalDetected p lanes => Sys2Proof.Machine.execSignalDetected p lanes s
  | .linkTrainingDone p good => Sys2Proof.Machine.execLinkTrainingDone p good s
  | .linkTrainingTimeout p => Sys2Proof.Machine.execLinkTrainingTimeout p s
  | .linkRetry p signal => Sys2Proof.Machine.execLinkRetry p signal s
  | .negotiateTimer p => Sys2Proof.Machine.execNegotiateTimer p s
  | .portEnable m p v => Sys2Proof.Machine.execPortEnable m p v s
  | .portDisable m p v => Sys2Proof.Machine.execPortDisable m p v s
  | .retrain m p v => Sys2Proof.Machine.execRetrain m p v s
  | .laneLockLost p lane => Sys2Proof.Machine.execLaneLockLost p lane s
  | .retrainDone p good => Sys2Proof.Machine.execRetrainDone p good s
  | .retrainTimeout p => Sys2Proof.Machine.execRetrainTimeout p s
  | .signalLost p => Sys2Proof.Machine.execSignalLost p s
  | .ackTimeout r index => Sys2Proof.Machine.execAckTimeout r index s
  | .vcResetResend p vc => Sys2Proof.Machine.execVcResetResend p vc s
  | .routeEntryWrite m v => Sys2Proof.Machine.execRouteEntryWrite m v s
  | .plantFrame k f => Sys2Proof.Machine.execPlantFrame k f s
  | .plantLinkChange k up => Sys2Proof.Machine.execPlantLinkChange k up s
  | .ptpMessage k msg => Sys2Proof.Machine.execPtpMessage k msg s
  | .announceTimeout => Sys2Proof.Machine.execAnnounceTimeout s
  | .poTx m k len => Sys2Proof.Machine.execPoTx m k len s
  | .poCopyDone k => Sys2Proof.Machine.execPoCopyDone k s
  | .poPeriod k => Sys2Proof.Machine.execPoPeriod k s
  | .cvCfgWrite m k v => Sys2Proof.Machine.execCvCfgWrite m k v s
  | .scanStart m k v => Sys2Proof.Machine.execScanStart m k v s
  | .scanDone k => Sys2Proof.Machine.execScanDone k s
  | .vidOpen m n => Sys2Proof.Machine.execVidOpen m n s
  | .close m n => Sys2Proof.Machine.execClose m n s
  | .feed m n => Sys2Proof.Machine.execFeed m n s
  | .flush m n => Sys2Proof.Machine.execFlush m n s
  | .vidRead m n => Sys2Proof.Machine.execVidRead m n s
  | .packetLossTimeout sess => Sys2Proof.Machine.execPacketLossTimeout sess s
  | .pictureDecoded sess pic => Sys2Proof.Machine.execPictureDecoded sess pic s
  | .encodeDone sess au idr => Sys2Proof.Machine.execEncodeDone sess au idr s
  | .attest m n => Sys2Proof.Machine.execAttest m n s
  | .keyImport m n => Sys2Proof.Machine.execKeyImport m n s
  | .keyDelete m n keyId => Sys2Proof.Machine.execKeyDelete m n keyId s
  | .consentSubmit m n => Sys2Proof.Machine.execConsentSubmit m n s
  | .consentRevoke m n => Sys2Proof.Machine.execConsentRevoke m n s
  | .consentExpiry n => Sys2Proof.Machine.execConsentExpiry n s
  | .writeMgmt m => Sys2Proof.Machine.execWriteMgmt m s
  | .writeSlot m slot => Sys2Proof.Machine.execWriteSlot m slot s
  | .flashWriteDone ok => Sys2Proof.Machine.execFlashWriteDone ok s
  | .arm m slot => Sys2Proof.Machine.execArm m slot s
  | .disarm m slot => Sys2Proof.Machine.execDisarm m slot s
  | .confirm m => Sys2Proof.Machine.execConfirm m s
  | .commitMgmt m => Sys2Proof.Machine.execCommitMgmt m s
  | .commitRuntime m => Sys2Proof.Machine.execCommitRuntime m s
  | .trialExpiry => Sys2Proof.Machine.execTrialExpiry s
  | .faultNPulseEnd => Sys2Proof.Machine.execFaultNPulseEnd s
  | .faultAck m idx => Sys2Proof.Machine.execFaultAck m idx s
  | .faultClear m idx => Sys2Proof.Machine.execFaultClear m idx s
  | .ackAll m => Sys2Proof.Machine.execAckAll m s
  | .faultInject m v => Sys2Proof.Machine.execFaultInject m v s
  | .injectedEvent => Sys2Proof.Machine.execInjectedEvent s
  | .amberLogClear m v => Sys2Proof.Machine.execAmberLogClear m v s
  | .renew path msg => Sys2Proof.Machine.execRenew path msg s
  | .grant path msg => Sys2Proof.Machine.execGrant path msg s
  | .deny path msg => Sys2Proof.Machine.execDeny path msg s
  | .release path msg => Sys2Proof.Machine.execRelease path msg s
  | .renewTimer => Sys2Proof.Machine.execRenewTimer s
  | .leaseDoubt => Sys2Proof.Machine.execLeaseDoubt s
  | .leaseExpiry => Sys2Proof.Machine.execLeaseExpiry s
  | .takeoverTimer => Sys2Proof.Machine.execTakeoverTimer s
  | .partnerSilent => Sys2Proof.Machine.execPartnerSilent s
  | .releaseResend => Sys2Proof.Machine.execReleaseResend s
  | .handover m => Sys2Proof.Machine.execHandover m s
  | .watchdogKick m v => Sys2Proof.Machine.execWatchdogKick m v s
  | .watchdog => Sys2Proof.Machine.execWatchdog s
  | .pathSilent path => Sys2Proof.Machine.execPathSilent path s
  | .removalWarning => Sys2Proof.Machine.execRemovalWarning s
  | .sagStart v1 v2 => Sys2Proof.Machine.execSagStart v1 v2 s
  | .sagEnd minV us => Sys2Proof.Machine.execSagEnd minV us s
  | .supplyLoss => Sys2Proof.Machine.execSupplyLoss s
  | .surge v1 v2 => Sys2Proof.Machine.execSurge v1 v2 s
  | .surgeOff => Sys2Proof.Machine.execSurgeOff s
  | .capLvlChange lvl => Sys2Proof.Machine.execCapLvlChange lvl s
  | .mgmtCapWrite m v => Sys2Proof.Machine.execMgmtCapWrite m v s
  | .plannerTick => Sys2Proof.Machine.execPlannerTick s
  | .recallDone => Sys2Proof.Machine.execRecallDone s
  | .loweringSettled => Sys2Proof.Machine.execLoweringSettled s
  | .powerWindow mean volts amps => Sys2Proof.Machine.execPowerWindow mean volts amps s
  | .flowReport flow seq => Sys2Proof.Machine.execFlowReport flow seq s
  | .flowStale => Sys2Proof.Machine.execFlowStale s
  | .flowOff => Sys2Proof.Machine.execFlowOff s
  | .temperatureSample inA inB outA outB spots => Sys2Proof.Machine.execTemperatureSample inA inB outA outB spots s
  | .softLimitTick => Sys2Proof.Machine.execSoftLimitTick s
  | .eoff => Sys2Proof.Machine.execEoff s
  | .eoffRelease => Sys2Proof.Machine.execEoffRelease s
  | .powerBooksAudit => Sys2Proof.Machine.execPowerBooksAudit s
  | .idleChoice => Sys2Proof.Machine.execIdleChoice s
  | .idleExit idx => Sys2Proof.Machine.execIdleExit idx s
  | .idleExitDone idx => Sys2Proof.Machine.execIdleExitDone idx s
  | .clockChangeDone idx => Sys2Proof.Machine.execClockChangeDone idx s
  | .crossTimeout near far => Sys2Proof.Machine.execCrossTimeout near far s
  | .scInstruction idx mode a => Sys2Proof.Machine.execScInstruction idx mode a s
  | .scIrqRead m idx => Sys2Proof.Machine.execScIrqRead m idx s
  | .consoleWrite m b => Sys2Proof.Machine.execConsoleWrite m b s
  | .consoleRead m => Sys2Proof.Machine.execConsoleRead m s
  | .trayConsoleData bytes => Sys2Proof.Machine.execTrayConsoleData bytes s
  | .bbsWrite m v => Sys2Proof.Machine.execBbsWrite m v s
  | .mailboxDoorbell v request => Sys2Proof.Machine.execMailboxDoorbell v request s
  | .recoveryStart len => Sys2Proof.Machine.execRecoveryStart len s
  | .recoveryAbort => Sys2Proof.Machine.execRecoveryAbort s
  | .recoveryData block => Sys2Proof.Machine.execRecoveryData block s
  | .status r => Sys2Proof.Machine.execStatus r s
  | .amberRead r first => Sys2Proof.Machine.execAmberRead r first s
  | .amberClear r => Sys2Proof.Machine.execAmberClear r s
  | .fault r v => Sys2Proof.Machine.execFault r v s
  | .powerOn r => Sys2Proof.Machine.execPowerOn r s
  | .powerOff r => Sys2Proof.Machine.execPowerOff r s
  | .reset r => Sys2Proof.Machine.execReset r s
  | .setCap r w => Sys2Proof.Machine.execSetCap r w s
  | .mgmtHandover r => Sys2Proof.Machine.execMgmtHandover r s
  | .mgmtAttest r nonce => Sys2Proof.Machine.execMgmtAttest r nonce s
  | .claim r root => Sys2Proof.Machine.execClaim r root s
  | .keyEnrol r k => Sys2Proof.Machine.execKeyEnrol r k s
  | .keyRemove r digest role part => Sys2Proof.Machine.execKeyRemove r digest role part s
  | .unlock r slot sig => Sys2Proof.Machine.execUnlock r slot sig s
  | .lifecycle r target slot sig => Sys2Proof.Machine.execLifecycle r target slot sig s
  | .linkKeyImport r blob => Sys2Proof.Machine.execLinkKeyImport r blob s
  | .linkKeyDelete r n keyId => Sys2Proof.Machine.execLinkKeyDelete r n keyId s
  | .mgmtConsentSubmit r token => Sys2Proof.Machine.execMgmtConsentSubmit r token s
  | .mgmtConsentRevoke r n => Sys2Proof.Machine.execMgmtConsentRevoke r n s
  | .nypra r v image => Sys2Proof.Machine.execNypra r v image s
  | .fwWrite r target off final data => Sys2Proof.Machine.execFwWrite r target off final data s
  | .fwCtrl r v => Sys2Proof.Machine.execFwCtrl r v s
  | .setNetwork r record => Sys2Proof.Machine.execSetNetwork r record s
  | .mgmtSessionOpen lease opened certOk peer => Sys2Proof.Machine.execMgmtSessionOpen lease opened certOk peer s
  | .sessionIdleTimeout idx => Sys2Proof.Machine.execSessionIdleTimeout idx s
  | .leaseSessionRetry connected => Sys2Proof.Machine.execLeaseSessionRetry connected s
  | .cellMeasure mv => Sys2Proof.Machine.execCellMeasure mv s
  | .cellReplaced mv => Sys2Proof.Machine.execCellReplaced mv s
  | .freeze m n v => Sys2Proof.Machine.execFreeze m n v s
  | .perfCntWrite m n j v => Sys2Proof.Machine.execPerfCntWrite m n j v s
  | .coarseUpdate => Sys2Proof.Machine.execCoarseUpdate s
  | .snap m v => Sys2Proof.Machine.execSnap m v s
  | .bwWindow tx rx => Sys2Proof.Machine.execBwWindow tx rx s
  | .bwWindowWrite m v => Sys2Proof.Machine.execBwWindowWrite m v s
  | .peakClear m q v => Sys2Proof.Machine.execPeakClear m q v s
  | .extest v => Sys2Proof.Machine.execExtest v s
  | .idcode => Sys2Proof.Machine.execIdcode s
  | .samplePreload v => Sys2Proof.Machine.execSamplePreload v s
  | .dtmcs v => Sys2Proof.Machine.execDtmcs v s
  | .dmi write addr v => Sys2Proof.Machine.execDmi write addr v s
  | .bypass b => Sys2Proof.Machine.execBypass b s
  | .unitHalt => Sys2Proof.Machine.execUnitHalt s
  | .unitHalted => Sys2Proof.Machine.execUnitHalted s
  | .unitResume => Sys2Proof.Machine.execUnitResume s
  | .unitStep => Sys2Proof.Machine.execUnitStep s
  | .unitMemRead => Sys2Proof.Machine.execUnitMemRead s
  | .unitMemWrite => Sys2Proof.Machine.execUnitMemWrite s
  | .alwaysOnSupplyFail => Sys2Proof.Machine.execAlwaysOnSupplyFail s
  | .supplyRestored => Sys2Proof.Machine.execSupplyRestored s

end Sys2Proof.Machine
end

