-- ==== Sys2Proof/Machine/Parts.lean ====
section
/-! DEFINITION. The parts of the state, and what it means that some of them are unchanged: the words that frame statements use. The queue,
the device identity and the count of free values have statements of their own. -/

namespace Sys2Proof.Machine

/-- The blocks of registers, by the chapters that name them; `lifecycle` is SEC_STATE. -/
inductive Block where
  | nypra | part | tile | vector | image | stack | page | request | ring | ddr4 | link | plant | ptp | output | checkValue | video | security | lifecycle
  | firmware | fault | amber | redundancy | power | island | battery | core | perf | opCount | bandwidth
  deriving DecidableEq, Repr

/-- The block of a register. -/
def RegId.block : RegId → Block
  | .NYPRA_SRC_ADDR | .NYPRA_SRC_LEN | .NYPRA_CMD | .NYPRA_STATUS | .NYPRA_ACTIVE_ID | .NYPRA_VERSION | .NYPRA_EVENT => .nypra
  | .PART_STATE | .PART_REMOVE => .part
  | .TILE_CAP | .REPAIR_MAP | .CLUSTER_STATE | .TILE_SELFTEST | .TILE_STORE_ERR | .TILE_PATROL => .tile
  | .VEC_CAP | .VEC_FAULT => .vector
  | .WIMG_SRC_ADDR | .WIMG_SRC_LEN | .WIMG_CMD | .WIMG_STATUS | .WIMG_ACTIVE_ID | .WIMG_EVENT | .WIMG_CAP => .image
  | .STACK_CAP | .STACK_ERR | .STACK_SCRUB | .KV_COMP_COUNT | .VE_STATE => .stack
  | .PAGE_CAP | .PAGE_BOOKS_0 | .PAGE_BOOKS_1 | .PAGE_TRANSIT | .PAGE_AUDIT | .PAGE_ANOMALY | .PAGE_CMD | .PAGE_CMD_STATUS
  | .PAGE_READ_IDX | .PAGE_READ_LO | .PAGE_READ_HI | .PAGE_LIST_IDX | .PAGE_LIST_LO | .PAGE_LIST_HI | .PAGE_PATROL
  | .PAGE_EVENT | .PAGE_EPOCH | .PAGE_PBOOKS_A | .PAGE_PBOOKS_B | .PAGE_POLICY | .PAGE_PSTAT | .PAGE_PCOUNT => .page
  | .REQ_SEL | .REQ_CMD | .REQ_STATUS | .REQ_EVENT | .REQ_COUNT | .TILLER_POLICY | .TILLER_STAT | .TILLER_STALL
  | .TILLER_NEXT | .REQ_DATA | .TILLER_CAP => .request
  | .RING_CAP | .RING_AUDIT | .RING_SEL | .RING_CMD | .RING_STATUS | .RING_EVENT | .RING_DESC | .RING_PI | .RING_CI
  | .RING_STATE | .RING_COUNT => .ring
  | .DDR4_CAP | .DDR4_STATE | .DDR4_ERR | .DDR4_ERR_ADDR | .DDR4_SCRUB => .ddr4
  | .LINK_CAP | .LINK_ID | .LINK_CTRL | .LINK_ROUTE_IDX | .LINK_ROUTE_DATA | .LINK_EVENT | .LINK_PORT_CTRL
  | .LINK_PORT_STATE | .LINK_PORT_PEER | .LINK_PORT_PEER_ID_LO | .LINK_PORT_PEER_ID_HI | .LINK_PORT_ERR | .LINK_PORT_CREDIT
  | .LINK_PORT_AUDIT => .link
  | .PLANT_CAP | .PLANT_DEFAULT | .PLANT_PORT_CTRL | .PLANT_PORT_MAC | .PLANT_PORT_IP | .PLANT_PORT_STATE | .PLANT_PORT_DROP
  | .PLANT_INGRESS => .plant
  | .PTP_CTRL | .PTP_TIME | .PTP_STATE => .ptp
  | .PO_DEST | .PO_LINK | .PO_BUF | .PO_CFG | .PO_TX | .PO_STATE => .output
  | .CV_CFG | .CV_DATA_ID | .CV_INIT | .CV_XOROUT | .CV_SCAN_ADDR | .CV_SCAN_LEN | .CV_RESULT | .CV_STAT => .checkValue
  | .VID_CAP | .VID_NEXT | .VID_SEL | .VID_CMD | .VID_STATUS | .VID_DATA | .VID_STATE => .video
  | .SEC_CAP | .SEC_ADDR | .SEC_CMD | .SEC_STATUS | .KEY_EPOCH | .CONSENT_NONCE | .CONSENT_STATE => .security
  | .SEC_STATE => .lifecycle
  | .FW_CAP | .FW_SRC_ADDR | .FW_SRC_LEN | .FW_CMD | .FW_STATUS | .FW_BOOT | .FW_VERSIONS | .FW_FLOORS => .firmware
  | .FAULT_CAP | .FAULT_SUMMARY | .FAULT_CTRL | .FAULT_CMD | .FAULT_CMD_STATUS | .FAULT_INJECT | .FAULT_SRC_CFG
  | .FAULT_SRC_STATUS => .fault
  | .AMBER_STATE | .AMBER_IDX | .AMBER_DATA => .amber
  | .REDUN_CTRL | .REDUN_CMD | .REDUN_STATE | .REDUN_COUNT => .redundancy
  | .PWR_CAP | .PWR_CTRL | .PWR_CAP_LVL_MAP | .PWR_LIMIT | .PWR_INPUT | .PWR_SUPPLY | .PWR_COOLANT | .PWR_BOOKS | .PWR_EVENT
  | .PWR_THERMAL | .PWR_PART | .PWR_HINT | .PWR_NEXT => .power
  | .CROSS_CAP | .CROSS_STATUS | .ISLAND_STATE => .island
  | .BBS_CAP | .BBS_IDX | .BBS_DATA | .BBS_BATTERY => .battery
  | .SC_STATE | .SC_IRQ | .SC_CONSOLE => .core
  | .PERF_CYCLE | .PERF_CNT | .PERF_CFG | .PERF_CTRL | .PERF_SAMPLE | .PERF_SAMPLE_INFO | .PERF_BASE | .PERF_LIMIT => .perf
  | .OPC_IDX | .OPC_DATA => .opCount
  | .BW_CTRL | .BW_TX | .BW_RX | .BW_PEAK => .bandwidth

/-- A set of parts of the state: one flag for each field of `State` beside the register file, the queue, the identity and the draws, and one
for each block of registers. -/
structure Parts where
  mem : Bool := false
  bbs : Bool := false
  clk : Bool := false
  modTime : Bool := false
  resetAt : Bool := false
  out : Bool := false
  lastRead : Bool := false
  struct : Bool := false
  wparts : Bool := false
  rings : Bool := false
  irqs : Bool := false
  badUnits : Bool := false
  badRecord : Bool := false
  reruns : Bool := false
  po : Bool := false
  cv : Bool := false
  ptp : Bool := false
  faults : Bool := false
  lease : Bool := false
  linkSignal : Bool := false
  sec : Bool := false
  pages : Bool := false
  serve : Bool := false
  slots : Bool := false
  fabric : Bool := false
  stk : Bool := false
  links : Bool := false
  video : Bool := false
  power : Bool := false
  fw : Bool := false
  sdio : Bool := false
  mgmt : Bool := false
  cores : Bool := false
  dbg : Bool := false
  perf : Bool := false
  opc : Bool := false
  opcShadow : Bool := false
  bwStart : Bool := false
  b_nypra : Bool := false
  b_part : Bool := false
  b_tile : Bool := false
  b_vector : Bool := false
  b_image : Bool := false
  b_stack : Bool := false
  b_page : Bool := false
  b_request : Bool := false
  b_ring : Bool := false
  b_ddr4 : Bool := false
  b_link : Bool := false
  b_plant : Bool := false
  b_ptp : Bool := false
  b_output : Bool := false
  b_checkValue : Bool := false
  b_video : Bool := false
  b_security : Bool := false
  b_lifecycle : Bool := false
  b_firmware : Bool := false
  b_fault : Bool := false
  b_amber : Bool := false
  b_redundancy : Bool := false
  b_power : Bool := false
  b_island : Bool := false
  b_battery : Bool := false
  b_core : Bool := false
  b_perf : Bool := false
  b_opCount : Bool := false
  b_bandwidth : Bool := false
  deriving DecidableEq, Repr

/-- Whether a block of registers belongs to the set. -/
def Parts.blk (W : Parts) : Block → Bool
  | .nypra => W.b_nypra
  | .part => W.b_part
  | .tile => W.b_tile
  | .vector => W.b_vector
  | .image => W.b_image
  | .stack => W.b_stack
  | .page => W.b_page
  | .request => W.b_request
  | .ring => W.b_ring
  | .ddr4 => W.b_ddr4
  | .link => W.b_link
  | .plant => W.b_plant
  | .ptp => W.b_ptp
  | .output => W.b_output
  | .checkValue => W.b_checkValue
  | .video => W.b_video
  | .security => W.b_security
  | .lifecycle => W.b_lifecycle
  | .firmware => W.b_firmware
  | .fault => W.b_fault
  | .amber => W.b_amber
  | .redundancy => W.b_redundancy
  | .power => W.b_power
  | .island => W.b_island
  | .battery => W.b_battery
  | .core => W.b_core
  | .perf => W.b_perf
  | .opCount => W.b_opCount
  | .bandwidth => W.b_bandwidth

/-- Every part outside the set is the same in both states; of the registers, every field of every instance. -/
structure Unchanged (W : Parts) (s t : State) : Prop where
  regs : ∀ f i j, W.blk f.reg.block = false → t.rd f i j = s.rd f i j
  mem : W.mem = false → t.mem = s.mem
  bbs : W.bbs = false → t.bbs = s.bbs
  clk : W.clk = false → t.clk = s.clk
  modTime : W.modTime = false → t.modTime = s.modTime
  resetAt : W.resetAt = false → t.resetAt = s.resetAt
  out : W.out = false → t.out = s.out
  lastRead : W.lastRead = false → t.lastRead = s.lastRead
  struct : W.struct = false → t.struct = s.struct
  wparts : W.wparts = false → t.wparts = s.wparts
  rings : W.rings = false → t.rings = s.rings
  irqs : W.irqs = false → t.irqs = s.irqs
  badUnits : W.badUnits = false → t.badUnits = s.badUnits
  badRecord : W.badRecord = false → t.badRecord = s.badRecord
  reruns : W.reruns = false → t.reruns = s.reruns
  po : W.po = false → t.po = s.po
  cv : W.cv = false → t.cv = s.cv
  ptp : W.ptp = false → t.ptp = s.ptp
  faults : W.faults = false → t.faults = s.faults
  lease : W.lease = false → t.lease = s.lease
  linkSignal : W.linkSignal = false → t.linkSignal = s.linkSignal
  sec : W.sec = false → t.sec = s.sec
  pages : W.pages = false → t.pages = s.pages
  serve : W.serve = false → t.serve = s.serve
  slots : W.slots = false → t.slots = s.slots
  fabric : W.fabric = false → t.fabric = s.fabric
  stk : W.stk = false → t.stk = s.stk
  links : W.links = false → t.links = s.links
  video : W.video = false → t.video = s.video
  power : W.power = false → t.power = s.power
  fw : W.fw = false → t.fw = s.fw
  sdio : W.sdio = false → t.sdio = s.sdio
  mgmt : W.mgmt = false → t.mgmt = s.mgmt
  cores : W.cores = false → t.cores = s.cores
  dbg : W.dbg = false → t.dbg = s.dbg
  perf : W.perf = false → t.perf = s.perf
  opc : W.opc = false → t.opc = s.opc
  opcShadow : W.opcShadow = false → t.opcShadow = s.opcShadow
  bwStart : W.bwStart = false → t.bwStart = s.bwStart

/-- The value that a write of `v` gives a field that holds `old` (Table 0.3, R13); `x` are the bits written to the field. -/
def FieldDef.after (d : FieldDef) (old v : Nat) : Nat :=
  let x := bits v d.hi d.lo
  match d.acc with
  | .rw => if d.least ≤ x ∧ x ≤ d.most then x else old
  | .ro => old
  | .wo => old
  | .w1c => (old &&& (2 ^ (d.hi + 1 - d.lo) - 1 - x)) % 2 ^ (d.hi + 1 - d.lo)
  | .w1s => (old ||| x) % 2 ^ (d.hi + 1 - d.lo)
  | .st => if x = 0 then old else 0

end Sys2Proof.Machine
end

