-- ==== Sys2Proof/WellFormed.lean ====
section
/-! DEFINITION. Well-formed commands: operands within the limits that the spec gives their fields and that their types do not already hold. -/

namespace Sys2Proof

/-- An offset within a control space of 16 MiB (Table 22.1). -/
def inSpace (off : Nat) : Bool := decide (off < 0x1000000)
/-- The offset of an aligned 64-bit access (R9). -/
def aligned (off : Nat) : Bool := inSpace off && off % 8 == 0
/-- A page number (10). -/
def pageOk (p : Nat) : Bool := decide (p < 2 ^ 21)
/-- A byte address of the DDR4 tier. -/
def ddrOk (a : Nat) : Bool := decide (a < 2 ^ 38)
/-- A 128-bit word of a tile store, or of one of the 16 quadrant stores (R93, R95). -/
def storeWord (quad : Bool) (unit : TileId) (word : Nat) : Bool :=
  if quad then decide (unit.val < 16 ∧ word < 24 * 65536) else decide (word < 65536)
/-- A tensor has one to six extents and addresses of 64 bits (R140, Table 12.7). -/
def TRef.fits (t : TRef) : Bool := decide (1 ≤ t.ext.length ∧ t.ext.length ≤ 6 ∧ t.addr < 2 ^ 64 ∧ t.scales < 2 ^ 64 ∧ t.nibs < 2 ^ 64)
/-- A chain has one to sixteen steps and up to three further inputs (R159). -/
def Chain.fits (c : Chain) : Bool := decide (1 ≤ c.steps.length ∧ c.steps.length ≤ 16 ∧ c.inputs.length ≤ 3) && c.inputs.all TRef.fits
/-- The head of a cell (Table 14.2). -/
def CellHead.fits (h : CellHead) : Bool := decide (h.type < 256 ∧ h.level < 16 ∧ h.hopSeq < 4096 ∧ h.hops < 16 ∧ h.dst < 1024 ∧ h.src < 1024)
/-- A data cell: 192 bytes of payload and a tag of 16 (R349). -/
def DataCell.fits (c : DataCell) : Bool := c.head.fits && decide (1 ≤ c.payloadLen ∧ c.payloadLen ≤ 192 ∧ c.sealed.length = 192 ∧ c.tag.length = 16)
/-- A lease message (Table 19.6). -/
def LeaseMsg.fits (m : LeaseMsg) : Bool := decide (m.level < 256 ∧ m.state < 256 ∧ m.pairId < 65536 ∧ m.seq < 2 ^ 32 ∧ m.identity < 2 ^ 128)
/-- A picture's planes have the samples of its size (R405). -/
def Picture.fits (p : Picture) : Bool :=
  decide (p.luma.length = p.width * p.height ∧ p.cb.length = p.cr.length ∧ 4 * p.cb.length = p.width * p.height)
/-- A memory access of a core has a size of RV64 (R540). -/
def ScAct.fits : ScAct → Bool
  | .retire _ => true
  | .load _ size => size == 1 || size == 2 || size == 4 || size == 8
  | .store _ size _ => size == 1 || size == 2 || size == 4 || size == 8
  | .amo _ size _ => size == 4 || size == 8
  | .wfi => true
/-- A request (Table 22.3). -/
def Req.fits (r : Req) : Bool := decide (r.id < 2 ^ 32)
/-- A public key table entry: a role of Table 17.5, a partition, an uncompressed P-521 key. -/
def PubKey.fits (k : PubKey) : Bool := decide (1 ≤ k.role ∧ k.role ≤ 5 ∧ k.part < 16 ∧ k.key.length = 133)

/-- Whether a command is well formed. -/
def Instr.wellFormed : Instr → Bool
  | .registerWrite _ _ off _ => aligned off
  | .accessError _ off _ => inSpace off
  | .undefinedOffsetAccess _ _ off _ => aligned off
  | .forbiddenMasterAccess _ _ off _ => aligned off
  | .vinMate mv => decide (mv < 100000)
  | .powerOnResetRelease => true
  | .moduleReset => true
  | .ddr4TrainingDone _ => true
  | .runtimeCopyDone _ => true
  | .bootScrubDone => true
  | .partitionBecomesEmpty _ => true
  | .verify _ => true
  | .verifyDone => true
  | .apply _ => true
  | .applyScrubDone => true
  | .applyDone => true
  | .discard _ => true
  | .remove _ _ => true
  | .removalDrainDone => true
  | .removalTimeout => true
  | .removalScrubDone => true
  | .commitVersion _ => true
  | .streamCommandDone _ _ => true
  | .tileStoreUncorrectable quad unit word => storeWord quad unit word
  | .tileReloadDone _ => true
  | .tilePatrolPass _ _ bad => bad.all (fun b => storeWord b.1 b.2.1 b.2.2)
  | .selftestStart _ => true
  | .tileSelftestStart _ _ _ => true
  | .selftestDone _ _ => true
  | .selftestAbortDone _ => true
  | .kernel _ _ tiles _ _ _ args => decide (tiles ≠ [] ∧ args < 2 ^ 20)
  | .budget _ => true
  | .regParity _ _ => true
  | .nop _ _ _ => true
  | .exit _ _ _ => true
  | .bra _ _ _ => true
  | .brs _ _ _ => true
  | .brp _ _ _ => true
  | .bar _ _ _ => true
  | .swait _ _ _ => true
  | .fadd _ _ _ => true
  | .fsub _ _ _ => true
  | .fmul _ _ _ => true
  | .ffma _ _ _ => true
  | .fmin _ _ _ => true
  | .fmax _ _ _ => true
  | .fabs _ _ _ => true
  | .fneg _ _ _ => true
  | .fsqrt _ _ _ => true
  | .fldexp _ _ _ => true
  | .frint _ _ _ => true
  | .fclamp _ _ _ => true
  | .frcp _ _ _ => true
  | .frsq _ _ _ => true
  | .fdiv _ _ _ => true
  | .fexp2 _ _ _ => true
  | .fexp _ _ _ => true
  | .flog2 _ _ _ => true
  | .ftanh _ _ _ => true
  | .fsigm _ _ _ => true
  | .iadd _ _ _ => true
  | .isub _ _ _ => true
  | .imul _ _ _ => true
  | .imad _ _ _ => true
  | .and _ _ _ => true
  | .or _ _ _ => true
  | .xor _ _ _ => true
  | .not _ _ _ => true
  | .shl _ _ _ => true
  | .shru _ _ _ => true
  | .shrs _ _ _ => true
  | .imin _ _ _ => true
  | .imax _ _ _ => true
  | .umin _ _ _ => true
  | .umax _ _ _ => true
  | .fcmp _ _ _ => true
  | .icmp _ _ _ => true
  | .ucmp _ _ _ => true
  | .f32Fmt _ _ _ => true
  | .f32S32 _ _ _ => true
  | .f32Mxi8 _ _ _ => true
  | .fmtF32 _ _ _ => true
  | .s32F32 _ _ _ => true
  | .mxi8F32 _ _ _ => true
  | .mxscale _ _ _ => true
  | .mov _ _ _ => true
  | .sel _ _ _ => true
  | .laneid _ _ _ => true
  | .bcast _ _ _ => true
  | .shflIdx _ _ _ => true
  | .shflXor _ _ _ => true
  | .shflUp _ _ _ => true
  | .shflDown _ _ _ => true
  | .vote _ _ _ => true
  | .vtos _ _ _ => true
  | .ldU8 _ _ _ => true
  | .ldS8 _ _ _ => true
  | .ldU16 _ _ _ => true
  | .ldS16 _ _ _ => true
  | .ld32 _ _ _ => true
  | .ld128 _ _ _ => true
  | .st8 _ _ _ => true
  | .st16 _ _ _ => true
  | .st32 _ _ _ => true
  | .st128 _ _ _ => true
  | .qld32 _ _ _ => true
  | .qld128 _ _ _ => true
  | .qst32 _ _ _ => true
  | .qst128 _ _ _ => true
  | .atomFadd _ _ _ => true
  | .atomIadd _ _ _ => true
  | .atomFmax _ _ _ => true
  | .atomImax _ _ _ => true
  | .atomXchg _ _ _ => true
  | .atomCas _ _ _ => true
  | .qatom _ _ _ => true
  | .sin _ _ _ => true
  | .sout _ _ _ => true
  | .sadd _ _ _ => true
  | .ssub _ _ _ => true
  | .smul _ _ _ => true
  | .sand _ _ _ => true
  | .sor _ _ _ => true
  | .sxor _ _ _ => true
  | .sshl _ _ _ => true
  | .sshr _ _ _ => true
  | .ssar _ _ _ => true
  | .smov _ _ _ => true
  | .smovhi _ _ _ => true
  | .sread _ _ _ => true
  | .sld _ _ _ => true
  | .matmul _ a b bias y _ _ _ epi => a.fits && b.fits && bias.all TRef.fits && y.fits && epi.all Chain.fits
  | .conv _ x wt bias y p _ epi => x.fits && wt.fits && bias.all TRef.fits && y.fits && epi.all Chain.fits && decide (1 ≤ p.groups)
  | .pool _ x y _ _ _ => x.fits && y.fits
  | .chain _ x y c => x.fits && y.fits && c.fits
  | .reduce _ x y _ _ => x.fits && y.fits
  | .softmax _ x y _ => x.fits && y.fits
  | .norm _ x y _ _ _ gamma beta => x.fits && y.fits && gamma.all TRef.fits && beta.all TRef.fits
  | .gather _ tb idx y => tb.fits && idx.fits && y.fits
  | .scatter _ d idx u _ => d.fits && idx.fits && u.fits
  | .fft _ x y _ _ _ => x.fits && y.fits
  | .convert _ x y _ _ _ _ => x.fits && y.fits
  | .attnPrefill _ _ _ _ q k v o => q.fits && k.fits && v.fits && o.fits
  | .attnDecode _ _ _ _ _ q k v oin parts o => q.fits && k.fits && v.fits && oin.fits && parts.all TRef.fits && o.fits
  | .load _ _ => true
  | .loadSectionsRead _ => true
  | .planBuilt _ => true
  | .weightsCopied _ => true
  | .replace _ _ => true
  | .unload _ _ => true
  | .unloadDone _ => true
  | .abort _ _ => true
  | .check _ _ => true
  | .checkDone _ => true
  | .kvWrite _ page _ _ _ _ => pageOk page
  | .expandedRead _ _ page _ count _ _ dst => pageOk page && decide (1 ≤ count ∧ dst < 2 ^ 20)
  | .vetiverQuery _ _ bytes => decide (32 ≤ bytes.length)
  | .queryAccepted _ _ => true
  | .engineWalk _ bad => bad.all pageOk
  | .pageBufferParity _ => true
  | .stackUncorrectable _ word _ => decide (word < 0x6000000)
  | .stackBlockReloadDone _ => true
  | .stackPatrolPass _ _ bad => bad.all (fun b => decide (b.2 < 0x6000000))
  | .stepCommit _ _ => true
  | .stepDiscard _ => true
  | .standingEditAdvance _ => true
  | .zeroAndCheck head => pageOk head
  | .zeroAndCheckDone head failed => pageOk head && failed.all pageOk
  | .auditSweep _ => true
  | .auditSweepDone _ _ => true
  | .pagePatrolPass _ d _ _ => d.all pageOk
  | .quarantine _ page => pageOk page
  | .pageRelease _ page => pageOk page
  | .fence _ _ => true
  | .submit _ _ => true
  | .cancel _ _ => true
  | .reqPause _ _ => true
  | .reqResume _ _ count => decide (count < 2 ^ 21)
  | .reqRead _ _ => true
  | .deadlineSettlement _ => true
  | .recordRetry _ => true
  | .create _ _ => true
  | .createDone _ => true
  | .destroy _ _ => true
  | .ringPause _ _ => true
  | .ringResume _ _ => true
  | .drain _ _ => true
  | .ringReset _ _ => true
  | .ringResetDone _ => true
  | .ringRead _ _ => true
  | .producerDoorbell _ _ _ => true
  | .consumerDoorbell _ _ _ => true
  | .completionReservation _ => true
  | .dmaNop _ => true
  | .copy _ => true
  | .fill _ => true
  | .strided _ => true
  | .linkWrite _ => true
  | .descriptorComplete _ _ => true
  | .entryWriteRetry _ => true
  | .ringAuditCheck => true
  | .ringIrqTimer _ => true
  | .ddr4Uncorrectable addr _ => ddrOk addr
  | .weightsUnitRestored addr _ => ddrOk addr
  | .ddr4PatrolPass _ bad => bad.all ddrOk
  | .dataCell _ c => c.fits
  | .leaseCell _ c => c.fits
  | .credit _ freed _ _ => decide (freed.length = 4)
  | .replayReq _ _ => true
  | .audit _ sent => decide (sent.length = 4)
  | .auditReply _ freed => decide (freed.length = 4)
  | .negotiate _ _ _ _ _ _ _ _ => true
  | .vcReset _ _ _ => true
  | .ack _ h _ _ vc _ => h.fits && decide (vc < 4)
  | .nack _ h _ _ vc st _ => h.fits && decide (vc < 4 ∧ st < 256)
  | .creditReportTimer _ => true
  | .auditPeriod _ => true
  | .signalDetected _ _ => true
  | .linkTrainingDone _ _ => true
  | .linkTrainingTimeout _ => true
  | .linkRetry _ _ => true
  | .negotiateTimer _ => true
  | .portEnable _ _ _ => true
  | .portDisable _ _ _ => true
  | .retrain _ _ _ => true
  | .laneLockLost _ _ => true
  | .retrainDone _ _ => true
  | .retrainTimeout _ => true
  | .signalLost _ => true
  | .ackTimeout _ _ => true
  | .vcResetResend _ _ => true
  | .routeEntryWrite _ _ => true
  | .plantFrame _ f => decide (14 ≤ f.bytes.length)
  | .plantLinkChange _ _ => true
  | .ptpMessage _ _ => true
  | .announceTimeout => true
  | .poTx _ _ _ => true
  | .poCopyDone _ => true
  | .poPeriod _ => true
  | .cvCfgWrite _ _ _ => true
  | .scanStart _ _ _ => true
  | .scanDone _ => true
  | .vidOpen _ _ => true
  | .close _ _ => true
  | .feed _ _ => true
  | .flush _ _ => true
  | .vidRead _ _ => true
  | .packetLossTimeout _ => true
  | .pictureDecoded _ pic => pic.fits
  | .encodeDone _ _ _ => true
  | .attest _ _ => true
  | .keyImport _ _ => true
  | .keyDelete _ _ _ => true
  | .consentSubmit _ _ => true
  | .consentRevoke _ _ => true
  | .consentExpiry _ => true
  | .writeMgmt _ => true
  | .writeSlot _ _ => true
  | .flashWriteDone _ => true
  | .arm _ _ => true
  | .disarm _ _ => true
  | .confirm _ => true
  | .commitMgmt _ => true
  | .commitRuntime _ => true
  | .trialExpiry => true
  | .faultNPulseEnd => true
  | .faultAck _ _ => true
  | .faultClear _ _ => true
  | .ackAll _ => true
  | .faultInject _ _ => true
  | .injectedEvent => true
  | .amberLogClear _ _ => true
  | .renew _ m => m.fits
  | .grant _ m => m.fits
  | .deny _ m => m.fits
  | .release _ m => m.fits
  | .renewTimer => true
  | .leaseDoubt => true
  | .leaseExpiry => true
  | .takeoverTimer => true
  | .partnerSilent => true
  | .releaseResend => true
  | .handover _ => true
  | .watchdogKick _ _ => true
  | .watchdog => true
  | .pathSilent _ => true
  | .removalWarning => true
  | .sagStart a b => decide (a < 100000 ∧ b < 100000)
  | .sagEnd _ _ => true
  | .supplyLoss => true
  | .surge a b => decide (a < 100000 ∧ b < 100000)
  | .surgeOff => true
  | .capLvlChange _ => true
  | .mgmtCapWrite _ _ => true
  | .plannerTick => true
  | .recallDone => true
  | .loweringSettled => true
  | .powerWindow mean _ _ => decide (mean < 4096)
  | .flowReport _ _ => true
  | .flowStale => true
  | .flowOff => true
  | .temperatureSample _ _ _ _ spots => decide (spots.length = 128)
  | .softLimitTick => true
  | .eoff => true
  | .eoffRelease => true
  | .powerBooksAudit => true
  | .idleChoice => true
  | .idleExit _ => true
  | .idleExitDone _ => true
  | .clockChangeDone _ => true
  | .crossTimeout _ _ => true
  | .scInstruction _ _ a => a.fits
  | .scIrqRead _ _ => true
  | .consoleWrite _ _ => true
  | .consoleRead _ => true
  | .trayConsoleData _ => true
  | .bbsWrite _ _ => true
  | .mailboxDoorbell _ request => decide (request.length = 512)
  | .recoveryStart _ => true
  | .recoveryAbort => true
  | .recoveryData block => decide (1 ≤ block.length ∧ block.length ≤ 512)
  | .status r => r.fits
  | .amberRead r _ => r.fits
  | .amberClear r => r.fits
  | .fault r _ => r.fits
  | .powerOn r => r.fits
  | .powerOff r => r.fits
  | .reset r => r.fits
  | .setCap r _ => r.fits
  | .mgmtHandover r => r.fits
  | .mgmtAttest r nonce => r.fits && decide (nonce.length = 64)
  | .claim r root => r.fits && root.fits
  | .keyEnrol r k => r.fits && k.fits
  | .keyRemove r digest _ _ => r.fits && decide (digest.length = 64)
  | .unlock r _ _ => r.fits
  | .lifecycle r _ _ _ => r.fits
  | .linkKeyImport r blob => r.fits && decide (blob.length = 256)
  | .linkKeyDelete r _ _ => r.fits
  | .mgmtConsentSubmit r token => r.fits && decide (token.length = 512)
  | .mgmtConsentRevoke r _ => r.fits
  | .nypra r _ image => r.fits && decide (image.length ≤ 65536)
  | .fwWrite r _ _ _ data => r.fits && decide (data.length ≤ 65536)
  | .fwCtrl r _ => r.fits
  | .setNetwork r record => r.fits && decide (record.length = 32)
  | .mgmtSessionOpen _ _ _ _ => true
  | .sessionIdleTimeout _ => true
  | .leaseSessionRetry _ => true
  | .cellMeasure _ => true
  | .cellReplaced _ => true
  | .freeze _ _ _ => true
  | .perfCntWrite _ _ _ _ => true
  | .coarseUpdate => true
  | .snap _ _ => true
  | .bwWindow tx rx => decide (tx.length = 46 ∧ rx.length = 46)
  | .bwWindowWrite _ _ => true
  | .peakClear _ _ _ => true
  | .extest _ => true
  | .idcode => true
  | .samplePreload _ => true
  | .dtmcs _ => true
  | .dmi _ _ _ => true
  | .bypass _ => true
  | .unitHalt => true
  | .unitHalted => true
  | .unitResume => true
  | .unitStep => true
  | .unitMemRead => true
  | .unitMemWrite => true
  | .alwaysOnSupplyFail => true
  | .supplyRestored => true

end Sys2Proof
end

