-- ==== Sys2Proof/Safety.lean ====
section
/-! DEFINITION. What counts as a safe state and a safe run, in the words that claims use. -/

namespace Sys2Proof.Machine

/-- Every command that waits is well formed. -/
def State.queueOk (s : State) : Bool := s.pending.all Instr.wellFormed

/-- Memory, the battery-backed store, the register file and the queue are in order: the first two in their canonical form, the registers
listed once each with rising keys, every waiting command well formed. -/
def State.ok (s : State) : Bool := Memory.wf s.mem && Tab.wf 0#8 s.bbs && Tab.sorted s.regs && s.queueOk

/-- The access-error fault source of a control space (Table 19.2). -/
def accessSource : Space → Nat
  | .hcs => Src.accessHcs
  | .dcs d => Src.accessDcs d.val
  | .bcs m => Src.accessBcs m.val

/-- An import blob that passes every check of R430 to R433 but the unwrapping: the table is not locked, FORMAT, IDENTITY, PARTITION, KEY_ID
and room for the entry. -/
def State.importOk (s : State) (n : Nat) (b : List Byte) : Prop :=
  s.rd F.SEC_STATE_table_locked = 0 ∧
  (leAt b 0 4 = 0x4259454B ∧ leAt b 4 1 = 1 ∧ leAt b 0xA 2 ≤ 3 ∧ leAt b 0xC 4 = 0 ∧ leVal (slice b 0xA5 3) = 0 ∧ leVal (slice b 0xD8 40) = 0) ∧
  leAt b 0x10 16 = s.identity ∧
  (leAt b 5 1 = n ∧ s.pstate n ≠ 0 ∧ s.pstate n ≠ 3 ∧ s.pstate n ≠ 4 ∧ (bit (leAt b 0xA 2) 1 = true → n = 0)) ∧
  (leAt b 6 2 ≠ 0xFFFF ∧ ∀ k, s.sec.linkKeys.find? (fun k => k.id = leAt b 6 2) = some k → k.part = n ∧ k.tomb = false ∧ k.epoch < leAt b 8 2) ∧
  (s.sec.linkKeys.find? (fun k => k.id = leAt b 6 2) = none →
    s.sec.linkKeys.length < 256 ∧ (s.sec.linkKeys.filter (fun k => k.part = n)).length < 64)

/-- The link key table after an import (R430, R431): one entry of the key_id, the new one; entries of other partitions as they were; those of
the partition keep all but SEAL and LEASE, each of which at most the new entry holds when its flag is set. -/
def LinkKeyImported (n id ep fl : Nat) (secret : List Byte) (old new : List LinkKey) : Prop :=
  new.filter (fun k => k.id = id) = [{ part := n, id := id, epoch := ep, isSeal := bit fl 0, isLease := bit fl 1, secret := secret }] ∧
  (∀ k ∈ old, k.part ≠ n → k.id ≠ id → k ∈ new) ∧
  (∀ k ∈ new, k.id ≠ id → ∃ o ∈ old, o.id = k.id ∧ o.part = k.part ∧ o.epoch = k.epoch ∧ o.secret = k.secret ∧ o.tomb = k.tomb) ∧
  (bit fl 0 = true → ∀ k ∈ new, k.part = n → k.isSeal = true → k.id = id) ∧
  (bit fl 1 = true → ∀ k ∈ new, k.part = n → k.isLease = true → k.id = id)

/-- A consent token that passes the checks of R437 but that of the signature. -/
def State.consentOk (s : State) (n : Nat) (b : List Byte) : Prop :=
  (s.rd F.SEC_STATE_table_locked = 0 ∧ (n = 0 ∨ s.rd F.SEC_STATE_lifecycle ≠ 2)) ∧
  (leAt b 0 4 = 0x534E4F43 ∧ leAt b 4 1 = 1 ∧ leAt b 6 2 ≤ 15 ∧ leVal (slice b 0x38 200) = 0 ∧ blockOk (slice b 0x100 256) = true) ∧
  (leAt b 5 1 = n ∧ (n = 0 ∨ s.pstate n = 2)) ∧ leAt b 8 16 = s.identity ∧ leAt b 0x18 8 = s.rd F.CONSENT_NONCE_nonce n ∧
  ((s.rd F.PTP_STATE_state = 2 ∨ s.rd F.PTP_STATE_state = 3) ∧ leAt b 0x20 8 ≤ s.modTime ∧ s.modTime < leAt b 0x28 8 ∧
    leAt b 0x28 8 ≤ leAt b 0x20 8 + 604800 * 10 ^ 9) ∧
  (leAt b 0x30 8 = 0 ∨ leAt b 0x30 8 = s.rd F.WIMG_ACTIVE_ID_image_id n)

/-- A request that MGC takes by a path that admits it, with head and body in order (R552, R553). -/
def State.admits (s : State) (r : Req) (g : Gate) : Prop := s.before r = true ∧ s.permits r g = true ∧ r.malformed = false

/-- The blocks of registers that hold nothing of the always-on island. -/
def resetBlocks : List Block :=
  [.nypra, .part, .tile, .vector, .stack, .request, .ring, .link, .plant, .ptp, .checkValue, .video, .island, .core, .opCount, .bandwidth]

/-- The module after a reset at the time `now` (R32, R450): structure epoch 0, no removal, nothing loaded, memory zero, module time at 0, every
session closed and the mailbox idle, and the registers of those blocks at their reset values but for the fields that a reset keeps (R12). -/
structure ResetOf (s t : State) (now : Nat) : Prop where
  clk : t.clk = now
  resetAt : t.resetAt = now
  modTime : t.modTime = 0
  mem : t.mem = []
  struct : t.struct = {}
  wparts : t.wparts = []
  rings : t.rings = []
  irqs : t.irqs = []
  badUnits : t.badUnits = []
  badRecord : t.badRecord = []
  reruns : t.reruns = []
  cv : t.cv = []
  ptp : t.ptp = {}
  video : t.video = []
  sdio : t.sdio = {}
  mgmt : t.mgmt = {}
  cores : t.cores = []
  regs : ∀ f i j, f.reg.block ∈ resetBlocks → t.rd f i j = if heldKey true (f.key i j) then s.rd f i j else f.reset i

/-- A command of the management network: its request, its op and what may send it (Table 22.4, R427, R428, R553). -/
def mgmtOp : Instr → Option (Req × Nat × Gate)
  | .status r => some (r, 0x01, { sdio := true, locked := true })
  | .amberRead r _ => some (r, 0x02, { sdio := true, locked := true })
  | .amberClear r => some (r, 0x03, { sdio := true })
  | .fault r _ => some (r, 0x04, {})
  | .powerOn r => some (r, 0x10, { sdio := true })
  | .powerOff r => some (r, 0x11, { sdio := true })
  | .reset r => some (r, 0x12, { sdio := true })
  | .setCap r _ => some (r, 0x13, {})
  | .mgmtHandover r => some (r, 0x14, {})
  | .mgmtAttest r _ => some (r, 0x20, {})
  | .claim r _ => some (r, 0x21, { claim := true })
  | .keyEnrol r _ => some (r, 0x22, {})
  | .keyRemove r _ _ _ => some (r, 0x23, {})
  | .unlock r _ _ => some (r, 0x24, { locked := true })
  | .lifecycle r _ _ _ => some (r, 0x25, {})
  | .linkKeyImport r _ => some (r, 0x26, {})
  | .linkKeyDelete r _ _ => some (r, 0x27, {})
  | .mgmtConsentSubmit r _ => some (r, 0x28, {})
  | .mgmtConsentRevoke r _ => some (r, 0x29, {})
  | .nypra r _ _ => some (r, 0x30, {})
  | .fwWrite r _ _ _ _ => some (r, 0x40, { locked := true })
  | .fwCtrl r _ => some (r, 0x41, { locked := true })
  | .setNetwork r _ => some (r, 0x50, {})
  | _ => none

/-- The registers whose write has an effect of its own beside, or instead of, giving the fields their values (the rows of the opcode table
that are writes of one register, and the registers of R373, R379, R385, R494, R571). -/
def RegId.ownWrite : List RegId :=
  [.NYPRA_CMD, .WIMG_CMD, .TILE_SELFTEST, .PAGE_AUDIT, .PAGE_CMD, .REQ_CMD, .REQ_EVENT, .RING_CMD, .RING_PI, .RING_CI, .LINK_ID,
    .LINK_ROUTE_DATA, .LINK_PORT_CTRL, .PLANT_PORT_CTRL, .PTP_CTRL, .PO_CFG, .PO_TX, .CV_CFG, .CV_SCAN_LEN, .VID_CMD, .SEC_CMD, .FW_CMD,
    .FAULT_CTRL, .FAULT_CMD, .FAULT_INJECT, .FAULT_SRC_CFG, .FAULT_SRC_STATUS, .AMBER_IDX, .REDUN_CTRL, .REDUN_CMD, .PWR_CTRL,
    .PWR_CAP_LVL_MAP, .BBS_DATA, .BBS_BATTERY, .SC_CONSOLE, .PERF_CNT, .PERF_CTRL, .OPC_IDX, .BW_CTRL, .BW_PEAK]

/-- Whether a write of a command register stands for a command (Tables 2.14, 7.7, 10.8, 11.2, 12.9, 16.11, 17.14, 18.6, 19.11 and the rows of
the opcode table that are writes of one register); no command for an op that no row names. -/
def CommandOf (m : Master) (r : RegId) (i j : Nat) (w : W64) (c : Instr) : Prop :=
  let v := w.toNat
  let n : PartId := Fin.ofNat 16 i
  let k : ChanId := Fin.ofNat 64 i
  match r with
  | .NYPRA_CMD => match bits v 3 0 with
    | 1 => c = .verify m | 2 => c = .apply m | 3 => c = .discard m | 4 => c = .remove m (Fin.ofNat 16 (bits v 11 8))
    | 5 => c = .commitVersion m | _ => False
  | .WIMG_CMD => match bits v 3 0 with
    | 1 => c = .load m n | 2 => c = .replace m n | 3 => c = .unload m n | 4 => c = .abort m n | 5 => c = .check m n | _ => False
  | .TILE_SELFTEST => c = .tileSelftestStart m (Fin.ofNat 4 i) w
  | .PAGE_CMD => match bits v 3 0 with
    | 1 => c = .quarantine m (bits v 32 12) | 2 => c = .pageRelease m (bits v 32 12) | 3 => c = .fence m (Fin.ofNat 16 (bits v 11 8))
    | _ => False
  | .REQ_CMD => match bits v 3 0 with
    | 1 => c = .submit m n | 2 => c = .cancel m n | 3 => c = .reqPause m n | 4 => c = .reqResume m n (bits v 28 8)
    | 5 => c = .reqRead m n | _ => False
  | .RING_CMD => match bits v 3 0 with
    | 1 => c = .create m n | 2 => c = .destroy m n | 3 => c = .ringPause m n | 4 => c = .ringResume m n | 5 => c = .drain m n
    | 6 => c = .ringReset m n | 7 => c = .ringRead m n | _ => False
  | .RING_PI => c = .producerDoorbell m (Fin.ofNat 4096 i) w
  | .RING_CI => c = .consumerDoorbell m (Fin.ofNat 4096 i) w
  | .LINK_ROUTE_DATA => c = .routeEntryWrite m w
  | .PO_TX => c = .poTx m k (BitVec.ofNat 11 v)
  | .CV_CFG => c = .cvCfgWrite m k w
  | .CV_SCAN_LEN => c = .scanStart m k w
  | .VID_CMD => match bits v 2 0 with
    | 1 => c = .vidOpen m n | 2 => c = .close m n | 3 => c = .feed m n | 4 => c = .flush m n | 5 => c = .vidRead m n | _ => False
  | .SEC_CMD => match bits v 3 0 with
    | 1 => c = .attest m n | 2 => c = .keyImport m n | 3 => c = .keyDelete m n (BitVec.ofNat 16 (bits v 31 16))
    | 4 => c = .consentSubmit m n | 5 => c = .consentRevoke m n | _ => False
  | .FW_CMD => match bits v 3 0 with
    | 1 => c = .writeMgmt m | 2 => c = .writeSlot m (Fin.ofNat 2 (bits v 4 4)) | 3 => c = .arm m (Fin.ofNat 2 (bits v 4 4))
    | 4 => c = .disarm m (Fin.ofNat 2 (bits v 4 4)) | 5 => c = .confirm m | 6 => c = .commitMgmt m | 7 => c = .commitRuntime m
    | _ => False
  | .FAULT_CMD => match bits v 3 0 with
    | 1 => c = .faultAck m (Fin.ofNat 256 (bits v 15 8)) | 2 => c = .faultClear m (Fin.ofNat 256 (bits v 15 8)) | 3 => c = .ackAll m
    | _ => False
  | .FAULT_INJECT => c = .faultInject m w
  | .AMBER_IDX => c = .amberLogClear m w
  | .REDUN_CTRL => c = .watchdogKick m w
  | .REDUN_CMD => if bits v 3 0 = 1 then c = .handover m else False
  | .PWR_CTRL => c = .mgmtCapWrite m w
  | .BBS_DATA => c = .bbsWrite m w
  | .PERF_CNT => c = .perfCntWrite m n (Fin.ofNat 8 j) w
  | .PERF_CTRL => c = .freeze m n w
  | .OPC_IDX => c = .snap m w
  | .BW_CTRL => c = .bwWindowWrite m w
  | .BW_PEAK => c = .peakClear m (Fin.ofNat 46 i) w
  | _ => False

/-- A state that k steps lead to. -/
def Reaches : Nat → State → State → Prop
  | 0, s, t => s = t
  | k + 1, s, t => ∃ u, step s = .next u ∧ Reaches k u t

/-- A run of k steps from a state is safe when it meets no fault and no refusal and ends in order. -/
def SafeRun (k : Nat) (s : State) : Prop := ∃ t, Reaches k s t ∧ t.ok = true

/-! ## What a lane instruction leaves -/

/-- Of the launches, tile t's group g alone has changed, and is y. -/
def LaneNext (s u : State) (t : TileId) (g : Fin 32) (y : Group) : Prop :=
  u.run t = { s.run t with groups := (s.run t).groups.set g y } ∧ ∀ k, k ≠ t.val → u.run k = s.run k

/-- An instruction that its group issues writes f to dst in every lane that its predicate enables (R120), and the group goes on at the next
instruction with every other lane, register and predicate as it was. -/
def LaneResult (c : Instr) (t : TileId) (g : Fin 32) (w : W64) (cls : Nat) (ops : Nat → Bool) (f : Group → Nat → W32) : Prop :=
  ∀ (s : State) (x : Group), s.issue t g w cls ops = some x →
    ∃ u y, exec c s = .next u ∧ LaneNext s u t g y ∧ y.pc = x.pc + 1 ∧ y.wait = x.wait ∧ y.p = x.p ∧ y.s = x.s ∧
      ∀ r l, l < 64 → y.vreg r l = if r = lDst w ∧ x.enabled w l = true then f x l else x.vreg r l

/-- An instruction that its group issues makes the group y. -/
def LaneGroup (c : Instr) (t : TileId) (g : Fin 32) (w : W64) (cls op : Nat) (y : State → Group → Group) : Prop :=
  ∀ (s : State) (x : Group), s.issue t g w cls (· == op) = some x → ∃ u, exec c s = .next u ∧ LaneNext s u t g (y s x)

/-- The byte that a lane access of tile t names: of the tile store, or of the partition's share of the quadrant store. -/
def State.laneCell (s : State) (t : TileId) (quad : Bool) (off : Nat) : Nat :=
  if quad then s.phys (s.run t).part (quadAddr (quadOfTile t) off) else tileAddr t off

/-- No enabled lane's access of some size is misaligned or leaves its window. -/
def State.laneClear (s : State) (t : TileId) (x : Group) (w : W64) (quad : Bool) (size : Nat) : Prop :=
  ∀ l, l < 64 → x.enabled w l = true → accessFault ((s.run t).window quad).1 ((s.run t).window quad).2 (x.memAddr w l) size = 0

/-! ## What a command may change -/

/-- A clock step: what passes with time (R378, R561). -/
def Parts.pass : Parts :=
  { clk := true, modTime := true, ptp := true, b_perf := true }

/-- A fault event with all it may lead to (R465 to R478): the log, withdrawal of plant outputs, stopped partitions, the lease given up. -/
def Parts.event : Parts :=
  { bbs := true, out := true, po := true, faults := true, lease := true, pages := true, serve := true, slots := true, fabric := true, stk := true,
    links := true, dbg := true, opc := true, b_image := true, b_page := true, b_output := true, b_fault := true, b_amber := true,
    b_redundancy := true, b_perf := true }

/-- Time passes and an event follows. -/
def Parts.eventPass : Parts :=
  { Parts.event with clk := true, modTime := true, ptp := true }

/-- A lane instruction that stores nothing: its tile, the counters, the debug steps. -/
def Parts.lane : Parts :=
  { fabric := true, dbg := true, opc := true, b_perf := true }

/-- Every part: a boot or a removal of core power. -/
def Parts.all : Parts :=
  { mem := true, bbs := true, clk := true, modTime := true, resetAt := true, out := true, lastRead := true, struct := true, wparts := true,
    rings := true, irqs := true, badUnits := true, badRecord := true, reruns := true, po := true, cv := true, ptp := true, faults := true,
    lease := true, linkSignal := true, sec := true, pages := true, serve := true, slots := true, fabric := true, stk := true, links := true,
    video := true, power := true, fw := true, sdio := true, mgmt := true, cores := true, dbg := true, perf := true, opc := true, opcShadow := true,
    bwStart := true, b_nypra := true, b_part := true, b_tile := true, b_vector := true, b_image := true, b_stack := true, b_page := true,
    b_request := true, b_ring := true, b_ddr4 := true, b_link := true, b_plant := true, b_ptp := true, b_output := true, b_checkValue := true,
    b_video := true, b_security := true, b_lifecycle := true, b_firmware := true, b_fault := true, b_amber := true, b_redundancy := true,
    b_power := true, b_island := true, b_battery := true, b_core := true, b_perf := true, b_opCount := true, b_bandwidth := true }

/-- What the state and the tensors of an operator of Pn must be for it to run: Pn is LOADED, not stopped, none of its units is halted (R570),
every tensor is one that the model accepts, none has an extent of 0 (R140), every byte range of them lies in the partition (R102). -/
def State.operatorReady (s : State) (n : Nat) (refs : List (TRef × Nat)) : Prop :=
  s.pstate n = 2 ∧ s.stopped n = false ∧ s.haltedUnits n = false ∧ ∀ r ∈ refs, r.1.ok = true ∧ r.1.ext.contains 0 = false ∧
    ∀ q ∈ r.1.ranges r.2, addrOk q.1 = true ∧ s.addrIn n q.1 q.2 = true

/-- Bytes that hold a tensor of Pn: those of its rows, and the scale bytes of an MX tensor whose blocks lie along an axis (R598). -/
def State.tensorByte (s : State) (n : Nat) (t : TRef) (axis a : Nat) : Prop :=
  (∃ r k, r < t.rows ∧ k < t.rowBytes ∧ s.phys n (t.addr + r * t.rowBytes + k) = a) ∨
  (fmtMx t.fmt = true ∧ ∃ idx ∈ allIdx t.ext, s.phys n (t.scaleAt axis idx) = a)

/-- A command runs to a next state and changes no byte of memory but those that hold a tensor of Pn. -/
def WritesTensor (c : Instr) (s : State) (n : Nat) (t : TRef) (axis : Nat) : Prop :=
  ∃ u, exec c s = .next u ∧ ∀ a, ¬ s.tensorByte n t axis a → u.byte a = s.byte a

/-- The parts that a command may change; every other part is the same after it (the frame of every command). -/
def commandMayChange : Instr → Parts
  | .registerWrite _ _ _ _ =>
    { Parts.eventPass with mem := true, struct := true, wparts := true, rings := true, irqs := true, badUnits := true, badRecord := true,
                           cv := true, sec := true, video := true, power := true, fw := true, sdio := true, cores := true, opcShadow := true,
                           bwStart := true, b_nypra := true, b_part := true, b_tile := true, b_vector := true, b_stack := true, b_request := true,
                           b_ring := true, b_ddr4 := true, b_link := true, b_plant := true, b_ptp := true, b_checkValue := true, b_video := true,
                           b_security := true, b_lifecycle := true, b_firmware := true, b_power := true, b_island := true, b_battery := true,
                           b_core := true, b_opCount := true, b_bandwidth := true }
  | .accessError _ _ _ =>
    { Parts.event with lastRead := true }
  | .undefinedOffsetAccess _ _ _ _ | .forbiddenMasterAccess _ _ _ _ =>
    { Parts.event with lastRead := true, irqs := true, sdio := true }
  | .vinMate _ | .powerBooksAudit =>
    { Parts.pass with b_power := true }
  | .powerOnResetRelease | .moduleReset | .trialExpiry | .supplyLoss | .surgeOff | .flowOff | .temperatureSample _ _ _ _ _ | .eoff |
    .eoffRelease | .powerOn _ | .powerOff _ | .reset _ | .alwaysOnSupplyFail | .supplyRestored =>
    Parts.all
  | .ddr4TrainingDone _ =>
    { Parts.event with fw := true, b_ddr4 := true, b_firmware := true }
  | .runtimeCopyDone _ =>
    { Parts.event with mem := true, struct := true, badUnits := true, badRecord := true, sec := true, fw := true, cores := true, b_firmware := true,
                       b_core := true }
  | .bootScrubDone =>
    { struct := true }
  | .partitionBecomesEmpty _ =>
    { b_part := true }
  | .verify _ =>
    { Parts.event with struct := true, badRecord := true, b_nypra := true, b_ddr4 := true }
  | .verifyDone =>
    { struct := true, b_nypra := true }
  | .apply _ =>
    { Parts.event with mem := true, struct := true, wparts := true, rings := true, irqs := true, badUnits := true, badRecord := true, cv := true,
                       sec := true, video := true, cores := true, b_nypra := true, b_part := true, b_ring := true, b_checkValue := true,
                       b_video := true, b_security := true, b_core := true }
  | .applyScrubDone | .removalDrainDone =>
    { struct := true, b_part := true }
  | .applyDone =>
    { bbs := true, out := true, struct := true, po := true, lease := true, sec := true, fabric := true, links := true, opc := true, b_nypra := true,
      b_output := true, b_redundancy := true, b_perf := true }
  | .discard _ =>
    { Parts.event with struct := true, b_nypra := true }
  | .remove _ _ =>
    { Parts.event with struct := true, wparts := true, rings := true, irqs := true, cv := true, sec := true, video := true, cores := true,
                       b_nypra := true, b_part := true, b_ring := true, b_checkValue := true, b_video := true, b_security := true, b_core := true }
  | .removalTimeout =>
    { Parts.eventPass with struct := true, b_nypra := true, b_part := true }
  | .removalScrubDone =>
    { mem := true, struct := true, wparts := true, rings := true, badUnits := true, badRecord := true, reruns := true, faults := true, sec := true,
      pages := true, serve := true, slots := true, links := true, video := true, perf := true, b_nypra := true, b_part := true, b_image := true,
      b_page := true, b_ring := true, b_video := true, b_fault := true, b_perf := true }
  | .commitVersion _ =>
    { Parts.event with fw := true, b_nypra := true }
  | .streamCommandDone _ _ =>
    { mem := true, badUnits := true, badRecord := true, fabric := true, b_perf := true }
  | .tileStoreUncorrectable _ _ _ =>
    { Parts.event with mem := true, rings := true, irqs := true, badUnits := true, badRecord := true, reruns := true, b_tile := true,
                       b_request := true, b_ring := true, b_core := true }
  | .tileReloadDone _ | .gather _ _ _ _ | .scatter _ _ _ _ _ | .fft _ _ _ _ _ _ | .expandedRead _ _ _ _ _ _ _ _ | .stackBlockReloadDone _ |
    .standingEditAdvance _ | .fence _ _ | .submit _ _ | .reqResume _ _ _ | .deadlineSettlement _ =>
    { Parts.event with mem := true, rings := true, irqs := true, badUnits := true, badRecord := true, b_request := true, b_ring := true,
                       b_ddr4 := true, b_core := true }
  | .tilePatrolPass _ _ _ =>
    { Parts.eventPass with mem := true, rings := true, irqs := true, badUnits := true, badRecord := true, reruns := true, b_tile := true,
                           b_request := true, b_ring := true, b_core := true }
  | .selftestStart _ =>
    { fabric := true, power := true, b_tile := true }
  | .tileSelftestStart _ _ _ | .selftestDone _ _ | .selftestAbortDone _ =>
    { Parts.event with b_tile := true }
  | .kernel _ _ _ _ _ _ _ =>
    { mem := true, fabric := true, dbg := true }
  | .budget _ | .ldU8 _ _ _ | .ldS8 _ _ _ | .ldU16 _ _ _ | .ldS16 _ _ _ | .ld32 _ _ _ | .ld128 _ _ _ | .qld32 _ _ _ | .qld128 _ _ _ |
    .sin _ _ _ | .sout _ _ _ | .sld _ _ _ =>
    { Parts.event with b_vector := true }
  | .regParity _ _ =>
    { Parts.event with mem := true, rings := true, irqs := true, badUnits := true, badRecord := true, reruns := true, b_vector := true,
                       b_request := true, b_ring := true, b_core := true }
  | .nop _ _ _ | .bra _ _ _ | .brs _ _ _ | .brp _ _ _ | .bar _ _ _ | .swait _ _ _ | .fadd _ _ _ | .fsub _ _ _ | .fmul _ _ _ | .ffma _ _ _ |
    .fmin _ _ _ | .fmax _ _ _ | .fabs _ _ _ | .fneg _ _ _ | .fsqrt _ _ _ | .fldexp _ _ _ | .frint _ _ _ | .fclamp _ _ _ | .frcp _ _ _ |
    .frsq _ _ _ | .fdiv _ _ _ | .fexp2 _ _ _ | .fexp _ _ _ | .flog2 _ _ _ | .ftanh _ _ _ | .fsigm _ _ _ | .iadd _ _ _ | .isub _ _ _ |
    .imul _ _ _ | .imad _ _ _ | .and _ _ _ | .or _ _ _ | .xor _ _ _ | .not _ _ _ | .shl _ _ _ | .shru _ _ _ | .shrs _ _ _ | .imin _ _ _ |
    .imax _ _ _ | .umin _ _ _ | .umax _ _ _ | .fcmp _ _ _ | .icmp _ _ _ | .ucmp _ _ _ | .f32Fmt _ _ _ | .f32S32 _ _ _ | .f32Mxi8 _ _ _ |
    .mxscale _ _ _ | .mov _ _ _ | .sel _ _ _ | .laneid _ _ _ | .bcast _ _ _ | .shflIdx _ _ _ | .shflXor _ _ _ | .shflUp _ _ _ |
    .shflDown _ _ _ | .vote _ _ _ | .vtos _ _ _ | .sadd _ _ _ | .ssub _ _ _ | .smul _ _ _ | .sand _ _ _ | .sor _ _ _ | .sxor _ _ _ |
    .sshl _ _ _ | .sshr _ _ _ | .ssar _ _ _ | .smov _ _ _ | .smovhi _ _ _ | .sread _ _ _ =>
    Parts.lane
  | .exit _ _ _ =>
    { Parts.lane with reruns := true }
  | .fmtF32 _ _ _ | .s32F32 _ _ _ | .mxi8F32 _ _ _ =>
    { Parts.lane with b_vector := true }
  | .st8 _ _ _ | .st16 _ _ _ | .st32 _ _ _ | .st128 _ _ _ | .qst32 _ _ _ | .qst128 _ _ _ | .atomFadd _ _ _ | .atomIadd _ _ _ | .atomFmax _ _ _
    | .atomImax _ _ _ | .atomXchg _ _ _ | .atomCas _ _ _ | .qatom _ _ _ =>
    { Parts.event with mem := true, badUnits := true, badRecord := true, b_vector := true }
  | .matmul _ _ _ _ _ _ _ _ _ | .conv _ _ _ _ _ _ _ _ | .pool _ _ _ _ _ _ | .chain _ _ _ _ | .reduce _ _ _ _ _ | .softmax _ _ _ _ |
    .norm _ _ _ _ _ _ _ _ | .convert _ _ _ _ _ _ _ =>
    { Parts.event with mem := true, rings := true, irqs := true, badUnits := true, badRecord := true, b_vector := true, b_request := true,
                       b_ring := true, b_ddr4 := true, b_core := true }
  | .attnPrefill _ _ _ _ _ _ _ _ =>
    { Parts.event with mem := true, rings := true, irqs := true, badUnits := true, badRecord := true, b_vector := true, b_stack := true,
                       b_request := true, b_ring := true, b_ddr4 := true, b_core := true }
  | .attnDecode _ _ _ _ _ _ _ _ _ _ _ | .kvWrite _ _ _ _ _ _ | .vetiverQuery _ _ _ =>
    { Parts.event with mem := true, rings := true, irqs := true, badUnits := true, badRecord := true, b_stack := true, b_request := true,
                       b_ring := true, b_ddr4 := true, b_core := true }
  | .load _ _ | .loadSectionsRead _ | .replace _ _ | .checkDone _ =>
    { Parts.event with wparts := true, badRecord := true, b_ddr4 := true }
  | .planBuilt _ =>
    { Parts.event with wparts := true, rings := true, irqs := true, badRecord := true, cores := true, b_ring := true, b_ddr4 := true, b_core := true }
  | .weightsCopied _ =>
    { Parts.event with mem := true, wparts := true, badUnits := true, badRecord := true, cores := true, perf := true, b_part := true,
                       b_request := true, b_ddr4 := true, b_security := true, b_power := true, b_core := true }
  | .unload _ _ =>
    { Parts.event with wparts := true, rings := true, irqs := true, cores := true, b_ring := true, b_core := true }
  | .unloadDone _ =>
    { mem := true, wparts := true, rings := true, badUnits := true, badRecord := true, reruns := true, faults := true, sec := true, links := true,
      dbg := true, b_part := true, b_image := true, b_ring := true, b_security := true, b_fault := true, b_core := true }
  | .abort _ _ | .check _ _ =>
    { Parts.event with wparts := true }
  | .queryAccepted _ _ =>
    { stk := true }
  | .engineWalk _ _ =>
    { Parts.event with mem := true, badUnits := true, badRecord := true, b_stack := true }
  | .pageBufferParity _ =>
    { Parts.event with mem := true, rings := true, irqs := true, badUnits := true, badRecord := true, reruns := true, b_request := true,
                       b_ring := true, b_ddr4 := true, b_core := true }
  | .stackUncorrectable _ _ _ =>
    { Parts.event with mem := true, rings := true, irqs := true, badUnits := true, badRecord := true, reruns := true, b_stack := true,
                       b_request := true, b_ring := true, b_ddr4 := true, b_core := true }
  | .stackPatrolPass _ _ _ =>
    { Parts.eventPass with mem := true, rings := true, irqs := true, badUnits := true, badRecord := true, reruns := true, b_stack := true,
                           b_request := true, b_ring := true, b_ddr4 := true, b_core := true }
  | .stepCommit _ _ =>
    { Parts.event with mem := true, wparts := true, rings := true, irqs := true, badUnits := true, badRecord := true, reruns := true, cores := true,
                       b_request := true, b_ring := true, b_ddr4 := true, b_core := true }
  | .stepDiscard _ =>
    { Parts.event with mem := true, wparts := true, rings := true, irqs := true, badUnits := true, badRecord := true, cores := true,
                       b_request := true, b_ring := true, b_ddr4 := true, b_core := true }
  | .zeroAndCheck _ =>
    { mem := true, pages := true }
  | .zeroAndCheckDone _ _ | .auditSweepDone _ _ | .pageRelease _ _ | .routeEntryWrite _ _ | .poTx _ _ _ | .faultAck _ _ | .faultClear _ _ |
    .ackAll _ | .faultInject _ _ | .amberLogClear _ _ | .renew _ _ | .grant _ _ | .deny _ _ | .release _ _ | .handover _ | .watchdogKick _ _
    | .removalWarning | .bbsWrite _ _ | .cellMeasure _ | .cellReplaced _ | .freeze _ _ _ | .perfCntWrite _ _ _ _ =>
    Parts.event
  | .auditSweep _ | .pagePatrolPass _ _ _ _ | .injectedEvent | .leaseExpiry | .takeoverTimer | .partnerSilent | .watchdog | .pathSilent _ =>
    Parts.eventPass
  | .quarantine _ _ =>
    { Parts.event with mem := true }
  | .cancel _ _ | .reqPause _ _ =>
    { Parts.event with mem := true, rings := true, irqs := true, badUnits := true, badRecord := true, b_request := true, b_ring := true,
                       b_core := true }
  | .reqRead _ _ =>
    { Parts.event with b_request := true }
  | .recordRetry _ =>
    { Parts.pass with mem := true, rings := true, irqs := true, badUnits := true, badRecord := true, serve := true, slots := true,
                      b_request := true, b_ring := true, b_core := true }
  | .create _ _ | .destroy _ _ | .ringPause _ _ | .drain _ _ | .ringReset _ _ | .consumerDoorbell _ _ _ =>
    { Parts.event with rings := true, b_ring := true }
  | .createDone _ | .ringResetDone _ =>
    { mem := true, rings := true, badUnits := true, badRecord := true, b_ring := true }
  | .ringResume _ _ | .ringRead _ _ | .producerDoorbell _ _ _ =>
    { Parts.event with b_ring := true }
  | .completionReservation _ | .copy _ | .fill _ | .strided _ | .linkWrite _ =>
    { Parts.event with mem := true, rings := true, irqs := true, badUnits := true, badRecord := true, b_ring := true, b_ddr4 := true, b_core := true }
  | .dmaNop _ =>
    { Parts.event with mem := true, rings := true, irqs := true, badUnits := true, badRecord := true, b_ring := true, b_core := true }
  | .descriptorComplete _ _ =>
    { mem := true, rings := true, irqs := true, badUnits := true, badRecord := true, b_ring := true, b_core := true }
  | .entryWriteRetry _ =>
    { Parts.pass with mem := true, rings := true, irqs := true, badUnits := true, badRecord := true, b_ring := true, b_core := true }
  | .ringAuditCheck =>
    { Parts.eventPass with b_ring := true }
  | .ringIrqTimer _ =>
    { Parts.pass with rings := true, irqs := true, b_core := true }
  | .ddr4Uncorrectable _ _ =>
    { Parts.event with mem := true, badUnits := true, badRecord := true, reruns := true, b_ddr4 := true }
  | .weightsUnitRestored _ _ =>
    { Parts.event with badUnits := true, badRecord := true, b_ddr4 := true }
  | .ddr4PatrolPass _ _ =>
    { Parts.eventPass with mem := true, badUnits := true, badRecord := true, reruns := true, b_ddr4 := true }
  | .dataCell _ _ =>
    { Parts.event with mem := true, rings := true, irqs := true, badUnits := true, badRecord := true, b_part := true, b_ring := true,
                       b_link := true, b_core := true }
  | .leaseCell _ _ =>
    { Parts.event with b_part := true, b_link := true }
  | .credit _ _ _ _ =>
    { out := true, links := true, opc := true, b_link := true, b_perf := true }
  | .replayReq _ _ | .laneLockLost _ _ =>
    { Parts.event with b_link := true }
  | .audit _ _ | .auditReply _ _ | .ack _ _ _ _ _ _ | .nack _ _ _ _ _ _ _ | .portEnable _ _ _ | .portDisable _ _ _ | .retrain _ _ _ |
    .retrainDone _ _ =>
    { Parts.event with mem := true, rings := true, irqs := true, badUnits := true, badRecord := true, b_ring := true, b_link := true, b_core := true }
  | .negotiate _ _ _ _ _ _ _ _ =>
    { out := true, faults := true, links := true, b_link := true, b_fault := true }
  | .vcReset _ _ _ =>
    { out := true, links := true }
  | .creditReportTimer _ | .negotiateTimer _ | .vcResetResend _ _ =>
    { Parts.pass with out := true, links := true }
  | .auditPeriod _ =>
    { Parts.pass with out := true }
  | .signalDetected _ _ =>
    { linkSignal := true, links := true, b_link := true }
  | .linkTrainingDone _ _ =>
    { out := true, links := true, b_link := true }
  | .linkTrainingTimeout _ =>
    { Parts.pass with links := true, b_link := true }
  | .linkRetry _ _ =>
    { Parts.pass with linkSignal := true, links := true, b_link := true }
  | .retrainTimeout _ =>
    { Parts.eventPass with mem := true, rings := true, irqs := true, badUnits := true, badRecord := true, b_ring := true, b_link := true,
                           b_core := true }
  | .signalLost _ =>
    { Parts.event with mem := true, rings := true, irqs := true, badUnits := true, badRecord := true, linkSignal := true, b_ring := true,
                       b_link := true, b_core := true }
  | .ackTimeout _ _ =>
    { Parts.pass with mem := true, rings := true, irqs := true, badUnits := true, badRecord := true, links := true, b_ring := true, b_core := true }
  | .plantFrame _ _ =>
    { mem := true, out := true, rings := true, irqs := true, badUnits := true, badRecord := true, cv := true, video := true, opc := true,
      b_ring := true, b_plant := true, b_checkValue := true, b_video := true, b_core := true, b_perf := true }
  | .plantLinkChange _ _ =>
    { Parts.event with b_plant := true, b_ptp := true }
  | .ptpMessage _ _ =>
    { Parts.event with modTime := true, ptp := true, b_ptp := true }
  | .announceTimeout =>
    { Parts.eventPass with b_ptp := true }
  | .poCopyDone _ =>
    { Parts.event with badRecord := true, b_ddr4 := true, b_checkValue := true }
  | .poPeriod _ =>
    { Parts.pass with out := true, po := true, opc := true, b_output := true }
  | .cvCfgWrite _ _ _ | .scanStart _ _ _ =>
    { Parts.event with cv := true, b_checkValue := true }
  | .scanDone _ =>
    { Parts.event with badRecord := true, cv := true, b_ddr4 := true, b_checkValue := true }
  | .vidOpen _ _ | .close _ _ | .feed _ _ | .flush _ _ =>
    { Parts.event with video := true, b_video := true }
  | .vidRead _ _ =>
    { Parts.event with b_video := true }
  | .packetLossTimeout _ =>
    { Parts.pass with video := true }
  | .pictureDecoded _ _ =>
    { Parts.event with mem := true, rings := true, irqs := true, badUnits := true, badRecord := true, video := true, b_ring := true,
                       b_video := true, b_core := true }
  | .encodeDone _ _ _ =>
    { Parts.event with mem := true, rings := true, irqs := true, badUnits := true, badRecord := true, video := true, b_ring := true, b_ddr4 := true,
                       b_video := true, b_core := true }
  | .attest _ _ =>
    { Parts.event with mem := true, badUnits := true, badRecord := true, b_ddr4 := true, b_security := true }
  | .keyImport _ _ | .consentSubmit _ _ =>
    { Parts.event with badRecord := true, sec := true, b_ddr4 := true, b_security := true }
  | .keyDelete _ _ _ =>
    { Parts.event with sec := true, b_security := true }
  | .consentRevoke _ _ =>
    { Parts.event with sec := true, b_security := true, b_core := true }
  | .consentExpiry _ =>
    { Parts.pass with sec := true, dbg := true, b_security := true, b_core := true }
  | .writeMgmt _ | .writeSlot _ _ =>
    { Parts.event with badRecord := true, fw := true, b_ddr4 := true, b_firmware := true }
  | .flashWriteDone _ =>
    { bbs := true, fw := true, sdio := true, b_firmware := true }
  | .arm _ _ | .disarm _ _ | .confirm _ | .commitMgmt _ | .commitRuntime _ =>
    { Parts.event with fw := true, b_firmware := true }
  | .faultNPulseEnd =>
    { Parts.pass with faults := true, b_fault := true }
  | .renewTimer | .releaseResend =>
    { Parts.pass with out := true, lease := true, links := true, opc := true }
  | .leaseDoubt =>
    { Parts.pass with out := true, po := true, lease := true, opc := true, b_output := true, b_redundancy := true }
  | .sagStart _ _ | .sagEnd _ _ | .capLvlChange _ | .plannerTick | .flowStale =>
    { Parts.eventPass with power := true, b_power := true, b_island := true }
  | .surge _ _ | .powerWindow _ _ _ =>
    { Parts.eventPass with power := true, b_power := true }
  | .mgmtCapWrite _ _ =>
    { Parts.event with power := true, b_power := true, b_island := true }
  | .recallDone | .loweringSettled =>
    { power := true, b_power := true, b_island := true }
  | .flowReport _ _ =>
    { Parts.event with power := true, sdio := true, b_power := true, b_island := true }
  | .softLimitTick =>
    { Parts.pass with power := true, b_power := true, b_island := true }
  | .idleChoice =>
    { Parts.pass with power := true, b_ddr4 := true }
  | .idleExit _ =>
    { power := true }
  | .idleExitDone _ =>
    { power := true, b_ddr4 := true, b_island := true }
  | .clockChangeDone _ =>
    { power := true, b_island := true }
  | .crossTimeout _ _ =>
    { Parts.event with power := true, b_island := true }
  | .scInstruction _ _ _ | .dmi _ _ _ =>
    { Parts.eventPass with mem := true, lastRead := true, struct := true, wparts := true, rings := true, irqs := true, badUnits := true,
                           badRecord := true, cv := true, sec := true, video := true, power := true, fw := true, sdio := true, cores := true,
                           opcShadow := true, bwStart := true, b_nypra := true, b_part := true, b_tile := true, b_vector := true, b_stack := true,
                           b_request := true, b_ring := true, b_ddr4 := true, b_link := true, b_plant := true, b_ptp := true, b_checkValue := true,
                           b_video := true, b_security := true, b_lifecycle := true, b_firmware := true, b_power := true, b_island := true,
                           b_battery := true, b_core := true, b_opCount := true, b_bandwidth := true }
  | .scIrqRead _ _ =>
    { Parts.event with lastRead := true, irqs := true }
  | .consoleWrite _ _ =>
    { Parts.event with sdio := true, b_core := true }
  | .consoleRead _ =>
    { Parts.event with lastRead := true, sdio := true }
  | .trayConsoleData _ | .mailboxDoorbell _ _ =>
    { power := true, sdio := true }
  | .recoveryStart _ | .recoveryAbort =>
    { bbs := true, power := true, fw := true, sdio := true }
  | .recoveryData _ =>
    { bbs := true, fw := true, sdio := true }
  | .status _ | .amberRead _ _ | .mgmtAttest _ _ =>
    { out := true, power := true, sdio := true, mgmt := true }
  | .amberClear _ =>
    { bbs := true, out := true, power := true, sdio := true, mgmt := true, b_amber := true }
  | .fault _ _ | .mgmtHandover _ =>
    { Parts.event with power := true, sdio := true, mgmt := true }
  | .setCap _ _ =>
    { Parts.event with power := true, sdio := true, mgmt := true, b_power := true, b_island := true }
  | .claim _ _ | .unlock _ _ _ =>
    { bbs := true, out := true, sec := true, power := true, fw := true, sdio := true, mgmt := true, b_lifecycle := true }
  | .keyEnrol _ _ | .keyRemove _ _ _ _ =>
    { bbs := true, out := true, sec := true, power := true, fw := true, sdio := true, mgmt := true }
  | .lifecycle _ _ _ _ =>
    { bbs := true, out := true, faults := true, sec := true, power := true, fw := true, sdio := true, mgmt := true, b_lifecycle := true }
  | .linkKeyImport _ _ | .linkKeyDelete _ _ _ =>
    { out := true, sec := true, power := true, sdio := true, mgmt := true }
  | .mgmtConsentSubmit _ _ =>
    { out := true, sec := true, power := true, sdio := true, mgmt := true, b_security := true }
  | .mgmtConsentRevoke _ _ =>
    { out := true, sec := true, power := true, sdio := true, mgmt := true, dbg := true, b_security := true, b_core := true }
  | .nypra _ _ _ =>
    { Parts.event with mem := true, struct := true, wparts := true, rings := true, irqs := true, badUnits := true, badRecord := true, cv := true,
                       sec := true, video := true, power := true, fw := true, sdio := true, mgmt := true, cores := true, b_nypra := true,
                       b_part := true, b_ring := true, b_ddr4 := true, b_checkValue := true, b_video := true, b_security := true, b_core := true }
  | .fwWrite _ _ _ _ _ =>
    { bbs := true, out := true, power := true, fw := true, sdio := true, mgmt := true }
  | .fwCtrl _ _ =>
    { bbs := true, out := true, power := true, fw := true, sdio := true, mgmt := true, b_firmware := true }
  | .setNetwork _ _ =>
    { bbs := true, out := true, power := true, sdio := true, mgmt := true }
  | .mgmtSessionOpen _ _ _ _ =>
    { Parts.event with power := true, mgmt := true }
  | .sessionIdleTimeout _ | .leaseSessionRetry _ =>
    { Parts.pass with mgmt := true }
  | .coarseUpdate =>
    { Parts.pass with perf := true }
  | .snap _ _ =>
    { Parts.event with opcShadow := true, b_opCount := true }
  | .bwWindow _ _ =>
    { Parts.pass with bwStart := true, b_bandwidth := true }
  | .bwWindowWrite _ _ =>
    { Parts.event with bwStart := true, b_bandwidth := true }
  | .peakClear _ _ _ =>
    { Parts.event with b_bandwidth := true }
  | .extest _ | .idcode | .samplePreload _ | .dtmcs _ | .bypass _ =>
    { lastRead := true, dbg := true }
  | .unitHalt | .unitHalted | .unitResume | .unitStep =>
    { dbg := true }
  | .unitMemRead =>
    { Parts.event with badRecord := true, b_ddr4 := true }
  | .unitMemWrite =>
    { Parts.event with mem := true, badUnits := true, badRecord := true, b_ddr4 := true }

/-! ## The power planner (20) -/

/-- What the planner leaves when it has run on `u` (R502 to R506, R508, R511): the allowed power and its limiter, the limits shown, a ramp that
rises by at most 300 W/s and never beyond the allowed power, the grants under that ramp, the issues, and the sequence that a lowering begins. -/
structure Planned (u t : State) : Prop where
  allowed : t.rd F.PWR_LIMIT_allowed_w = u.allowedPower
  limiter : t.rd F.PWR_LIMIT_limiter = u.limiter
  flow : t.rd F.PWR_LIMIT_flow_w = u.flowLimit
  inlet : t.rd F.PWR_LIMIT_inlet_w = inletLimit u.inletTemp
  ramp : t.rd F.PWR_LIMIT_ramp_w ≤ u.allowedPower
  rate : t.power.ramp ≤ u.power.ramp + 300 * (u.clk - u.power.rampAt)
  grants : ∀ n, n < 16 → t.rd F.PWR_PART_grant_w n = u.grantOf (t.rd F.PWR_LIMIT_ramp_w) n
  lowers : u.allowedPower < u.rd F.PWR_LIMIT_allowed_w → t.power.lowering = some u.clk ∧ t.power.lowered = u.clk ∧ t.rd F.PWR_LIMIT_settled = 0
  keeps : u.rd F.PWR_LIMIT_allowed_w ≤ u.allowedPower → t.power.lowering = u.power.lowering ∧ t.rd F.PWR_LIMIT_settled = u.rd F.PWR_LIMIT_settled
  issued : t.power.lowering = none → ∀ n, n < 16 → t.rd F.PWR_PART_issued_w n = t.rd F.PWR_PART_grant_w n
  recalls : t.power.lowering ≠ none → ∀ n, n < 16 → t.rd F.PWR_PART_issued_w n = max (u.rd F.PWR_PART_issued_w n) (t.rd F.PWR_PART_grant_w n) % 4096

/-- What the removal of core power leaves (R516): OFF with its cause, stage MGMT, nothing outside the always-on island. -/
structure CorePowerOff (u t : State) (cause : Nat) : Prop where
  off : t.power.off = true ∧ t.power.rails = false ∧ t.power.cause = cause
  last : t.rd F.PWR_LIMIT_last_off = cause % 16
  stage : t.rd F.FW_BOOT_stage = 1
  cleared : t.struct = {} ∧ t.mem = []
  kept : t.modTime = u.modTime ∧ t.mgmt = u.mgmt

end Sys2Proof.Machine
end

