-- ==== Sys2Proof/Certificates/Slice0/Obligations.lean ====
section
/-! DEFINITION. The statements for the provers. -/

section

open Sys2Proof Sys2Proof.Machine

/-- A step takes the command at the front of the queue and runs it with the queue's rest (the queue is the model's own). -/
def Obligations.FrontCommandRuns : Prop :=
  ∀ (c : Instr) (rest : List Instr) (s : State), step { s with pending := c :: rest } = exec c { s with pending := rest }

/-- An idle step is a tick of 10 ns, a choice of the model (assumption 1); with no offset to slew (R381) module time moves with the always-on
reference (R378), and nothing changes beside the times and the cycle counters. -/
def Obligations.EmptyQueueTicks : Prop :=
  ∀ s : State, s.pending = [] → ∃ t, step s = .next t ∧ t.clk = s.clk + 10 ∧ Unchanged Parts.pass s t ∧
    (s.ptp.slew = 0 → t.modTime = s.modTime + 10 ∧ t.ptp = s.ptp)

/-- The state after a reset (R32); a byte that nothing has written reads zero. -/
def Obligations.ResetIsEpochZero : Prop :=
  State.reset.pending = [] ∧ State.reset.ok = true ∧
  State.reset.rd F.NYPRA_STATUS_structure_epoch = 0 ∧ State.reset.rd F.REDUN_STATE_role = 0 ∧
  (∀ n : PartId, State.reset.pstate n = if n = 0 then 1 else 0) ∧
  (∀ c : ClusterId, State.reset.clusterOwner c = 0) ∧ (∀ e : EngineId, State.reset.engineOwner e = 0) ∧
  (∀ g, g < 256 → State.reset.granuleOwner g = 0) ∧ (∀ c : CoreId, State.reset.coreOwner c = 0) ∧
  (∀ r : RingId, State.reset.ringOwner r = 0) ∧ (∀ p v, p < 18 → v < 4 → State.reset.vcOwner p v = 0) ∧
  (∀ k : ChanId, State.reset.poOwner k = 0 ∧ State.reset.cvOwner k = 0) ∧ (∀ k : SessId, State.reset.videoOwner k = 0) ∧
  ((State.reset.part 0).clockCap = 1600 ∧ (State.reset.part 0).power = 2000 ∧ (State.reset.part 0).udpCount = 0 ∧
    (State.reset.part 0).reqCount = 0 ∧ (State.reset.part 0).pageCount = 0 ∧ (State.reset.part 0).ringFirst = 0 ∧
    (State.reset.part 0).ringCount = 4096) ∧
  (∀ a, State.reset.byte a = 0#8)

/-- Order is an invariant of every step, whatever command is in front. -/
def Obligations.StepKeepsOrder : Prop := ∀ s t : State, s.ok = true → step s = .next t → t.ok = true

/-- Every run goes on in order: each command ends in a state, and none of the states stops the block. -/
def Obligations.RunsNeverStop : Prop := ∀ (k : Nat) (s : State), s.ok = true → SafeRun k s

/-- The frame of every command: what lies outside `commandMayChange c` is unchanged. -/
def Obligations.CommandFrame : Prop :=
  ∀ (c : Instr) (s : State), ∃ t, exec c s = .next t ∧ Unchanged (commandMayChange c) s t

/-- The queue and the device identity outlive every command; the model's count of drawn free values never falls. -/
def Obligations.QueueAndIdentityKept : Prop :=
  ∀ (c : Instr) (s : State), ∃ t, exec c s = .next t ∧ t.pending = s.pending ∧ t.identity = s.identity ∧ s.fresh ≤ t.fresh

/-- An aligned write of a register without an effect of its own: each field by its access code (R13), RSVD bits ignored (R14). -/
def Obligations.RegisterWriteByAccessCode : Prop :=
  ∀ (m : Master) (sp : Space) (off : Nat) (v : W64) (s : State) (r : RegId) (i j : Nat),
    off % 8 = 0 → regAt sp off = some (r, i, j) → r ∉ RegId.ownWrite → s.reaches m r i true = true →
    ∃ t, exec (.registerWrite m sp off v) s = .next t ∧
      (∀ d ∈ r.fields, t.rd ⟨r, d.hi, d.lo⟩ i j = d.after (s.rd ⟨r, d.hi, d.lo⟩ i j) v.toNat) ∧
      (∀ (g : Fld) (k l : Nat), ¬ (g.reg = r ∧ k = i ∧ l = j) → t.rd g k l = s.rd g k l) ∧
      (∃ R, t = { s with regs := R })

/-- A write of a command register has the effect of the command that its value spells. -/
def Obligations.CommandRegisterWrites : Prop :=
  ∀ (m : Master) (sp : Space) (off : Nat) (w : W64) (s : State) (r : RegId) (i j : Nat) (c : Instr),
    off % 8 = 0 → regAt sp off = some (r, i, j) → s.reaches m r i true = true → CommandOf m r i j w c →
    exec (.registerWrite m sp off w) s = exec c s

/-- The three failed accesses: no effect, zero for a read, a note (R9, R44, R595). -/
def Obligations.AccessErrorsAreNotes : Prop :=
  ∀ (c : Instr) (m : Master) (sp : Space) (off : Nat) (write : Bool) (s : State),
    (c = .accessError sp off write ∨
      (c = .undefinedOffsetAccess m sp off write ∧ off % 8 = 0 ∧ regAt sp off = none) ∨
      (c = .forbiddenMasterAccess m sp off write ∧ off % 8 = 0 ∧
        ∃ r i j, regAt sp off = some (r, i, j) ∧ s.reaches m r i write = false)) →
    ∃ t, exec c s = .next t ∧
      t.rd F.FAULT_SRC_STATUS_events (accessSource sp) = min (s.rd F.FAULT_SRC_STATUS_events (accessSource sp) + 1) 65535 ∧
      t.rd F.FAULT_SRC_STATUS_level (accessSource sp) = max (s.level (accessSource sp)) 1 % 8 ∧
      t.lastRead = (if write then s.lastRead else 0) ∧
      Unchanged { bbs := true, lastRead := true, b_fault := true, b_amber := true } s t

/-- FALU and FFUN (Tables 5.5 and 5.6): the operation in each enabled lane. -/
def Obligations.LaneFloatInstructions : Prop :=
  ∀ (t : TileId) (g : Fin 32) (w : W64),
    LaneResult (.fadd t g w) t g w 1 (· == 0x00) (fun x l => fAdd (lRm w) (x.srcA w l) (x.srcB w l)) ∧
    LaneResult (.fsub t g w) t g w 1 (· == 0x01) (fun x l => fSub (lRm w) (x.srcA w l) (x.srcB w l)) ∧
    LaneResult (.fmul t g w) t g w 1 (· == 0x02) (fun x l => fMul (lRm w) (x.srcA w l) (x.srcB w l)) ∧
    LaneResult (.ffma t g w) t g w 1 (· == 0x03) (fun x l => fFma (lRm w) (x.srcA w l) (x.srcB w l) (x.srcC w l)) ∧
    LaneResult (.fmin t g w) t g w 1 (· == 0x04) (fun x l => fMin (x.srcA w l) (x.srcB w l)) ∧
    LaneResult (.fmax t g w) t g w 1 (· == 0x05) (fun x l => fMax (x.srcA w l) (x.srcB w l)) ∧
    LaneResult (.fabs t g w) t g w 1 (· == 0x06) (fun x l => fAbs (x.srcA w l)) ∧
    LaneResult (.fneg t g w) t g w 1 (· == 0x07) (fun x l => fNeg (x.srcA w l)) ∧
    LaneResult (.fsqrt t g w) t g w 1 (· == 0x08) (fun x l => fSqrt (lRm w) (x.srcA w l)) ∧
    LaneResult (.fldexp t g w) t g w 1 (· == 0x09) (fun x l => fLdexp (lRm w) (x.srcA w l) (x.srcB w l)) ∧
    LaneResult (.frint t g w) t g w 1 (· == 0x0a) (fun x l => fRint (lRm w) (x.srcA w l)) ∧
    LaneResult (.fclamp t g w) t g w 1 (· == 0x0b) (fun x l => fClamp (x.srcA w l) (x.srcB w l) (x.srcC w l)) ∧
    LaneResult (.frcp t g w) t g w 2 (· == 0x00) (fun x l => fRcp (x.srcA w l)) ∧
    LaneResult (.frsq t g w) t g w 2 (· == 0x01) (fun x l => fRsq (x.srcA w l)) ∧
    LaneResult (.fdiv t g w) t g w 2 (· == 0x02) (fun x l => fDiv (x.srcA w l) (x.vreg (lB w) l)) ∧
    LaneResult (.fexp2 t g w) t g w 2 (· == 0x03) (fun x l => fExp2 (x.srcA w l)) ∧
    LaneResult (.fexp t g w) t g w 2 (· == 0x04) (fun x l => fExp (x.srcA w l)) ∧
    LaneResult (.flog2 t g w) t g w 2 (· == 0x05) (fun x l => fLog2 (x.srcA w l)) ∧
    LaneResult (.ftanh t g w) t g w 2 (· == 0x06) (fun x l => fTanh (x.srcA w l)) ∧
    LaneResult (.fsigm t g w) t g w 2 (· == 0x07) (fun x l => fSigm (x.srcA w l))

/-- IALU (Table 5.7) and CMP (Table 5.8, R123). -/
def Obligations.LaneIntegerInstructions : Prop :=
  ∀ (t : TileId) (g : Fin 32) (w : W64),
    (LaneResult (.iadd t g w) t g w 3 (· == 0x00) (fun x l => (x.srcA w l) + (x.srcB w l)) ∧
    LaneResult (.isub t g w) t g w 3 (· == 0x01) (fun x l => (x.srcA w l) - (x.srcB w l)) ∧
    LaneResult (.imul t g w) t g w 3 (· == 0x02) (fun x l => (x.srcA w l) * (x.srcB w l)) ∧
    LaneResult (.imad t g w) t g w 3 (· == 0x03) (fun x l => (x.srcA w l) * (x.srcB w l) + (x.srcC w l)) ∧
    LaneResult (.and t g w) t g w 3 (· == 0x04) (fun x l => (x.srcA w l) &&& (x.srcB w l)) ∧
    LaneResult (.or t g w) t g w 3 (· == 0x05) (fun x l => (x.srcA w l) ||| (x.srcB w l)) ∧
    LaneResult (.xor t g w) t g w 3 (· == 0x06) (fun x l => (x.srcA w l) ^^^ (x.srcB w l)) ∧
    LaneResult (.not t g w) t g w 3 (· == 0x07) (fun x l => ~~~ (x.srcA w l)) ∧
    LaneResult (.shl t g w) t g w 3 (· == 0x08) (fun x l => (x.srcA w l) <<< ((x.srcB w l).toNat % 32)) ∧
    LaneResult (.shru t g w) t g w 3 (· == 0x09) (fun x l => (x.srcA w l) >>> ((x.srcB w l).toNat % 32)) ∧
    LaneResult (.shrs t g w) t g w 3 (· == 0x0a) (fun x l => (x.srcA w l).sshiftRight ((x.srcB w l).toNat % 32)) ∧
    LaneResult (.imin t g w) t g w 3 (· == 0x0b) (fun x l => if (x.srcA w l).toInt ≤ (x.srcB w l).toInt then (x.srcA w l) else (x.srcB w l)) ∧
    LaneResult (.imax t g w) t g w 3 (· == 0x0c) (fun x l => if (x.srcA w l).toInt ≤ (x.srcB w l).toInt then (x.srcB w l) else (x.srcA w l)) ∧
    LaneResult (.umin t g w) t g w 3 (· == 0x0d) (fun x l => if (x.srcA w l).toNat ≤ (x.srcB w l).toNat then (x.srcA w l) else (x.srcB w l)) ∧
    LaneResult (.umax t g w) t g w 3 (· == 0x0e) (fun x l => if (x.srcA w l).toNat ≤ (x.srcB w l).toNat then (x.srcB w l) else (x.srcA w l))) ∧
    ∀ (s : State) (x : Group) (c : Instr) (op : Nat) (holds : Nat → W32 → W32 → Bool),
      (c = .fcmp t g w ∧ op = 0 ∧ holds = fcmpHolds) ∨ (c = .icmp t g w ∧ op = 1 ∧ holds = icmpHolds) ∨
        (c = .ucmp t g w ∧ op = 2 ∧ holds = ucmpHolds) →
      s.issue t g w 4 (· == op) = some x →
      ∃ u y, exec c s = .next u ∧ LaneNext s u t g y ∧ y.pc = x.pc + 1 ∧ y.wait = x.wait ∧ y.v = x.v ∧ y.s = x.s ∧
        (∀ p, p ≠ lDst w ∨ p = 7 → y.pred p = x.pred p) ∧
        ∀ l, l < 64 → lDst w ≠ 7 → (y.pred (lDst w)).testBit l =
          if x.enabled w l = true then
            (let r := holds (lw w 20 18) (x.srcA w l) (x.srcB w l)
             if lw w 17 16 = 1 then (x.pred (lDst w)).testBit l && r
             else if lw w 17 16 = 2 then (x.pred (lDst w)).testBit l || r else r)
          else (x.pred (lDst w)).testBit l

/-- CVT (Table 5.9, R124) and MOVE (Table 5.10). -/
def Obligations.LaneMovesAndConversions : Prop :=
  ∀ (t : TileId) (g : Fin 32) (w : W64),
    (LaneResult (.f32Fmt t g w) t g w 5 (fun o => decide (o ≤ 0x08)) (fun x l => roundF 0 (narrowDec (lOp w) (elemOf (narrowWidth (lOp w)) (lElem w) (x.srcA w l)))) ∧
    LaneResult (.f32S32 t g w) t g w 5 (· == 0x09) (fun x l => s32F32 (lRm w) (x.srcA w l)) ∧
    LaneResult (.f32Mxi8 t g w) t g w 5 (· == 0x0a) (fun x l => roundF 0 (mxi8Dec (elemOf 8 (lElem w) (x.srcA w l)))) ∧
    LaneResult (.fmtF32 t g w) t g w 5 (fun o => decide (0x10 ≤ o ∧ o ≤ 0x18)) (fun x l => putElem (narrowWidth (lOp w - 0x10)) (lElem w) (x.vreg (lDst w) l) (narrowEnc (lOp w - 0x10) (lRm w) (lSat w) (decF (x.srcA w l)))) ∧
    LaneResult (.s32F32 t g w) t g w 5 (· == 0x19) (fun x l => f32S32 (lRm w) (x.srcA w l)) ∧
    LaneResult (.mxi8F32 t g w) t g w 5 (· == 0x1a) (fun x l => putElem 8 (lElem w) (x.vreg (lDst w) l) (mxi8Enc (lRm w) (decF (x.srcA w l)))) ∧
    LaneResult (.mxscale t g w) t g w 5 (· == 0x20) (fun x l => BitVec.ofNat 32 (mxScaleCode (lElem w) (((x.lanes w).filter (fun k => k / 32 = l / 32)).map (fun k => decF (x.srcA w k))))) ∧
    LaneResult (.mov t g w) t g w 6 (· == 0x00) (fun x l => if lImmForm w then lImm w else (x.srcA w l)) ∧
    LaneResult (.sel t g w) t g w 6 (· == 0x01) (fun x l => if bit (x.pred (lC w)) l then (x.srcA w l) else (x.srcB w l)) ∧
    LaneResult (.laneid t g w) t g w 6 (· == 0x02) (fun _ l => BitVec.ofNat 32 l) ∧
    LaneResult (.bcast t g w) t g w 6 (· == 0x03) (fun x _ => (x.sreg (lA w)).truncate 32) ∧
    LaneResult (.shflIdx t g w) t g w 6 (· == 0x04) (fun x l => x.srcA w ((x.srcB w l).toNat % 64)) ∧
    LaneResult (.shflXor t g w) t g w 6 (· == 0x05) (fun x l => x.srcA w ((l ^^^ lw w 5 0) % 64)) ∧
    LaneResult (.shflUp t g w) t g w 6 (· == 0x06) (fun x l => x.srcA w (if lw w 5 0 ≤ l then l - lw w 5 0 else l)) ∧
    LaneResult (.shflDown t g w) t g w 6 (· == 0x07) (fun x l => x.srcA w (if l + lw w 5 0 ≤ 63 then l + lw w 5 0 else l))) ∧
    (∀ (s : State) (x : Group), s.issue t g w 6 (· == 0x08) = some x → ∃ u y, exec (.vote t g w) s = .next u ∧ LaneNext s u t g y ∧
      y.pc = x.pc + 1 ∧ y.wait = x.wait ∧ y.v = x.v ∧ y.p = x.p ∧ (∀ r, r ≠ lDst w → y.sreg r = x.sreg r) ∧
      ∀ l, l < 64 → (y.sreg (lDst w)).getLsbD l = (x.enabled w l && (x.pred (lA w)).testBit l)) ∧
    (∀ (s : State) (x : Group), s.issue t g w 6 (· == 0x09) = some x → ∃ u y, exec (.vtos t g w) s = .next u ∧ LaneNext s u t g y ∧
      y.pc = x.pc + 1 ∧ y.wait = x.wait ∧ y.v = x.v ∧ y.p = x.p ∧
      ∀ r, y.sreg r = if r = lDst w ∧ x.enabled w (lw w 5 0) = true then (x.vreg (lA w) (lw w 5 0)).setWidth 64 else x.sreg r)

/-- Loads of MEM (Table 5.11, R125). -/
def Obligations.LaneLoads : Prop :=
  ∀ (t : TileId) (g : Fin 32) (w : W64) (s : State) (x : Group),
    (∀ (c : Instr) (op size : Nat) (quad : Bool) (ext : Nat → W32),
      (c = .ldU8 t g w ∧ op = 0x00 ∧ quad = false ∧ size = 1 ∧ ext = fun v => BitVec.ofNat 32 v) ∨
      (c = .ldS8 t g w ∧ op = 0x01 ∧ quad = false ∧ size = 1 ∧ ext = fun v => (BitVec.ofNat 8 v).signExtend 32) ∨
      (c = .ldU16 t g w ∧ op = 0x02 ∧ quad = false ∧ size = 2 ∧ ext = fun v => BitVec.ofNat 32 v) ∨
      (c = .ldS16 t g w ∧ op = 0x03 ∧ quad = false ∧ size = 2 ∧ ext = fun v => (BitVec.ofNat 16 v).signExtend 32) ∨
      (c = .ld32 t g w ∧ op = 0x04 ∧ quad = false ∧ size = 4 ∧ ext = fun v => BitVec.ofNat 32 v) ∨
      (c = .qld32 t g w ∧ op = 0x10 ∧ quad = true ∧ size = 4 ∧ ext = fun v => BitVec.ofNat 32 v) →
      s.issue t g w 7 (· == op) = some x → s.laneClear t x w quad size →
      ∃ u y, exec c s = .next u ∧ LaneNext s u t g y ∧ y.pc = x.pc + 1 ∧ y.wait = x.wait ∧ y.p = x.p ∧ y.s = x.s ∧ u.mem = s.mem ∧
        ∀ r l, l < 64 → y.vreg r l = if r = lDst w ∧ x.enabled w l = true then
          ext (leVal ((s.vecIssued t).draw.laneLoad t quad (x.memAddr w l) size)) else x.vreg r l) ∧
    (∀ (c : Instr) (op : Nat) (quad : Bool),
      (c = .ld128 t g w ∧ op = 0x05 ∧ quad = false) ∨ (c = .qld128 t g w ∧ op = 0x11 ∧ quad = true) →
      s.issue t g w 7 (· == op) = some x → s.laneClear t x w quad 16 →
      ∃ u y, exec c s = .next u ∧ LaneNext s u t g y ∧ y.pc = x.pc + 1 ∧ y.wait = x.wait ∧ y.p = x.p ∧ y.s = x.s ∧ u.mem = s.mem ∧
        ∀ r l, l < 64 → y.vreg r l = if (lDst w ≤ r ∧ r < lDst w + 4) ∧ x.enabled w l = true then
          BitVec.ofNat 32 (leAt ((s.vecIssued t).draw.laneLoad t quad (x.memAddr w l) 16) (4 * (r - lDst w)) 4) else x.vreg r l) ∧
    (∀ off n, (∀ k, k < 32 → s.queue (8 * (t.val / 8) + k / 4) (k % 4) = []) →
      (s.vecIssued t).draw.laneLoad t false off n = (List.range n).map (fun k => s.byte (s.laneCell t false (off + k)))) ∧
    (∀ off n, (s.vecIssued t).draw.laneLoad t true off n = (List.range n).map (fun k => s.byte (s.laneCell t true (off + k))))

/-- Stores of MEM (Table 5.11, R125, R133). -/
def Obligations.LaneStores : Prop :=
  ∀ (t : TileId) (g : Fin 32) (w : W64) (s : State) (x : Group) (c : Instr) (op size : Nat) (quad : Bool) (data : Nat → List Byte),
    ((c = .st8 t g w ∧ op = 0x08 ∧ quad = false ∧ size = 1 ∧ data = fun l => leBytes 1 (x.vreg (lC w) l).toNat) ∨
      (c = .st16 t g w ∧ op = 0x09 ∧ quad = false ∧ size = 2 ∧ data = fun l => leBytes 2 (x.vreg (lC w) l).toNat) ∨
      (c = .st32 t g w ∧ op = 0x0A ∧ quad = false ∧ size = 4 ∧ data = fun l => leBytes 4 (x.vreg (lC w) l).toNat) ∨
      (c = .st128 t g w ∧ op = 0x0B ∧ quad = false ∧ size = 16 ∧
        data = fun l => (List.range 4).flatMap (fun k => leBytes 4 (x.vreg (lC w + k) l).toNat)) ∨
      (c = .qst32 t g w ∧ op = 0x12 ∧ quad = true ∧ size = 4 ∧ data = fun l => leBytes 4 (x.vreg (lC w) l).toNat) ∨
      (c = .qst128 t g w ∧ op = 0x13 ∧ quad = true ∧ size = 16 ∧
        data = fun l => (List.range 4).flatMap (fun k => leBytes 4 (x.vreg (lC w + k) l).toNat))) →
    s.issue t g w 7 (· == op) = some x → s.laneClear t x w quad size →
    (quad = true → ∀ l, l < 64 → x.enabled w l = true → x.memAddr w l < 2 ^ 48) →
    ∃ (u : State) (M : Nat → Nat → Byte), exec c s = .next u ∧ LaneNext s u t g x.next ∧ (∀ a, M 0 a = s.byte a) ∧ (∀ a, M 64 a = u.byte a) ∧
      ∀ l, l < 64 →
        (x.enabled w l = false → ∀ a, M (l + 1) a = M l a) ∧
        (x.enabled w l = true →
          (∀ a, (∀ k, k < size → s.laneCell t quad (x.memAddr w l + k) ≠ a) → M (l + 1) a = M l a) ∧
          (∀ k, k < size → (∀ j, k < j → j < size → s.laneCell t quad (x.memAddr w l + j) ≠ s.laneCell t quad (x.memAddr w l + k)) →
            M (l + 1) (s.laneCell t quad (x.memAddr w l + k)) = (data l).getD k 0#8))

/-- Atomics of MEM (Table 5.11, R125, R133). -/
def Obligations.LaneAtomics : Prop :=
  (∀ (t : TileId) (g : Fin 32) (w : W64) (s : State) (x : Group) (c : Instr) (ops : Nat → Bool) (quad : Bool),
    ((c = .atomFadd t g w ∧ ops = (· == 0x20) ∧ quad = false) ∨ (c = .atomIadd t g w ∧ ops = (· == 0x21) ∧ quad = false) ∨
      (c = .atomFmax t g w ∧ ops = (· == 0x22) ∧ quad = false) ∨ (c = .atomImax t g w ∧ ops = (· == 0x23) ∧ quad = false) ∨
      (c = .atomXchg t g w ∧ ops = (· == 0x24) ∧ quad = false) ∨ (c = .atomCas t g w ∧ ops = (· == 0x25) ∧ quad = false) ∨
      (c = .qatom t g w ∧ ops = (fun o => decide (0x30 ≤ o ∧ o ≤ 0x35)) ∧ quad = true)) →
    s.issue t g w 7 ops = some x → s.laneClear t x w quad 4 →
    (quad = false → ∀ k, k < 32 → s.queue (8 * (t.val / 8) + k / 4) (k % 4) = []) →
    (quad = true → ∀ l, l < 64 → x.enabled w l = true → x.memAddr w l < 2 ^ 48) →
    ∃ (u : State) (y : Group) (M : Nat → Nat → Byte), exec c s = .next u ∧ LaneNext s u t g y ∧ y.pc = x.pc + 1 ∧ y.wait = x.wait ∧
      y.p = x.p ∧ y.s = x.s ∧ (∀ a, M 0 a = s.byte a) ∧ (∀ a, M 64 a = u.byte a) ∧
      (∀ r l, l < 64 → (r ≠ lDst w ∨ x.enabled w l = false) → y.vreg r l = x.vreg r l) ∧
      ∀ l, l < 64 →
        (x.enabled w l = false → ∀ a, M (l + 1) a = M l a) ∧
        (x.enabled w l = true →
          (let old : W32 := BitVec.ofNat 32 (leVal ((List.range 4).map (fun k => M l (s.laneCell t quad (x.memAddr w l + k)))))
          y.vreg (lDst w) l = old ∧
          (∀ k, k < 4 → (∀ j, k < j → j < 4 → s.laneCell t quad (x.memAddr w l + j) ≠ s.laneCell t quad (x.memAddr w l + k)) →
            M (l + 1) (s.laneCell t quad (x.memAddr w l + k)) =
              (leBytes 4 (atomFn (lOp w) old (x.vreg (lC w) l) (x.vreg (lDst w) l)).toNat).getD k 0#8) ∧
          ∀ a, (∀ k, k < 4 → s.laneCell t quad (x.memAddr w l + k) ≠ a) → M (l + 1) a = M l a))) ∧
  ∀ (q : Nat) (old v cmp : W32), atomFn (16 * q) old v cmp = fAdd 0 old v ∧ atomFn (16 * q + 1) old v cmp = old + v ∧
    atomFn (16 * q + 2) old v cmp = fMax old v ∧ atomFn (16 * q + 3) old v cmp = (if old.toInt < v.toInt then v else old) ∧
    atomFn (16 * q + 4) old v cmp = v ∧ atomFn (16 * q + 5) old v cmp = (if old = cmp then v else old)

/-- SCALAR (Table 5.13). Selectors 2 and 4 of SREAD give free values. -/
def Obligations.LaneScalarInstructions : Prop :=
  ∀ (t : TileId) (g : Fin 32) (w : W64),
    (LaneGroup (.sadd t g w) t g w 9 0x00 (fun _ x => (x.setS (lDst w) ((x.sreg (lA w)) + (x.scalB w))).next) ∧
    LaneGroup (.ssub t g w) t g w 9 0x01 (fun _ x => (x.setS (lDst w) ((x.sreg (lA w)) - (x.scalB w))).next) ∧
    LaneGroup (.smul t g w) t g w 9 0x02 (fun _ x => (x.setS (lDst w) ((x.sreg (lA w)) * (x.scalB w))).next) ∧
    LaneGroup (.sand t g w) t g w 9 0x03 (fun _ x => (x.setS (lDst w) ((x.sreg (lA w)) &&& (x.scalB w))).next) ∧
    LaneGroup (.sor t g w) t g w 9 0x04 (fun _ x => (x.setS (lDst w) ((x.sreg (lA w)) ||| (x.scalB w))).next) ∧
    LaneGroup (.sxor t g w) t g w 9 0x05 (fun _ x => (x.setS (lDst w) ((x.sreg (lA w)) ^^^ (x.scalB w))).next) ∧
    LaneGroup (.sshl t g w) t g w 9 0x06 (fun _ x => (x.setS (lDst w) ((x.sreg (lA w)) <<< ((x.scalB w).toNat % 64))).next) ∧
    LaneGroup (.sshr t g w) t g w 9 0x07 (fun _ x => (x.setS (lDst w) ((x.sreg (lA w)) >>> ((x.scalB w).toNat % 64))).next) ∧
    LaneGroup (.ssar t g w) t g w 9 0x0b (fun _ x => (x.setS (lDst w) ((x.sreg (lA w)).sshiftRight ((x.scalB w).toNat % 64))).next) ∧
    LaneGroup (.smov t g w) t g w 9 0x08 (fun _ x => (x.setS (lDst w) (if lImmForm w then (lImm w).signExtend 64 else (x.sreg (lA w)))).next) ∧
    LaneGroup (.smovhi t g w) t g w 9 0x09 (fun _ x => (x.setS (lDst w) (BitVec.ofNat 64 ((lImm w).toNat * 2 ^ 32 + (x.sreg (lDst w)).toNat % 2 ^ 32))).next)) ∧
    (∀ (s : State) (x : Group), s.issue t g w 9 (· == 0x0A) = some x →
      ∃ u v, exec (.sread t g w) s = .next u ∧ LaneNext s u t g (x.setS (lDst w) v).next ∧
        (lw w 31 0 = 0 → v = BitVec.ofNat 64 g) ∧ (lw w 31 0 = 1 → v = BitVec.ofNat 64 (s.run t).groups.length) ∧
        (lw w 31 0 = 3 → v = BitVec.ofNat 64 t) ∧ (5 ≤ lw w 31 0 → v = BitVec.ofNat 64 (s.run t).args)) ∧
    (∀ (s : State) (x : Group) (a : Nat), s.issue t g w 9 (· == 0x0C) = some x → a = (x.sreg (lA w) + (lImm w).signExtend 64).toNat →
      accessFault (s.run t).tileBase (s.run t).tileLen a 8 = 0 →
      ∃ u, exec (.sld t g w) s = .next u ∧ u.mem = s.mem ∧
        LaneNext s u t g (x.setS (lDst w) (BitVec.ofNat 64 (leVal ((s.vecIssued t).draw.laneLoad t false a 8)))).next)

/-- CTRL (Table 5.4, R114, R121, R128, R134). -/
def Obligations.LaneControlInstructions : Prop :=
  ∀ (t : TileId) (g : Fin 32) (w : W64),
    LaneGroup (.nop t g w) t g w 0 0x00 (fun _ x => x.next) ∧
    LaneGroup (.bra t g w) t g w 0 0x02 (fun _ x => { x with pc := ((x.pc : Int) + (lImm w).toInt).toNat }) ∧
    LaneGroup (.brs t g w) t g w 0 0x03 (fun _ x =>
      if (lw w 33 32 = 0 ∧ x.sreg (lA w) = 0) ∨ (lw w 33 32 = 1 ∧ x.sreg (lA w) ≠ 0) ∨ (lw w 33 32 = 2 ∧ (x.sreg (lA w)).toInt < 0) ∨
        (lw w 33 32 = 3 ∧ 0 ≤ (x.sreg (lA w)).toInt) then { x with pc := ((x.pc : Int) + (lImm w).toInt).toNat } else x.next) ∧
    LaneGroup (.brp t g w) t g w 0 0x04 (fun _ x =>
      if (lw w 33 32 = 0 ∧ x.pred (lA w) ≠ 0) ∨ (lw w 33 32 = 1 ∧ x.pred (lA w) = 2 ^ 64 - 1) ∨ (2 ≤ lw w 33 32 ∧ x.pred (lA w) = 0) then
        { x with pc := ((x.pc : Int) + (lImm w).toInt).toNat } else x.next) ∧
    LaneGroup (.swait t g w) t g w 0 0x08 (fun s x => if s.tokenBusy t (lw w 2 0) then { x with wait := 8 + lw w 2 0 } else x.next) ∧
    (∀ (s : State) (x : Group), s.issue t g w 0 (· == 0x05) = some x →
      ∃ u, exec (.bar t g w) s = .next u ∧ (∀ k, k ≠ t.val → u.run k = s.run k) ∧
        u.run t = { s.run t with groups :=
          (let gs := (s.run t).groups.set g { x with wait := 2 + lw w 1 0 }
          if gs.all (fun y => decide (y.wait = 1 ∨ y.wait = 2 + lw w 1 0)) = true then
            gs.map (fun y => if y.wait = 2 + lw w 1 0 then { y with wait := 0, pc := y.pc + 1 } else y) else gs) }) ∧
    (∀ (s : State) (x : Group) (gs : List Group), s.issue t g w 0 (· == 0x01) = some x →
      gs = (List.range 4).foldl releaseBar ((s.run t).groups.set g { x with wait := 1 }) →
      ∃ u, exec (.exit t g w) s = .next u ∧
        (((s.run t).tiles.all (fun k => ((if k = t.val then gs else (s.run k).groups)).all (fun y => decide (y.wait = 1)))) = false →
          u.run t = { s.run t with groups := gs } ∧ ∀ k, k ≠ t.val → u.run k = s.run k) ∧
        (((s.run t).tiles.all (fun k => ((if k = t.val then gs else (s.run k).groups)).all (fun y => decide (y.wait = 1)))) = true →
          ∀ k, (u.run k).id ≠ (s.run t).id ∧ ((s.run k).id ≠ (s.run t).id → u.run k = s.run k)))

/-- STREAM (R126 to R130) and the completion of a command (R101, R128). -/
def Obligations.StreamCommands : Prop :=
  (∀ (t : TileId) (g : Fin 32) (w : W64) (s : State) (x : Group) (c : Instr) (op : Nat) (out : Bool) (d : StreamCmd),
    (c = .sin t g w ∧ op = 0 ∧ out = false) ∨ (c = .sout t g w ∧ op = 1 ∧ out = true) →
    s.issue t g w 8 (· == op) = some x →
    d = { out := out, remote := (x.sreg (lA w)).toNat, off := (x.sreg (lB w)).toNat, len := (x.sreg (lC w)).toNat,
          mask := lw w 16 9, token := lw w 19 17, part := (s.run t).part } →
    (d.len = 0 → ∃ u, exec c s = .next u ∧ LaneNext s u t g x.next ∧ u.fabric.queues = s.fabric.queues ∧ u.mem = s.mem) ∧
    (0 < d.len → addrKind d.remote < 3 → addrOk d.remote = true → d.remote % 64 = 0 → d.off % 64 = 0 → d.len % 64 = 0 →
      d.len ≤ 16 * 2 ^ 20 → d.off + d.len ≤ 2 ^ 20 → s.addrIn d.part d.remote d.len = true →
      ∃ u, exec c s = .next u ∧ u.mem = s.mem ∧
        ((s.queue t (lw w 21 20)).length < 16 → LaneNext s u t g x.next ∧
          ∀ k q, q < 4 → u.queue k q = if k = t.val ∧ q = lw w 21 20 then s.queue k q ++ [d] else s.queue k q) ∧
        (16 ≤ (s.queue t (lw w 21 20)).length → u.fabric = s.fabric))) ∧
  (∀ (t : TileId) (q : Fin 4) (s : State) (d : StreamCmd) (rest : List StreamCmd),
    (s.unitDbg 0 t).state ≠ 2 → s.queue t q = d :: rest → d.off + d.len ≤ 2 ^ 20 →
    ∃ u, exec (.streamCommandDone t q) s = .next u ∧
      (∀ k j, j < 4 → u.queue k j = if k = t.val ∧ j = q.val then rest else s.queue k j) ∧
      (∀ k, u.run k = if k = t.val ∧ u.tokenBusy t d.token = false then
          { s.run t with groups := (s.run t).groups.map (fun y => if y.wait = 8 + d.token then { y with wait := 0, pc := y.pc + 1 } else y) }
        else s.run k) ∧
      (d.out = false →
        (∀ v ∈ streamTargets t d.mask, ∀ k, k < d.len → u.byte (tileAddr v (d.off + k)) = s.byte (s.phys d.part (d.remote + k))) ∧
        ∀ a, (∀ v ∈ streamTargets t d.mask, ∀ k, k < d.len → tileAddr v (d.off + k) ≠ a) → u.byte a = s.byte a) ∧
      (d.out = true → addrKind d.remote ≠ 4 →
        (∀ k, k < d.len → (∀ j, k < j → j < d.len → s.phys d.part (d.remote + j) ≠ s.phys d.part (d.remote + k)) →
          u.byte (s.phys d.part (d.remote + k)) = s.byte (tileAddr t (d.off + k))) ∧
        ∀ a, (∀ k, k < d.len → s.phys d.part (d.remote + k) ≠ a) → u.byte a = s.byte a))

/-- R430 to R442, command by command; what unwraps and what verifies is free. -/
def Obligations.SecurityWindowCommands : Prop :=
  (∀ (m : Master) (n : PartId) (s : State), s.isTenant n m = true → s.rd F.SEC_STATUS_busy n = 0 →
    (∀ a, s.secBuffer m n 2816 true = some a → s.badUnit (a + 0x20) 64 = none → s.blockedUnit a 2816 = false →
      ∃ (t : State) (rep : List Byte), exec (.attest m n) s = .next t ∧ rep = s.report (match m with | .mgc => 0xFF | _ => s.requester m) (s.bytesAt (ddr (a + 0x20)) 64) ∧
        (∀ k, (h : k < rep.length) → t.byte (ddr (a + k)) = rep[k]) ∧ (∀ k, k < ddr a ∨ ddr a + rep.length ≤ k → t.byte k = s.byte k) ∧
        (∀ k, k < 64 → t.byte (ddr (a + 0x20 + k)) = s.byte (ddr (a + 0x20 + k))) ∧
        t.rd F.SEC_STATUS_result n = 1 ∧ t.rd F.SEC_STATUS_reason n = 0) ∧
    (∀ a b, s.secBuffer m n 256 false = some a → s.badUnit a 256 = none → s.bytesAt (ddr a) 256 = b → s.importOk n b →
      ∃ t, exec (.keyImport m n) s = .next t ∧
        match Config.unwrap b with
        | some secret => LinkKeyImported n (leAt b 6 2) (leAt b 8 2) (leAt b 0xA 2) secret s.sec.linkKeys t.sec.linkKeys ∧
            t.rd F.SEC_STATUS_result n = 1 ∧ t.rd F.SEC_STATUS_reason n = 0
        | none => t.sec = s.sec ∧ t.rd F.SEC_STATUS_result n = 3 ∧ t.rd F.SEC_STATUS_reason n = 6) ∧
    (∀ k : BitVec 16, ∃ t, exec (.keyDelete m n k) s = .next t ∧
      (s.pstate n = 1 ∨ s.pstate n = 2 →
        ((∃ e ∈ s.sec.linkKeys, e.part = n ∧ e.id = k.toNat ∧ e.tomb = false) →
          t.sec = { s.sec with linkKeys := s.sec.linkKeys.filter (fun e => ! (e.part = n.val && e.id = k.toNat)) } ∧
          t.rd F.SEC_STATUS_result n = 1 ∧ t.rd F.SEC_STATUS_reason n = 0) ∧
        (¬ (∃ e ∈ s.sec.linkKeys, e.part = n ∧ e.id = k.toNat ∧ e.tomb = false) → t.sec = s.sec ∧ t.rd F.SEC_STATUS_result n = 3 ∧ t.rd F.SEC_STATUS_reason n = 7)) ∧
      (s.pstate n = 0 ∨ s.pstate n = 3 ∨ s.pstate n = 4 → t.sec = s.sec ∧ t.rd F.SEC_STATUS_result n = 3 ∧ t.rd F.SEC_STATUS_reason n = 4)) ∧
    (s.isOperator m = true → ∀ a b, s.secBuffer m n 512 false = some a → s.badUnit a 512 = none → s.bytesAt (ddr a) 512 = b → s.consentOk n b →
      ∃ t, exec (.consentSubmit m n) s = .next t ∧
        (s.verifies (if n.val = 0 then 3 else 5) n (slice b 0 256) (slice b 256 256) = true →
          t.rd F.CONSENT_STATE_active n = 1 ∧ t.rd F.CONSENT_STATE_scopes n = leAt b 6 2 ∧
          Tab.get 0 t.sec.notAfter n = leAt b 0x28 8 ∧ t.rd F.SEC_STATUS_result n = 1 ∧ t.rd F.SEC_STATUS_reason n = 0) ∧
        (s.verifies (if n.val = 0 then 3 else 5) n (slice b 0 256) (slice b 256 256) = false →
          t.sec = s.sec ∧ t.rd F.CONSENT_STATE_active n = s.rd F.CONSENT_STATE_active n ∧ t.rd F.CONSENT_NONCE_nonce n = s.rd F.CONSENT_NONCE_nonce n ∧
          t.rd F.SEC_STATUS_result n = 3 ∧ t.rd F.SEC_STATUS_reason n = 5)) ∧
    (s.isOperator m = false → exec (.consentSubmit m n) s = .next ((s.wr F.SEC_STATUS_result 3 n).wr F.SEC_STATUS_reason 1 n)) ∧
    (∃ t, exec (.consentRevoke m n) s = .next t ∧ t.rd F.CONSENT_STATE_active n = 0 ∧ t.rd F.CONSENT_STATE_scopes n = 0 ∧
      t.rd F.CONSENT_STATE_not_after n = 0 ∧ Tab.get 0 t.sec.notAfter n = 0 ∧ t.rd F.SEC_STATUS_result n = 1 ∧ t.rd F.SEC_STATUS_reason n = 0 ∧
      (s.rd F.CONSENT_STATE_active n ≠ 0 → t.haltedUnits n = false))) ∧
  (∀ (m : Master) (n : PartId) (k : BitVec 16) (s : State), s.isTenant n m = true → s.rd F.SEC_STATUS_busy n ≠ 0 →
    ∀ c ∈ [Instr.attest m n, .keyImport m n, .keyDelete m n k, .consentSubmit m n, .consentRevoke m n], exec c s = .next (s.wr F.SEC_STATUS_result 4 n)) ∧
  (∀ (n : PartId) (s : State), s.rd F.CONSENT_STATE_active n ≠ 0 → ∃ t, exec (.consentExpiry n) s = .next t ∧
    t.rd F.CONSENT_STATE_active n = 0 ∧ t.rd F.CONSENT_STATE_scopes n = 0 ∧ t.rd F.CONSENT_STATE_not_after n = 0 ∧ t.haltedUnits n = false ∧
    (s.ptp.slew = 0 → t.modTime = max s.modTime (Tab.get 0 s.sec.notAfter n)))

/-- R32 and R450: everything that boots the module from step 1. -/
def Obligations.ModuleResets : Prop :=
  (∀ s : State, ∃ t, exec .moduleReset s = .next t ∧ ResetOf s t s.clk ∧ t.power.off = s.power.off) ∧
  (∀ (mv : Nat) (s : State), s.power.held = true →
    ∃ t, exec (.vinMate mv) s = .next t ∧ t.rd F.PWR_INPUT_volts = mv / 10 % 2 ^ F.PWR_INPUT_volts.width ∧ t.clk = s.clk + 300000000 ∧
      Unchanged { Parts.pass with b_power := true } s t) ∧
  (∀ s : State, s.power.held = true → 4400 ≤ s.rd F.PWR_INPUT_volts → s.rd F.PWR_INPUT_volts ≤ 6000 →
    ∃ t, exec .powerOnResetRelease s = .next t ∧ t.power.held = false ∧ t.power.off = false ∧ t.clk = s.clk + 100000000 ∧
      t.resetAt = t.clk ∧ t.modTime = 0 ∧ t.struct = {} ∧ t.mem = [] ∧ t.sdio = {} ∧ t.mgmt = {}) ∧
  (∀ (r : Req) (s : State), s.admits r { sdio := true } →
    (s.powerOnOk = true → ∃ t, exec (.powerOn r) s = .next t ∧ ResetOf s t s.clk ∧ t.power.off = false) ∧
    (s.powerOnOk = false → ∃ t, exec (.powerOn r) s = .next t ∧ t = (s.taken r).reply r 0x10 stInvalid 0 []) ∧
    (s.mgmtWriting r = false → ∃ t, exec (.reset r) s = .next t ∧ ResetOf s t s.clk ∧ t.power.off = s.power.off) ∧
    (s.mgmtWriting r = true → exec (.reset r) s = .next ((s.taken r).reply r 0x12 stBusy 0 []))) ∧
  (∀ s : State, s.rd F.FW_BOOT_stage = 5 →
    ∃ t, exec .trialExpiry s = .next t ∧ t.clk = max s.clk s.fw.trialEnd ∧ t.resetAt = t.clk ∧ t.modTime = 0 ∧ t.struct = {} ∧ t.mem = [] ∧
      t.sdio = {} ∧ t.mgmt = {}) ∧
  (∀ s : State, s.power.off = true → s.power.cause = 5 →
    ∃ t, exec .supplyRestored s = .next t ∧ t.power.off = false ∧ t.clk = s.clk + 100000000 ∧ t.resetAt = t.clk ∧ t.modTime = 0 ∧ t.struct = {} ∧
      t.mem = [] ∧ t.sdio = {} ∧ t.mgmt = {}) ∧
  (∀ s : State, ∃ t, exec .alwaysOnSupplyFail s = .next t ∧ t.mem = [] ∧ t.struct = {} ∧ t.power = {} ∧ t.faults = {} ∧ t.clk = 0 ∧
    (s.fw.write = none → t.bbs = s.bbs) ∧ t.fw.slotA = s.fw.slotA ∧ t.fw.slotB = s.fw.slotB ∧ t.fw.mgmt = s.fw.mgmt ∧ t.sec.keys = s.sec.keys ∧
    (∀ f i j, f.reg ≠ .SEC_STATE → t.rd f i j = f.reset i))

/-- R454, R459, R462: the ops without a write. -/
def Obligations.FirmwareSlots : Prop :=
  (∀ (k : Fin 2) (s : State), s.fwBusy = false →
    (s.slotState k = 2 → ∃ t, exec (.arm .mgc k) s = .next t ∧ t.slotState k = 3 ∧
      t.slotState (1 - k.val) = (if s.slotState (1 - k.val) = 3 then 2 else s.slotState (1 - k.val)) ∧
      t.rd F.FW_STATUS_result = 1 ∧ t.rd F.FW_STATUS_reason = 0) ∧
    (s.slotState k ≠ 2 → exec (.arm .mgc k) s = .next (s.fwResult 3 3)) ∧
    (s.slotState k = 3 → ∃ t, exec (.disarm .mgc k) s = .next t ∧ t.slotState k = 2 ∧ t.slotState (1 - k.val) = s.slotState (1 - k.val) ∧
      t.rd F.FW_STATUS_result = 1 ∧ t.rd F.FW_STATUS_reason = 0) ∧
    (s.slotState k ≠ 3 → exec (.disarm .mgc k) s = .next (s.fwResult 3 3))) ∧
  (∀ (m : Master) (s : State), s.isOperator m = true → s.fwBusy = false →
    (s.rd F.FW_BOOT_stage = 5 → s.runningSlot < 2 → ∃ t, exec (.confirm m) s = .next t ∧ t.slotState s.runningSlot = 5 ∧
      t.slotState (1 - s.runningSlot) = (if s.slotState (1 - s.runningSlot) = 5 then 2 else s.slotState (1 - s.runningSlot)) ∧
      t.rd F.FW_BOOT_stage = 4 ∧ t.fw.trialEnd = 0 ∧ t.rd F.FW_STATUS_result = 1) ∧
    (s.rd F.FW_BOOT_stage ≠ 5 → exec (.confirm m) s = .next (s.fwResult 3 3))) ∧
  (∀ s : State, s.fwBusy = false →
    (∃ t, exec (.commitMgmt .mgc) s = .next t ∧ t.rd F.FW_STATUS_result = 1 ∧ ∀ v, s.rd F.FW_VERSIONS_mgmt = v → v < 2 ^ 32 →
      t.bbsRd 0x20 4 = max (s.bbsRd 0x20 4) v ∧ (∀ j, j ≠ 0 → j < 4 → t.bbsRd (0x20 + 4 * j) 4 = s.bbsRd (0x20 + 4 * j) 4) ∧
      (s.bbsRd 0x20 4 < v → t.fw.mirror = some ((s.fw.mirror.getD [0, 0, 0, 0]).set 0 v))) ∧
    (s.rd F.FW_BOOT_stage = 4 → ∃ t, exec (.commitRuntime .mgc) s = .next t ∧ t.rd F.FW_STATUS_result = 1 ∧ ∀ v, s.rd F.FW_VERSIONS_runtime = v → v < 2 ^ 32 →
      t.bbsRd 0x24 4 = max (s.bbsRd 0x24 4) v ∧ (∀ j, j ≠ 1 → j < 4 → t.bbsRd (0x20 + 4 * j) 4 = s.bbsRd (0x20 + 4 * j) 4) ∧
      (s.bbsRd 0x24 4 < v → t.fw.mirror = some ((s.fw.mirror.getD [0, 0, 0, 0]).set 1 v))) ∧
    (s.rd F.FW_BOOT_stage = 5 → exec (.commitRuntime .mgc) s = .next (s.fwResult 4 0)) ∧
    (s.rd F.FW_BOOT_stage ≠ 4 → s.rd F.FW_BOOT_stage ≠ 5 → exec (.commitRuntime .mgc) s = .next (s.fwResult 3 3))) ∧
  (∀ (k : Fin 2) (s : State), s.fwBusy = true → ∀ c ∈ [Instr.arm .mgc k, .disarm .mgc k, .confirm .mgc, .commitMgmt .mgc, .commitRuntime .mgc],
    exec c s = .next (s.fwResult 4 0)) ∧
  (∀ (r : Req) (w : W64) (c : Instr) (s u v : State), s.taken r = u → s.admits r { locked := true } → 3 ≤ bits w.toNat 3 0 → bits w.toNat 3 0 ≤ 7 →
    (u.fwBusy = false → CommandOf .mgc .FW_CMD 0 0 w c → exec c u = .next v →
      exec (.fwCtrl r w) s = .next (v.reply r 0x41 (if v.rd F.FW_STATUS_result = 1 then 0 else 0x33)
        (if v.rd F.FW_STATUS_result = 1 then 0 else v.rd F.FW_STATUS_reason) [])) ∧
    (u.fwBusy = true → exec (.fwCtrl r w) s = .next (u.reply r 0x41 0x32 0 []))) ∧
  (∀ (r : Req) (record : List Byte) (s u : State), s.taken r = u → s.admits r {} → record.length = 32 →
    (∀ k, 16 ≤ k → k < 32 → record.getD k 0#8 = 0#8) →
    ∃ v : State, exec (.setNetwork r record) s = .next (v.reply r 0x50 0 0 []) ∧ (∀ k, k < 32 → v.bbsGet (0xA0 + k) = record.getD k 0#8) ∧
      ∀ a, 0x10 ≤ a → (a < 0xA0 ∨ 0xC0 ≤ a) → v.bbsGet a = u.bbsGet a)

/-- R462, R460, R549, R554: writes to the flashes. -/
def Obligations.FirmwareWrites : Prop :=
  (∀ (c : Instr) (target a len : Nat) (s : State),
    (c = .writeMgmt .mgc ∧ target = 0 ∨ ∃ k : Fin 2, c = .writeSlot .mgc k ∧ target = k.val + 1) →
    s.fwBusy = false → s.rd F.FW_SRC_ADDR_addr * 4096 = a → s.rd F.FW_SRC_LEN_len = len →
    (s.ddrOwned 0 a len = false → exec c s = .next (s.fwResult 3 1)) ∧
    (s.ddrOwned 0 a len = true →
      (len = 0 ∨ (if target = 0 then 16777216 else 1610612736) < len → exec c s = .next (s.fwResult 3 2)) ∧
      (0 < len → len ≤ (if target = 0 then 16777216 else 1610612736) →
        (target ≠ 0 → s.slotState (target - 1) = 5 ∨ s.slotState (target - 1) = 4 ∨ s.slotRuns (target - 1) = true → exec c s = .next (s.fwResult 3 3)) ∧
        ((target = 0 ∨ s.slotState (target - 1) ≠ 5 ∧ s.slotState (target - 1) ≠ 4 ∧ s.slotRuns (target - 1) = false) →
          (∀ u, s.badUnit a len = some u → exec c s = .next ((s.meetUnit (max a (u * 256))).fwResult 3 4)) ∧
          (s.badUnit a len = none → ∃ t, exec c s = .next t ∧
            t.fw.write = some { target := target, origin := 0, bytes := s.bytesAt (ddr a) len, len := len } ∧
            t.rd F.FW_STATUS_busy = 1 ∧ t.rd F.FW_STATUS_progress = 0 ∧ t.rd F.FW_STATUS_result = 0 ∧
            (target ≠ 0 → t.slotState (target - 1) = 1)))))) ∧
  (∀ (ok : Bool) (w : FlashWrite) (s : State), s.fw.write = some w → w.target < 3 → (w.origin = 0 ∨ w.origin = 1 ∧ w.bytes.length = w.len) →
    ∃ t, exec (.flashWriteDone ok) s = .next t ∧ t.fw.write = none ∧ t.rd F.FW_STATUS_busy = 0 ∧
      t.rd F.FW_STATUS_result = (if ok then 1 else 3) ∧ t.rd F.FW_STATUS_reason = (if ok then 0 else 5) ∧
      (ok = true → t.rd F.FW_STATUS_progress = 100) ∧
      (w.target = 0 → t.fw.mgmtBad = !ok ∧ t.fw.mgmt = (if ok then w.bytes else s.fw.mgmt)) ∧
      (w.target = 1 → t.slotState 0 = (if ok then 2 else 6) ∧ t.slotState 1 = s.slotState 1 ∧ t.fw.slotA = (if ok then w.bytes else s.fw.slotA)) ∧
      (w.target = 2 → t.slotState 1 = (if ok then 2 else 6) ∧ t.slotState 0 = s.slotState 0 ∧ t.fw.slotB = (if ok then w.bytes else s.fw.slotB))) ∧
  (∀ (r : Req) (target : Fin 3) (off : Nat) (final : Bool) (data : List Byte) (s u : State), s.taken r = u → s.admits r { locked := true } →
    (u.fw.write = none → u.rd F.FW_STATUS_busy = 0 → off = 0 → u.writeReason target.val (max 1 data.length) = 0 → 0 < data.length →
      ∃ v : State, exec (.fwWrite r target off final data) s = .next (v.reply r 0x40 0 0 []) ∧
        v.fw.write = some { target := target.val, origin := 1, bytes := data, len := if final then data.length else data.length + 1 }) ∧
    (∀ w, u.fw.write = some w → w.origin = 1 → w.len ≠ w.bytes.length → w.target = target.val →
      (off = w.bytes.length → 0 < data.length → w.bytes.length + data.length ≤ (if w.target = 0 then 16777216 else 1610612736) →
        ∃ v : State, exec (.fwWrite r target off final data) s = .next (v.reply r 0x40 0 0 []) ∧
          v.fw.write = some { w with bytes := w.bytes ++ data, len := if final then w.bytes.length + data.length else w.bytes.length + data.length + 1 }) ∧
      (off ≠ w.bytes.length → exec (.fwWrite r target off final data) s = .next ((u.writeFails w.target).reply r 0x40 0x33 0 [])))) ∧
  (∀ (len : W32) (s : State),
    (s.rd F.FW_BOOT_stage = 6 → s.fwBusy = false → 0 < len.toNat → len.toNat ≤ 1610612736 → ∀ k, (if s.slotState 0 = 5 then 1 else 0) = k →
      ∃ t, exec (.recoveryStart len) s = .next t ∧ t.fw.write = some { target := k + 1, origin := 2, len := len.toNat } ∧ t.slotState k = 1 ∧
        t.sdio.recvState = 1 ∧ t.sdio.received = 0 ∧ t.sdio.length = len.toNat) ∧
    (s.rd F.FW_BOOT_stage ≠ 6 ∨ s.fwBusy = true → ∃ t, exec (.recoveryStart len) s = .next t ∧ t.fw = s.fw ∧ t.bbs = s.bbs ∧ t.sdio.recvState = 4 ∧ t.sdio.recvReason = 3) ∧
    (s.rd F.FW_BOOT_stage = 6 → s.fwBusy = false → len.toNat = 0 ∨ 1610612736 < len.toNat →
      ∃ t, exec (.recoveryStart len) s = .next t ∧ t.fw = s.fw ∧ t.bbs = s.bbs ∧ t.sdio.recvState = 4 ∧ t.sdio.recvReason = 2)) ∧
  (∀ (block b : List Byte) (w : FlashWrite) (k : Nat) (s : State), s.fw.write = some w → w.origin = 2 → w.target = k + 1 → k < 2 → (w.bytes ++ block).take w.len = b →
    (b.length < w.len → ∃ t, exec (.recoveryData block) s = .next t ∧ t.fw.write = some { w with bytes := b } ∧ t.sdio.received = b.length) ∧
    (b.length = w.len → ∃ t, exec (.recoveryData block) s = .next t ∧ t.fw.write = none ∧ t.slotBytes k = b ∧ t.slotState k = 3 ∧
      t.slotState (1 - k) = (if s.slotState (1 - k) = 3 then 2 else s.slotState (1 - k)) ∧ t.sdio.received = w.len ∧ t.sdio.recvState = 3)) ∧
  (∀ (w : FlashWrite) (k : Nat) (s : State), s.fw.write = some w → w.origin = 2 → w.target = k + 1 → k < 2 →
    ∃ t, exec .recoveryAbort s = .next t ∧ t.fw.write = none ∧ t.slotState k = 6 ∧ t.sdio.recvState = 0)

/-- R345, R453 to R455, R596: the steps of Table 18.4 that end later. -/
def Obligations.BootEvents : Prop :=
  (∀ (passed : BitVec 8) (m : Nat) (s u : State), s.rd F.FW_BOOT_stage = 2 → (if s.fw.cold then passed.toNat else s.rd F.DDR4_STATE_trained) = m →
    ((({ s with fw := { s.fw with cold := false } } : State).wr F.DDR4_STATE_trained m).wr F.DDR4_STATE_mode 1) = u →
    (m ≠ 255 → m < 256 → ∃ t, exec (.ddr4TrainingDone passed) s = .next t ∧ t.rd F.DDR4_STATE_trained = m ∧ t.rd F.DDR4_STATE_mode = 3 ∧ t.rd F.FW_BOOT_stage = 7 ∧ t.fw.cold = false) ∧
    (m = 255 → (∀ k, k < 2 → s.slotState k ≠ 1 ∧ s.slotState k ≠ 4) →
      (∀ k, k < 2 → s.slotState k = 3 → (∀ j, j < k → s.slotState j ≠ 3) → u.slotCheck k = none →
        ∃ t, exec (.ddr4TrainingDone passed) s = .next t ∧ t.rd F.FW_BOOT_stage = 3 ∧ t.fw.chosen = some k ∧ t.fw.trial = true ∧
          t.fw.limited = !(qualified s.fw.mgmt (fwVersion (s.slotBytes k)) (s.rd F.FW_CAP_stepping) && qualified (s.slotBytes k) (s.rd F.FW_VERSIONS_mgmt) (s.rd F.FW_CAP_stepping)) ∧
          t.rd F.DDR4_STATE_trained = 255 ∧ t.rd F.DDR4_STATE_mode = 1) ∧
      (∀ k c, k < 2 → s.slotState k = 3 → (∀ j, j < k → s.slotState j ≠ 3) → u.slotCheck k = some c →
        exec (.ddr4TrainingDone passed) s = .next ((u.failSlot k c).setB F.FW_BOOT_fallback).chooseActive) ∧
      (∀ k, k < 2 → (∀ j, j < 2 → s.slotState j ≠ 3) → s.slotState k = 5 → (∀ j, j < k → s.slotState j ≠ 5) → u.slotCheck k = none →
        ∃ t, exec (.ddr4TrainingDone passed) s = .next t ∧ t.rd F.FW_BOOT_stage = 3 ∧ t.fw.chosen = some k ∧ t.fw.trial = false ∧ t.rd F.DDR4_STATE_trained = 255) ∧
      ((∀ k, k < 2 → s.slotState k ≠ 3 ∧ s.slotState k ≠ 5 ∧ s.slotState k ≠ 2) →
        ∃ t, exec (.ddr4TrainingDone passed) s = .next t ∧ t.rd F.FW_BOOT_stage = 6 ∧ t.rd F.DDR4_STATE_trained = 255 ∧ t.rd F.DDR4_STATE_mode = 1))) ∧
  (∀ (k : Nat) (s : State), s.rd F.FW_BOOT_stage = 3 → s.fw.chosen = some k → k < 2 →
    (∃ t, exec (.runtimeCopyDone true) s = .next t ∧ t.rd F.FW_BOOT_stage = (if s.fw.trial then 5 else 4) ∧ t.rd F.SC_STATE_state 0 = 1 ∧
      t.rd F.FW_VERSIONS_runtime = fwVersion (s.slotBytes k) % 2 ^ 32 ∧ t.fw.chosen = none ∧
      t.fw.trialEnd = (if s.fw.trial then s.resetAt + 600000000000 else 0) ∧ t.sec.runtimeDigest = sha ((s.slotBytes k).take (leAt (s.slotBytes k) 0xC 4)) ∧
      (Tab.get {} t.cores 0).pc = (((components (s.slotBytes k)).find? (fun c => c.kind = 1)).map (fun c => leAt (c.bytes (s.slotBytes k)) 24 8)).getD 0 ∧
      (s.fw.limited = true → t.rd F.FW_BOOT_limited = 1 ∧ t.rd F.FW_BOOT_limited_seen = 1 ∧ t.struct.limited = true) ∧
      (s.fw.limited = false → fwLayout (s.slotBytes k) = 0 → t.runningSlot = k ∧ t.slotState k = (if s.fw.trial then 4 else 5) ∧ t.slotState (1 - k) = s.slotState (1 - k))) ∧
    (∀ u : State, ({ s with fw := { s.fw with chosen := none } } : State).failSlot k 6 = u →
      exec (.runtimeCopyDone false) s = .next (if s.fw.trial then u.setB F.FW_BOOT_fallback else u).chooseActive)) ∧
  (∀ s : State, exec .bootScrubDone s = .next { s with struct := { s.struct with bootScrubbed := true } }) ∧
  (∀ (n : PartId) (s : State), (s.part n.val).present = true → s.pstate n.val = 0 → s.struct.scrubbing.contains n.val = false →
    (s.heldBack = false → ∃ t, exec (.partitionBecomesEmpty n) s = .next t ∧ t.pstate n.val = 1 ∧ ∀ m : PartId, m ≠ n → t.pstate m.val = s.pstate m.val) ∧
    (s.heldBack = true → exec (.partitionBecomesEmpty n) s = .next s)) ∧
  (∀ (n : PartId) (s : State), ((s.part n.val).present = false ∨ s.pstate n.val ≠ 0 ∨ s.struct.scrubbing.contains n.val = true) → exec (.partitionBecomesEmpty n) s = .next s)

/-- R470 as state changes, command by command; the refusal of a reserved source is assumption 10. -/
def Obligations.FaultCommands : Prop :=
  ∀ (m : Master) (i : SourceId) (s : State), s.isOperator m = true →
    (i.val < 106 → exec (.faultAck m i) s =
      .next (((s.wr F.FAULT_SRC_STATUS_pending 0 i).wr F.FAULT_CMD_STATUS_result 1).wr F.FAULT_CMD_STATUS_reason 0)) ∧
    (∃ t, exec (.ackAll m) s = .next t ∧ (∀ k, k < 106 → t.rd F.FAULT_SRC_STATUS_pending k = 0) ∧ t.rd F.FAULT_CMD_STATUS_result = 1 ∧
      ∀ (f : Fld) (k j : Nat), f.reg ≠ .FAULT_CMD_STATUS → (f.reg ≠ .FAULT_SRC_STATUS ∨ f.lo ≠ 7) → t.rd f k j = s.rd f k j) ∧
    (i.val < 106 → s.rd F.FAULT_SRC_STATUS_pending i = 0 → s.rd F.FAULT_SRC_STATUS_cause_active i = 0 →
      ∃ t, exec (.faultClear m i) s = .next t ∧ t.rd F.FAULT_SRC_STATUS_level i = 0 ∧ t.rd F.FAULT_SRC_STATUS_window_count i = 0 ∧
        t.rd F.FAULT_SRC_STATUS_events i = 0 ∧ Tab.get 0 t.faults.windows i = 0 ∧ t.rd F.FAULT_CMD_STATUS_result = 1 ∧
        t.rd F.FAULT_CMD_STATUS_reason = 0 ∧ t.rd F.FAULT_SUMMARY_clear_refused = s.rd F.FAULT_SUMMARY_clear_refused ∧
        ∀ (k : Nat) (f : Fld), k ≠ i.val → f.reg = .FAULT_SRC_STATUS → t.rd f k = s.rd f k) ∧
    (i.val < 106 → s.rd F.FAULT_SRC_STATUS_pending i ≠ 0 ∨ s.rd F.FAULT_SRC_STATUS_cause_active i ≠ 0 →
      ∃ t, exec (.faultClear m i) s = .next t ∧ t.rd F.FAULT_CMD_STATUS_result = 3 ∧
        t.rd F.FAULT_CMD_STATUS_reason = (if s.rd F.FAULT_SRC_STATUS_pending i ≠ 0 then 2 else 1) ∧
        t.rd F.FAULT_SUMMARY_clear_refused = min (s.rd F.FAULT_SUMMARY_clear_refused + 1) 65535 ∧ t.faults = s.faults ∧
        ∀ (k : Nat) (f : Fld), f.reg = .FAULT_SRC_STATUS → t.rd f k = s.rd f k) ∧
    (106 ≤ i.val → exec (.faultClear m i) s = .next ((s.wr F.FAULT_CMD_STATUS_result 3).wr F.FAULT_CMD_STATUS_reason 3) ∧
      exec (.faultAck m i) s = .next ((s.wr F.FAULT_CMD_STATUS_result 3).wr F.FAULT_CMD_STATUS_reason 3))

/-- R478 with the status update of R467 step 4. The clock moves to an event's due time (assumption 2). -/
def Obligations.FaultInjection : Prop :=
  (∀ (m : Master) (v : W64) (s : State), s.isOperator m = true →
    (s.rd F.SEC_STATE_lifecycle ≠ 0 → exec (.faultInject m v) s = .next s) ∧
    (s.rd F.SEC_STATE_lifecycle = 0 →
      ∃ t, exec (.faultInject m v) s = .next t ∧
        t.rd F.FAULT_INJECT_source = bits v.toNat 55 48 ∧ t.rd F.FAULT_INJECT_count = bits v.toNat 44 29 ∧
        t.rd F.FAULT_INJECT_detail = bits v.toNat 12 0 ∧
        t.faults.inject = s.faults.inject ++
          (if v.toNat.testBit 63 = true ∧ bits v.toNat 55 48 < 106 ∧ 1 ≤ bits v.toNat 47 45 ∧ bits v.toNat 47 45 ≤ 5 ∧ bits v.toNat 44 29 ≠ 0 then
            [⟨bits v.toNat 55 48, bits v.toNat 47 45, bits v.toNat 12 0, bits v.toNat 44 29, s.clk⟩] else []))) ∧
  (∀ (s : State) (j : Injection) (rest : List Injection) (l : Nat), s.faults.inject = j :: rest → j.due ≤ s.clk →
    (s.eventLevel j.source j.level).2 = l → l < 5 →
    ∃ t, exec .injectedEvent s = .next t ∧ t.rd F.FAULT_SRC_STATUS_level j.source = max (s.level j.source) l % 8 ∧
      t.rd F.FAULT_SRC_STATUS_events j.source = min (s.rd F.FAULT_SRC_STATUS_events j.source + 1) 65535 ∧
      t.rd F.FAULT_SRC_STATUS_injected j.source = 1 ∧
      (3 ≤ l → t.rd F.FAULT_SRC_STATUS_detail j.source = j.detail % 8192 ∧ t.rd F.FAULT_SRC_STATUS_pending j.source = 1) ∧
      (4 ≤ l → t.rd F.FAULT_CTRL_fault_n_low = 1 ∧ t.faults.pin = false) ∧
      t.faults.inject = (if 1 < j.left then rest ++ [{ j with left := j.left - 1, due := j.due + 1000 }] else rest))

/-- R469: the end of the pulse; R477: the log is cleared by firmware only. -/
def Obligations.FaultPinAndAmberClear : Prop :=
  (∀ s : State, s.rd F.FAULT_CTRL_pulse ≠ 0 →
    ∃ t, exec .faultNPulseEnd s = .next t ∧ t.rd F.FAULT_CTRL_pulse = 0 ∧ t.rd F.FAULT_CTRL_fault_n_low = s.rd F.FAULT_CTRL_fault_n_low ∧
      (t.faults.pin = true ↔ (s.rd F.FAULT_CTRL_fault_n_low = 0 ∧ s.fw.halt = 0)) ∧ t.clk = max s.clk s.faults.pulseEnd ∧
      Unchanged { Parts.pass with faults := true, b_fault := true } s t) ∧
  (∀ (m : Master) (v : W64) (s : State), s.isOperator m = true →
    ∃ t, exec (.amberLogClear m v) s = .next t ∧ t.rd F.AMBER_IDX_index = bits v.toNat 7 0 ∧
      (v.toNat.testBit 63 = true → (∀ i, i < 256 → t.amberSlot i = 0) ∧ t.rd F.AMBER_STATE_lost = 0 ∧
        ∀ a, a < 0x800 ∨ 0x1000 ≤ a → t.bbsGet a = s.bbsGet a) ∧
      (v.toNat.testBit 63 = false → t.bbs = s.bbs ∧ t.rd F.AMBER_STATE_lost = s.rd F.AMBER_STATE_lost) ∧
      Unchanged { bbs := true, b_amber := true } s t)

/-- R548, R551 to R553, R597: the order of judgement, and the first group of commands. -/
def Obligations.ManagementStatusAndPower : Prop :=
  (∀ (c : Instr) (r : Req) (op : Nat) (g : Gate) (s : State), mgmtOp c = some (r, op, g) →
    (s.before r = false → exec c s = .next s) ∧
    (s.before r = true → s.permits r g = false → exec c s = .next ((s.taken r).reply r op 0x30 0 [])) ∧
    (s.before r = true → s.permits r g = true → r.malformed = true → exec c s = .next ((s.taken r).reply r op 0x33 0 []))) ∧
  (∀ (r : Req) (s u : State), s.taken r = u →
    (s.admits r { sdio := true, locked := true } → exec (.status r) s = .next (u.reply r 0x01 0 0
      ([RegId.FAULT_SUMMARY, .FW_BOOT, .FW_VERSIONS, .PWR_LIMIT, .PWR_INPUT, .REDUN_STATE].flatMap (fun k => leBytes 8 (u.readReg .mgc k 0 0))))) ∧
    (∀ first : Byte, s.admits r { sdio := true, locked := true } → exec (.amberRead r first) s = .next (u.reply r 0x02 0 0
      (leBytes 8 (u.readReg .mgc .AMBER_STATE 0 0) ++ (List.range 32).flatMap (fun k =>
        leBytes 8 (if first.toNat + k < 256 then u.amberSlot (first.toNat + k) else 0))))) ∧
    (s.admits r { sdio := true } → ∃ v : State, exec (.amberClear r) s = .next (v.reply r 0x03 0 0 []) ∧
      (∀ i, i < 256 → v.amberSlot i = 0) ∧ v.rd F.AMBER_STATE_lost = 0 ∧ (∀ a, a < 0x800 ∨ 0x1000 ≤ a → v.bbsGet a = u.bbsGet a)) ∧
    (∀ (w : W64) (c : Instr) (v : State), s.admits r {} → CommandOf .mgc .FAULT_CMD 0 0 w c → exec c u = .next v →
      exec (.fault r w) s = .next (v.reply r 0x04 (if v.rd F.FAULT_CMD_STATUS_result = 1 then 0 else 0x33)
        (if v.rd F.FAULT_CMD_STATUS_result = 1 then 0 else v.rd F.FAULT_CMD_STATUS_reason) [])) ∧
    (s.admits r { sdio := true } →
      (s.power.rails = true → s.mgmtWriting r = false → ∃ v : State, exec (.powerOff r) s = .next (v.reply r 0x11 0 0 []) ∧
        v.power.off = true ∧ v.power.rails = false ∧ v.power.cause = 7 ∧ v.rd F.PWR_LIMIT_last_off = 7 ∧ v.rd F.FW_BOOT_stage = 1 ∧
        v.rd F.FW_VERSIONS_mgmt = s.rd F.FW_VERSIONS_mgmt % 2 ^ F.FW_VERSIONS_mgmt.width ∧ v.struct = {} ∧ v.mem = [] ∧ v.modTime = s.modTime ∧ v.mgmt = u.mgmt) ∧
      (s.mgmtWriting r = true → exec (.powerOff r) s = .next (u.reply r 0x11 0x32 0 []))) ∧
    (∀ w, s.admits r {} → 250 ≤ w → w ≤ 2000 → exec (.setCap r w) s = .next ((u.wr F.PWR_CTRL_mgmt_cap_w w).plan.reply r 0x13 0 0 [])) ∧
    (∀ w, s.admits r {} → ¬ (250 ≤ w ∧ w ≤ 2000) → exec (.setCap r w) s = .next (u.reply r 0x13 0x33 0 [])) ∧
    (∀ v : State, s.admits r {} → exec (.handover .mgc) u = .next v →
      exec (.mgmtHandover r) s = .next (v.reply r 0x14 (if v.rd F.REDUN_STATE_cmd_result = 1 then 0 else 0x33) 0 [])) ∧
    (∀ nonce, s.admits r {} → nonce.length = 64 →
      exec (.mgmtAttest r nonce) s = .next (({ u with fresh := u.fresh + 1 } : State).reply r 0x20 0 0 (u.report 0xFF nonce))))

/-- R423 to R438 over the management network. -/
def Obligations.ManagementKeys : Prop :=
  ∀ (r : Req) (s u : State), s.taken r = u →
    (∀ root : PubKey, s.admits r { claim := true } →
      (u.rd F.SEC_STATE_claimed = 0 → u.sec.keys.length < 64 → ∃ v : State, exec (.claim r root) s = .next (v.reply r 0x21 0 0 []) ∧
        v.rd F.SEC_STATE_claimed = 1 ∧ (∃ e : PubKey, e.role = 2 ∧ e.part = 0 ∧ e.key = root.key ∧ v.sec.keys = u.sec.keys ++ [e]) ∧
        v.mgmt.trusted.contains r.session.val = true) ∧
      (u.rd F.SEC_STATE_claimed ≠ 0 → exec (.claim r root) s = .next (u.reply r 0x21 0x33 0 []))) ∧
    (∀ k : PubKey, s.admits r {} → 1 ≤ k.role → k.role ≤ 5 → k.part < 16 →
      ∃ (v : State) (st : Nat), exec (.keyEnrol r k) s = .next (v.reply r 0x22 st 0 []) ∧
        (u.sec.keys.contains (tableEntry k) = true → v = u ∧ st = 0) ∧
        (u.sec.keys.contains (tableEntry k) = false → 64 ≤ u.sec.keys.length → v = u ∧ st = 0x33) ∧
        (u.sec.keys.contains (tableEntry k) = false → u.sec.keys.length < 64 → v.sec.keys = u.sec.keys ++ [tableEntry k] ∧ st = 0)) ∧
    (∀ (digest : List Byte) (role part : Nat), s.admits r {} → 1 ≤ role → role ≤ 5 → part < 16 →
      ∃ (v : State) (st : Nat), exec (.keyRemove r digest role part) s = .next (v.reply r 0x23 st 0 []) ∧
        v.sec.keys = u.sec.keys.filter (fun k => ¬ (k.role = role ∧ (role < 4 ∨ k.part = part) ∧ digestEq k.digest digest = true)) ∧
        (st = 0 ↔ ∃ k ∈ u.sec.keys, k.role = role ∧ (role < 4 ∨ k.part = part) ∧ digestEq k.digest digest = true)) ∧
    (∀ (slot : Fin 4) (sig : List Byte), s.admits r { locked := true } →
      ∃ v : State, (u.rootSigned slot (leBytes 2 0x24 ++ leBytes 16 u.identity) sig = true →
          exec (.unlock r slot sig) s = .next (v.reply r 0x24 0 0 []) ∧ v.rd F.SEC_STATE_table_locked = 0 ∧ v.sec.keys = u.sec.keys) ∧
        (u.rootSigned slot (leBytes 2 0x24 ++ leBytes 16 u.identity) sig = false → exec (.unlock r slot sig) s = .next (u.reply r 0x24 0x33 5 []))) ∧
    (∀ (target : Fin 3) (slot : Fin 4) (sig : List Byte), s.admits r {} →
      ∃ v : State,
        (u.rootSigned slot (leBytes 2 0x25 ++ leBytes 1 target.val ++ leBytes 16 u.identity) sig = true →
          (u.rd F.SEC_STATE_lifecycle = 0 → target = 1 → exec (.lifecycle r target slot sig) s = .next (v.reply r 0x25 0 0 []) ∧
            v.rd F.SEC_STATE_lifecycle = 1 ∧ v.faults.inject = [] ∧ v.sec = u.sec) ∧
          (u.rd F.SEC_STATE_lifecycle = 1 → target = 2 → u.rd F.SEC_STATE_depot_returns < 7 →
            exec (.lifecycle r target slot sig) s = .next (v.reply r 0x25 0 0 []) ∧ v.rd F.SEC_STATE_lifecycle = 2 ∧
            v.rd F.SEC_STATE_depot_returns = u.rd F.SEC_STATE_depot_returns + 1 ∧ v.sec = u.sec) ∧
          (u.rd F.SEC_STATE_lifecycle = 2 → target = 1 → exec (.lifecycle r target slot sig) s = .next (v.reply r 0x25 0 0 []) ∧
            v.rd F.SEC_STATE_lifecycle = 1 ∧ v.rd F.SEC_STATE_claimed = 0 ∧ v.sec.keys = [] ∧ v.sec.linkKeys = []) ∧
          (u.rd F.SEC_STATE_lifecycle = 1 → target = 2 → 7 ≤ u.rd F.SEC_STATE_depot_returns →
            exec (.lifecycle r target slot sig) s = .next (u.reply r 0x25 0x33 12 []))) ∧
        (u.rootSigned slot (leBytes 2 0x25 ++ leBytes 1 target.val ++ leBytes 16 u.identity) sig = false →
          exec (.lifecycle r target slot sig) s = .next (u.reply r 0x25 0x33 5 []))) ∧
    (∀ blob : List Byte, s.admits r {} → blob.length = 256 → u.importOk (leAt blob 5 1) blob →
      ∃ (v : State) (st re : Nat), exec (.linkKeyImport r blob) s = .next (v.reply r 0x26 st re []) ∧
        match Config.unwrap blob with
        | some secret => LinkKeyImported (leAt blob 5 1) (leAt blob 6 2) (leAt blob 8 2) (leAt blob 0xA 2) secret u.sec.linkKeys v.sec.linkKeys ∧ st = 0
        | none => v = u ∧ st = 0x33 ∧ re = 6) ∧
    (∀ (n : PartId) (k : BitVec 16), s.admits r {} → u.pstate n = 1 ∨ u.pstate n = 2 →
      ((∃ e ∈ u.sec.linkKeys, e.part = n ∧ e.id = k.toNat ∧ e.tomb = false) → exec (.linkKeyDelete r n k) s =
        .next (({ u with sec := { u.sec with linkKeys := u.sec.linkKeys.filter (fun e => ! (e.part = n.val && e.id = k.toNat)) } } : State).reply r 0x27 0 0 [])) ∧
      (¬ (∃ e ∈ u.sec.linkKeys, e.part = n ∧ e.id = k.toNat ∧ e.tomb = false) → exec (.linkKeyDelete r n k) s = .next (u.reply r 0x27 0x33 7 []))) ∧
    (∀ (token : List Byte) (n : PartId), s.admits r {} → token.length = 512 → leAt token 5 1 = n → u.consentOk n token →
      (u.verifies (if n.val = 0 then 3 else 5) n (slice token 0 256) (slice token 256 256) = true →
        ∃ v : State, exec (.mgmtConsentSubmit r token) s = .next (v.reply r 0x28 0 0 []) ∧ v.rd F.CONSENT_STATE_active n = 1 ∧
          v.rd F.CONSENT_STATE_scopes n = leAt token 6 2 ∧ Tab.get 0 v.sec.notAfter n = leAt token 0x28 8) ∧
      (u.verifies (if n.val = 0 then 3 else 5) n (slice token 0 256) (slice token 256 256) = false →
        exec (.mgmtConsentSubmit r token) s = .next (u.reply r 0x28 0x33 5 []))) ∧
    (∀ n : PartId, s.admits r {} → ∃ v : State, exec (.mgmtConsentRevoke r n) s = .next (v.reply r 0x29 0 0 []) ∧
      v.rd F.CONSENT_STATE_active n = 0 ∧ v.rd F.CONSENT_STATE_scopes n = 0 ∧ v.rd F.CONSENT_STATE_not_after n = 0 ∧ Tab.get 0 v.sec.notAfter n = 0)

/-- R561 to R564, command by command. -/
def Obligations.CounterCommands : Prop :=
  (∀ (m : Master) (n : PartId) (v : W64) (s : State), s.isTenant n m = true →
    (∃ t, exec (.freeze m n v) s = .next t ∧ t.rd F.PERF_CTRL_freeze n = bits v.toNat 0 0 ∧
      (∀ j, j < 8 → t.rd (F.PERF_CTRL_ovf j) n = if v.toNat.testBit (8 + j) then 0 else s.rd (F.PERF_CTRL_ovf j) n % 2) ∧
      ∃ R, t = { s with regs := R }) ∧
    ∀ j : Fin 8, ∃ t, exec (.perfCntWrite m n j v) s = .next t ∧
      t.rd F.PERF_CNT_count n j = (if n.val ≠ 0 ∧ s.scope n 2 = false ∧ s.isOperator m = false then v.toNat % 2 ^ 48 / 1024 * 1024 else v.toNat % 2 ^ 48) ∧
      ∃ R, t = { s with regs := R }) ∧
  (∀ s : State, ∃ t, exec .coarseUpdate s = .next t ∧
    (∀ n, n < 16 → (Tab.get {} t.perf n).cycles = t.rd F.PERF_CYCLE_cycles n ∧
      ∀ j, j < 8 → (Tab.get {} t.perf n).counts[j]? = some (t.rd F.PERF_CNT_count n j)) ∧
    (s.ptp.slew = 0 → t.modTime = (s.modTime / 100000 + 1) * 100000)) ∧
  (∀ (m : Master) (v : W64) (s : State), s.isOperator m = true →
    ∃ t, exec (.snap m v) s = .next t ∧ t.opc = s.opc ∧ t.opcShadow = (if v.toNat.testBit 63 then s.opc else s.opcShadow) ∧
      t.rd F.OPC_IDX_index = bits v.toNat 9 0 ∧ t.rd F.OPC_IDX_shadow = bits v.toNat 10 10) ∧
  (∀ (tx rx : List Nat) (s : State), ∃ t, exec (.bwWindow tx rx) s = .next t ∧
    (∀ q, q < 46 → t.rd F.BW_TX_bytes q = tx.getD q 0 % 2 ^ F.BW_TX_bytes.width ∧ t.rd F.BW_RX_bytes q = rx.getD q 0 % 2 ^ F.BW_RX_bytes.width ∧
      t.rd F.BW_PEAK_peak q = max (s.rd F.BW_PEAK_peak q) (max (tx.getD q 0) (rx.getD q 0)) % 2 ^ 63) ∧
    t.rd F.BW_CTRL_seq = (s.rd F.BW_CTRL_seq + 1) % 2 ^ 32 ∧ t.bwStart = s.bwStart + s.rd F.BW_CTRL_window_us * 1000) ∧
  (∀ (m : Master) (v : W64) (s : State), s.isOperator m = true →
    ((1 ≤ v.toNat % 2 ^ 20 ∧ v.toNat % 2 ^ 20 ≤ 1000000) → ∃ t, exec (.bwWindowWrite m v) s = .next t ∧
      t.rd F.BW_CTRL_window_us = v.toNat % 2 ^ 20 ∧ t.rd F.BW_CTRL_seq = s.rd F.BW_CTRL_seq ∧ s.clk < t.bwStart ∧ t.bwStart ≤ s.clk + 10 ∧ t.bwStart % 10 = 0) ∧
    (¬ (1 ≤ v.toNat % 2 ^ 20 ∧ v.toNat % 2 ^ 20 ≤ 1000000) → exec (.bwWindowWrite m v) s = .next s) ∧
    ∀ q : BwId, (v.toNat.testBit 63 = true → exec (.peakClear m q v) s = .next (s.wr F.BW_PEAK_peak 0 q)) ∧
      (v.toNat.testBit 63 = false → exec (.peakClear m q v) s = .next s))

/-- R565 to R567: the TAP instructions and the DMI. A sample of pins and the idle hint are free values. -/
def Obligations.DebugPortInstructions : Prop :=
  (∀ s : State, exec .idcode s = .next { s with dbg := { s.dbg with ir := 1 }, lastRead := 0xA384E1B + s.rd F.FW_CAP_stepping % 16 * 2 ^ 28 }) ∧
  (∀ (b : Bool) (s : State), exec (.bypass b) s = .next { s with dbg := { s.dbg with ir := 31, byp := b }, lastRead := 0 }) ∧
  (∀ (v : List Bool) (s : State),
    (∃ x, exec (.samplePreload v) s = .next { s with dbg := { s.dbg with ir := 2, scan := v }, fresh := s.fresh + 1, lastRead := x }) ∧
    ((s.rd F.SEC_STATE_lifecycle = 0 ∨ s.rd F.SEC_STATE_lifecycle = 2) ∧ s.power.off = true →
      ∃ x, exec (.extest v) s = .next { s with dbg := { s.dbg with ir := 0, scan := v }, fresh := s.fresh + 1, lastRead := x }) ∧
    (¬ ((s.rd F.SEC_STATE_lifecycle = 0 ∨ s.rd F.SEC_STATE_lifecycle = 2) ∧ s.power.off = true) →
      exec (.extest v) s = .next { s with dbg := { s.dbg with ir := 0, byp := v.getLastD false }, lastRead := 0 })) ∧
  (∀ (v : W32) (s : State), ∃ x, x < 8 ∧ exec (.dtmcs v) s =
    .next { s with dbg := { s.dbg with ir := 16 }, fresh := s.fresh + 1, lastRead := 1 + 9 * 2 ^ 4 + x * 2 ^ 12 }) ∧
  (∀ (v : W32) (s : State),
    exec (.dmi true 0x100 v) s = .next { s with dbg := { s.dbg with ir := 17, sel := v.toNat &&& 0x8000FFFF } } ∧
    exec (.dmi true 0x109 v) s = .next { s with dbg := { s.dbg with ir := 17, data := v.toNat } } ∧
    exec (.dmi false 0x109 v) s = .next { s with dbg := { s.dbg with ir := 17 }, lastRead := s.dbg.data } ∧
    exec (.dmi false 0x100 v) s = .next { s with dbg := { s.dbg with ir := 17 }, lastRead := s.dbg.sel } ∧
    (∀ w, ∃ t, exec (.dmi true 0x107 v) s = .next t ∧ exec (.dmi true 0x108 w) t = .next { s with dbg := { s.dbg with ir := 17, addr := v.toNat + w.toNat * 2 ^ 32 } }) ∧
    (∀ b : Fin 4, exec (.dmi true (BitVec.ofNat 9 (0x103 + b.val)) v) s =
      .next { s with dbg := { s.dbg with ir := 17, bps := Tab.set 0 s.dbg.bps b (v.toNat &&& 0x80FFFFFF) } }) ∧
    (∀ a : BitVec 9, 0x80 ≤ a.toNat → a.toNat < 0x100 → exec (.dmi false a v) s = .next { s with dbg := { s.dbg with ir := 17 }, lastRead := 0 })) ∧
  (∀ (v : W32) (h : CoreId) (s : State), v.toNat.testBit 0 = true → bits v.toNat 25 16 + bits v.toNat 15 6 * 1024 = h →
    (s.hartOpen h 0 = true → v.toNat.testBit 31 = true → (s.rd F.SC_STATE_state h = 1 ∨ s.rd F.SC_STATE_state h = 2) →
      ∃ t, exec (.dmi true 0x10 v) s = .next t ∧ t.rd F.SC_STATE_state h = 3 ∧
        ∀ f i j, (f.reg ≠ .SC_STATE ∨ i ≠ h.val) → t.rd f i j = s.rd f i j) ∧
    (s.hartOpen h 0 = true → v.toNat.testBit 31 = false → v.toNat.testBit 30 = true → s.rd F.SC_STATE_state h = 3 →
      ∃ t, exec (.dmi true 0x10 v) s = .next t ∧ t.rd F.SC_STATE_state h = 1 ∧
        ∀ f i j, (f.reg ≠ .SC_STATE ∨ i ≠ h.val) → t.rd f i j = s.rd f i j) ∧
    (s.hartOpen h 0 = false → ∃ t, exec (.dmi true 0x10 v) s = .next t ∧ t.regs = s.regs))

/-- R567 to R569 on the selected unit. -/
def Obligations.UnitDebugCommands : Prop :=
  (∀ (s : State) (d : UnitDbg), s.unitDbg s.dbgKind s.dbgUnit = d →
    (s.selOpen = true → d.state = 0 → exec .unitHalt s =
      .next ((s.setUnitDbg s.dbgKind s.dbgUnit { d with state := 1, hit := false, steps := 0 }).dbgResult 0)) ∧
    (s.selOpen = true → d.state ≠ 0 → exec .unitHalt s = .next (s.dbgResult 0)) ∧
    (s.selOpen = true → d.state ≠ 0 → ∃ t x, exec .unitResume s = .next t ∧
      t = (s.setUnitDbg s.dbgKind s.dbgUnit { d with state := 0, steps := 0, hit := x }).dbgResult 0) ∧
    (s.selOpen = true → d.state = 0 → exec .unitResume s = .next (s.dbgResult 0)) ∧
    (s.selOpen = true → d.state = 2 → exec .unitStep s =
      .next ((s.setUnitDbg s.dbgKind s.dbgUnit { d with steps := d.steps + 1, group := bits s.dbg.sel 15 11 }).dbgResult 0)) ∧
    (s.selOpen = false → exec .unitHalt s = .next s ∧ exec .unitResume s = .next s ∧ exec .unitStep s = .next s)) ∧
  (∀ (s : State) (k : Nat) (d : UnitDbg), s.dbg.units.find? (fun e => e.2.state = 1) = some (k, d) →
    ∃ t, exec .unitHalted s = .next t ∧ Tab.get {} t.dbg.units k = { d with state := 2 } ∧
      (∀ l, l ≠ k → Tab.get {} t.dbg.units l = Tab.get {} s.dbg.units l) ∧ ∃ x, t = { s with dbg := x }) ∧
  (∀ (s : State) (n a : Nat), s.unitPart s.dbgKind s.dbgUnit = n → s.dbg.addr = a → s.selOpen = true → s.scope n 1 = true →
    addrOk a = true → a % 4 = 0 →
    ((s.addrIn n a 4 = true ∨ (addrKind a = 2 ∧ s.engineOwner (a % 2 ^ 60 / 2 ^ 48 / 2) = n ∧ s.beingRemoved n = false)) → s.unreadable a 4 = none →
      exec .unitMemRead s = .next { s with dbg := { s.dbg with data := leVal (s.load n a 4), addr := (a + 4) % 2 ^ 64, result := 0 } }) ∧
    (s.addrIn n a 4 = true → (addrKind a = 4 → s.inImage n (a % 2 ^ 60) 4 = false ∧ s.blockedUnit (a % 2 ^ 60) 4 = false) →
      s.storeHalted n a = true → s.unreadable a 4 = none →
      exec .unitMemWrite s = .next { s.store n a (leBytes 4 s.dbg.data) with dbg := { s.dbg with addr := (a + 4) % 2 ^ 64, result := 0 } }))

/-- R39, R45 to R48, R596: the loader of Nypra images. -/
def Obligations.NypraVerifyAndApply : Prop :=
  (∀ (m : Master) (n : PartId) (s : State), s.isOperator m = true → s.rd F.NYPRA_STATUS_busy ≠ 0 →
    ∀ c ∈ [Instr.verify m, .apply m, .discard m, .remove m n, .commitVersion m], exec c s = .next (s.setB F.NYPRA_EVENT_cmd_rejected)) ∧
  (∀ (m : Master) (a len : Nat) (s : State), s.isOperator m = true → s.rd F.NYPRA_STATUS_busy = 0 → s.rd F.NYPRA_SRC_ADDR_addr * 4096 = a → s.rd F.NYPRA_SRC_LEN_len = len →
    (s.ddrOwned 0 a len = true → s.badUnit a len = none → ∃ t, exec (.verify m) s = .next t ∧ t.nypraState = nypraVerifying ∧ t.rd F.NYPRA_STATUS_busy = 1 ∧
      t.rd F.NYPRA_STATUS_failed_check = 0 ∧ t.struct = { s.struct with staged := some { bytes := s.bytesAt (ddr a) len, len := len, readOk := true } }) ∧
    (s.ddrOwned 0 a len = false → ∃ t, exec (.verify m) s = .next t ∧ t.nypraState = nypraVerifying ∧ t.rd F.NYPRA_STATUS_busy = 1 ∧
      t.struct = { s.struct with staged := some { bytes := [], len := len, readOk := false } })) ∧
  (∀ (g : StagedImage) (s : State), s.struct.staged = some g → s.nypraState = nypraVerifying →
    (∀ c t, s.nypraCheck g.bytes g.readOk g.len = some (c, t) → ∃ u, exec .verifyDone s = .next u ∧ u.nypraState = nypraRefused ∧ u.rd F.NYPRA_STATUS_busy = 0 ∧
      u.rd F.NYPRA_STATUS_failed_check = c % 256 ∧ u.rd F.NYPRA_STATUS_failed_section = t % 256 ∧ u.rd F.NYPRA_EVENT_refused = 1 ∧ u.struct = s.struct) ∧
    (s.nypraCheck g.bytes g.readOk g.len = none → ∃ u, exec .verifyDone s = .next u ∧ u.nypraState = nypraStaged ∧ u.rd F.NYPRA_STATUS_busy = 0 ∧
      u.rd F.NYPRA_EVENT_verify_done = 1 ∧ u.struct = { s.struct with staged := some { g with image := nypraImage g.bytes } })) ∧
  (∀ (m : Master) (s : State), s.isOperator m = true → s.rd F.NYPRA_STATUS_busy = 0 →
    (∃ t, exec (.discard m) s = .next t ∧ t.nypraState = nypraIdle ∧ t.struct = { s.struct with staged := none }) ∧
    (s.struct.staged = none ∨ s.nypraState ≠ nypraStaged → exec (.apply m) s = .next (s.setB F.NYPRA_EVENT_cmd_rejected)) ∧
    (∀ g, s.struct.staged = some g → s.nypraState = nypraStaged →
      (∀ c t, s.applyCheck g.image = some (c, t) → exec (.apply m) s = .next (s.nypraRefuse c t)) ∧
      (s.applyCheck g.image = none → ∃ t, exec (.apply m) s = .next t ∧ t.nypraState = nypraApplying ∧ t.rd F.NYPRA_STATUS_busy = 1 ∧
        t.struct.staged = some g ∧ t.struct.image.clusters = g.image.clusters ∧ t.struct.image.engines = g.image.engines ∧ t.struct.image.ddr4 = g.image.ddr4 ∧
        t.struct.image.cores = g.image.cores ∧ t.struct.image.vcs = g.image.vcs ∧
        (∀ a, t.byte a = if byteOwner s.struct.image a = byteOwner t.struct.image a then s.byte a else 0#8) ∧
        (∀ n, n < 16 → t.pstate n = if s.pstate n = 1 ∧ (t.part n).present = false then 0 else s.pstate n))) ∧
    (∃ t, exec (.commitVersion m) s = .next t ∧ (s.struct.image.version < 2 ^ 32 → t.bbsRd 0x28 4 = max (s.bbsRd 0x28 4) s.struct.image.version) ∧
      (∀ j, j ≠ 2 → j < 4 → t.bbsRd (0x20 + 4 * j) 4 = s.bbsRd (0x20 + 4 * j) 4))) ∧
  (∀ s : State, s.nypraState = nypraApplying →
    (s.heldBack = false → ∃ t, exec .applyScrubDone s = .next t ∧ t.struct = { s.struct with scrubbing := [], scrubbed := true } ∧
      ∀ n, n < 16 → t.pstate n = if n ∈ s.struct.scrubbing then 1 else s.pstate n) ∧
    (s.heldBack = true → exec .applyScrubDone s = .next { s with struct := { s.struct with scrubbing := [], scrubbed := true } })) ∧
  (∀ (g : StagedImage) (s : State), s.struct.staged = some g → s.nypraState = nypraApplying → s.struct.scrubbed = true →
    ∃ t, exec .applyDone s = .next t ∧ t.struct.image = g.image ∧ t.struct.staged = none ∧ t.nypraState = nypraIdle ∧ t.rd F.NYPRA_STATUS_busy = 0 ∧
      t.rd F.NYPRA_STATUS_structure_epoch = (s.rd F.NYPRA_STATUS_structure_epoch + 1) % 2 ^ 32 ∧ t.rd F.NYPRA_ACTIVE_ID_image_id = g.image.imageId % 2 ^ 64 ∧
      t.rd F.NYPRA_VERSION_active = g.image.version % 2 ^ 32 ∧ t.rd F.NYPRA_EVENT_apply_done = 1 ∧ t.sec.nypraDigest = sha g.bytes)

/-- R49: the removal of a partition. -/
def Obligations.NypraRemoval : Prop :=
  (∀ (m : Master) (n : PartId) (s : State), s.isOperator m = true → s.rd F.NYPRA_STATUS_busy = 0 →
    (n.val = 0 ∨ s.pstate n.val = 0 → exec (.remove m n) s = .next (s.setB F.NYPRA_EVENT_cmd_rejected)) ∧
    (n.val ≠ 0 → s.pstate n.val ≠ 0 → ∃ t, exec (.remove m n) s = .next t ∧ t.nypraState = nypraRemoving ∧ t.rd F.NYPRA_STATUS_busy = 1 ∧
      (∀ k, t.pstate k = if k = n.val then 3 else s.pstate k) ∧ t.rd F.WIMG_STATUS_run_state n.val = 3 ∧
      t.rd F.PART_REMOVE_partition = n.val ∧ t.rd F.PART_REMOVE_channels_reset = 0 ∧ t.rd F.PART_REMOVE_auth_discards = 0 ∧
      t.struct = { s.struct with removal := some { part := n.val, back := s.nypraState, deadline := s.clk + 2000000 } } ∧
      t.rd F.KEY_EPOCH_epoch n.val = (s.rd F.KEY_EPOCH_epoch n.val + 1) % 2 ^ 32 ∧
      (∀ k ∈ t.sec.linkKeys, k.part = n.val → k.tomb = true ∧ k.secret = []) ∧ (∀ e ∈ t.fabric.runs, e.2.part ≠ n.val) ∧ t.mem = s.mem)) ∧
  (∀ (x : Removal) (s : State), s.struct.removal = some x → x.scrubbing = false →
    (∃ t, exec .removalDrainDone s = .next t ∧ (∀ k, t.pstate k = if k = x.part then 4 else s.pstate k) ∧ t.rd F.PART_REMOVE_inflight = 0 ∧
      t.struct = { s.struct with removal := some { x with scrubbing := true } }) ∧
    (s.rd F.PART_REMOVE_inflight ≠ 0 → ∃ t, exec .removalTimeout s = .next t ∧ (∀ k, t.pstate k = if k = x.part then 4 else s.pstate k) ∧ t.rd F.PART_REMOVE_inflight = 0 ∧
      t.struct = { s.struct with removal := some { x with scrubbing := true } } ∧ t.rd F.NYPRA_EVENT_removal_timeout = 1 ∧ t.clk = max s.clk x.deadline) ∧
    (s.rd F.PART_REMOVE_inflight = 0 → exec .removalTimeout s = .next s)) ∧
  (∀ (x : Removal) (s : State), s.struct.removal = some x → x.scrubbing = true → x.back < 16 →
    ∃ t, exec .removalScrubDone s = .next t ∧ (∀ k, t.pstate k = if k = x.part then 1 else s.pstate k) ∧ t.struct = { s.struct with removal := none } ∧
      t.nypraState = x.back ∧ t.rd F.NYPRA_STATUS_busy = 0 ∧ t.rd F.NYPRA_EVENT_removal_done = 1 ∧
      (∀ a, t.byte a = if byteOwner s.struct.image a = x.part then 0#8 else s.byte a) ∧
      (∀ k ∈ t.sec.linkKeys, ¬ (k.part = x.part ∧ k.tomb = true)) ∧ t.rd F.WIMG_ACTIVE_ID_image_id x.part = 0 ∧ t.rd F.WIMG_STATUS_run_state x.part = 0)

/-- R104 to R106, R112 to R115, R137, R179: launches and the stores of tiles and quadrants. -/
def Obligations.TileStoresAndLaunches : Prop :=
  (∀ (n : PartId) (k : Nat) (tiles : List TileId) (ins outs : List BufRef) (consts : List W64) (args : Nat) (im : WImage) (kn : Kernel) (ts : List Nat) (run : TileRun) (s : State),
    (s.wpart n.val).image = some im → im.kernels[k]? = some kn → (tiles.map (·.val)).dedup = ts →
    ({ id := s.fabric.launches + 1, part := n.val, kernel := k, code := kn.code, args := args, tileBase := kn.tileBase, tileLen := kn.tileLen, quadBase := kn.quadBase,
       quadLen := kn.quadLen, budget := kn.budget, tiles := ts, groups := List.replicate kn.groups (startGroup args) } : TileRun) = run →
    (s.pstate n.val = 2 → s.stopped n.val = false → ts ≠ [] → (∀ u ∈ ts, s.clusterOwner (u / 8) = n.val ∧ (s.run u).id = 0) →
      args + (argBlock ins outs consts).length ≤ 2 ^ 48 →
      ∃ t, exec (.kernel n k tiles ins outs consts args) s = .next t ∧ t.fabric.launches = s.fabric.launches + 1 ∧
        (∀ u, t.run u = if u ∈ ts then run else s.run u) ∧
        (∀ u ∈ ts, ∀ j, (hj : j < (argBlock ins outs consts).length) → t.byte (tileAddr u args + j) = (argBlock ins outs consts)[j]) ∧
        (∀ a, (∀ u ∈ ts, ∀ j, j < (argBlock ins outs consts).length → tileAddr u args + j ≠ a) → t.byte a = s.byte a)) ∧
    (s.pstate n.val ≠ 2 ∨ s.stopped n.val = true ∨ ts = [] ∨ (∃ u ∈ ts, s.clusterOwner (u / 8) ≠ n.val ∨ (s.run u).id ≠ 0) →
      exec (.kernel n k tiles ins outs consts args) s = .next s)) ∧
  (∀ (t : TileId) (s : State), (s.run t.val).id ≠ 0 → (s.unitDbg 0 t.val).state = 0 → ∃ (g pc : Nat) (u : State), g < 32 ∧ pc < 8192 ∧
    exec (.budget t) s = .next ((u.event (Src.isolation (s.run t.val).part) 3).stopPartition (s.run t.val).part 1) ∧
    (∀ e ∈ u.fabric.runs, e.2.id ≠ (s.run t.val).id) ∧ u.mem = s.mem ∧
    (s.rd F.VEC_FAULT_cause (t.val / 320) = 0 → u.rd F.VEC_FAULT_cause (t.val / 320) = 5 ∧ u.rd F.VEC_FAULT_tile (t.val / 320) = t.val % 320 ∧
      u.rd F.VEC_FAULT_group (t.val / 320) = g ∧ u.rd F.VEC_FAULT_pc (t.val / 320) = pc ∧ u.rd F.VEC_FAULT_partition (t.val / 320) = (s.run t.val).part % 16)) ∧
  (∀ (t : TileId) (g : Fin 32) (x : Group) (s : State), (s.run t.val).id ≠ 0 → (s.run t.val).groups[g.val]? = some x → ∃ u : State,
    exec (.regParity t g) s = .next ((u.event (Src.store (t.val / 320)) 3).storeBad (s.run t.val).part t.val (t.val / 8)) ∧ u.fabric = s.fabric ∧ u.mem = s.mem ∧
    (s.rd F.VEC_FAULT_cause (t.val / 320) = 0 → u.rd F.VEC_FAULT_cause (t.val / 320) = 6 ∧ u.rd F.VEC_FAULT_tile (t.val / 320) = t.val % 320 ∧
      u.rd F.VEC_FAULT_group (t.val / 320) = g.val ∧ u.rd F.VEC_FAULT_pc (t.val / 320) = x.pc % 8192)) ∧
  (∀ (quad : Bool) (unit : TileId) (word d n key c : Nat) (s u : State), (if quad then unit.val % 16 / 4 else unit.val / 320) = d → s.storeUnit quad unit.val word = (n, key, c) →
    s.noteStore quad unit.val word = u → ∃ t, exec (.tileStoreUncorrectable quad unit word) s = .next t ∧
    t.rd F.TILE_STORE_ERR_uncorrectable d = min (s.rd F.TILE_STORE_ERR_uncorrectable d + 1) 65535 ∧ t.rd F.TILE_STORE_ERR_store d = (if quad then 2 else 1) ∧
    t.rd F.TILE_STORE_ERR_unit d = (if quad then unit.val % 4 else unit.val % 320) ∧ t.rd F.TILE_STORE_ERR_word d = word % 2 ^ 21 ∧
    (u.pstate n = 2 → u.stopped n = false →
      (((Tab.get ({} : Rerun) u.reruns n).active && (Tab.get ({} : Rerun) u.reruns n).units.contains key) = true →
        ∃ v : State, t = v.stopPartition n 2 ∧ c ∈ v.fabric.failed) ∧
      (((Tab.get ({} : Rerun) u.reruns n).active && (Tab.get ({} : Rerun) u.reruns n).units.contains key) = false →
        Tab.get ({} : Rerun) t.reruns n = { active := true, units := (Tab.get ({} : Rerun) u.reruns n).units ++ [key] } ∧ n ∈ t.fabric.reloads))) ∧
  (∀ (n : PartId) (s : State),
    (n.val ∈ s.fabric.reloads → exec (.tileReloadDone n) s =
      .next (({ s with fabric := { s.fabric with reloads := s.fabric.reloads.filter (fun p => p ≠ n.val) } } : State).compose n.val)) ∧
    (n.val ∉ s.fabric.reloads → exec (.tileReloadDone n) s = .next s)) ∧
  (∀ (d : DieId) (corrected : Nat) (bad : List (Bool × TileId × Nat)) (s : State), ∃ t, exec (.tilePatrolPass d corrected bad) s = .next t ∧
    t.rd F.TILE_STORE_ERR_corrected d.val = min (s.rd F.TILE_STORE_ERR_corrected d.val + corrected) 65535 ∧ (bad = [] → t.mem = s.mem)) ∧
  (∀ (d : DieId) (quad : Bool) (unit : TileId) (word : Nat) (s u : State),
    ((((s.advancePeriod (s.rd F.TILE_PATROL_period_s d.val * 1000000000)).inc F.TILE_STORE_ERR_corrected d.val 0 0).noteStore quad unit.val word)) = u →
    (u.pstate (u.storeUnit quad unit.val word).1 ≠ 2 → u.stepInFlight (u.storeUnit quad unit.val word).1 = false →
      ∃ t, exec (.tilePatrolPass d 0 [(quad, unit, word)]) s = .next t ∧
        ∀ a, t.byte a = if (if quad then quadAddr (unit.val % 16) 0 else tileAddr unit.val 0) + 16 * word ≤ a ∧ a < (if quad then quadAddr (unit.val % 16) 0 else tileAddr unit.val 0) + 16 * word + 16 then 0#8 else s.byte a))

/-- R107, R108: self-tests of clusters. -/
def Obligations.SelfTests : Prop :=
  (∀ (c : ClusterId) (from_ : Nat) (s : State), Tab.get 0 s.power.nextTest (c.val / 40) = from_ →
    (((List.range 40).map (fun k => 40 * (c.val / 40) + (from_ + k) % 40)).find? (fun k => s.plannerTests k) = some c.val →
      ∃ t, exec (.selftestStart c) s = .next t ∧ t.fabric.testing = s.fabric.testing ++ [c.val] ∧ t.rd F.TILE_SELFTEST_result (c.val / 40) = 4 ∧
        Tab.get 0 t.power.nextTest (c.val / 40) = (c.val + 1) % 40) ∧
    (((List.range 40).map (fun k => 40 * (c.val / 40) + (from_ + k) % 40)).find? (fun k => s.plannerTests k) ≠ some c.val →
      exec (.selftestStart c) s = .next s)) ∧
  (∀ (m : Master) (d : DieId) (v : W64) (c : Nat) (s u : State), s.isOperator m = true → s.applyWrite .TILE_SELFTEST v.toNat d.val 0 = u → bits v.toNat 5 0 = c →
    (bit v.toNat 8 = true → c < 40 → u.testable (40 * d.val + c) = true →
      ∃ t, exec (.tileSelftestStart m d v) s = .next t ∧ t.fabric.testing = s.fabric.testing ++ [40 * d.val + c] ∧ t.rd F.TILE_SELFTEST_result d.val = 4) ∧
    (bit v.toNat 8 = false ∨ 40 ≤ c ∨ u.testable (40 * d.val + c) = false → exec (.tileSelftestStart m d v) s = .next u)) ∧
  (∀ (c : ClusterId) (s : State), c.val ∈ s.fabric.testing →
    (∃ t, exec (.selftestDone c true) s = .next t ∧ t.fabric = { s.fabric with testing := s.fabric.testing.filter (fun k => k ≠ c.val) } ∧
      t.rd F.TILE_SELFTEST_result (c.val / 40) = 1 ∧ t.rd F.TILE_SELFTEST_tests_done (c.val / 40) = min (s.rd F.TILE_SELFTEST_tests_done (c.val / 40) + 1) 65535) ∧
    (∃ t u : State, exec (.selftestDone c false) s = .next t ∧ t = (u.event (Src.cluster (c.val / 40)) 2).stopPartition (s.clusterOwner c.val) 3 ∧ c.val ∈ u.fabric.failed ∧ c.val ∉ u.fabric.testing ∧
      t.rd F.TILE_SELFTEST_result (c.val / 40) = 2 ∧ t.rd F.TILE_SELFTEST_tests_done (c.val / 40) = min (s.rd F.TILE_SELFTEST_tests_done (c.val / 40) + 1) 65535)) ∧
  (∀ (c : ClusterId) (ok : Bool) (s : State), (c.val ∉ s.fabric.testing → exec (.selftestDone c ok) s = .next s) ∧ (c.val ∉ s.fabric.aborting → exec (.selftestAbortDone c) s = .next s)) ∧
  (∀ (c : ClusterId) (n : Nat) (s u : State), c.val ∈ s.fabric.aborting → s.clusterOwner c.val = n →
    (((({ s with fabric := { s.fabric with aborting := s.fabric.aborting.filter (fun k => k ≠ c.val) } } : State).inc F.TILE_SELFTEST_tests_aborted (c.val / 40)).wr F.TILE_SELFTEST_result 3 (c.val / 40)).event (Src.cluster (c.val / 40)) 1) = u →
    ∃ t, exec (.selftestAbortDone c) s = .next t ∧ t.rd F.TILE_SELFTEST_result (c.val / 40) = 3 ∧
      t.rd F.TILE_SELFTEST_tests_aborted (c.val / 40) = min (s.rd F.TILE_SELFTEST_tests_aborted (c.val / 40) + 1) 65535 ∧
      (∀ m, m ≠ n → t.srv m = u.srv m) ∧
      (u.clustersBusy n = [] → (t.srv n).step = (u.srv n).step.map (fun x => if x.begun then x else { x with begun := true, start := u.clk })) ∧
      (u.clustersBusy n ≠ [] → t = u))

/-- R140 to R168: the operators' frames. -/
def Obligations.OperatorsWriteTheirOutput : Prop :=
  ∀ (n : PartId) (s : State),
    (∀ (a b y : TRef) (bias : Option TRef) (transA transB : Bool) (outScale : W32) (epi : Option Chain) (la lb batch : List Nat) (m k c : Nat),
      swapLast a.ext transA = la → swapLast b.ext transB = lb → la.dropLast.getLastD 1 = m → la.getLastD 1 = k → lb.getLastD 1 = c →
      broadcastShape la.dropLast.dropLast lb.dropLast.dropLast = batch →
      2 ≤ a.ext.length → 2 ≤ b.ext.length → a.layout = 0 → b.layout = 0 → lb.dropLast.getLastD 1 = k → y.ext = batch ++ [m, c] → k ≤ 1048576 →
      a.sparse = false → (b.sparse = true → transB = true) → broadcastOk la.dropLast.dropLast batch = true → broadcastOk lb.dropLast.dropLast batch = true →
      pairOk a.fmt b.fmt = true → biasOk bias c = true → epiOk epi y.ext = true →
      s.operatorReady n.val ([(a, if transA then a.ext.length - 2 else a.ext.length - 1), (b, if transB then b.ext.length - 1 else b.ext.length - 2), y.ax] ++ optRef bias ++ epiRefs epi) →
      WritesTensor (.matmul n a b bias y transA transB outScale epi) s n.val y y.lastAxis) ∧
    (∀ (x wt y : TRef) (bias : Option TRef) (p : ConvParam) (outScale : W32) (epi : Option Chain) (ni c h w k ph pw : Nat),
      x.ext = [ni, c, h, w] → wt.ext = [k, c / p.groups, p.fh, p.fw] → y.ext = [ni, k, ph, pw] → convParamOk p h w = true →
      1 ≤ p.groups → p.groups ≤ c → c % p.groups = 0 → k % p.groups = 0 → c ≤ 65535 → k ≤ 65535 →
      ph = outExtent h p.pt p.pb p.fh p.sh p.dh → pw = outExtent w p.pl p.pr p.fw p.sw p.dw → x.sparse = false → pairOk x.fmt wt.fmt = true →
      biasOk bias k = true → epiOk epi y.ext = true → (fmtMx x.fmt = true → x.layout = 2) → (fmtMx y.fmt = true → y.layout = 2) → isFinite (decF p.padValue) = true →
      s.operatorReady n.val ([x.ax, (filterRef wt).ax, y.ax] ++ optRef bias ++ epiRefs epi) →
      WritesTensor (.conv n x wt bias y p outScale epi) s n.val y y.lastAxis) ∧
    (∀ (x y : TRef) (p : ConvParam) (avg countPad : Bool) (ni c h w ph pw : Nat),
      x.ext = [ni, c, h, w] → y.ext = [ni, c, ph, pw] → convParamOk { p with mode := 0 } h w = true →
      ph = outExtent h p.pt p.pb p.fh p.sh p.dh → pw = outExtent w p.pl p.pr p.fw p.sw p.dw → p.pt ≤ p.dh * (p.fh - 1) → p.pb ≤ p.dh * (p.fh - 1) →
      p.pl ≤ p.dw * (p.fw - 1) → p.pr ≤ p.dw * (p.fw - 1) → (fmtMx x.fmt = true → x.layout = 2) → (fmtMx y.fmt = true → y.layout = 2) →
      s.operatorReady n.val [x.ax, y.ax] → WritesTensor (.pool n x y p avg countPad) s n.val y y.lastAxis) ∧
    (∀ (x y : TRef) (c : Chain), chainOk c y.ext = true → x.ext = y.ext → s.operatorReady n.val (x.ax :: y.ax :: c.inputs.map TRef.ax) →
      WritesTensor (.chain n x y c) s n.val y y.lastAxis) ∧
    (∀ (x y : TRef) (axes : BitVec 6) (fn : Fin 7), maskAxes x.ext.length axes ≠ [] → y.ext = (maskAxes x.ext.length axes).foldl (fun e a => e.set a 1) x.ext →
      axes.toNat < 2 ^ x.ext.length → ((fn.val = 5 ∨ fn.val = 6) ↔ y.fmt = 13) → s.operatorReady n.val [x.ax, y.ax] →
      WritesTensor (.reduce n x y axes fn) s n.val y y.lastAxis) ∧
    (∀ (x y : TRef) (scale : W32), x.ext = y.ext → s.operatorReady n.val [x.ax, y.ax] → WritesTensor (.softmax n x y scale) s n.val y y.lastAxis) ∧
    (∀ (x y : TRef) (form : Fin 3) (eps : W32) (gn c : Nat) (gamma beta : Option TRef), x.ext = y.ext → x.ext.getD (if form.val = 2 then 1 else x.ext.length - 1) 1 = c →
      (form.val = 2 → x.ext.length = 4 ∧ 1 ≤ gn ∧ c % gn = 0) → vecOk gamma c = true → vecOk beta c = true → (decF eps).isNan = false →
      (decF eps).lt (.num false 0 0) = false → (FV.num false 1 0).lt (decF eps) = false → s.operatorReady n.val ([x.ax, y.ax] ++ optRef gamma ++ optRef beta) →
      WritesTensor (.norm n x y form eps gn gamma beta) s n.val y y.lastAxis) ∧
    (∀ (tb idx y : TRef), idx.fmt = 13 → y.ext = idx.ext ++ tb.ext.drop 1 → y.fmt = tb.fmt → tb.ext.drop 1 ≠ [] → tb.layout = 0 → y.layout = 0 → tb.sparse = false → y.sparse = false →
      s.operatorReady n.val [tb.ax, idx.ax, y.ax] → WritesTensor (.gather n tb idx y) s n.val y y.lastAxis) ∧
    (∀ (d idx u : TRef) (mode : Fin 3), idx.fmt = 13 → u.ext = idx.ext ++ d.ext.drop 1 → d.ext.drop 1 ≠ [] → (if mode.val = 0 then u.fmt = d.fmt else u.fmt = 0 ∧ d.fmt = 0) →
      d.layout = 0 → u.layout = 0 → d.sparse = false → u.sparse = false → fmtMx d.fmt = false → s.operatorReady n.val [d.ax, idx.ax, u.ax] →
      WritesTensor (.scatter n d idx u mode) s n.val d d.lastAxis) ∧
    (∀ (d idx u : TRef), idx.fmt = 13 → u.ext = idx.ext ++ d.ext.drop 1 → d.ext.drop 1 ≠ [] → u.fmt = d.fmt → fmtMx d.fmt = true →
      d.layout = 0 → u.layout = 0 → d.sparse = false → u.sparse = false → s.operatorReady n.val [d.ax, idx.ax, u.ax] →
      ∃ t, exec (.scatter n d idx u 0) s = .next t ∧ ∀ a, ¬ s.tensorByte n.val d d.lastAxis a →
        (∀ r e, r < d.ext.headD 1 → e ∈ allIdx (d.ext.drop 1) → s.phys n.val (d.scaleAt d.lastAxis (r :: e)) ≠ a) → t.byte a = s.byte a) ∧
    (∀ (x y : TRef) (axes : Nat) (inverse realInput : Bool), axes = 1 ∨ axes = 2 → axes ≤ x.ext.length → x.ext = y.ext → y.fmt = 14 → x.fmt = (if realInput then 0 else 14) →
      x.layout = 0 → y.layout = 0 → x.sparse = false → y.sparse = false →
      (∀ a ∈ (if axes = 2 then [x.ext.length - 2, x.ext.length - 1] else [x.ext.length - 1]), 16 ≤ x.ext.getD a 1 ∧ x.ext.getD a 1 ≤ 1024 ∧ 2 ^ Nat.log2 (x.ext.getD a 1) = x.ext.getD a 1) →
      s.operatorReady n.val [x.ax, y.ax] → WritesTensor (.fft n x y axes inverse realInput) s n.val y y.lastAxis) ∧
    (∀ (x y : TRef) (scale : W32) (rm : Fin 4) (sat : Option Bool) (mxAxis ax : Nat), (if laneCount y.layout ≠ 0 then 1 else mxAxis) = ax → x.ext = y.ext → ax < y.ext.length →
      x.fmt ≤ 12 → y.fmt ≤ 12 → y.sparse = false → s.operatorReady n.val [x.ax, (y, ax)] → WritesTensor (.convert n x y scale rm sat mxAxis) s n.val y ax) ∧
    (∀ (x y : TRef) (scale : W32) (c : Chain), s.pstate n.val ≠ 2 ∨ s.stopped n.val = true ∨ x.ext.contains 0 = true →
      exec (.softmax n x y scale) s = .next s ∧ exec (.chain n x y c) s = .next s)

end
end

