-- ==== Sys2Proof/Laws/Tab.lean ====
section
/-! SUPPORT. Laws of sparse tables: what a read gives after a write, an erasure or a restriction, and that each keeps the
canonical form. -/

namespace Sys2Proof.Machine

-- One proof at a time: the package is compiled as one text under a memory limit.
set_option Elab.async false

variable {α : Type}

@[simp] theorem Tab.get_nil (d : α) (n : Nat) : Tab.get d [] n = d := rfl

theorem Tab.get_erase_same (d : α) (t : Tab α) (n : Nat) : Tab.get d (Tab.erase t n) n = d := by
  induction t with
  | nil => rfl
  | cons e t ih =>
    obtain ⟨k, v⟩ := e
    by_cases h : n = k <;> simp [Tab.erase, Tab.get, h]
    · subst h; exact ih
    · exact ih

theorem Tab.get_erase_other (d : α) (t : Tab α) {n m : Nat} (h : m ≠ n) : Tab.get d (Tab.erase t n) m = Tab.get d t m := by
  induction t with
  | nil => rfl
  | cons e t ih =>
    obtain ⟨k, v⟩ := e
    by_cases hk : n = k
    · subst hk; simp [Tab.erase, Tab.get, h, ih]
    · by_cases hm : m = k <;> simp [Tab.erase, Tab.get, hk, hm]
      exact ih

theorem Tab.get_insert_same (d : α) (t : Tab α) (n : Nat) (x : α) :
    Tab.get d (Tab.insert (Tab.erase t n) n x) n = x := by

  induction t with
  | nil => simp [Tab.erase, Tab.insert, Tab.get]
  | cons e t ih =>
    obtain ⟨k, v⟩ := e
    by_cases hk : n = k
    · subst hk; simpa [Tab.erase] using ih
    · by_cases hl : n < k <;> simp [Tab.erase, Tab.insert, Tab.get, hk, hl]
      exact ih

theorem Tab.get_insert_other (d : α) (t : Tab α) {n m : Nat} (x : α) (h : m ≠ n) :
    Tab.get d (Tab.insert t n x) m = Tab.get d t m := by
  induction t with
  | nil => simp [Tab.insert, Tab.get, h]
  | cons e t ih =>
    obtain ⟨k, v⟩ := e
    by_cases hl : n < k
    · simp [Tab.insert, Tab.get, hl, h]
    · by_cases hm : m = k <;> simp [Tab.insert, Tab.get, hl, hm]
      exact ih

theorem Tab.get_set_same [DecidableEq α] (d : α) (t : Tab α) (n : Nat) (x : α) : Tab.get d (Tab.set d t n x) n = x := by
  unfold Tab.set
  split
  · next h => rw [h]; exact Tab.get_erase_same d t n
  · exact Tab.get_insert_same d t n x

theorem Tab.get_set_other [DecidableEq α] (d e : α) (t : Tab α) {n m : Nat} (x : α) (h : m ≠ n) :
    Tab.get e (Tab.set d t n x) m = Tab.get e t m := by
  unfold Tab.set
  split
  · exact Tab.get_erase_other e t h
  · rw [Tab.get_insert_other e _ x h, Tab.get_erase_other e t h]

theorem Tab.get_set [DecidableEq α] (d : α) (t : Tab α) (n m : Nat) (x : α) :
    Tab.get d (Tab.set d t n x) m = if m = n then x else Tab.get d t m := by
  split
  · next h => subst h; exact Tab.get_set_same d t m x
  · next h => exact Tab.get_set_other d d t x h

theorem Tab.get_keep (d : α) (t : Tab α) (p : Nat → Bool) (n : Nat) :
    Tab.get d (Tab.keep t p) n = if p n then Tab.get d t n else d := by
  induction t with
  | nil => simp [Tab.keep]
  | cons e t ih =>
    obtain ⟨k, v⟩ := e
    unfold Tab.keep at ih ⊢
    by_cases hn : n = k
    · subst hn
      by_cases hp : p n
      · simp [hp, Tab.get]
      · simp [hp, ih]
    · by_cases hp : p k
      · simp [hp, Tab.get, hn, ih]
      · simp [hp, Tab.get, hn, ih]

/-! ## The canonical form -/

theorem Tab.sorted_iff (t : Tab α) : Tab.sorted t = true ↔ t.Pairwise (fun a b => a.1 < b.1) := by
  induction t with
  | nil => simp [Tab.sorted]
  | cons e t ih =>
    cases t with
    | nil => simp [Tab.sorted]
    | cons f t =>
      simp only [Tab.sorted, Bool.and_eq_true, decide_eq_true_eq, ih, List.pairwise_cons, List.mem_cons, forall_eq_or_imp]
      constructor
      · rintro ⟨h, h1, h2⟩
        exact ⟨⟨h, fun a ha => lt_trans h (h1 a ha)⟩, h1, h2⟩
      · rintro ⟨⟨h, _⟩, h1, h2⟩
        exact ⟨h, h1, h2⟩

theorem Tab.erase_eq_filter (t : Tab α) (n : Nat) : Tab.erase t n = t.filter (fun e => decide (n ≠ e.1)) := by
  induction t with
  | nil => rfl
  | cons e t ih =>
    obtain ⟨k, v⟩ := e
    by_cases h : n = k
    · subst h; simp [Tab.erase, ih]
    · simp [Tab.erase, h, ih]

theorem Tab.sorted_filter {t : Tab α} (p : Nat × α → Bool) (h : Tab.sorted t = true) : Tab.sorted (t.filter p) = true := by
  rw [Tab.sorted_iff] at *
  exact h.filter p

theorem Tab.sorted_erase {t : Tab α} (n : Nat) (h : Tab.sorted t = true) : Tab.sorted (Tab.erase t n) = true := by
  rw [Tab.erase_eq_filter]; exact Tab.sorted_filter _ h

theorem Tab.sorted_keep {t : Tab α} (p : Nat → Bool) (h : Tab.sorted t = true) : Tab.sorted (Tab.keep t p) = true :=
  Tab.sorted_filter _ h

theorem Tab.mem_insert {t : Tab α} {n : Nat} {x : α} {e : Nat × α} : e ∈ Tab.insert t n x ↔ e = (n, x) ∨ e ∈ t := by
  induction t with
  | nil => simp [Tab.insert]
  | cons f t ih =>
    obtain ⟨k, v⟩ := f
    by_cases h : n < k <;> simp [Tab.insert, h, ih]
    tauto

theorem Tab.sorted_insert {t : Tab α} {n : Nat} (x : α) (h : Tab.sorted t = true) (hn : ∀ e ∈ t, e.1 ≠ n) :
    Tab.sorted (Tab.insert t n x) = true := by
  rw [Tab.sorted_iff] at *
  induction t with
  | nil => simp [Tab.insert]
  | cons f t ih =>
    obtain ⟨k, v⟩ := f
    rw [List.pairwise_cons] at h
    have hk : k ≠ n := hn (k, v) List.mem_cons_self
    by_cases hl : n < k
    · simp only [Tab.insert, if_pos hl, List.pairwise_cons, List.mem_cons, forall_eq_or_imp]
      exact ⟨⟨hl, fun a ha => lt_trans hl (h.1 a ha)⟩, h.1, h.2⟩
    · simp only [Tab.insert, if_neg hl, List.pairwise_cons]
      refine ⟨fun a ha => ?_, ih h.2 (fun e he => hn e (List.mem_cons_of_mem _ he))⟩
      rcases Tab.mem_insert.mp ha with rfl | ha
      · show k < n; omega
      · exact h.1 a ha

theorem Tab.sorted_set [DecidableEq α] {t : Tab α} (d : α) (n : Nat) (x : α) (h : Tab.sorted t = true) :
    Tab.sorted (Tab.set d t n x) = true := by
  unfold Tab.set
  split
  · exact Tab.sorted_erase n h
  · refine Tab.sorted_insert x (Tab.sorted_erase n h) (fun e he => ?_)
    rw [Tab.erase_eq_filter, List.mem_filter] at he
    exact fun hc => by simp [hc] at he

theorem Tab.wf_iff [DecidableEq α] {d : α} {t : Tab α} : Tab.wf d t = true ↔ Tab.sorted t = true ∧ ∀ e ∈ t, e.2 ≠ d := by
  simp [Tab.wf]

theorem Tab.wf_filter [DecidableEq α] {d : α} {t : Tab α} (p : Nat × α → Bool) (h : Tab.wf d t = true) :
    Tab.wf d (t.filter p) = true := by
  rw [Tab.wf_iff] at *
  exact ⟨Tab.sorted_filter p h.1, fun e he => h.2 e (List.mem_filter.mp he).1⟩

theorem Tab.wf_keep [DecidableEq α] {d : α} {t : Tab α} (p : Nat → Bool) (h : Tab.wf d t = true) :
    Tab.wf d (Tab.keep t p) = true := Tab.wf_filter _ h

theorem Tab.wf_erase [DecidableEq α] {d : α} {t : Tab α} (n : Nat) (h : Tab.wf d t = true) :
    Tab.wf d (Tab.erase t n) = true := by
  rw [Tab.erase_eq_filter]; exact Tab.wf_filter _ h

theorem Tab.wf_set [DecidableEq α] {d : α} {t : Tab α} (n : Nat) (x : α) (h : Tab.wf d t = true) :
    Tab.wf d (Tab.set d t n x) = true := by
  have hs := Tab.sorted_set d n x (Tab.wf_iff.mp h).1
  rw [Tab.wf_iff]
  refine ⟨hs, fun e he => ?_⟩
  unfold Tab.set at he
  split at he
  · exact (Tab.wf_iff.mp (Tab.wf_erase n h)).2 e he
  · next hx =>
    rcases Tab.mem_insert.mp he with rfl | he
    · exact hx
    · exact (Tab.wf_iff.mp (Tab.wf_erase n h)).2 e he

/-- A fold of writes keeps the canonical form. -/
theorem Tab.wf_foldl_set [DecidableEq α] {β : Type} {d : α} (key : β → Nat) (val : β → α) (l : List β) {t : Tab α}
    (h : Tab.wf d t = true) : Tab.wf d (l.foldl (fun t p => Tab.set d t (key p) (val p)) t) = true := by
  induction l generalizing t with
  | nil => exact h
  | cons p l ih => exact ih (Tab.wf_set _ _ h)

/-- A fold of writes leaves a key that none of them names. -/
theorem Tab.get_foldl_set_other [DecidableEq α] {β : Type} (d e : α) (key : β → Nat) (val : β → α) (l : List β) (t : Tab α) {m : Nat}
    (h : ∀ p ∈ l, key p ≠ m) : Tab.get e (l.foldl (fun t p => Tab.set d t (key p) (val p)) t) m = Tab.get e t m := by
  induction l generalizing t with
  | nil => rfl
  | cons p l ih =>
    rw [List.foldl_cons, ih _ (fun q hq => h q (List.mem_cons_of_mem _ hq))]
    exact Tab.get_set_other d e t _ (fun hm => h p List.mem_cons_self hm.symm)

end Sys2Proof.Machine
end

