-- ==== Sys2Proof/Laws/Regs.lean ====
section
/-! SUPPORT. Laws of the register file: which key a field has, what a field reads after a write, and the bound that a read keeps. -/

namespace Sys2Proof.Machine

-- One proof at a time: the package is compiled as one text under a memory limit.
set_option Elab.async false

theorem RegId.all_get (r : RegId) : RegId.all[r.ctorIdx]? = some r := by cases r <;> rfl

theorem RegId.ctorIdx_inj {a b : RegId} (h : a.ctorIdx = b.ctorIdx) : a = b := by
  have ha := RegId.all_get a
  rw [h, RegId.all_get b] at ha
  exact (Option.some.inj ha).symm

/-- Two fields of two instances have one key only if register, low bit and instance agree. -/
theorem Fld.key_eq {f g : Fld} {i j k l : Nat} : f.key i j = g.key k l ↔ f.reg = g.reg ∧ f.lo = g.lo ∧ i = k ∧ j = l := by
  unfold Fld.key
  rw [Nat.pair_eq_pair, Nat.pair_eq_pair, Nat.pair_eq_pair]
  constructor
  · rintro ⟨⟨a, b⟩, c, d⟩; exact ⟨RegId.ctorIdx_inj a, b, c, d⟩
  · rintro ⟨a, b, c, d⟩; exact ⟨⟨congrArg _ a, b⟩, c, d⟩

theorem Fld.reset_congr {f g : Fld} (h : f.reg = g.reg) (hl : f.lo = g.lo) (i : Nat) : f.reset i = g.reset i := by
  unfold Fld.reset; rw [h, hl]

/-- A field reads what was written to it, cut to its width. -/
theorem State.rd_wr_same (s : State) (f : Fld) (v i j : Nat) : (s.wr f v i j).rd f i j = v % 2 ^ f.width :=
  Tab.get_set_same _ _ _ _

/-- A write leaves every other field, register and instance. -/
theorem State.rd_wr_other (s : State) {f g : Fld} (v : Nat) {i j k l : Nat} (h : g.key k l ≠ f.key i j) :
    (s.wr f v i j).rd g k l = s.rd g k l := Tab.get_set_other _ _ _ _ h

theorem State.rd_wr (s : State) (f g : Fld) (v i j k l : Nat) :
    (s.wr f v i j).rd g k l =
      if g.reg = f.reg ∧ g.lo = f.lo ∧ k = i ∧ l = j then v % 2 ^ f.width else s.rd g k l := by
  split
  · next h =>
    obtain ⟨h1, h2, rfl, rfl⟩ := h
    have hk : g.key k l = f.key k l := Fld.key_eq.mpr ⟨h1, h2, rfl, rfl⟩
    unfold State.rd State.wr
    rw [hk, Fld.reset_congr h1 h2]
    exact Tab.get_set_same _ _ _ _
  · next h => exact State.rd_wr_other s v (fun hk => h (Fld.key_eq.mp hk))

/-- A field returned to its reset value reads it. -/
theorem State.rd_rst_same (s : State) (f : Fld) (i j : Nat) : (s.rst f i j).rd f i j = f.reset i := Tab.get_erase_same _ _ _

theorem State.rd_rst_other (s : State) {f g : Fld} {i j k l : Nat} (h : g.key k l ≠ f.key i j) :
    (s.rst f i j).rd g k l = s.rd g k l := Tab.get_erase_other _ _ h

/-- A field that nothing has written reads its reset value. -/
theorem State.rd_reset (f : Fld) (i j : Nat) : State.reset.rd f i j = f.reset i := rfl

/-- A saturating counter after it was raised. -/
theorem State.rd_inc (s : State) (f g : Fld) (n i j k l : Nat) :
    (s.inc f i j n).rd g k l =
      if g.reg = f.reg ∧ g.lo = f.lo ∧ k = i ∧ l = j then min (s.rd f i j + n) (2 ^ f.width - 1) else s.rd g k l := by
  unfold State.inc
  rw [State.rd_wr]
  congr 1
  exact Nat.mod_eq_of_lt (lt_of_le_of_lt (Nat.min_le_right _ _) (Nat.sub_lt (Nat.two_pow_pos _) Nat.one_pos))

/-- A field reads the same when every part beside the register file is replaced. -/
@[simp] theorem State.rd_mk (s : State) (a1 a2 a3 a4 a5 a6 a7 a8 a9 a10 a11 a12 a13 a14 a15 a16 a17 a18 a19 a20 a21 a22 a23 a24 a25 a26 a27 a28 a29 a30 a31 a32 a33 a34 a35 a36 a37 a38 a39 a40 a41) (f : Fld) (i j : Nat) :
    (State.mk s.regs a1 a2 a3 a4 a5 a6 a7 a8 a9 a10 a11 a12 a13 a14 a15 a16 a17 a18 a19 a20 a21 a22 a23 a24 a25 a26 a27 a28 a29 a30 a31 a32 a33 a34 a35 a36 a37 a38 a39 a40 a41).rd f i j = s.rd f i j := rfl

end Sys2Proof.Machine
end

