-- ==== Sys2Proof/Laws/Keep.lean ====
section
/-! SUPPORT. What every operation over State keeps: the queue, the canonical forms of memory, of the store and of the register file, the
device identity; that free values are never drawn twice; and every part of the state that it may not change (`Parts`). The
files Laws/Keep… hold one lemma per operation. -/

namespace Sys2Proof.Machine

-- One proof at a time: the package is compiled as one text under a memory limit.
set_option Elab.async false

set_option linter.all false

/-- What each operation that may change the parts `W` keeps from `s` to `t`. -/
structure Keep (W : Parts) (s t : State) : Prop where
  pending : t.pending = s.pending
  mem : Memory.wf s.mem = true → Memory.wf t.mem = true
  bbs : Tab.wf 0#8 s.bbs = true → Tab.wf 0#8 t.bbs = true
  regs : Tab.sorted s.regs = true → Tab.sorted t.regs = true
  fresh : s.fresh ≤ t.fresh
  identity : t.identity = s.identity
  parts : Unchanged W s t

/-- An outcome that is a next state which keeps what `Keep` says. -/
def KeepR (W : Parts) (s : State) (r : Host.Outcome State Fault Refusal) : Prop := ∃ t, r = .next t ∧ Keep W s t

variable {W : Parts} {s0 s t : State}

theorem Unchanged.refl (s : State) : Unchanged W s s := ⟨fun _ _ _ _ => rfl, fun _ => rfl, fun _ => rfl, fun _ => rfl, fun _ => rfl, fun _ => rfl, fun _ => rfl, fun _ => rfl, fun _ => rfl, fun _ => rfl, fun _ => rfl, fun _ => rfl, fun _ => rfl, fun _ => rfl, fun _ => rfl, fun _ => rfl, fun _ => rfl, fun _ => rfl, fun _ => rfl, fun _ => rfl, fun _ => rfl, fun _ => rfl, fun _ => rfl, fun _ => rfl, fun _ => rfl, fun _ => rfl, fun _ => rfl, fun _ => rfl, fun _ => rfl, fun _ => rfl, fun _ => rfl, fun _ => rfl, fun _ => rfl, fun _ => rfl, fun _ => rfl, fun _ => rfl, fun _ => rfl, fun _ => rfl, fun _ => rfl⟩

theorem Unchanged.trans (h : Unchanged W s0 s) (g : Unchanged W s t) : Unchanged W s0 t :=
  ⟨fun f i j e => (g.regs f i j e).trans (h.regs f i j e), fun e => (g.mem e).trans (h.mem e),
    fun e => (g.bbs e).trans (h.bbs e),
    fun e => (g.clk e).trans (h.clk e),
    fun e => (g.modTime e).trans (h.modTime e),
    fun e => (g.resetAt e).trans (h.resetAt e),
    fun e => (g.out e).trans (h.out e),
    fun e => (g.lastRead e).trans (h.lastRead e),
    fun e => (g.struct e).trans (h.struct e),
    fun e => (g.wparts e).trans (h.wparts e),
    fun e => (g.rings e).trans (h.rings e),
    fun e => (g.irqs e).trans (h.irqs e),
    fun e => (g.badUnits e).trans (h.badUnits e),
    fun e => (g.badRecord e).trans (h.badRecord e),
    fun e => (g.reruns e).trans (h.reruns e),
    fun e => (g.po e).trans (h.po e),
    fun e => (g.cv e).trans (h.cv e),
    fun e => (g.ptp e).trans (h.ptp e),
    fun e => (g.faults e).trans (h.faults e),
    fun e => (g.lease e).trans (h.lease e),
    fun e => (g.linkSignal e).trans (h.linkSignal e),
    fun e => (g.sec e).trans (h.sec e),
    fun e => (g.pages e).trans (h.pages e),
    fun e => (g.serve e).trans (h.serve e),
    fun e => (g.slots e).trans (h.slots e),
    fun e => (g.fabric e).trans (h.fabric e),
    fun e => (g.stk e).trans (h.stk e),
    fun e => (g.links e).trans (h.links e),
    fun e => (g.video e).trans (h.video e),
    fun e => (g.power e).trans (h.power e),
    fun e => (g.fw e).trans (h.fw e),
    fun e => (g.sdio e).trans (h.sdio e),
    fun e => (g.mgmt e).trans (h.mgmt e),
    fun e => (g.cores e).trans (h.cores e),
    fun e => (g.dbg e).trans (h.dbg e),
    fun e => (g.perf e).trans (h.perf e),
    fun e => (g.opc e).trans (h.opc e),
    fun e => (g.opcShadow e).trans (h.opcShadow e),
    fun e => (g.bwStart e).trans (h.bwStart e)⟩

theorem Keep.refl (s : State) : Keep W s s := ⟨rfl, id, id, id, le_rfl, rfl, Unchanged.refl s⟩

theorem Keep.trans (h : Keep W s0 s) (g : Keep W s t) : Keep W s0 t :=
  ⟨g.pending.trans h.pending, g.mem ∘ h.mem, g.bbs ∘ h.bbs, g.regs ∘ h.regs, h.fresh.trans g.fresh, g.identity.trans h.identity,
    h.parts.trans g.parts⟩

theorem Parts.blk_true {b : Block} (h : W.blk b = true) : W.blk b = true := h

/-- A field of a block outside the set has another key than one of a block inside. -/
theorem blk_key {f g : Fld} {i j k l : Nat} (w : W.blk f.reg.block = true) (e : W.blk g.reg.block = false) : g.key k l ≠ f.key i j := fun h => by
  rw [(Fld.key_eq.mp h).1, w] at e; cases e

theorem Parts.no {b : Bool} {p : Prop} (w : b = true) (e : b = false) : p := by rw [w] at e; cases e

/-! ## Record updates, by the parts that they name -/

theorem Keep.upd_badRecord {x_badRecord}  (h : Keep W s0 s) (w_badRecord : W.badRecord = true := by first | assumption | rfl) :
    Keep W s0 (State.mk s.regs s.mem s.bbs s.clk s.modTime s.resetAt s.fresh s.out s.lastRead s.struct s.wparts s.rings s.irqs s.badUnits x_badRecord s.reruns s.po s.cv s.ptp s.faults s.lease s.identity s.linkSignal s.sec s.pages s.serve s.slots s.fabric s.stk s.links s.video s.power s.fw s.sdio s.mgmt s.cores s.dbg s.perf s.opc s.opcShadow s.bwStart s.pending) :=
  h.trans ⟨rfl, id, id, id, le_rfl, rfl, ⟨fun _ _ _ _ => rfl, fun _ => rfl, fun _ => rfl, fun _ => rfl, fun _ => rfl, fun _ => rfl, fun _ => rfl, fun _ => rfl, fun _ => rfl, fun _ => rfl, fun _ => rfl, fun _ => rfl, fun _ => rfl, Parts.no w_badRecord, fun _ => rfl, fun _ => rfl, fun _ => rfl, fun _ => rfl, fun _ => rfl, fun _ => rfl, fun _ => rfl, fun _ => rfl, fun _ => rfl, fun _ => rfl, fun _ => rfl, fun _ => rfl, fun _ => rfl, fun _ => rfl, fun _ => rfl, fun _ => rfl, fun _ => rfl, fun _ => rfl, fun _ => rfl, fun _ => rfl, fun _ => rfl, fun _ => rfl, fun _ => rfl, fun _ => rfl, fun _ => rfl⟩⟩

theorem Keep.upd_badUnits {x_badUnits}  (h : Keep W s0 s) (w_badUnits : W.badUnits = true := by first | assumption | rfl) :
    Keep W s0 (State.mk s.regs s.mem s.bbs s.clk s.modTime s.resetAt s.fresh s.out s.lastRead s.struct s.wparts s.rings s.irqs x_badUnits s.badRecord s.reruns s.po s.cv s.ptp s.faults s.lease s.identity s.linkSignal s.sec s.pages s.serve s.slots s.fabric s.stk s.links s.video s.power s.fw s.sdio s.mgmt s.cores s.dbg s.perf s.opc s.opcShadow s.bwStart s.pending) :=
  h.trans ⟨rfl, id, id, id, le_rfl, rfl, ⟨fun _ _ _ _ => rfl, fun _ => rfl, fun _ => rfl, fun _ => rfl, fun _ => rfl, fun _ => rfl, fun _ => rfl, fun _ => rfl, fun _ => rfl, fun _ => rfl, fun _ => rfl, fun _ => rfl, Parts.no w_badUnits, fun _ => rfl, fun _ => rfl, fun _ => rfl, fun _ => rfl, fun _ => rfl, fun _ => rfl, fun _ => rfl, fun _ => rfl, fun _ => rfl, fun _ => rfl, fun _ => rfl, fun _ => rfl, fun _ => rfl, fun _ => rfl, fun _ => rfl, fun _ => rfl, fun _ => rfl, fun _ => rfl, fun _ => rfl, fun _ => rfl, fun _ => rfl, fun _ => rfl, fun _ => rfl, fun _ => rfl, fun _ => rfl, fun _ => rfl⟩⟩

theorem Keep.upd_bwStart {x_bwStart}  (h : Keep W s0 s) (w_bwStart : W.bwStart = true := by first | assumption | rfl) :
    Keep W s0 (State.mk s.regs s.mem s.bbs s.clk s.modTime s.resetAt s.fresh s.out s.lastRead s.struct s.wparts s.rings s.irqs s.badUnits s.badRecord s.reruns s.po s.cv s.ptp s.faults s.lease s.identity s.linkSignal s.sec s.pages s.serve s.slots s.fabric s.stk s.links s.video s.power s.fw s.sdio s.mgmt s.cores s.dbg s.perf s.opc s.opcShadow x_bwStart s.pending) :=
  h.trans ⟨rfl, id, id, id, le_rfl, rfl, ⟨fun _ _ _ _ => rfl, fun _ => rfl, fun _ => rfl, fun _ => rfl, fun _ => rfl, fun _ => rfl, fun _ => rfl, fun _ => rfl, fun _ => rfl, fun _ => rfl, fun _ => rfl, fun _ => rfl, fun _ => rfl, fun _ => rfl, fun _ => rfl, fun _ => rfl, fun _ => rfl, fun _ => rfl, fun _ => rfl, fun _ => rfl, fun _ => rfl, fun _ => rfl, fun _ => rfl, fun _ => rfl, fun _ => rfl, fun _ => rfl, fun _ => rfl, fun _ => rfl, fun _ => rfl, fun _ => rfl, fun _ => rfl, fun _ => rfl, fun _ => rfl, fun _ => rfl, fun _ => rfl, fun _ => rfl, fun _ => rfl, fun _ => rfl, Parts.no w_bwStart⟩⟩

theorem Keep.upd_cores {x_cores}  (h : Keep W s0 s) (w_cores : W.cores = true := by first | assumption | rfl) :
    Keep W s0 (State.mk s.regs s.mem s.bbs s.clk s.modTime s.resetAt s.fresh s.out s.lastRead s.struct s.wparts s.rings s.irqs s.badUnits s.badRecord s.reruns s.po s.cv s.ptp s.faults s.lease s.identity s.linkSignal s.sec s.pages s.serve s.slots s.fabric s.stk s.links s.video s.power s.fw s.sdio s.mgmt x_cores s.dbg s.perf s.opc s.opcShadow s.bwStart s.pending) :=
  h.trans ⟨rfl, id, id, id, le_rfl, rfl, ⟨fun _ _ _ _ => rfl, fun _ => rfl, fun _ => rfl, fun _ => rfl, fun _ => rfl, fun _ => rfl, fun _ => rfl, fun _ => rfl, fun _ => rfl, fun _ => rfl, fun _ => rfl, fun _ => rfl, fun _ => rfl, fun _ => rfl, fun _ => rfl, fun _ => rfl, fun _ => rfl, fun _ => rfl, fun _ => rfl, fun _ => rfl, fun _ => rfl, fun _ => rfl, fun _ => rfl, fun _ => rfl, fun _ => rfl, fun _ => rfl, fun _ => rfl, fun _ => rfl, fun _ => rfl, fun _ => rfl, fun _ => rfl, fun _ => rfl, fun _ => rfl, Parts.no w_cores, fun _ => rfl, fun _ => rfl, fun _ => rfl, fun _ => rfl, fun _ => rfl⟩⟩

theorem Keep.upd_cv {x_cv}  (h : Keep W s0 s) (w_cv : W.cv = true := by first | assumption | rfl) :
    Keep W s0 (State.mk s.regs s.mem s.bbs s.clk s.modTime s.resetAt s.fresh s.out s.lastRead s.struct s.wparts s.rings s.irqs s.badUnits s.badRecord s.reruns s.po x_cv s.ptp s.faults s.lease s.identity s.linkSignal s.sec s.pages s.serve s.slots s.fabric s.stk s.links s.video s.power s.fw s.sdio s.mgmt s.cores s.dbg s.perf s.opc s.opcShadow s.bwStart s.pending) :=
  h.trans ⟨rfl, id, id, id, le_rfl, rfl, ⟨fun _ _ _ _ => rfl, fun _ => rfl, fun _ => rfl, fun _ => rfl, fun _ => rfl, fun _ => rfl, fun _ => rfl, fun _ => rfl, fun _ => rfl, fun _ => rfl, fun _ => rfl, fun _ => rfl, fun _ => rfl, fun _ => rfl, fun _ => rfl, fun _ => rfl, Parts.no w_cv, fun _ => rfl, fun _ => rfl, fun _ => rfl, fun _ => rfl, fun _ => rfl, fun _ => rfl, fun _ => rfl, fun _ => rfl, fun _ => rfl, fun _ => rfl, fun _ => rfl, fun _ => rfl, fun _ => rfl, fun _ => rfl, fun _ => rfl, fun _ => rfl, fun _ => rfl, fun _ => rfl, fun _ => rfl, fun _ => rfl, fun _ => rfl, fun _ => rfl⟩⟩

theorem Keep.upd_dbg {x_dbg}  (h : Keep W s0 s) (w_dbg : W.dbg = true := by first | assumption | rfl) :
    Keep W s0 (State.mk s.regs s.mem s.bbs s.clk s.modTime s.resetAt s.fresh s.out s.lastRead s.struct s.wparts s.rings s.irqs s.badUnits s.badRecord s.reruns s.po s.cv s.ptp s.faults s.lease s.identity s.linkSignal s.sec s.pages s.serve s.slots s.fabric s.stk s.links s.video s.power s.fw s.sdio s.mgmt s.cores x_dbg s.perf s.opc s.opcShadow s.bwStart s.pending) :=
  h.trans ⟨rfl, id, id, id, le_rfl, rfl, ⟨fun _ _ _ _ => rfl, fun _ => rfl, fun _ => rfl, fun _ => rfl, fun _ => rfl, fun _ => rfl, fun _ => rfl, fun _ => rfl, fun _ => rfl, fun _ => rfl, fun _ => rfl, fun _ => rfl, fun _ => rfl, fun _ => rfl, fun _ => rfl, fun _ => rfl, fun _ => rfl, fun _ => rfl, fun _ => rfl, fun _ => rfl, fun _ => rfl, fun _ => rfl, fun _ => rfl, fun _ => rfl, fun _ => rfl, fun _ => rfl, fun _ => rfl, fun _ => rfl, fun _ => rfl, fun _ => rfl, fun _ => rfl, fun _ => rfl, fun _ => rfl, fun _ => rfl, Parts.no w_dbg, fun _ => rfl, fun _ => rfl, fun _ => rfl, fun _ => rfl⟩⟩

theorem Keep.upd_fabric {x_fabric}  (h : Keep W s0 s) (w_fabric : W.fabric = true := by first | assumption | rfl) :
    Keep W s0 (State.mk s.regs s.mem s.bbs s.clk s.modTime s.resetAt s.fresh s.out s.lastRead s.struct s.wparts s.rings s.irqs s.badUnits s.badRecord s.reruns s.po s.cv s.ptp s.faults s.lease s.identity s.linkSignal s.sec s.pages s.serve s.slots x_fabric s.stk s.links s.video s.power s.fw s.sdio s.mgmt s.cores s.dbg s.perf s.opc s.opcShadow s.bwStart s.pending) :=
  h.trans ⟨rfl, id, id, id, le_rfl, rfl, ⟨fun _ _ _ _ => rfl, fun _ => rfl, fun _ => rfl, fun _ => rfl, fun _ => rfl, fun _ => rfl, fun _ => rfl, fun _ => rfl, fun _ => rfl, fun _ => rfl, fun _ => rfl, fun _ => rfl, fun _ => rfl, fun _ => rfl, fun _ => rfl, fun _ => rfl, fun _ => rfl, fun _ => rfl, fun _ => rfl, fun _ => rfl, fun _ => rfl, fun _ => rfl, fun _ => rfl, fun _ => rfl, fun _ => rfl, Parts.no w_fabric, fun _ => rfl, fun _ => rfl, fun _ => rfl, fun _ => rfl, fun _ => rfl, fun _ => rfl, fun _ => rfl, fun _ => rfl, fun _ => rfl, fun _ => rfl, fun _ => rfl, fun _ => rfl, fun _ => rfl⟩⟩

theorem Keep.upd_faults {x_faults}  (h : Keep W s0 s) (w_faults : W.faults = true := by first | assumption | rfl) :
    Keep W s0 (State.mk s.regs s.mem s.bbs s.clk s.modTime s.resetAt s.fresh s.out s.lastRead s.struct s.wparts s.rings s.irqs s.badUnits s.badRecord s.reruns s.po s.cv s.ptp x_faults s.lease s.identity s.linkSignal s.sec s.pages s.serve s.slots s.fabric s.stk s.links s.video s.power s.fw s.sdio s.mgmt s.cores s.dbg s.perf s.opc s.opcShadow s.bwStart s.pending) :=
  h.trans ⟨rfl, id, id, id, le_rfl, rfl, ⟨fun _ _ _ _ => rfl, fun _ => rfl, fun _ => rfl, fun _ => rfl, fun _ => rfl, fun _ => rfl, fun _ => rfl, fun _ => rfl, fun _ => rfl, fun _ => rfl, fun _ => rfl, fun _ => rfl, fun _ => rfl, fun _ => rfl, fun _ => rfl, fun _ => rfl, fun _ => rfl, fun _ => rfl, Parts.no w_faults, fun _ => rfl, fun _ => rfl, fun _ => rfl, fun _ => rfl, fun _ => rfl, fun _ => rfl, fun _ => rfl, fun _ => rfl, fun _ => rfl, fun _ => rfl, fun _ => rfl, fun _ => rfl, fun _ => rfl, fun _ => rfl, fun _ => rfl, fun _ => rfl, fun _ => rfl, fun _ => rfl, fun _ => rfl, fun _ => rfl⟩⟩

theorem Keep.upd_fresh  {k : Nat} (h : Keep W s0 s)  :
    Keep W s0 (State.mk s.regs s.mem s.bbs s.clk s.modTime s.resetAt (s.fresh + k) s.out s.lastRead s.struct s.wparts s.rings s.irqs s.badUnits s.badRecord s.reruns s.po s.cv s.ptp s.faults s.lease s.identity s.linkSignal s.sec s.pages s.serve s.slots s.fabric s.stk s.links s.video s.power s.fw s.sdio s.mgmt s.cores s.dbg s.perf s.opc s.opcShadow s.bwStart s.pending) :=
  h.trans ⟨rfl, id, id, id, Nat.le_add_right _ _, rfl, ⟨fun _ _ _ _ => rfl, fun _ => rfl, fun _ => rfl, fun _ => rfl, fun _ => rfl, fun _ => rfl, fun _ => rfl, fun _ => rfl, fun _ => rfl, fun _ => rfl, fun _ => rfl, fun _ => rfl, fun _ => rfl, fun _ => rfl, fun _ => rfl, fun _ => rfl, fun _ => rfl, fun _ => rfl, fun _ => rfl, fun _ => rfl, fun _ => rfl, fun _ => rfl, fun _ => rfl, fun _ => rfl, fun _ => rfl, fun _ => rfl, fun _ => rfl, fun _ => rfl, fun _ => rfl, fun _ => rfl, fun _ => rfl, fun _ => rfl, fun _ => rfl, fun _ => rfl, fun _ => rfl, fun _ => rfl, fun _ => rfl, fun _ => rfl, fun _ => rfl⟩⟩

theorem Keep.upd_fw {x_fw}  (h : Keep W s0 s) (w_fw : W.fw = true := by first | assumption | rfl) :
    Keep W s0 (State.mk s.regs s.mem s.bbs s.clk s.modTime s.resetAt s.fresh s.out s.lastRead s.struct s.wparts s.rings s.irqs s.badUnits s.badRecord s.reruns s.po s.cv s.ptp s.faults s.lease s.identity s.linkSignal s.sec s.pages s.serve s.slots s.fabric s.stk s.links s.video s.power x_fw s.sdio s.mgmt s.cores s.dbg s.perf s.opc s.opcShadow s.bwStart s.pending) :=
  h.trans ⟨rfl, id, id, id, le_rfl, rfl, ⟨fun _ _ _ _ => rfl, fun _ => rfl, fun _ => rfl, fun _ => rfl, fun _ => rfl, fun _ => rfl, fun _ => rfl, fun _ => rfl, fun _ => rfl, fun _ => rfl, fun _ => rfl, fun _ => rfl, fun _ => rfl, fun _ => rfl, fun _ => rfl, fun _ => rfl, fun _ => rfl, fun _ => rfl, fun _ => rfl, fun _ => rfl, fun _ => rfl, fun _ => rfl, fun _ => rfl, fun _ => rfl, fun _ => rfl, fun _ => rfl, fun _ => rfl, fun _ => rfl, fun _ => rfl, fun _ => rfl, Parts.no w_fw, fun _ => rfl, fun _ => rfl, fun _ => rfl, fun _ => rfl, fun _ => rfl, fun _ => rfl, fun _ => rfl, fun _ => rfl⟩⟩

theorem Keep.upd_irqs {x_irqs}  (h : Keep W s0 s) (w_irqs : W.irqs = true := by first | assumption | rfl) :
    Keep W s0 (State.mk s.regs s.mem s.bbs s.clk s.modTime s.resetAt s.fresh s.out s.lastRead s.struct s.wparts s.rings x_irqs s.badUnits s.badRecord s.reruns s.po s.cv s.ptp s.faults s.lease s.identity s.linkSignal s.sec s.pages s.serve s.slots s.fabric s.stk s.links s.video s.power s.fw s.sdio s.mgmt s.cores s.dbg s.perf s.opc s.opcShadow s.bwStart s.pending) :=
  h.trans ⟨rfl, id, id, id, le_rfl, rfl, ⟨fun _ _ _ _ => rfl, fun _ => rfl, fun _ => rfl, fun _ => rfl, fun _ => rfl, fun _ => rfl, fun _ => rfl, fun _ => rfl, fun _ => rfl, fun _ => rfl, fun _ => rfl, Parts.no w_irqs, fun _ => rfl, fun _ => rfl, fun _ => rfl, fun _ => rfl, fun _ => rfl, fun _ => rfl, fun _ => rfl, fun _ => rfl, fun _ => rfl, fun _ => rfl, fun _ => rfl, fun _ => rfl, fun _ => rfl, fun _ => rfl, fun _ => rfl, fun _ => rfl, fun _ => rfl, fun _ => rfl, fun _ => rfl, fun _ => rfl, fun _ => rfl, fun _ => rfl, fun _ => rfl, fun _ => rfl, fun _ => rfl, fun _ => rfl, fun _ => rfl⟩⟩

theorem Keep.upd_lastRead {x_lastRead}  (h : Keep W s0 s) (w_lastRead : W.lastRead = true := by first | assumption | rfl) :
    Keep W s0 (State.mk s.regs s.mem s.bbs s.clk s.modTime s.resetAt s.fresh s.out x_lastRead s.struct s.wparts s.rings s.irqs s.badUnits s.badRecord s.reruns s.po s.cv s.ptp s.faults s.lease s.identity s.linkSignal s.sec s.pages s.serve s.slots s.fabric s.stk s.links s.video s.power s.fw s.sdio s.mgmt s.cores s.dbg s.perf s.opc s.opcShadow s.bwStart s.pending) :=
  h.trans ⟨rfl, id, id, id, le_rfl, rfl, ⟨fun _ _ _ _ => rfl, fun _ => rfl, fun _ => rfl, fun _ => rfl, fun _ => rfl, fun _ => rfl, fun _ => rfl, Parts.no w_lastRead, fun _ => rfl, fun _ => rfl, fun _ => rfl, fun _ => rfl, fun _ => rfl, fun _ => rfl, fun _ => rfl, fun _ => rfl, fun _ => rfl, fun _ => rfl, fun _ => rfl, fun _ => rfl, fun _ => rfl, fun _ => rfl, fun _ => rfl, fun _ => rfl, fun _ => rfl, fun _ => rfl, fun _ => rfl, fun _ => rfl, fun _ => rfl, fun _ => rfl, fun _ => rfl, fun _ => rfl, fun _ => rfl, fun _ => rfl, fun _ => rfl, fun _ => rfl, fun _ => rfl, fun _ => rfl, fun _ => rfl⟩⟩

theorem Keep.upd_lease {x_lease}  (h : Keep W s0 s) (w_lease : W.lease = true := by first | assumption | rfl) :
    Keep W s0 (State.mk s.regs s.mem s.bbs s.clk s.modTime s.resetAt s.fresh s.out s.lastRead s.struct s.wparts s.rings s.irqs s.badUnits s.badRecord s.reruns s.po s.cv s.ptp s.faults x_lease s.identity s.linkSignal s.sec s.pages s.serve s.slots s.fabric s.stk s.links s.video s.power s.fw s.sdio s.mgmt s.cores s.dbg s.perf s.opc s.opcShadow s.bwStart s.pending) :=
  h.trans ⟨rfl, id, id, id, le_rfl, rfl, ⟨fun _ _ _ _ => rfl, fun _ => rfl, fun _ => rfl, fun _ => rfl, fun _ => rfl, fun _ => rfl, fun _ => rfl, fun _ => rfl, fun _ => rfl, fun _ => rfl, fun _ => rfl, fun _ => rfl, fun _ => rfl, fun _ => rfl, fun _ => rfl, fun _ => rfl, fun _ => rfl, fun _ => rfl, fun _ => rfl, Parts.no w_lease, fun _ => rfl, fun _ => rfl, fun _ => rfl, fun _ => rfl, fun _ => rfl, fun _ => rfl, fun _ => rfl, fun _ => rfl, fun _ => rfl, fun _ => rfl, fun _ => rfl, fun _ => rfl, fun _ => rfl, fun _ => rfl, fun _ => rfl, fun _ => rfl, fun _ => rfl, fun _ => rfl, fun _ => rfl⟩⟩

theorem Keep.upd_linkSignal {x_linkSignal}  (h : Keep W s0 s) (w_linkSignal : W.linkSignal = true := by first | assumption | rfl) :
    Keep W s0 (State.mk s.regs s.mem s.bbs s.clk s.modTime s.resetAt s.fresh s.out s.lastRead s.struct s.wparts s.rings s.irqs s.badUnits s.badRecord s.reruns s.po s.cv s.ptp s.faults s.lease s.identity x_linkSignal s.sec s.pages s.serve s.slots s.fabric s.stk s.links s.video s.power s.fw s.sdio s.mgmt s.cores s.dbg s.perf s.opc s.opcShadow s.bwStart s.pending) :=
  h.trans ⟨rfl, id, id, id, le_rfl, rfl, ⟨fun _ _ _ _ => rfl, fun _ => rfl, fun _ => rfl, fun _ => rfl, fun _ => rfl, fun _ => rfl, fun _ => rfl, fun _ => rfl, fun _ => rfl, fun _ => rfl, fun _ => rfl, fun _ => rfl, fun _ => rfl, fun _ => rfl, fun _ => rfl, fun _ => rfl, fun _ => rfl, fun _ => rfl, fun _ => rfl, fun _ => rfl, Parts.no w_linkSignal, fun _ => rfl, fun _ => rfl, fun _ => rfl, fun _ => rfl, fun _ => rfl, fun _ => rfl, fun _ => rfl, fun _ => rfl, fun _ => rfl, fun _ => rfl, fun _ => rfl, fun _ => rfl, fun _ => rfl, fun _ => rfl, fun _ => rfl, fun _ => rfl, fun _ => rfl, fun _ => rfl⟩⟩

theorem Keep.upd_links {x_links}  (h : Keep W s0 s) (w_links : W.links = true := by first | assumption | rfl) :
    Keep W s0 (State.mk s.regs s.mem s.bbs s.clk s.modTime s.resetAt s.fresh s.out s.lastRead s.struct s.wparts s.rings s.irqs s.badUnits s.badRecord s.reruns s.po s.cv s.ptp s.faults s.lease s.identity s.linkSignal s.sec s.pages s.serve s.slots s.fabric s.stk x_links s.video s.power s.fw s.sdio s.mgmt s.cores s.dbg s.perf s.opc s.opcShadow s.bwStart s.pending) :=
  h.trans ⟨rfl, id, id, id, le_rfl, rfl, ⟨fun _ _ _ _ => rfl, fun _ => rfl, fun _ => rfl, fun _ => rfl, fun _ => rfl, fun _ => rfl, fun _ => rfl, fun _ => rfl, fun _ => rfl, fun _ => rfl, fun _ => rfl, fun _ => rfl, fun _ => rfl, fun _ => rfl, fun _ => rfl, fun _ => rfl, fun _ => rfl, fun _ => rfl, fun _ => rfl, fun _ => rfl, fun _ => rfl, fun _ => rfl, fun _ => rfl, fun _ => rfl, fun _ => rfl, fun _ => rfl, fun _ => rfl, Parts.no w_links, fun _ => rfl, fun _ => rfl, fun _ => rfl, fun _ => rfl, fun _ => rfl, fun _ => rfl, fun _ => rfl, fun _ => rfl, fun _ => rfl, fun _ => rfl, fun _ => rfl⟩⟩

theorem Keep.upd_mgmt {x_mgmt}  (h : Keep W s0 s) (w_mgmt : W.mgmt = true := by first | assumption | rfl) :
    Keep W s0 (State.mk s.regs s.mem s.bbs s.clk s.modTime s.resetAt s.fresh s.out s.lastRead s.struct s.wparts s.rings s.irqs s.badUnits s.badRecord s.reruns s.po s.cv s.ptp s.faults s.lease s.identity s.linkSignal s.sec s.pages s.serve s.slots s.fabric s.stk s.links s.video s.power s.fw s.sdio x_mgmt s.cores s.dbg s.perf s.opc s.opcShadow s.bwStart s.pending) :=
  h.trans ⟨rfl, id, id, id, le_rfl, rfl, ⟨fun _ _ _ _ => rfl, fun _ => rfl, fun _ => rfl, fun _ => rfl, fun _ => rfl, fun _ => rfl, fun _ => rfl, fun _ => rfl, fun _ => rfl, fun _ => rfl, fun _ => rfl, fun _ => rfl, fun _ => rfl, fun _ => rfl, fun _ => rfl, fun _ => rfl, fun _ => rfl, fun _ => rfl, fun _ => rfl, fun _ => rfl, fun _ => rfl, fun _ => rfl, fun _ => rfl, fun _ => rfl, fun _ => rfl, fun _ => rfl, fun _ => rfl, fun _ => rfl, fun _ => rfl, fun _ => rfl, fun _ => rfl, fun _ => rfl, Parts.no w_mgmt, fun _ => rfl, fun _ => rfl, fun _ => rfl, fun _ => rfl, fun _ => rfl, fun _ => rfl⟩⟩

theorem Keep.upd_opc {x_opc}  (h : Keep W s0 s) (w_opc : W.opc = true := by first | assumption | rfl) :
    Keep W s0 (State.mk s.regs s.mem s.bbs s.clk s.modTime s.resetAt s.fresh s.out s.lastRead s.struct s.wparts s.rings s.irqs s.badUnits s.badRecord s.reruns s.po s.cv s.ptp s.faults s.lease s.identity s.linkSignal s.sec s.pages s.serve s.slots s.fabric s.stk s.links s.video s.power s.fw s.sdio s.mgmt s.cores s.dbg s.perf x_opc s.opcShadow s.bwStart s.pending) :=
  h.trans ⟨rfl, id, id, id, le_rfl, rfl, ⟨fun _ _ _ _ => rfl, fun _ => rfl, fun _ => rfl, fun _ => rfl, fun _ => rfl, fun _ => rfl, fun _ => rfl, fun _ => rfl, fun _ => rfl, fun _ => rfl, fun _ => rfl, fun _ => rfl, fun _ => rfl, fun _ => rfl, fun _ => rfl, fun _ => rfl, fun _ => rfl, fun _ => rfl, fun _ => rfl, fun _ => rfl, fun _ => rfl, fun _ => rfl, fun _ => rfl, fun _ => rfl, fun _ => rfl, fun _ => rfl, fun _ => rfl, fun _ => rfl, fun _ => rfl, fun _ => rfl, fun _ => rfl, fun _ => rfl, fun _ => rfl, fun _ => rfl, fun _ => rfl, fun _ => rfl, Parts.no w_opc, fun _ => rfl, fun _ => rfl⟩⟩

theorem Keep.upd_opcShadow {x_opcShadow}  (h : Keep W s0 s) (w_opcShadow : W.opcShadow = true := by first | assumption | rfl) :
    Keep W s0 (State.mk s.regs s.mem s.bbs s.clk s.modTime s.resetAt s.fresh s.out s.lastRead s.struct s.wparts s.rings s.irqs s.badUnits s.badRecord s.reruns s.po s.cv s.ptp s.faults s.lease s.identity s.linkSignal s.sec s.pages s.serve s.slots s.fabric s.stk s.links s.video s.power s.fw s.sdio s.mgmt s.cores s.dbg s.perf s.opc x_opcShadow s.bwStart s.pending) :=
  h.trans ⟨rfl, id, id, id, le_rfl, rfl, ⟨fun _ _ _ _ => rfl, fun _ => rfl, fun _ => rfl, fun _ => rfl, fun _ => rfl, fun _ => rfl, fun _ => rfl, fun _ => rfl, fun _ => rfl, fun _ => rfl, fun _ => rfl, fun _ => rfl, fun _ => rfl, fun _ => rfl, fun _ => rfl, fun _ => rfl, fun _ => rfl, fun _ => rfl, fun _ => rfl, fun _ => rfl, fun _ => rfl, fun _ => rfl, fun _ => rfl, fun _ => rfl, fun _ => rfl, fun _ => rfl, fun _ => rfl, fun _ => rfl, fun _ => rfl, fun _ => rfl, fun _ => rfl, fun _ => rfl, fun _ => rfl, fun _ => rfl, fun _ => rfl, fun _ => rfl, fun _ => rfl, Parts.no w_opcShadow, fun _ => rfl⟩⟩

theorem Keep.upd_out {x_out}  (h : Keep W s0 s) (w_out : W.out = true := by first | assumption | rfl) :
    Keep W s0 (State.mk s.regs s.mem s.bbs s.clk s.modTime s.resetAt s.fresh x_out s.lastRead s.struct s.wparts s.rings s.irqs s.badUnits s.badRecord s.reruns s.po s.cv s.ptp s.faults s.lease s.identity s.linkSignal s.sec s.pages s.serve s.slots s.fabric s.stk s.links s.video s.power s.fw s.sdio s.mgmt s.cores s.dbg s.perf s.opc s.opcShadow s.bwStart s.pending) :=
  h.trans ⟨rfl, id, id, id, le_rfl, rfl, ⟨fun _ _ _ _ => rfl, fun _ => rfl, fun _ => rfl, fun _ => rfl, fun _ => rfl, fun _ => rfl, Parts.no w_out, fun _ => rfl, fun _ => rfl, fun _ => rfl, fun _ => rfl, fun _ => rfl, fun _ => rfl, fun _ => rfl, fun _ => rfl, fun _ => rfl, fun _ => rfl, fun _ => rfl, fun _ => rfl, fun _ => rfl, fun _ => rfl, fun _ => rfl, fun _ => rfl, fun _ => rfl, fun _ => rfl, fun _ => rfl, fun _ => rfl, fun _ => rfl, fun _ => rfl, fun _ => rfl, fun _ => rfl, fun _ => rfl, fun _ => rfl, fun _ => rfl, fun _ => rfl, fun _ => rfl, fun _ => rfl, fun _ => rfl, fun _ => rfl⟩⟩

theorem Keep.upd_pages {x_pages}  (h : Keep W s0 s) (w_pages : W.pages = true := by first | assumption | rfl) :
    Keep W s0 (State.mk s.regs s.mem s.bbs s.clk s.modTime s.resetAt s.fresh s.out s.lastRead s.struct s.wparts s.rings s.irqs s.badUnits s.badRecord s.reruns s.po s.cv s.ptp s.faults s.lease s.identity s.linkSignal s.sec x_pages s.serve s.slots s.fabric s.stk s.links s.video s.power s.fw s.sdio s.mgmt s.cores s.dbg s.perf s.opc s.opcShadow s.bwStart s.pending) :=
  h.trans ⟨rfl, id, id, id, le_rfl, rfl, ⟨fun _ _ _ _ => rfl, fun _ => rfl, fun _ => rfl, fun _ => rfl, fun _ => rfl, fun _ => rfl, fun _ => rfl, fun _ => rfl, fun _ => rfl, fun _ => rfl, fun _ => rfl, fun _ => rfl, fun _ => rfl, fun _ => rfl, fun _ => rfl, fun _ => rfl, fun _ => rfl, fun _ => rfl, fun _ => rfl, fun _ => rfl, fun _ => rfl, fun _ => rfl, Parts.no w_pages, fun _ => rfl, fun _ => rfl, fun _ => rfl, fun _ => rfl, fun _ => rfl, fun _ => rfl, fun _ => rfl, fun _ => rfl, fun _ => rfl, fun _ => rfl, fun _ => rfl, fun _ => rfl, fun _ => rfl, fun _ => rfl, fun _ => rfl, fun _ => rfl⟩⟩

theorem Keep.upd_perf {x_perf}  (h : Keep W s0 s) (w_perf : W.perf = true := by first | assumption | rfl) :
    Keep W s0 (State.mk s.regs s.mem s.bbs s.clk s.modTime s.resetAt s.fresh s.out s.lastRead s.struct s.wparts s.rings s.irqs s.badUnits s.badRecord s.reruns s.po s.cv s.ptp s.faults s.lease s.identity s.linkSignal s.sec s.pages s.serve s.slots s.fabric s.stk s.links s.video s.power s.fw s.sdio s.mgmt s.cores s.dbg x_perf s.opc s.opcShadow s.bwStart s.pending) :=
  h.trans ⟨rfl, id, id, id, le_rfl, rfl, ⟨fun _ _ _ _ => rfl, fun _ => rfl, fun _ => rfl, fun _ => rfl, fun _ => rfl, fun _ => rfl, fun _ => rfl, fun _ => rfl, fun _ => rfl, fun _ => rfl, fun _ => rfl, fun _ => rfl, fun _ => rfl, fun _ => rfl, fun _ => rfl, fun _ => rfl, fun _ => rfl, fun _ => rfl, fun _ => rfl, fun _ => rfl, fun _ => rfl, fun _ => rfl, fun _ => rfl, fun _ => rfl, fun _ => rfl, fun _ => rfl, fun _ => rfl, fun _ => rfl, fun _ => rfl, fun _ => rfl, fun _ => rfl, fun _ => rfl, fun _ => rfl, fun _ => rfl, fun _ => rfl, Parts.no w_perf, fun _ => rfl, fun _ => rfl, fun _ => rfl⟩⟩

theorem Keep.upd_po {x_po}  (h : Keep W s0 s) (w_po : W.po = true := by first | assumption | rfl) :
    Keep W s0 (State.mk s.regs s.mem s.bbs s.clk s.modTime s.resetAt s.fresh s.out s.lastRead s.struct s.wparts s.rings s.irqs s.badUnits s.badRecord s.reruns x_po s.cv s.ptp s.faults s.lease s.identity s.linkSignal s.sec s.pages s.serve s.slots s.fabric s.stk s.links s.video s.power s.fw s.sdio s.mgmt s.cores s.dbg s.perf s.opc s.opcShadow s.bwStart s.pending) :=
  h.trans ⟨rfl, id, id, id, le_rfl, rfl, ⟨fun _ _ _ _ => rfl, fun _ => rfl, fun _ => rfl, fun _ => rfl, fun _ => rfl, fun _ => rfl, fun _ => rfl, fun _ => rfl, fun _ => rfl, fun _ => rfl, fun _ => rfl, fun _ => rfl, fun _ => rfl, fun _ => rfl, fun _ => rfl, Parts.no w_po, fun _ => rfl, fun _ => rfl, fun _ => rfl, fun _ => rfl, fun _ => rfl, fun _ => rfl, fun _ => rfl, fun _ => rfl, fun _ => rfl, fun _ => rfl, fun _ => rfl, fun _ => rfl, fun _ => rfl, fun _ => rfl, fun _ => rfl, fun _ => rfl, fun _ => rfl, fun _ => rfl, fun _ => rfl, fun _ => rfl, fun _ => rfl, fun _ => rfl, fun _ => rfl⟩⟩

theorem Keep.upd_power {x_power}  (h : Keep W s0 s) (w_power : W.power = true := by first | assumption | rfl) :
    Keep W s0 (State.mk s.regs s.mem s.bbs s.clk s.modTime s.resetAt s.fresh s.out s.lastRead s.struct s.wparts s.rings s.irqs s.badUnits s.badRecord s.reruns s.po s.cv s.ptp s.faults s.lease s.identity s.linkSignal s.sec s.pages s.serve s.slots s.fabric s.stk s.links s.video x_power s.fw s.sdio s.mgmt s.cores s.dbg s.perf s.opc s.opcShadow s.bwStart s.pending) :=
  h.trans ⟨rfl, id, id, id, le_rfl, rfl, ⟨fun _ _ _ _ => rfl, fun _ => rfl, fun _ => rfl, fun _ => rfl, fun _ => rfl, fun _ => rfl, fun _ => rfl, fun _ => rfl, fun _ => rfl, fun _ => rfl, fun _ => rfl, fun _ => rfl, fun _ => rfl, fun _ => rfl, fun _ => rfl, fun _ => rfl, fun _ => rfl, fun _ => rfl, fun _ => rfl, fun _ => rfl, fun _ => rfl, fun _ => rfl, fun _ => rfl, fun _ => rfl, fun _ => rfl, fun _ => rfl, fun _ => rfl, fun _ => rfl, fun _ => rfl, Parts.no w_power, fun _ => rfl, fun _ => rfl, fun _ => rfl, fun _ => rfl, fun _ => rfl, fun _ => rfl, fun _ => rfl, fun _ => rfl, fun _ => rfl⟩⟩

theorem Keep.upd_ptp {x_ptp}  (h : Keep W s0 s) (w_ptp : W.ptp = true := by first | assumption | rfl) :
    Keep W s0 (State.mk s.regs s.mem s.bbs s.clk s.modTime s.resetAt s.fresh s.out s.lastRead s.struct s.wparts s.rings s.irqs s.badUnits s.badRecord s.reruns s.po s.cv x_ptp s.faults s.lease s.identity s.linkSignal s.sec s.pages s.serve s.slots s.fabric s.stk s.links s.video s.power s.fw s.sdio s.mgmt s.cores s.dbg s.perf s.opc s.opcShadow s.bwStart s.pending) :=
  h.trans ⟨rfl, id, id, id, le_rfl, rfl, ⟨fun _ _ _ _ => rfl, fun _ => rfl, fun _ => rfl, fun _ => rfl, fun _ => rfl, fun _ => rfl, fun _ => rfl, fun _ => rfl, fun _ => rfl, fun _ => rfl, fun _ => rfl, fun _ => rfl, fun _ => rfl, fun _ => rfl, fun _ => rfl, fun _ => rfl, fun _ => rfl, Parts.no w_ptp, fun _ => rfl, fun _ => rfl, fun _ => rfl, fun _ => rfl, fun _ => rfl, fun _ => rfl, fun _ => rfl, fun _ => rfl, fun _ => rfl, fun _ => rfl, fun _ => rfl, fun _ => rfl, fun _ => rfl, fun _ => rfl, fun _ => rfl, fun _ => rfl, fun _ => rfl, fun _ => rfl, fun _ => rfl, fun _ => rfl, fun _ => rfl⟩⟩

theorem Keep.upd_reruns {x_reruns}  (h : Keep W s0 s) (w_reruns : W.reruns = true := by first | assumption | rfl) :
    Keep W s0 (State.mk s.regs s.mem s.bbs s.clk s.modTime s.resetAt s.fresh s.out s.lastRead s.struct s.wparts s.rings s.irqs s.badUnits s.badRecord x_reruns s.po s.cv s.ptp s.faults s.lease s.identity s.linkSignal s.sec s.pages s.serve s.slots s.fabric s.stk s.links s.video s.power s.fw s.sdio s.mgmt s.cores s.dbg s.perf s.opc s.opcShadow s.bwStart s.pending) :=
  h.trans ⟨rfl, id, id, id, le_rfl, rfl, ⟨fun _ _ _ _ => rfl, fun _ => rfl, fun _ => rfl, fun _ => rfl, fun _ => rfl, fun _ => rfl, fun _ => rfl, fun _ => rfl, fun _ => rfl, fun _ => rfl, fun _ => rfl, fun _ => rfl, fun _ => rfl, fun _ => rfl, Parts.no w_reruns, fun _ => rfl, fun _ => rfl, fun _ => rfl, fun _ => rfl, fun _ => rfl, fun _ => rfl, fun _ => rfl, fun _ => rfl, fun _ => rfl, fun _ => rfl, fun _ => rfl, fun _ => rfl, fun _ => rfl, fun _ => rfl, fun _ => rfl, fun _ => rfl, fun _ => rfl, fun _ => rfl, fun _ => rfl, fun _ => rfl, fun _ => rfl, fun _ => rfl, fun _ => rfl, fun _ => rfl⟩⟩

theorem Keep.upd_rings {x_rings}  (h : Keep W s0 s) (w_rings : W.rings = true := by first | assumption | rfl) :
    Keep W s0 (State.mk s.regs s.mem s.bbs s.clk s.modTime s.resetAt s.fresh s.out s.lastRead s.struct s.wparts x_rings s.irqs s.badUnits s.badRecord s.reruns s.po s.cv s.ptp s.faults s.lease s.identity s.linkSignal s.sec s.pages s.serve s.slots s.fabric s.stk s.links s.video s.power s.fw s.sdio s.mgmt s.cores s.dbg s.perf s.opc s.opcShadow s.bwStart s.pending) :=
  h.trans ⟨rfl, id, id, id, le_rfl, rfl, ⟨fun _ _ _ _ => rfl, fun _ => rfl, fun _ => rfl, fun _ => rfl, fun _ => rfl, fun _ => rfl, fun _ => rfl, fun _ => rfl, fun _ => rfl, fun _ => rfl, Parts.no w_rings, fun _ => rfl, fun _ => rfl, fun _ => rfl, fun _ => rfl, fun _ => rfl, fun _ => rfl, fun _ => rfl, fun _ => rfl, fun _ => rfl, fun _ => rfl, fun _ => rfl, fun _ => rfl, fun _ => rfl, fun _ => rfl, fun _ => rfl, fun _ => rfl, fun _ => rfl, fun _ => rfl, fun _ => rfl, fun _ => rfl, fun _ => rfl, fun _ => rfl, fun _ => rfl, fun _ => rfl, fun _ => rfl, fun _ => rfl, fun _ => rfl, fun _ => rfl⟩⟩

theorem Keep.upd_sdio {x_sdio}  (h : Keep W s0 s) (w_sdio : W.sdio = true := by first | assumption | rfl) :
    Keep W s0 (State.mk s.regs s.mem s.bbs s.clk s.modTime s.resetAt s.fresh s.out s.lastRead s.struct s.wparts s.rings s.irqs s.badUnits s.badRecord s.reruns s.po s.cv s.ptp s.faults s.lease s.identity s.linkSignal s.sec s.pages s.serve s.slots s.fabric s.stk s.links s.video s.power s.fw x_sdio s.mgmt s.cores s.dbg s.perf s.opc s.opcShadow s.bwStart s.pending) :=
  h.trans ⟨rfl, id, id, id, le_rfl, rfl, ⟨fun _ _ _ _ => rfl, fun _ => rfl, fun _ => rfl, fun _ => rfl, fun _ => rfl, fun _ => rfl, fun _ => rfl, fun _ => rfl, fun _ => rfl, fun _ => rfl, fun _ => rfl, fun _ => rfl, fun _ => rfl, fun _ => rfl, fun _ => rfl, fun _ => rfl, fun _ => rfl, fun _ => rfl, fun _ => rfl, fun _ => rfl, fun _ => rfl, fun _ => rfl, fun _ => rfl, fun _ => rfl, fun _ => rfl, fun _ => rfl, fun _ => rfl, fun _ => rfl, fun _ => rfl, fun _ => rfl, fun _ => rfl, Parts.no w_sdio, fun _ => rfl, fun _ => rfl, fun _ => rfl, fun _ => rfl, fun _ => rfl, fun _ => rfl, fun _ => rfl⟩⟩

theorem Keep.upd_sec {x_sec}  (h : Keep W s0 s) (w_sec : W.sec = true := by first | assumption | rfl) :
    Keep W s0 (State.mk s.regs s.mem s.bbs s.clk s.modTime s.resetAt s.fresh s.out s.lastRead s.struct s.wparts s.rings s.irqs s.badUnits s.badRecord s.reruns s.po s.cv s.ptp s.faults s.lease s.identity s.linkSignal x_sec s.pages s.serve s.slots s.fabric s.stk s.links s.video s.power s.fw s.sdio s.mgmt s.cores s.dbg s.perf s.opc s.opcShadow s.bwStart s.pending) :=
  h.trans ⟨rfl, id, id, id, le_rfl, rfl, ⟨fun _ _ _ _ => rfl, fun _ => rfl, fun _ => rfl, fun _ => rfl, fun _ => rfl, fun _ => rfl, fun _ => rfl, fun _ => rfl, fun _ => rfl, fun _ => rfl, fun _ => rfl, fun _ => rfl, fun _ => rfl, fun _ => rfl, fun _ => rfl, fun _ => rfl, fun _ => rfl, fun _ => rfl, fun _ => rfl, fun _ => rfl, fun _ => rfl, Parts.no w_sec, fun _ => rfl, fun _ => rfl, fun _ => rfl, fun _ => rfl, fun _ => rfl, fun _ => rfl, fun _ => rfl, fun _ => rfl, fun _ => rfl, fun _ => rfl, fun _ => rfl, fun _ => rfl, fun _ => rfl, fun _ => rfl, fun _ => rfl, fun _ => rfl, fun _ => rfl⟩⟩

theorem Keep.upd_serve {x_serve}  (h : Keep W s0 s) (w_serve : W.serve = true := by first | assumption | rfl) :
    Keep W s0 (State.mk s.regs s.mem s.bbs s.clk s.modTime s.resetAt s.fresh s.out s.lastRead s.struct s.wparts s.rings s.irqs s.badUnits s.badRecord s.reruns s.po s.cv s.ptp s.faults s.lease s.identity s.linkSignal s.sec s.pages x_serve s.slots s.fabric s.stk s.links s.video s.power s.fw s.sdio s.mgmt s.cores s.dbg s.perf s.opc s.opcShadow s.bwStart s.pending) :=
  h.trans ⟨rfl, id, id, id, le_rfl, rfl, ⟨fun _ _ _ _ => rfl, fun _ => rfl, fun _ => rfl, fun _ => rfl, fun _ => rfl, fun _ => rfl, fun _ => rfl, fun _ => rfl, fun _ => rfl, fun _ => rfl, fun _ => rfl, fun _ => rfl, fun _ => rfl, fun _ => rfl, fun _ => rfl, fun _ => rfl, fun _ => rfl, fun _ => rfl, fun _ => rfl, fun _ => rfl, fun _ => rfl, fun _ => rfl, fun _ => rfl, Parts.no w_serve, fun _ => rfl, fun _ => rfl, fun _ => rfl, fun _ => rfl, fun _ => rfl, fun _ => rfl, fun _ => rfl, fun _ => rfl, fun _ => rfl, fun _ => rfl, fun _ => rfl, fun _ => rfl, fun _ => rfl, fun _ => rfl, fun _ => rfl⟩⟩

theorem Keep.upd_slots {x_slots}  (h : Keep W s0 s) (w_slots : W.slots = true := by first | assumption | rfl) :
    Keep W s0 (State.mk s.regs s.mem s.bbs s.clk s.modTime s.resetAt s.fresh s.out s.lastRead s.struct s.wparts s.rings s.irqs s.badUnits s.badRecord s.reruns s.po s.cv s.ptp s.faults s.lease s.identity s.linkSignal s.sec s.pages s.serve x_slots s.fabric s.stk s.links s.video s.power s.fw s.sdio s.mgmt s.cores s.dbg s.perf s.opc s.opcShadow s.bwStart s.pending) :=
  h.trans ⟨rfl, id, id, id, le_rfl, rfl, ⟨fun _ _ _ _ => rfl, fun _ => rfl, fun _ => rfl, fun _ => rfl, fun _ => rfl, fun _ => rfl, fun _ => rfl, fun _ => rfl, fun _ => rfl, fun _ => rfl, fun _ => rfl, fun _ => rfl, fun _ => rfl, fun _ => rfl, fun _ => rfl, fun _ => rfl, fun _ => rfl, fun _ => rfl, fun _ => rfl, fun _ => rfl, fun _ => rfl, fun _ => rfl, fun _ => rfl, fun _ => rfl, Parts.no w_slots, fun _ => rfl, fun _ => rfl, fun _ => rfl, fun _ => rfl, fun _ => rfl, fun _ => rfl, fun _ => rfl, fun _ => rfl, fun _ => rfl, fun _ => rfl, fun _ => rfl, fun _ => rfl, fun _ => rfl, fun _ => rfl⟩⟩

theorem Keep.upd_stk {x_stk}  (h : Keep W s0 s) (w_stk : W.stk = true := by first | assumption | rfl) :
    Keep W s0 (State.mk s.regs s.mem s.bbs s.clk s.modTime s.resetAt s.fresh s.out s.lastRead s.struct s.wparts s.rings s.irqs s.badUnits s.badRecord s.reruns s.po s.cv s.ptp s.faults s.lease s.identity s.linkSignal s.sec s.pages s.serve s.slots s.fabric x_stk s.links s.video s.power s.fw s.sdio s.mgmt s.cores s.dbg s.perf s.opc s.opcShadow s.bwStart s.pending) :=
  h.trans ⟨rfl, id, id, id, le_rfl, rfl, ⟨fun _ _ _ _ => rfl, fun _ => rfl, fun _ => rfl, fun _ => rfl, fun _ => rfl, fun _ => rfl, fun _ => rfl, fun _ => rfl, fun _ => rfl, fun _ => rfl, fun _ => rfl, fun _ => rfl, fun _ => rfl, fun _ => rfl, fun _ => rfl, fun _ => rfl, fun _ => rfl, fun _ => rfl, fun _ => rfl, fun _ => rfl, fun _ => rfl, fun _ => rfl, fun _ => rfl, fun _ => rfl, fun _ => rfl, fun _ => rfl, Parts.no w_stk, fun _ => rfl, fun _ => rfl, fun _ => rfl, fun _ => rfl, fun _ => rfl, fun _ => rfl, fun _ => rfl, fun _ => rfl, fun _ => rfl, fun _ => rfl, fun _ => rfl, fun _ => rfl⟩⟩

theorem Keep.upd_struct {x_struct}  (h : Keep W s0 s) (w_struct : W.struct = true := by first | assumption | rfl) :
    Keep W s0 (State.mk s.regs s.mem s.bbs s.clk s.modTime s.resetAt s.fresh s.out s.lastRead x_struct s.wparts s.rings s.irqs s.badUnits s.badRecord s.reruns s.po s.cv s.ptp s.faults s.lease s.identity s.linkSignal s.sec s.pages s.serve s.slots s.fabric s.stk s.links s.video s.power s.fw s.sdio s.mgmt s.cores s.dbg s.perf s.opc s.opcShadow s.bwStart s.pending) :=
  h.trans ⟨rfl, id, id, id, le_rfl, rfl, ⟨fun _ _ _ _ => rfl, fun _ => rfl, fun _ => rfl, fun _ => rfl, fun _ => rfl, fun _ => rfl, fun _ => rfl, fun _ => rfl, Parts.no w_struct, fun _ => rfl, fun _ => rfl, fun _ => rfl, fun _ => rfl, fun _ => rfl, fun _ => rfl, fun _ => rfl, fun _ => rfl, fun _ => rfl, fun _ => rfl, fun _ => rfl, fun _ => rfl, fun _ => rfl, fun _ => rfl, fun _ => rfl, fun _ => rfl, fun _ => rfl, fun _ => rfl, fun _ => rfl, fun _ => rfl, fun _ => rfl, fun _ => rfl, fun _ => rfl, fun _ => rfl, fun _ => rfl, fun _ => rfl, fun _ => rfl, fun _ => rfl, fun _ => rfl, fun _ => rfl⟩⟩

theorem Keep.upd_video {x_video}  (h : Keep W s0 s) (w_video : W.video = true := by first | assumption | rfl) :
    Keep W s0 (State.mk s.regs s.mem s.bbs s.clk s.modTime s.resetAt s.fresh s.out s.lastRead s.struct s.wparts s.rings s.irqs s.badUnits s.badRecord s.reruns s.po s.cv s.ptp s.faults s.lease s.identity s.linkSignal s.sec s.pages s.serve s.slots s.fabric s.stk s.links x_video s.power s.fw s.sdio s.mgmt s.cores s.dbg s.perf s.opc s.opcShadow s.bwStart s.pending) :=
  h.trans ⟨rfl, id, id, id, le_rfl, rfl, ⟨fun _ _ _ _ => rfl, fun _ => rfl, fun _ => rfl, fun _ => rfl, fun _ => rfl, fun _ => rfl, fun _ => rfl, fun _ => rfl, fun _ => rfl, fun _ => rfl, fun _ => rfl, fun _ => rfl, fun _ => rfl, fun _ => rfl, fun _ => rfl, fun _ => rfl, fun _ => rfl, fun _ => rfl, fun _ => rfl, fun _ => rfl, fun _ => rfl, fun _ => rfl, fun _ => rfl, fun _ => rfl, fun _ => rfl, fun _ => rfl, fun _ => rfl, fun _ => rfl, Parts.no w_video, fun _ => rfl, fun _ => rfl, fun _ => rfl, fun _ => rfl, fun _ => rfl, fun _ => rfl, fun _ => rfl, fun _ => rfl, fun _ => rfl, fun _ => rfl⟩⟩

theorem Keep.upd_wparts {x_wparts}  (h : Keep W s0 s) (w_wparts : W.wparts = true := by first | assumption | rfl) :
    Keep W s0 (State.mk s.regs s.mem s.bbs s.clk s.modTime s.resetAt s.fresh s.out s.lastRead s.struct x_wparts s.rings s.irqs s.badUnits s.badRecord s.reruns s.po s.cv s.ptp s.faults s.lease s.identity s.linkSignal s.sec s.pages s.serve s.slots s.fabric s.stk s.links s.video s.power s.fw s.sdio s.mgmt s.cores s.dbg s.perf s.opc s.opcShadow s.bwStart s.pending) :=
  h.trans ⟨rfl, id, id, id, le_rfl, rfl, ⟨fun _ _ _ _ => rfl, fun _ => rfl, fun _ => rfl, fun _ => rfl, fun _ => rfl, fun _ => rfl, fun _ => rfl, fun _ => rfl, fun _ => rfl, Parts.no w_wparts, fun _ => rfl, fun _ => rfl, fun _ => rfl, fun _ => rfl, fun _ => rfl, fun _ => rfl, fun _ => rfl, fun _ => rfl, fun _ => rfl, fun _ => rfl, fun _ => rfl, fun _ => rfl, fun _ => rfl, fun _ => rfl, fun _ => rfl, fun _ => rfl, fun _ => rfl, fun _ => rfl, fun _ => rfl, fun _ => rfl, fun _ => rfl, fun _ => rfl, fun _ => rfl, fun _ => rfl, fun _ => rfl, fun _ => rfl, fun _ => rfl, fun _ => rfl, fun _ => rfl⟩⟩

theorem Keep.upd_badUnits_badRecord {x_badUnits x_badRecord}  (h : Keep W s0 s) (w_badUnits : W.badUnits = true := by first | assumption | rfl) (w_badRecord : W.badRecord = true := by first | assumption | rfl) :
    Keep W s0 (State.mk s.regs s.mem s.bbs s.clk s.modTime s.resetAt s.fresh s.out s.lastRead s.struct s.wparts s.rings s.irqs x_badUnits x_badRecord s.reruns s.po s.cv s.ptp s.faults s.lease s.identity s.linkSignal s.sec s.pages s.serve s.slots s.fabric s.stk s.links s.video s.power s.fw s.sdio s.mgmt s.cores s.dbg s.perf s.opc s.opcShadow s.bwStart s.pending) :=
  h.trans ⟨rfl, id, id, id, le_rfl, rfl, ⟨fun _ _ _ _ => rfl, fun _ => rfl, fun _ => rfl, fun _ => rfl, fun _ => rfl, fun _ => rfl, fun _ => rfl, fun _ => rfl, fun _ => rfl, fun _ => rfl, fun _ => rfl, fun _ => rfl, Parts.no w_badUnits, Parts.no w_badRecord, fun _ => rfl, fun _ => rfl, fun _ => rfl, fun _ => rfl, fun _ => rfl, fun _ => rfl, fun _ => rfl, fun _ => rfl, fun _ => rfl, fun _ => rfl, fun _ => rfl, fun _ => rfl, fun _ => rfl, fun _ => rfl, fun _ => rfl, fun _ => rfl, fun _ => rfl, fun _ => rfl, fun _ => rfl, fun _ => rfl, fun _ => rfl, fun _ => rfl, fun _ => rfl, fun _ => rfl, fun _ => rfl⟩⟩

theorem Keep.upd_clk_modTime {x_clk x_modTime}  (h : Keep W s0 s) (w_clk : W.clk = true := by first | assumption | rfl) (w_modTime : W.modTime = true := by first | assumption | rfl) :
    Keep W s0 (State.mk s.regs s.mem s.bbs x_clk x_modTime s.resetAt s.fresh s.out s.lastRead s.struct s.wparts s.rings s.irqs s.badUnits s.badRecord s.reruns s.po s.cv s.ptp s.faults s.lease s.identity s.linkSignal s.sec s.pages s.serve s.slots s.fabric s.stk s.links s.video s.power s.fw s.sdio s.mgmt s.cores s.dbg s.perf s.opc s.opcShadow s.bwStart s.pending) :=
  h.trans ⟨rfl, id, id, id, le_rfl, rfl, ⟨fun _ _ _ _ => rfl, fun _ => rfl, fun _ => rfl, Parts.no w_clk, Parts.no w_modTime, fun _ => rfl, fun _ => rfl, fun _ => rfl, fun _ => rfl, fun _ => rfl, fun _ => rfl, fun _ => rfl, fun _ => rfl, fun _ => rfl, fun _ => rfl, fun _ => rfl, fun _ => rfl, fun _ => rfl, fun _ => rfl, fun _ => rfl, fun _ => rfl, fun _ => rfl, fun _ => rfl, fun _ => rfl, fun _ => rfl, fun _ => rfl, fun _ => rfl, fun _ => rfl, fun _ => rfl, fun _ => rfl, fun _ => rfl, fun _ => rfl, fun _ => rfl, fun _ => rfl, fun _ => rfl, fun _ => rfl, fun _ => rfl, fun _ => rfl, fun _ => rfl⟩⟩

theorem Keep.upd_irqs_cores {x_irqs x_cores}  (h : Keep W s0 s) (w_irqs : W.irqs = true := by first | assumption | rfl) (w_cores : W.cores = true := by first | assumption | rfl) :
    Keep W s0 (State.mk s.regs s.mem s.bbs s.clk s.modTime s.resetAt s.fresh s.out s.lastRead s.struct s.wparts s.rings x_irqs s.badUnits s.badRecord s.reruns s.po s.cv s.ptp s.faults s.lease s.identity s.linkSignal s.sec s.pages s.serve s.slots s.fabric s.stk s.links s.video s.power s.fw s.sdio s.mgmt x_cores s.dbg s.perf s.opc s.opcShadow s.bwStart s.pending) :=
  h.trans ⟨rfl, id, id, id, le_rfl, rfl, ⟨fun _ _ _ _ => rfl, fun _ => rfl, fun _ => rfl, fun _ => rfl, fun _ => rfl, fun _ => rfl, fun _ => rfl, fun _ => rfl, fun _ => rfl, fun _ => rfl, fun _ => rfl, Parts.no w_irqs, fun _ => rfl, fun _ => rfl, fun _ => rfl, fun _ => rfl, fun _ => rfl, fun _ => rfl, fun _ => rfl, fun _ => rfl, fun _ => rfl, fun _ => rfl, fun _ => rfl, fun _ => rfl, fun _ => rfl, fun _ => rfl, fun _ => rfl, fun _ => rfl, fun _ => rfl, fun _ => rfl, fun _ => rfl, fun _ => rfl, fun _ => rfl, Parts.no w_cores, fun _ => rfl, fun _ => rfl, fun _ => rfl, fun _ => rfl, fun _ => rfl⟩⟩

theorem Keep.upd_lastRead_irqs {x_lastRead x_irqs}  (h : Keep W s0 s) (w_lastRead : W.lastRead = true := by first | assumption | rfl) (w_irqs : W.irqs = true := by first | assumption | rfl) :
    Keep W s0 (State.mk s.regs s.mem s.bbs s.clk s.modTime s.resetAt s.fresh s.out x_lastRead s.struct s.wparts s.rings x_irqs s.badUnits s.badRecord s.reruns s.po s.cv s.ptp s.faults s.lease s.identity s.linkSignal s.sec s.pages s.serve s.slots s.fabric s.stk s.links s.video s.power s.fw s.sdio s.mgmt s.cores s.dbg s.perf s.opc s.opcShadow s.bwStart s.pending) :=
  h.trans ⟨rfl, id, id, id, le_rfl, rfl, ⟨fun _ _ _ _ => rfl, fun _ => rfl, fun _ => rfl, fun _ => rfl, fun _ => rfl, fun _ => rfl, fun _ => rfl, Parts.no w_lastRead, fun _ => rfl, fun _ => rfl, fun _ => rfl, Parts.no w_irqs, fun _ => rfl, fun _ => rfl, fun _ => rfl, fun _ => rfl, fun _ => rfl, fun _ => rfl, fun _ => rfl, fun _ => rfl, fun _ => rfl, fun _ => rfl, fun _ => rfl, fun _ => rfl, fun _ => rfl, fun _ => rfl, fun _ => rfl, fun _ => rfl, fun _ => rfl, fun _ => rfl, fun _ => rfl, fun _ => rfl, fun _ => rfl, fun _ => rfl, fun _ => rfl, fun _ => rfl, fun _ => rfl, fun _ => rfl, fun _ => rfl⟩⟩

theorem Keep.upd_modTime_ptp {x_modTime x_ptp}  (h : Keep W s0 s) (w_modTime : W.modTime = true := by first | assumption | rfl) (w_ptp : W.ptp = true := by first | assumption | rfl) :
    Keep W s0 (State.mk s.regs s.mem s.bbs s.clk x_modTime s.resetAt s.fresh s.out s.lastRead s.struct s.wparts s.rings s.irqs s.badUnits s.badRecord s.reruns s.po s.cv x_ptp s.faults s.lease s.identity s.linkSignal s.sec s.pages s.serve s.slots s.fabric s.stk s.links s.video s.power s.fw s.sdio s.mgmt s.cores s.dbg s.perf s.opc s.opcShadow s.bwStart s.pending) :=
  h.trans ⟨rfl, id, id, id, le_rfl, rfl, ⟨fun _ _ _ _ => rfl, fun _ => rfl, fun _ => rfl, fun _ => rfl, Parts.no w_modTime, fun _ => rfl, fun _ => rfl, fun _ => rfl, fun _ => rfl, fun _ => rfl, fun _ => rfl, fun _ => rfl, fun _ => rfl, fun _ => rfl, fun _ => rfl, fun _ => rfl, fun _ => rfl, Parts.no w_ptp, fun _ => rfl, fun _ => rfl, fun _ => rfl, fun _ => rfl, fun _ => rfl, fun _ => rfl, fun _ => rfl, fun _ => rfl, fun _ => rfl, fun _ => rfl, fun _ => rfl, fun _ => rfl, fun _ => rfl, fun _ => rfl, fun _ => rfl, fun _ => rfl, fun _ => rfl, fun _ => rfl, fun _ => rfl, fun _ => rfl, fun _ => rfl⟩⟩

theorem Keep.upd_power_fw {x_power x_fw}  (h : Keep W s0 s) (w_power : W.power = true := by first | assumption | rfl) (w_fw : W.fw = true := by first | assumption | rfl) :
    Keep W s0 (State.mk s.regs s.mem s.bbs s.clk s.modTime s.resetAt s.fresh s.out s.lastRead s.struct s.wparts s.rings s.irqs s.badUnits s.badRecord s.reruns s.po s.cv s.ptp s.faults s.lease s.identity s.linkSignal s.sec s.pages s.serve s.slots s.fabric s.stk s.links s.video x_power x_fw s.sdio s.mgmt s.cores s.dbg s.perf s.opc s.opcShadow s.bwStart s.pending) :=
  h.trans ⟨rfl, id, id, id, le_rfl, rfl, ⟨fun _ _ _ _ => rfl, fun _ => rfl, fun _ => rfl, fun _ => rfl, fun _ => rfl, fun _ => rfl, fun _ => rfl, fun _ => rfl, fun _ => rfl, fun _ => rfl, fun _ => rfl, fun _ => rfl, fun _ => rfl, fun _ => rfl, fun _ => rfl, fun _ => rfl, fun _ => rfl, fun _ => rfl, fun _ => rfl, fun _ => rfl, fun _ => rfl, fun _ => rfl, fun _ => rfl, fun _ => rfl, fun _ => rfl, fun _ => rfl, fun _ => rfl, fun _ => rfl, fun _ => rfl, Parts.no w_power, Parts.no w_fw, fun _ => rfl, fun _ => rfl, fun _ => rfl, fun _ => rfl, fun _ => rfl, fun _ => rfl, fun _ => rfl, fun _ => rfl⟩⟩

theorem Keep.upd_sec_fw {x_sec x_fw}  (h : Keep W s0 s) (w_sec : W.sec = true := by first | assumption | rfl) (w_fw : W.fw = true := by first | assumption | rfl) :
    Keep W s0 (State.mk s.regs s.mem s.bbs s.clk s.modTime s.resetAt s.fresh s.out s.lastRead s.struct s.wparts s.rings s.irqs s.badUnits s.badRecord s.reruns s.po s.cv s.ptp s.faults s.lease s.identity s.linkSignal x_sec s.pages s.serve s.slots s.fabric s.stk s.links s.video s.power x_fw s.sdio s.mgmt s.cores s.dbg s.perf s.opc s.opcShadow s.bwStart s.pending) :=
  h.trans ⟨rfl, id, id, id, le_rfl, rfl, ⟨fun _ _ _ _ => rfl, fun _ => rfl, fun _ => rfl, fun _ => rfl, fun _ => rfl, fun _ => rfl, fun _ => rfl, fun _ => rfl, fun _ => rfl, fun _ => rfl, fun _ => rfl, fun _ => rfl, fun _ => rfl, fun _ => rfl, fun _ => rfl, fun _ => rfl, fun _ => rfl, fun _ => rfl, fun _ => rfl, fun _ => rfl, fun _ => rfl, Parts.no w_sec, fun _ => rfl, fun _ => rfl, fun _ => rfl, fun _ => rfl, fun _ => rfl, fun _ => rfl, fun _ => rfl, fun _ => rfl, Parts.no w_fw, fun _ => rfl, fun _ => rfl, fun _ => rfl, fun _ => rfl, fun _ => rfl, fun _ => rfl, fun _ => rfl, fun _ => rfl⟩⟩

theorem Keep.upd_sec_mgmt {x_sec x_mgmt}  (h : Keep W s0 s) (w_sec : W.sec = true := by first | assumption | rfl) (w_mgmt : W.mgmt = true := by first | assumption | rfl) :
    Keep W s0 (State.mk s.regs s.mem s.bbs s.clk s.modTime s.resetAt s.fresh s.out s.lastRead s.struct s.wparts s.rings s.irqs s.badUnits s.badRecord s.reruns s.po s.cv s.ptp s.faults s.lease s.identity s.linkSignal x_sec s.pages s.serve s.slots s.fabric s.stk s.links s.video s.power s.fw s.sdio x_mgmt s.cores s.dbg s.perf s.opc s.opcShadow s.bwStart s.pending) :=
  h.trans ⟨rfl, id, id, id, le_rfl, rfl, ⟨fun _ _ _ _ => rfl, fun _ => rfl, fun _ => rfl, fun _ => rfl, fun _ => rfl, fun _ => rfl, fun _ => rfl, fun _ => rfl, fun _ => rfl, fun _ => rfl, fun _ => rfl, fun _ => rfl, fun _ => rfl, fun _ => rfl, fun _ => rfl, fun _ => rfl, fun _ => rfl, fun _ => rfl, fun _ => rfl, fun _ => rfl, fun _ => rfl, Parts.no w_sec, fun _ => rfl, fun _ => rfl, fun _ => rfl, fun _ => rfl, fun _ => rfl, fun _ => rfl, fun _ => rfl, fun _ => rfl, fun _ => rfl, fun _ => rfl, Parts.no w_mgmt, fun _ => rfl, fun _ => rfl, fun _ => rfl, fun _ => rfl, fun _ => rfl, fun _ => rfl⟩⟩

theorem Keep.upd_clk_modTime_fresh_ptp {x_clk x_modTime x_ptp}  {k : Nat} (h : Keep W s0 s) (w_clk : W.clk = true := by first | assumption | rfl) (w_modTime : W.modTime = true := by first | assumption | rfl) (w_ptp : W.ptp = true := by first | assumption | rfl) :
    Keep W s0 (State.mk s.regs s.mem s.bbs x_clk x_modTime s.resetAt (s.fresh + k) s.out s.lastRead s.struct s.wparts s.rings s.irqs s.badUnits s.badRecord s.reruns s.po s.cv x_ptp s.faults s.lease s.identity s.linkSignal s.sec s.pages s.serve s.slots s.fabric s.stk s.links s.video s.power s.fw s.sdio s.mgmt s.cores s.dbg s.perf s.opc s.opcShadow s.bwStart s.pending) :=
  h.trans ⟨rfl, id, id, id, Nat.le_add_right _ _, rfl, ⟨fun _ _ _ _ => rfl, fun _ => rfl, fun _ => rfl, Parts.no w_clk, Parts.no w_modTime, fun _ => rfl, fun _ => rfl, fun _ => rfl, fun _ => rfl, fun _ => rfl, fun _ => rfl, fun _ => rfl, fun _ => rfl, fun _ => rfl, fun _ => rfl, fun _ => rfl, fun _ => rfl, Parts.no w_ptp, fun _ => rfl, fun _ => rfl, fun _ => rfl, fun _ => rfl, fun _ => rfl, fun _ => rfl, fun _ => rfl, fun _ => rfl, fun _ => rfl, fun _ => rfl, fun _ => rfl, fun _ => rfl, fun _ => rfl, fun _ => rfl, fun _ => rfl, fun _ => rfl, fun _ => rfl, fun _ => rfl, fun _ => rfl, fun _ => rfl, fun _ => rfl⟩⟩

/-! ## Branches and folds -/

theorem KeepR.next (h : Keep W s0 s) : KeepR W s0 (.next s) := ⟨s, rfl, h⟩

theorem Keep.ite {c : Prop} [Decidable c] (h : Keep W s0 s) (g : Keep W s0 t) : Keep W s0 (if c then s else t) := by
  split <;> assumption

theorem KeepR.ite {c : Prop} [Decidable c] {x y : Host.Outcome State Fault Refusal} (h : KeepR W s0 x) (g : KeepR W s0 y) :
    KeepR W s0 (if c then x else y) := by
  split <;> assumption

theorem Keep.iteFst {α : Type} {c : Prop} [Decidable c] {x y : State × α} (h : Keep W s0 x.1) (g : Keep W s0 y.1) :
    Keep W s0 (if c then x else y).1 := by
  split <;> assumption

theorem Keep.foldl {α : Type} {f : State → α → State} {l : List α} (h : Keep W s0 s) (hf : ∀ u a, Keep W s0 u → Keep W s0 (f u a)) :
    Keep W s0 (l.foldl f s) := by
  induction l generalizing s with
  | nil => exact h
  | cons a l ih => exact ih (hf s a h)

/-- A fold over a state beside other data. -/
theorem Keep.foldlFst {α β : Type} {f : State × β → α → State × β} {l : List α} {x : State × β} (h : Keep W s0 x.1)
    (hf : ∀ u a, Keep W s0 u.1 → Keep W s0 (f u a).1) : Keep W s0 (l.foldl f x).1 := by
  induction l generalizing x with
  | nil => exact h
  | cons a l ih => exact ih (hf x a h)

/-- A state, or a reason without one. -/
def KeepV (W : Parts) (s : State) (x : Nat ⊕ State) : Prop := ∀ t, x = .inr t → Keep W s t

theorem KeepV.inl {n : Nat} : KeepV W s0 (.inl n) := fun _ e => by cases e

theorem KeepV.inr (h : Keep W s0 s) : KeepV W s0 (.inr s) := fun _ e => by cases e; exact h

theorem KeepV.ite {c : Prop} [Decidable c] {x y : Nat ⊕ State} (h : KeepV W s0 x) (g : KeepV W s0 y) : KeepV W s0 (if c then x else y) := by
  split <;> assumption

/-! ## The operations over registers, memory and the store -/

theorem State.wr_keep {f : Fld} {v i j : Nat} (h : Keep W s0 s) (w : W.blk f.reg.block = true := by first | assumption | with_unfolding_all assumption) : Keep W s0 (s.wr f v i j) :=
  h.trans ⟨rfl, id, id, Tab.sorted_set _ _ _, le_rfl, rfl, ⟨fun g k l e => State.rd_wr_other s v (blk_key w e), fun _ => rfl, fun _ => rfl, fun _ => rfl, fun _ => rfl, fun _ => rfl, fun _ => rfl, fun _ => rfl, fun _ => rfl, fun _ => rfl, fun _ => rfl, fun _ => rfl, fun _ => rfl, fun _ => rfl, fun _ => rfl, fun _ => rfl, fun _ => rfl, fun _ => rfl, fun _ => rfl, fun _ => rfl, fun _ => rfl, fun _ => rfl, fun _ => rfl, fun _ => rfl, fun _ => rfl, fun _ => rfl, fun _ => rfl, fun _ => rfl, fun _ => rfl, fun _ => rfl, fun _ => rfl, fun _ => rfl, fun _ => rfl, fun _ => rfl, fun _ => rfl, fun _ => rfl, fun _ => rfl, fun _ => rfl, fun _ => rfl⟩⟩

theorem State.rst_keep {f : Fld} {i j : Nat} (h : Keep W s0 s) (w : W.blk f.reg.block = true := by first | assumption | with_unfolding_all assumption) : Keep W s0 (s.rst f i j) :=
  h.trans ⟨rfl, id, id, Tab.sorted_erase _, le_rfl, rfl, ⟨fun g k l e => State.rd_rst_other s (blk_key w e), fun _ => rfl, fun _ => rfl, fun _ => rfl, fun _ => rfl, fun _ => rfl, fun _ => rfl, fun _ => rfl, fun _ => rfl, fun _ => rfl, fun _ => rfl, fun _ => rfl, fun _ => rfl, fun _ => rfl, fun _ => rfl, fun _ => rfl, fun _ => rfl, fun _ => rfl, fun _ => rfl, fun _ => rfl, fun _ => rfl, fun _ => rfl, fun _ => rfl, fun _ => rfl, fun _ => rfl, fun _ => rfl, fun _ => rfl, fun _ => rfl, fun _ => rfl, fun _ => rfl, fun _ => rfl, fun _ => rfl, fun _ => rfl, fun _ => rfl, fun _ => rfl, fun _ => rfl, fun _ => rfl, fun _ => rfl, fun _ => rfl⟩⟩

theorem State.setByte_keep {a : Nat} {b : Byte} (h : Keep W s0 s) (w_mem : W.mem = true := by first | assumption | rfl) : Keep W s0 (s.setByte a b) :=
  h.trans ⟨rfl, Tab.wf_set _ _, id, id, le_rfl, rfl, ⟨fun _ _ _ _ => rfl, Parts.no w_mem, fun _ => rfl, fun _ => rfl, fun _ => rfl, fun _ => rfl, fun _ => rfl, fun _ => rfl, fun _ => rfl, fun _ => rfl, fun _ => rfl, fun _ => rfl, fun _ => rfl, fun _ => rfl, fun _ => rfl, fun _ => rfl, fun _ => rfl, fun _ => rfl, fun _ => rfl, fun _ => rfl, fun _ => rfl, fun _ => rfl, fun _ => rfl, fun _ => rfl, fun _ => rfl, fun _ => rfl, fun _ => rfl, fun _ => rfl, fun _ => rfl, fun _ => rfl, fun _ => rfl, fun _ => rfl, fun _ => rfl, fun _ => rfl, fun _ => rfl, fun _ => rfl, fun _ => rfl, fun _ => rfl, fun _ => rfl⟩⟩

theorem State.putBytes_keep {a : Nat} {bs : List Byte} (h : Keep W s0 s) (w_mem : W.mem = true := by first | assumption | rfl) : Keep W s0 (s.putBytes a bs) :=
  h.trans ⟨rfl, fun hm => Tab.wf_foldl_set (fun p : Byte × Nat => a + p.2) (fun p => p.1) bs.zipIdx hm, id, id, le_rfl, rfl, ⟨fun _ _ _ _ => rfl, Parts.no w_mem, fun _ => rfl, fun _ => rfl, fun _ => rfl, fun _ => rfl, fun _ => rfl, fun _ => rfl, fun _ => rfl, fun _ => rfl, fun _ => rfl, fun _ => rfl, fun _ => rfl, fun _ => rfl, fun _ => rfl, fun _ => rfl, fun _ => rfl, fun _ => rfl, fun _ => rfl, fun _ => rfl, fun _ => rfl, fun _ => rfl, fun _ => rfl, fun _ => rfl, fun _ => rfl, fun _ => rfl, fun _ => rfl, fun _ => rfl, fun _ => rfl, fun _ => rfl, fun _ => rfl, fun _ => rfl, fun _ => rfl, fun _ => rfl, fun _ => rfl, fun _ => rfl, fun _ => rfl, fun _ => rfl, fun _ => rfl⟩⟩

theorem State.zeroWhere_keep {p : Nat → Bool} (h : Keep W s0 s) (w_mem : W.mem = true := by first | assumption | rfl) : Keep W s0 (s.zeroWhere p) :=
  h.trans ⟨rfl, fun hm => Tab.wf_keep (fun a => ! p a) hm, id, id, le_rfl, rfl, ⟨fun _ _ _ _ => rfl, Parts.no w_mem, fun _ => rfl, fun _ => rfl, fun _ => rfl, fun _ => rfl, fun _ => rfl, fun _ => rfl, fun _ => rfl, fun _ => rfl, fun _ => rfl, fun _ => rfl, fun _ => rfl, fun _ => rfl, fun _ => rfl, fun _ => rfl, fun _ => rfl, fun _ => rfl, fun _ => rfl, fun _ => rfl, fun _ => rfl, fun _ => rfl, fun _ => rfl, fun _ => rfl, fun _ => rfl, fun _ => rfl, fun _ => rfl, fun _ => rfl, fun _ => rfl, fun _ => rfl, fun _ => rfl, fun _ => rfl, fun _ => rfl, fun _ => rfl, fun _ => rfl, fun _ => rfl, fun _ => rfl, fun _ => rfl, fun _ => rfl⟩⟩

theorem State.bbsRaw_keep {a : Nat} {bs : List Byte} (h : Keep W s0 s) (w_bbs : W.bbs = true := by first | assumption | rfl) : Keep W s0 (s.bbsRaw a bs) :=
  h.trans ⟨rfl, id, fun hm => Tab.wf_foldl_set (fun p : Byte × Nat => a + p.2) (fun p => p.1) bs.zipIdx hm, id, le_rfl, rfl, ⟨fun _ _ _ _ => rfl, fun _ => rfl, Parts.no w_bbs, fun _ => rfl, fun _ => rfl, fun _ => rfl, fun _ => rfl, fun _ => rfl, fun _ => rfl, fun _ => rfl, fun _ => rfl, fun _ => rfl, fun _ => rfl, fun _ => rfl, fun _ => rfl, fun _ => rfl, fun _ => rfl, fun _ => rfl, fun _ => rfl, fun _ => rfl, fun _ => rfl, fun _ => rfl, fun _ => rfl, fun _ => rfl, fun _ => rfl, fun _ => rfl, fun _ => rfl, fun _ => rfl, fun _ => rfl, fun _ => rfl, fun _ => rfl, fun _ => rfl, fun _ => rfl, fun _ => rfl, fun _ => rfl, fun _ => rfl, fun _ => rfl, fun _ => rfl, fun _ => rfl⟩⟩

theorem State.bbsZero_keep {a n : Nat} (h : Keep W s0 s) (w_bbs : W.bbs = true := by first | assumption | rfl) : Keep W s0 (s.bbsZero a n) :=
  h.trans ⟨rfl, id, fun hm => Tab.wf_keep (fun k => ! decide (a ≤ k ∧ k < a + n)) hm, id, le_rfl, rfl, ⟨fun _ _ _ _ => rfl, fun _ => rfl, Parts.no w_bbs, fun _ => rfl, fun _ => rfl, fun _ => rfl, fun _ => rfl, fun _ => rfl, fun _ => rfl, fun _ => rfl, fun _ => rfl, fun _ => rfl, fun _ => rfl, fun _ => rfl, fun _ => rfl, fun _ => rfl, fun _ => rfl, fun _ => rfl, fun _ => rfl, fun _ => rfl, fun _ => rfl, fun _ => rfl, fun _ => rfl, fun _ => rfl, fun _ => rfl, fun _ => rfl, fun _ => rfl, fun _ => rfl, fun _ => rfl, fun _ => rfl, fun _ => rfl, fun _ => rfl, fun _ => rfl, fun _ => rfl, fun _ => rfl, fun _ => rfl, fun _ => rfl, fun _ => rfl, fun _ => rfl⟩⟩

theorem State.draw_keep (h : Keep W s0 s) : Keep W s0 s.draw := Keep.upd_fresh (k := 1) h

theorem State.store_keep {n a : Nat} {bs : List Byte} (h : Keep W s0 s) (w_mem : W.mem = true := by first | assumption | rfl) (w_badUnits : W.badUnits = true := by first | assumption | rfl)
    (w_badRecord : W.badRecord = true := by first | assumption | rfl) : Keep W s0 (s.store n a bs) := by
  unfold State.store
  split
  · unfold State.ddrPut
    exact Keep.upd_badUnits_badRecord (State.putBytes_keep h)
  · exact h.trans ⟨rfl, fun hm => Tab.wf_foldl_set (fun p : Byte × Nat => s.phys n (a + p.2)) (fun p => p.1) bs.zipIdx hm, id, id, le_rfl, rfl,
      ⟨fun _ _ _ _ => rfl, Parts.no w_mem, fun _ => rfl, fun _ => rfl, fun _ => rfl, fun _ => rfl, fun _ => rfl, fun _ => rfl, fun _ => rfl, fun _ => rfl, fun _ => rfl, fun _ => rfl, fun _ => rfl, fun _ => rfl, fun _ => rfl, fun _ => rfl, fun _ => rfl, fun _ => rfl, fun _ => rfl, fun _ => rfl, fun _ => rfl, fun _ => rfl, fun _ => rfl, fun _ => rfl, fun _ => rfl, fun _ => rfl, fun _ => rfl, fun _ => rfl, fun _ => rfl, fun _ => rfl, fun _ => rfl, fun _ => rfl, fun _ => rfl, fun _ => rfl, fun _ => rfl, fun _ => rfl, fun _ => rfl, fun _ => rfl, fun _ => rfl⟩⟩

end Sys2Proof.Machine
end

