-- ==== Sys2Proof/Laws/KeepOps.lean ====
section
/-! SUPPORT. What the named operations of Machine/Ops.lean keep: one lemma per operation. -/

namespace Sys2Proof.Machine

-- One proof at a time: the package is compiled as one text under a memory limit.
set_option Elab.async false

set_option linter.all false

variable {W : Parts} {s0 s : State}

theorem State.inc_keep {f i j n} (h : Keep W s0 s) (w : W.blk f.reg.block = true := by first | assumption | with_unfolding_all assumption)  : Keep W s0 (State.inc s f i j n) :=
  State.wr_keep h

theorem State.incWrap_keep {f i j n} (h : Keep W s0 s) (w : W.blk f.reg.block = true := by first | assumption | with_unfolding_all assumption)  : Keep W s0 (State.incWrap s f i j n) :=
  State.wr_keep h

theorem State.setB_keep {f i j} (h : Keep W s0 s) (w : W.blk f.reg.block = true := by first | assumption | with_unfolding_all assumption)  : Keep W s0 (State.setB s f i j) :=
  State.wr_keep h

theorem State.rstReg_keep {r i j} (h : Keep W s0 s) (w : W.blk r.block = true := by first | assumption | with_unfolding_all assumption)  : Keep W s0 (State.rstReg s r i j) :=
  Keep.foldl h fun u d hu => State.rst_keep hu w

theorem State.applyField_keep {r d v i j} (h : Keep W s0 s) (w : W.blk r.block = true := by first | assumption | with_unfolding_all assumption)  :
    Keep W s0 (State.applyField s r d v i j) := by
  unfold State.applyField
  split
  · exact Keep.ite (State.wr_keep h w) h
  · exact h
  · exact h
  · exact State.wr_keep h w
  · exact State.wr_keep h w
  · exact Keep.ite h (State.wr_keep h w)

theorem State.applyWrite_keep {r v i j} (h : Keep W s0 s) (w : W.blk r.block = true := by first | assumption | with_unfolding_all assumption)  :
    Keep W s0 (State.applyWrite s r v i j) :=
  Keep.foldl h fun u d hu => State.applyField_keep hu w

theorem State.emit_keep {a1} (h : Keep W s0 s) (w_out : W.out = true := by first | assumption | rfl) : Keep W s0 (State.emit s a1) := by
  unfold State.emit
  try dsimp only
  repeat' first
    | with_reducible assumption
    | with_reducible refine Keep.ite ?_ ?_
    | with_reducible refine Keep.upd_out (h := ?_)

theorem State.bbsPut_keep {a1 a2} (h : Keep W s0 s) (w_bbs : W.bbs = true := by first | assumption | rfl) : Keep W s0 (State.bbsPut s a1 a2) := by
  unfold State.bbsPut
  try dsimp only
  repeat' first
    | with_reducible assumption
    | with_reducible refine Keep.ite ?_ ?_
    | with_reducible apply State.bbsRaw_keep
    | (split <;> try dsimp only)

theorem State.bbsWr_keep {a1 a2 a3} (h : Keep W s0 s) (w_bbs : W.bbs = true := by first | assumption | rfl) : Keep W s0 (State.bbsWr s a1 a2 a3) := by
  unfold State.bbsWr
  try dsimp only
  repeat' first
    | with_reducible assumption
    | with_reducible refine Keep.ite ?_ ?_
    | with_reducible apply State.bbsPut_keep

theorem State.setCounter_keep {a1 a2} (h : Keep W s0 s) (w_bbs : W.bbs = true := by first | assumption | rfl) (w_fw : W.fw = true := by first | assumption | rfl) : Keep W s0 (State.setCounter s a1 a2) := by
  unfold State.setCounter
  try dsimp only
  repeat' first
    | with_reducible assumption
    | with_reducible refine Keep.ite ?_ ?_
    | with_reducible apply State.bbsWr_keep
    | with_reducible refine Keep.upd_fw (h := ?_)

theorem State.setPstate_keep {a1 a2} (h : Keep W s0 s) (w_b_part : W.b_part = true := by first | assumption | rfl) : Keep W s0 (State.setPstate s a1 a2) := by
  unfold State.setPstate
  try dsimp only
  repeat' first
    | with_reducible assumption
    | with_reducible refine Keep.ite ?_ ?_
    | with_reducible apply State.wr_keep
    | ((with_reducible refine Parts.blk_true ?_); first | exact w_b_part)

theorem State.setWpart_keep {a1 a2} (h : Keep W s0 s) (w_wparts : W.wparts = true := by first | assumption | rfl) : Keep W s0 (State.setWpart s a1 a2) := by
  unfold State.setWpart
  try dsimp only
  repeat' first
    | with_reducible assumption
    | with_reducible refine Keep.ite ?_ ?_
    | with_reducible refine Keep.upd_wparts (h := ?_)

theorem State.ddrPut_keep {a1 a2} (h : Keep W s0 s) (w_mem : W.mem = true := by first | assumption | rfl) (w_badUnits : W.badUnits = true := by first | assumption | rfl) (w_badRecord : W.badRecord = true := by first | assumption | rfl) : Keep W s0 (State.ddrPut s a1 a2) := by
  unfold State.ddrPut
  try dsimp only
  repeat' first
    | with_reducible assumption
    | with_reducible refine Keep.ite ?_ ?_
    | with_reducible apply State.putBytes_keep
    | with_reducible refine Keep.upd_badUnits_badRecord (h := ?_)

theorem State.setUnitDbg_keep {a1 a2 a3} (h : Keep W s0 s) (w_dbg : W.dbg = true := by first | assumption | rfl) : Keep W s0 (State.setUnitDbg s a1 a2 a3) := by
  unfold State.setUnitDbg
  try dsimp only
  repeat' first
    | with_reducible assumption
    | with_reducible refine Keep.ite ?_ ?_
    | with_reducible refine Keep.upd_dbg (h := ?_)

theorem State.releaseUnits_keep {a1} (h : Keep W s0 s) (w_dbg : W.dbg = true := by first | assumption | rfl) : Keep W s0 (State.releaseUnits s a1) := by
  unfold State.releaseUnits
  try dsimp only
  repeat' first
    | with_reducible assumption
    | with_reducible refine Keep.ite ?_ ?_
    | with_reducible refine Keep.upd_dbg (h := ?_)

end Sys2Proof.Machine
end

