-- ==== Sys2Proof/Laws/KeepPerfOps.lean ====
section
/-! SUPPORT. What the operations of Machine/PerfOps.lean keep: one lemma per operation. -/

namespace Sys2Proof.Machine

-- One proof at a time: the package is compiled as one text under a memory limit.
set_option Elab.async false

set_option linter.all false

variable {W : Parts} {s0 s : State}

theorem State.perfRaise_keep {a1 a2 a3} (h : Keep W s0 s) (w_b_perf : W.b_perf = true := by first | assumption | rfl) : Keep W s0 (State.perfRaise s a1 a2 a3) := by
  unfold State.perfRaise
  try dsimp only
  repeat' first
    | with_reducible assumption
    | with_reducible refine Keep.ite ?_ ?_
    | with_reducible apply State.wr_keep
    | with_reducible apply State.setB_keep
    | ((with_reducible refine Parts.blk_true ?_); first | exact w_b_perf)
    | (split <;> try dsimp only)

theorem State.count_keep {a1 a2 a3 a4} (h : Keep W s0 s) (w_b_perf : W.b_perf = true := by first | assumption | rfl) : Keep W s0 (State.count s a1 a2 a3 a4) := by
  unfold State.count
  try dsimp only
  repeat' first
    | with_reducible assumption
    | with_reducible refine Keep.ite ?_ ?_
    | with_reducible apply State.perfRaise_keep
    | (intro _; intros; try dsimp only)
    | (split <;> try dsimp only)
    | with_reducible refine Keep.foldl ?_ ?_

theorem State.countFree_keep {a1 a2 a3} (h : Keep W s0 s) (w_b_perf : W.b_perf = true := by first | assumption | rfl) : Keep W s0 (State.countFree s a1 a2 a3) := by
  unfold State.countFree
  try dsimp only
  repeat' first
    | with_reducible assumption
    | with_reducible refine Keep.ite ?_ ?_
    | with_reducible apply State.perfRaise_keep
    | (intro _; intros; try dsimp only)
    | (split <;> try dsimp only)
    | with_reducible refine Keep.foldl ?_ ?_

theorem State.tally_keep {a1 a2} (h : Keep W s0 s) (w_opc : W.opc = true := by first | assumption | rfl) : Keep W s0 (State.tally s a1 a2) := by
  unfold State.tally
  try dsimp only
  repeat' first
    | with_reducible assumption
    | with_reducible refine Keep.ite ?_ ?_
    | with_reducible refine Keep.upd_opc (h := ?_)

theorem State.clearPerf_keep {a1} (h : Keep W s0 s) (w_perf : W.perf = true := by first | assumption | rfl) (w_b_perf : W.b_perf = true := by first | assumption | rfl) : Keep W s0 (State.clearPerf s a1) := by
  unfold State.clearPerf
  try dsimp only
  repeat' first
    | with_reducible assumption
    | with_reducible refine Keep.ite ?_ ?_
    | with_reducible apply State.wr_keep
    | ((with_reducible refine Parts.blk_true ?_); first | exact w_b_perf)
    | (intro _; intros; try dsimp only)
    | with_reducible refine Keep.foldl ?_ ?_
    | with_reducible refine Keep.upd_perf (h := ?_)

theorem State.countCycles_keep {a1} (h : Keep W s0 s) (w_b_perf : W.b_perf = true := by first | assumption | rfl) : Keep W s0 (State.countCycles s a1) := by
  unfold State.countCycles
  try dsimp only
  repeat' first
    | with_reducible assumption
    | with_reducible refine Keep.ite ?_ ?_
    | with_reducible apply State.count_keep
    | with_reducible apply State.wr_keep
    | ((with_reducible refine Parts.blk_true ?_); first | exact w_b_perf)
    | (intro _; intros; try dsimp only)
    | (split <;> try dsimp only)
    | with_reducible refine Keep.foldl ?_ ?_

theorem State.pass_keep {a1} (h : Keep W s0 s) (w_clk : W.clk = true := by first | assumption | rfl) (w_modTime : W.modTime = true := by first | assumption | rfl) (w_ptp : W.ptp = true := by first | assumption | rfl) (w_b_perf : W.b_perf = true := by first | assumption | rfl) : Keep W s0 (State.pass s a1) := by
  unfold State.pass
  try dsimp only
  repeat' first
    | with_reducible assumption
    | with_reducible refine Keep.ite ?_ ?_
    | with_reducible apply State.countCycles_keep
    | (split <;> try dsimp only)
    | with_reducible refine Keep.upd_clk_modTime (h := ?_)
    | with_reducible refine Keep.upd_clk_modTime_fresh_ptp (h := ?_)

theorem State.advanceTo_keep {a1} (h : Keep W s0 s) (w_clk : W.clk = true := by first | assumption | rfl) (w_modTime : W.modTime = true := by first | assumption | rfl) (w_ptp : W.ptp = true := by first | assumption | rfl) (w_b_perf : W.b_perf = true := by first | assumption | rfl) : Keep W s0 (State.advanceTo s a1) := by
  unfold State.advanceTo
  try dsimp only
  repeat' first
    | with_reducible assumption
    | with_reducible refine Keep.ite ?_ ?_
    | with_reducible apply State.pass_keep
    | (split <;> try dsimp only)

theorem State.advancePeriod_keep {a1} (h : Keep W s0 s) (w_clk : W.clk = true := by first | assumption | rfl) (w_modTime : W.modTime = true := by first | assumption | rfl) (w_ptp : W.ptp = true := by first | assumption | rfl) (w_b_perf : W.b_perf = true := by first | assumption | rfl) : Keep W s0 (State.advancePeriod s a1) := by
  unfold State.advancePeriod
  try dsimp only
  repeat' first
    | with_reducible assumption
    | with_reducible refine Keep.ite ?_ ?_
    | with_reducible apply State.advanceTo_keep

end Sys2Proof.Machine
end

