-- ==== Sys2Proof/Laws/KeepLinkOps.lean ====
section
/-! SUPPORT. What the operations of Machine/LinkOps.lean keep: one lemma per operation. -/

namespace Sys2Proof.Machine

-- One proof at a time: the package is compiled as one text under a memory limit.
set_option Elab.async false

set_option linter.all false

variable {W : Parts} {s0 s : State}

theorem State.setLinks_keep {a1} (h : Keep W s0 s) (w_links : W.links = true := by first | assumption | rfl) : Keep W s0 (State.setLinks s a1) := by
  unfold State.setLinks
  try dsimp only
  repeat' first
    | with_reducible assumption
    | with_reducible refine Keep.ite ?_ ?_
    | with_reducible refine Keep.upd_links (h := ?_)

theorem State.updLport_keep {a1 a2} (h : Keep W s0 s) (w_links : W.links = true := by first | assumption | rfl) : Keep W s0 (State.updLport s a1 a2) := by
  unfold State.updLport
  try dsimp only
  repeat' first
    | with_reducible assumption
    | with_reducible refine Keep.ite ?_ ?_
    | with_reducible apply State.setLinks_keep

theorem State.sealCell_keep {a1 a2} (h : Keep W s0 s) (w_links : W.links = true := by first | assumption | rfl) : Keep W s0 (State.sealCell s a1 a2).1 := by
  unfold State.sealCell
  try dsimp only
  repeat' first
    | with_reducible assumption
    | with_reducible refine Keep.ite ?_ ?_
    | with_reducible apply State.setLinks_keep
    | with_reducible refine Keep.iteFst ?_ ?_

theorem State.sendHop_keep {a1 a2 a3} (h : Keep W s0 s) (w_out : W.out = true := by first | assumption | rfl) : Keep W s0 (State.sendHop s a1 a2 a3) := by
  unfold State.sendHop
  try dsimp only
  repeat' first
    | with_reducible assumption
    | with_reducible refine Keep.ite ?_ ?_
    | with_reducible apply State.emit_keep
    | (split <;> try dsimp only)

theorem State.sendCredit_keep {a1} (h : Keep W s0 s) (w_out : W.out = true := by first | assumption | rfl) (w_links : W.links = true := by first | assumption | rfl) : Keep W s0 (State.sendCredit s a1) := by
  unfold State.sendCredit
  try dsimp only
  repeat' first
    | with_reducible assumption
    | with_reducible refine Keep.ite ?_ ?_
    | with_reducible apply State.updLport_keep
    | with_reducible apply State.sendHop_keep

theorem State.linkFree_keep {a1 a2} (h : Keep W s0 s) (w_out : W.out = true := by first | assumption | rfl) (w_links : W.links = true := by first | assumption | rfl) : Keep W s0 (State.linkFree s a1 a2) := by
  unfold State.linkFree
  try dsimp only
  repeat' first
    | with_reducible assumption
    | with_reducible refine Keep.ite ?_ ?_
    | with_reducible apply State.updLport_keep
    | with_reducible apply State.sendCredit_keep
    | (split <;> try dsimp only)

theorem State.cellLeaves_keep {a1} (h : Keep W s0 s) (w_links : W.links = true := by first | assumption | rfl) : Keep W s0 (State.cellLeaves s a1) := by
  unfold State.cellLeaves
  try dsimp only
  repeat' first
    | with_reducible assumption
    | with_reducible refine Keep.ite ?_ ?_
    | with_reducible apply State.setLinks_keep
    | (split <;> try dsimp only)

theorem State.wireCell_keep {a1} (h : Keep W s0 s) (w_links : W.links = true := by first | assumption | rfl) : Keep W s0 (State.wireCell s a1).1 := by
  unfold State.wireCell
  try dsimp only
  repeat' first
    | with_reducible assumption
    | with_reducible refine Keep.ite ?_ ?_
    | with_reducible apply State.sealCell_keep
    | with_reducible refine Keep.iteFst ?_ ?_
    | (split <;> try dsimp only)

theorem State.sendCell_keep {a1 a2 a3} (h : Keep W s0 s) (w_out : W.out = true := by first | assumption | rfl) (w_links : W.links = true := by first | assumption | rfl) (w_opc : W.opc = true := by first | assumption | rfl) (w_b_perf : W.b_perf = true := by first | assumption | rfl) : Keep W s0 (State.sendCell s a1 a2 a3) := by
  unfold State.sendCell
  try dsimp only
  repeat' first
    | with_reducible assumption
    | with_reducible refine Keep.ite ?_ ?_
    | with_reducible apply State.wireCell_keep
    | with_reducible apply State.cellLeaves_keep
    | with_reducible apply State.updLport_keep
    | with_reducible apply State.emit_keep
    | with_reducible apply State.tally_keep
    | with_reducible apply State.count_keep
    | with_reducible apply State.linkFree_keep
    | (split <;> try dsimp only)

theorem State.pump_keep {k p} (h : Keep W s0 s) (w_out : W.out = true := by first | assumption | rfl) (w_links : W.links = true := by first | assumption | rfl) (w_opc : W.opc = true := by first | assumption | rfl) (w_b_perf : W.b_perf = true := by first | assumption | rfl) : Keep W s0 (State.pump k s p) := by
  induction k generalizing s with
  | zero => exact h
  | succ k ih =>
    unfold State.pump
    try dsimp only
    refine Keep.ite h ?_
    split
    · exact h
    · split
      · exact h
      · exact ih (State.sendCell_keep (State.updLport_keep h))

theorem State.enqueue_keep {a1 a2 a3} (h : Keep W s0 s) (w_out : W.out = true := by first | assumption | rfl) (w_links : W.links = true := by first | assumption | rfl) (w_opc : W.opc = true := by first | assumption | rfl) (w_b_perf : W.b_perf = true := by first | assumption | rfl) : Keep W s0 (State.enqueue s a1 a2 a3) := by
  unfold State.enqueue
  try dsimp only
  repeat' first
    | with_reducible assumption
    | with_reducible refine Keep.ite ?_ ?_
    | with_reducible apply State.updLport_keep
    | with_reducible apply State.pump_keep

theorem State.pumpPort_keep {a1} (h : Keep W s0 s) (w_out : W.out = true := by first | assumption | rfl) (w_links : W.links = true := by first | assumption | rfl) (w_opc : W.opc = true := by first | assumption | rfl) (w_b_perf : W.b_perf = true := by first | assumption | rfl) : Keep W s0 (State.pumpPort s a1) := by
  unfold State.pumpPort
  try dsimp only
  repeat' first
    | with_reducible assumption
    | with_reducible refine Keep.ite ?_ ?_
    | with_reducible apply State.pump_keep

theorem State.sendRouted_keep {a1 a2 a3} (h : Keep W s0 s) (w_out : W.out = true := by first | assumption | rfl) (w_links : W.links = true := by first | assumption | rfl) (w_opc : W.opc = true := by first | assumption | rfl) (w_b_perf : W.b_perf = true := by first | assumption | rfl) : Keep W s0 (State.sendRouted s a1 a2 a3) := by
  unfold State.sendRouted
  try dsimp only
  repeat' first
    | with_reducible assumption
    | with_reducible refine Keep.ite ?_ ?_
    | with_reducible apply State.enqueue_keep
    | (split <;> try dsimp only)

theorem State.nackCell_keep {a1 a2 a3} (h : Keep W s0 s) (w_out : W.out = true := by first | assumption | rfl) (w_links : W.links = true := by first | assumption | rfl) (w_opc : W.opc = true := by first | assumption | rfl) (w_b_perf : W.b_perf = true := by first | assumption | rfl) : Keep W s0 (State.nackCell s a1 a2 a3) := by
  unfold State.nackCell
  try dsimp only
  repeat' first
    | with_reducible assumption
    | with_reducible refine Keep.ite ?_ ?_
    | with_reducible apply State.sendRouted_keep

theorem State.cancelLinks_keep {a1} (h : Keep W s0 s) (w_links : W.links = true := by first | assumption | rfl) : Keep W s0 (State.cancelLinks s a1) := by
  unfold State.cancelLinks
  try dsimp only
  repeat' first
    | with_reducible assumption
    | with_reducible refine Keep.ite ?_ ?_
    | with_reducible apply State.setLinks_keep
    | (split <;> try dsimp only)

end Sys2Proof.Machine
end

