-- ==== Sys2Proof/Laws/KeepPlantOut.lean ====
section
/-! SUPPORT. What the operations of Machine/PlantOut.lean keep: one lemma per operation. -/

namespace Sys2Proof.Machine

-- One proof at a time: the package is compiled as one text under a memory limit.
set_option Elab.async false

set_option linter.all false

variable {W : Parts} {s0 s : State}

theorem State.setPo_keep {a1 a2} (h : Keep W s0 s) (w_po : W.po = true := by first | assumption | rfl) : Keep W s0 (State.setPo s a1 a2) := by
  unfold State.setPo
  try dsimp only
  repeat' first
    | with_reducible assumption
    | with_reducible refine Keep.ite ?_ ?_
    | with_reducible refine Keep.upd_po (h := ?_)

theorem State.setCv_keep {a1 a2} (h : Keep W s0 s) (w_cv : W.cv = true := by first | assumption | rfl) : Keep W s0 (State.setCv s a1 a2) := by
  unfold State.setCv
  try dsimp only
  repeat' first
    | with_reducible assumption
    | with_reducible refine Keep.ite ?_ ?_
    | with_reducible refine Keep.upd_cv (h := ?_)

theorem State.poSend_keep {a1 a2 a3 a4 a5} (h : Keep W s0 s) (w_out : W.out = true := by first | assumption | rfl) (w_po : W.po = true := by first | assumption | rfl) (w_opc : W.opc = true := by first | assumption | rfl) (w_b_output : W.b_output = true := by first | assumption | rfl) (w_b_perf : W.b_perf = true := by first | assumption | rfl) : Keep W s0 (State.poSend s a1 a2 a3 a4 a5) := by
  unfold State.poSend
  try dsimp only
  repeat' first
    | with_reducible assumption
    | with_reducible refine Keep.ite ?_ ?_
    | with_reducible apply State.setPo_keep
    | with_reducible apply State.tally_keep
    | with_reducible apply State.count_keep
    | with_reducible apply State.inc_keep
    | with_reducible apply State.emit_keep
    | ((with_reducible refine Parts.blk_true ?_); first | exact w_b_output)
    | (split <;> try dsimp only)

theorem State.poSendWithdrawn_keep {a1} (h : Keep W s0 s) (w_out : W.out = true := by first | assumption | rfl) (w_po : W.po = true := by first | assumption | rfl) (w_opc : W.opc = true := by first | assumption | rfl) (w_b_output : W.b_output = true := by first | assumption | rfl) (w_b_perf : W.b_perf = true := by first | assumption | rfl) : Keep W s0 (State.poSendWithdrawn s a1) := by
  unfold State.poSendWithdrawn
  try dsimp only
  repeat' first
    | with_reducible assumption
    | with_reducible refine Keep.ite ?_ ?_
    | with_reducible apply State.poSend_keep

theorem State.poWithdraw_keep {a1} (h : Keep W s0 s) (w_out : W.out = true := by first | assumption | rfl) (w_po : W.po = true := by first | assumption | rfl) (w_opc : W.opc = true := by first | assumption | rfl) (w_b_output : W.b_output = true := by first | assumption | rfl) (w_b_perf : W.b_perf = true := by first | assumption | rfl) : Keep W s0 (State.poWithdraw s a1) := by
  unfold State.poWithdraw
  try dsimp only
  repeat' first
    | with_reducible assumption
    | with_reducible refine Keep.ite ?_ ?_
    | with_reducible apply State.setPo_keep
    | with_reducible apply State.poSendWithdrawn_keep
    | (split <;> try dsimp only)

theorem State.withdrawFor_keep {a1 a2} (h : Keep W s0 s) (w_out : W.out = true := by first | assumption | rfl) (w_po : W.po = true := by first | assumption | rfl) (w_opc : W.opc = true := by first | assumption | rfl) (w_b_output : W.b_output = true := by first | assumption | rfl) (w_b_perf : W.b_perf = true := by first | assumption | rfl) : Keep W s0 (State.withdrawFor s a1 a2) := by
  unfold State.withdrawFor
  try dsimp only
  repeat' first
    | with_reducible assumption
    | with_reducible refine Keep.ite ?_ ?_
    | with_reducible apply State.poWithdraw_keep
    | (intro _; intros; try dsimp only)
    | (split <;> try dsimp only)
    | with_reducible refine Keep.foldl ?_ ?_

theorem State.poLeaseChanged_keep {a1 a2} (h : Keep W s0 s) (w_out : W.out = true := by first | assumption | rfl) (w_po : W.po = true := by first | assumption | rfl) (w_opc : W.opc = true := by first | assumption | rfl) (w_b_output : W.b_output = true := by first | assumption | rfl) (w_b_perf : W.b_perf = true := by first | assumption | rfl) : Keep W s0 (State.poLeaseChanged s a1 a2) := by
  unfold State.poLeaseChanged
  try dsimp only
  repeat' first
    | with_reducible assumption
    | with_reducible refine Keep.ite ?_ ?_
    | with_reducible apply State.poSend_keep
    | with_reducible apply State.setPo_keep
    | (intro _; intros; try dsimp only)
    | (split <;> try dsimp only)
    | with_reducible refine Keep.foldl ?_ ?_

end Sys2Proof.Machine
end

