-- ==== Sys2Proof/Laws/KeepLeaseOps.lean ====
section
/-! SUPPORT. What the operations of Machine/LeaseOps.lean keep: one lemma per operation. -/

namespace Sys2Proof.Machine

-- One proof at a time: the package is compiled as one text under a memory limit.
set_option Elab.async false

set_option linter.all false

variable {W : Parts} {s0 s : State}

theorem State.sendLeaseCell_keep {a1 a2} (h : Keep W s0 s) (w_out : W.out = true := by first | assumption | rfl) (w_links : W.links = true := by first | assumption | rfl) (w_opc : W.opc = true := by first | assumption | rfl) (w_b_perf : W.b_perf = true := by first | assumption | rfl) : Keep W s0 (State.sendLeaseCell s a1 a2) := by
  unfold State.sendLeaseCell
  try dsimp only
  repeat' first
    | with_reducible assumption
    | with_reducible refine Keep.ite ?_ ?_
    | with_reducible apply State.enqueue_keep
    | (split <;> try dsimp only)

theorem State.sendLease_keep {a1 a2} (h : Keep W s0 s) (w_out : W.out = true := by first | assumption | rfl) (w_links : W.links = true := by first | assumption | rfl) (w_opc : W.opc = true := by first | assumption | rfl) (w_b_perf : W.b_perf = true := by first | assumption | rfl) : Keep W s0 (State.sendLease s a1 a2) := by
  unfold State.sendLease
  try dsimp only
  repeat' first
    | with_reducible assumption
    | with_reducible refine Keep.ite ?_ ?_
    | with_reducible apply State.sendLeaseCell_keep
    | with_reducible apply State.emit_keep
    | (split <;> try dsimp only)

theorem State.setLease_keep {a1} (h : Keep W s0 s) (w_out : W.out = true := by first | assumption | rfl) (w_po : W.po = true := by first | assumption | rfl) (w_lease : W.lease = true := by first | assumption | rfl) (w_opc : W.opc = true := by first | assumption | rfl) (w_b_output : W.b_output = true := by first | assumption | rfl) (w_b_redundancy : W.b_redundancy = true := by first | assumption | rfl) (w_b_perf : W.b_perf = true := by first | assumption | rfl) : Keep W s0 (State.setLease s a1) := by
  unfold State.setLease
  try dsimp only
  repeat' first
    | with_reducible assumption
    | with_reducible refine Keep.ite ?_ ?_
    | with_reducible apply State.wr_keep
    | with_reducible apply State.poLeaseChanged_keep
    | ((with_reducible refine Parts.blk_true ?_); first | exact w_b_redundancy)
    | (split <;> try dsimp only)
    | with_reducible refine Keep.upd_lease (h := ?_)

theorem State.giveUpLease_keep (h : Keep W s0 s) (w_out : W.out = true := by first | assumption | rfl) (w_po : W.po = true := by first | assumption | rfl) (w_lease : W.lease = true := by first | assumption | rfl) (w_links : W.links = true := by first | assumption | rfl) (w_opc : W.opc = true := by first | assumption | rfl) (w_b_output : W.b_output = true := by first | assumption | rfl) (w_b_redundancy : W.b_redundancy = true := by first | assumption | rfl) (w_b_perf : W.b_perf = true := by first | assumption | rfl) : Keep W s0 (State.giveUpLease s) := by
  unfold State.giveUpLease
  try dsimp only
  repeat' first
    | with_reducible assumption
    | with_reducible refine Keep.ite ?_ ?_
    | with_reducible apply State.sendLease_keep
    | with_reducible apply State.setLease_keep
    | (split <;> try dsimp only)
    | with_reducible refine Keep.upd_lease (h := ?_)

theorem State.sendRenew_keep (h : Keep W s0 s) (w_out : W.out = true := by first | assumption | rfl) (w_lease : W.lease = true := by first | assumption | rfl) (w_links : W.links = true := by first | assumption | rfl) (w_opc : W.opc = true := by first | assumption | rfl) (w_b_perf : W.b_perf = true := by first | assumption | rfl) : Keep W s0 (State.sendRenew s) := by
  unfold State.sendRenew
  try dsimp only
  repeat' first
    | with_reducible assumption
    | with_reducible refine Keep.ite ?_ ?_
    | with_reducible apply State.sendLease_keep
    | with_reducible refine Keep.upd_lease (h := ?_)

theorem State.initLease_keep (h : Keep W s0 s) (w_out : W.out = true := by first | assumption | rfl) (w_po : W.po = true := by first | assumption | rfl) (w_lease : W.lease = true := by first | assumption | rfl) (w_opc : W.opc = true := by first | assumption | rfl) (w_b_output : W.b_output = true := by first | assumption | rfl) (w_b_redundancy : W.b_redundancy = true := by first | assumption | rfl) (w_b_perf : W.b_perf = true := by first | assumption | rfl) : Keep W s0 (State.initLease s) := by
  unfold State.initLease
  try dsimp only
  repeat' first
    | with_reducible assumption
    | with_reducible refine Keep.ite ?_ ?_
    | with_reducible apply State.setLease_keep
    | (split <;> try dsimp only)
    | with_reducible refine Keep.upd_lease (h := ?_)

end Sys2Proof.Machine
end

