-- ==== Sys2Proof/Laws/KeepFaultRecord.lean ====
section
/-! SUPPORT. What the operations of Machine/FaultRecord.lean keep: one lemma per operation. -/

namespace Sys2Proof.Machine

-- One proof at a time: the package is compiled as one text under a memory limit.
set_option Elab.async false

set_option linter.all false

variable {W : Parts} {s0 s : State}

theorem State.faultPin_keep (h : Keep W s0 s) (w_faults : W.faults = true := by first | assumption | rfl) : Keep W s0 (State.faultPin s) := by
  unfold State.faultPin
  try dsimp only
  repeat' first
    | with_reducible assumption
    | with_reducible refine Keep.ite ?_ ?_
    | with_reducible refine Keep.upd_faults (h := ?_)

theorem State.amberWrite_keep {a1 a2} (h : Keep W s0 s) (w_bbs : W.bbs = true := by first | assumption | rfl) (w_b_amber : W.b_amber = true := by first | assumption | rfl) : Keep W s0 (State.amberWrite s a1 a2) := by
  unfold State.amberWrite
  try dsimp only
  repeat' first
    | with_reducible assumption
    | with_reducible refine Keep.ite ?_ ?_
    | with_reducible apply State.bbsWr_keep
    | with_reducible apply State.inc_keep
    | ((with_reducible refine Parts.blk_true ?_); first | exact w_b_amber)
    | (split <;> try dsimp only)

theorem State.countEvent_keep {a1} (h : Keep W s0 s) (w_faults : W.faults = true := by first | assumption | rfl) (w_b_fault : W.b_fault = true := by first | assumption | rfl) : Keep W s0 (State.countEvent s a1).1 := by
  unfold State.countEvent
  try dsimp only
  repeat' first
    | with_reducible assumption
    | with_reducible refine Keep.ite ?_ ?_
    | with_reducible apply State.wr_keep
    | ((with_reducible refine Parts.blk_true ?_); first | exact w_b_fault)
    | with_reducible refine Keep.iteFst ?_ ?_
    | (split <;> try dsimp only)
    | with_reducible refine Keep.upd_faults (h := ?_)

theorem State.eventLevel_keep {a1 a2} (h : Keep W s0 s) (w_faults : W.faults = true := by first | assumption | rfl) (w_b_fault : W.b_fault = true := by first | assumption | rfl) : Keep W s0 (State.eventLevel s a1 a2).1 := by
  unfold State.eventLevel
  try dsimp only
  repeat' first
    | with_reducible assumption
    | with_reducible refine Keep.ite ?_ ?_
    | with_reducible apply State.countEvent_keep
    | with_reducible refine Keep.iteFst ?_ ?_
    | (split <;> try dsimp only)

theorem State.setCauses_keep {a1 a2} (h : Keep W s0 s) (w_faults : W.faults = true := by first | assumption | rfl) (w_b_fault : W.b_fault = true := by first | assumption | rfl) : Keep W s0 (State.setCauses s a1 a2) := by
  unfold State.setCauses
  try dsimp only
  repeat' first
    | with_reducible assumption
    | with_reducible refine Keep.ite ?_ ?_
    | with_reducible apply State.wr_keep
    | ((with_reducible refine Parts.blk_true ?_); first | exact w_b_fault)
    | with_reducible refine Keep.upd_faults (h := ?_)

theorem State.causeEnds_keep {a1 a2} (h : Keep W s0 s) (w_faults : W.faults = true := by first | assumption | rfl) (w_b_fault : W.b_fault = true := by first | assumption | rfl) : Keep W s0 (State.causeEnds s a1 a2) := by
  unfold State.causeEnds
  try dsimp only
  repeat' first
    | with_reducible assumption
    | with_reducible refine Keep.ite ?_ ?_
    | with_reducible apply State.setCauses_keep

theorem State.record_keep {a1 a2 a3 a4 a5} (h : Keep W s0 s) (w_bbs : W.bbs = true := by first | assumption | rfl) (w_out : W.out = true := by first | assumption | rfl) (w_po : W.po = true := by first | assumption | rfl) (w_faults : W.faults = true := by first | assumption | rfl) (w_opc : W.opc = true := by first | assumption | rfl) (w_b_output : W.b_output = true := by first | assumption | rfl) (w_b_fault : W.b_fault = true := by first | assumption | rfl) (w_b_amber : W.b_amber = true := by first | assumption | rfl) (w_b_perf : W.b_perf = true := by first | assumption | rfl) : Keep W s0 (State.record s a1 a2 a3 a4 a5).1 := by
  unfold State.record
  try dsimp only
  repeat' first
    | with_reducible assumption
    | with_reducible refine Keep.ite ?_ ?_
    | with_reducible apply State.eventLevel_keep
    | with_reducible apply State.wr_keep
    | with_reducible apply State.inc_keep
    | with_reducible apply State.setB_keep
    | with_reducible apply State.setCauses_keep
    | with_reducible apply State.amberWrite_keep
    | with_reducible apply State.withdrawFor_keep
    | ((with_reducible refine Parts.blk_true ?_); first | exact w_b_fault)
    | with_reducible refine Keep.iteFst ?_ ?_
    | (split <;> try dsimp only)
    | with_reducible refine Keep.upd_faults (h := ?_)

end Sys2Proof.Machine
end

