-- ==== Sys2Proof/Laws/KeepPageOps.lean ====
section
/-! SUPPORT. What the operations of Machine/PageOps.lean keep: one lemma per operation. -/

namespace Sys2Proof.Machine

-- One proof at a time: the package is compiled as one text under a memory limit.
set_option Elab.async false

set_option linter.all false

variable {W : Parts} {s0 s : State}

theorem State.setSrv_keep {a1 a2} (h : Keep W s0 s) (w_serve : W.serve = true := by first | assumption | rfl) : Keep W s0 (State.setSrv s a1 a2) := by
  unfold State.setSrv
  try dsimp only
  repeat' first
    | with_reducible assumption
    | with_reducible refine Keep.ite ?_ ?_
    | with_reducible refine Keep.upd_serve (h := ?_)

theorem State.updSrv_keep {a1 a2} (h : Keep W s0 s) (w_serve : W.serve = true := by first | assumption | rfl) : Keep W s0 (State.updSrv s a1 a2) := by
  unfold State.updSrv
  try dsimp only
  repeat' first
    | with_reducible assumption
    | with_reducible refine Keep.ite ?_ ?_
    | with_reducible apply State.setSrv_keep

theorem State.setSlot_keep {a1 a2} (h : Keep W s0 s) (w_slots : W.slots = true := by first | assumption | rfl) : Keep W s0 (State.setSlot s a1 a2) := by
  unfold State.setSlot
  try dsimp only
  repeat' first
    | with_reducible assumption
    | with_reducible refine Keep.ite ?_ ?_
    | with_reducible refine Keep.upd_slots (h := ?_)

theorem State.updSlot_keep {a1 a2} (h : Keep W s0 s) (w_slots : W.slots = true := by first | assumption | rfl) : Keep W s0 (State.updSlot s a1 a2) := by
  unfold State.updSlot
  try dsimp only
  repeat' first
    | with_reducible assumption
    | with_reducible refine Keep.ite ?_ ?_
    | with_reducible apply State.setSlot_keep

theorem State.setPage_keep {a1 a2} (h : Keep W s0 s) (w_pages : W.pages = true := by first | assumption | rfl) : Keep W s0 (State.setPage s a1 a2) := by
  unfold State.setPage
  try dsimp only
  repeat' first
    | with_reducible assumption
    | with_reducible refine Keep.ite ?_ ?_
    | (split <;> try dsimp only)
    | with_reducible refine Keep.upd_pages (h := ?_)

theorem State.setRow_keep {a1 a2 a3} (h : Keep W s0 s) (w_pages : W.pages = true := by first | assumption | rfl) : Keep W s0 (State.setRow s a1 a2 a3) := by
  unfold State.setRow
  try dsimp only
  repeat' first
    | with_reducible assumption
    | with_reducible refine Keep.ite ?_ ?_
    | with_reducible apply State.setPage_keep
    | (intro _; intros; try dsimp only)
    | (split <;> try dsimp only)
    | with_reducible refine Keep.foldl ?_ ?_

theorem bookFld_block {b st} : (bookFld b st).reg.block = .page := by
  unfold bookFld
  split <;> rfl

theorem State.moveBook_keep {n a b k} (h : Keep W s0 s) (w_b_page : W.b_page = true := by first | assumption | rfl) : Keep W s0 (State.moveBook s n a b k) := by
  have w : ∀ c st, W.blk (bookFld c st).reg.block = true := fun c st => by rw [bookFld_block]; assumption
  unfold State.moveBook
  repeat' first
    | with_reducible assumption
    | with_reducible refine Keep.foldl ?_ ?_
    | with_reducible apply State.bump_keep
    | with_reducible apply State.wr_keep
    | with_reducible apply w
    | (intro _; intros)
    | (split <;> try dsimp only)

theorem State.bump_keep {f n u k} (h : Keep W s0 s) (w : W.blk f.reg.block = true := by first | assumption | with_unfolding_all assumption)  : Keep W s0 (State.bump s f n u k) :=
  State.wr_keep h

theorem State.enter_keep {a1 a2} (h : Keep W s0 s) (w_serve : W.serve = true := by first | assumption | rfl) (w_b_page : W.b_page = true := by first | assumption | rfl) : Keep W s0 (State.enter s a1 a2) := by
  unfold State.enter
  try dsimp only
  repeat' first
    | with_reducible assumption
    | with_reducible refine Keep.ite ?_ ?_
    | with_reducible apply State.updSrv_keep
    | with_reducible apply State.wr_keep
    | ((with_reducible refine Parts.blk_true ?_); first | exact w_b_page)

theorem State.dropPage_keep {a1 a2 a3} (h : Keep W s0 s) (w_mem : W.mem = true := by first | assumption | rfl) (w_pages : W.pages = true := by first | assumption | rfl) (w_serve : W.serve = true := by first | assumption | rfl) (w_b_page : W.b_page = true := by first | assumption | rfl) : Keep W s0 (State.dropPage s a1 a2 a3) := by
  unfold State.dropPage
  try dsimp only
  repeat' first
    | with_reducible assumption
    | with_reducible refine Keep.ite ?_ ?_
    | with_reducible apply State.zeroWhere_keep
    | with_reducible apply State.updSrv_keep
    | with_reducible apply State.enter_keep
    | with_reducible apply State.setPage_keep
    | (split <;> try dsimp only)

theorem State.scoreCommit_keep {a1 a2 a3 a4} (h : Keep W s0 s) (w_pages : W.pages = true := by first | assumption | rfl) : Keep W s0 (State.scoreCommit s a1 a2 a3 a4) := by
  unfold State.scoreCommit
  try dsimp only
  repeat' first
    | with_reducible assumption
    | with_reducible refine Keep.ite ?_ ?_
    | with_reducible apply State.setPage_keep
    | with_reducible refine Keep.foldlFst ?_ ?_
    | (intro _; intros; try dsimp only)
    | (split <;> try dsimp only)
    | with_reducible refine Keep.foldl ?_ ?_

theorem State.rescore_keep {a1 a2} (h : Keep W s0 s) (w_pages : W.pages = true := by first | assumption | rfl) : Keep W s0 (State.rescore s a1 a2) := by
  unfold State.rescore
  try dsimp only
  repeat' first
    | with_reducible assumption
    | with_reducible refine Keep.ite ?_ ?_
    | with_reducible apply State.setPage_keep
    | (intro _; intros; try dsimp only)
    | with_reducible refine Keep.foldl ?_ ?_

theorem State.freeRow_keep {a1 a2} (h : Keep W s0 s) (w_pages : W.pages = true := by first | assumption | rfl) (w_b_page : W.b_page = true := by first | assumption | rfl) : Keep W s0 (State.freeRow s a1 a2) := by
  unfold State.freeRow
  try dsimp only
  repeat' first
    | with_reducible assumption
    | with_reducible refine Keep.ite ?_ ?_
    | with_reducible apply State.moveBook_keep
    | with_reducible apply State.setRow_keep
    | with_reducible apply State.bump_keep
    | ((with_reducible refine Parts.blk_true ?_); first | exact w_b_page)

theorem State.doubleFree_keep (h : Keep W s0 s) (w_bbs : W.bbs = true := by first | assumption | rfl) (w_out : W.out = true := by first | assumption | rfl) (w_po : W.po = true := by first | assumption | rfl) (w_faults : W.faults = true := by first | assumption | rfl) (w_opc : W.opc = true := by first | assumption | rfl) (w_b_page : W.b_page = true := by first | assumption | rfl) (w_b_output : W.b_output = true := by first | assumption | rfl) (w_b_fault : W.b_fault = true := by first | assumption | rfl) (w_b_amber : W.b_amber = true := by first | assumption | rfl) (w_b_perf : W.b_perf = true := by first | assumption | rfl) : Keep W s0 (State.doubleFree s) := by
  unfold State.doubleFree
  try dsimp only
  repeat' first
    | with_reducible assumption
    | with_reducible refine Keep.ite ?_ ?_
    | with_reducible apply State.record_keep
    | with_reducible apply State.setB_keep
    | with_reducible apply State.inc_keep
    | ((with_reducible refine Parts.blk_true ?_); first | exact w_b_page)

theorem State.doLen_keep {a1} (h : Keep W s0 s) (w_slots : W.slots = true := by first | assumption | rfl) : Keep W s0 (State.doLen s a1) := by
  unfold State.doLen
  try dsimp only
  repeat' first
    | with_reducible assumption
    | with_reducible refine Keep.ite ?_ ?_
    | with_reducible apply State.updSlot_keep
    | (split <;> try dsimp only)

theorem State.doAlloc_keep {a1 a2 a3 a4} (h : Keep W s0 s) (w_pages : W.pages = true := by first | assumption | rfl) (w_slots : W.slots = true := by first | assumption | rfl) (w_b_page : W.b_page = true := by first | assumption | rfl) : Keep W s0 (State.doAlloc s a1 a2 a3 a4) := by
  unfold State.doAlloc
  try dsimp only
  repeat' first
    | with_reducible assumption
    | with_reducible refine Keep.ite ?_ ?_
    | with_reducible apply State.updSlot_keep
    | with_reducible apply State.setRow_keep
    | with_reducible apply State.bump_keep
    | with_reducible apply State.moveBook_keep
    | with_reducible apply State.inc_keep
    | ((with_reducible refine Parts.blk_true ?_); first | exact w_b_page)
    | (split <;> try dsimp only)

theorem State.doDrop_keep {a1 a2 a3} (h : Keep W s0 s) (w_bbs : W.bbs = true := by first | assumption | rfl) (w_out : W.out = true := by first | assumption | rfl) (w_po : W.po = true := by first | assumption | rfl) (w_faults : W.faults = true := by first | assumption | rfl) (w_pages : W.pages = true := by first | assumption | rfl) (w_slots : W.slots = true := by first | assumption | rfl) (w_opc : W.opc = true := by first | assumption | rfl) (w_b_page : W.b_page = true := by first | assumption | rfl) (w_b_output : W.b_output = true := by first | assumption | rfl) (w_b_fault : W.b_fault = true := by first | assumption | rfl) (w_b_amber : W.b_amber = true := by first | assumption | rfl) (w_b_perf : W.b_perf = true := by first | assumption | rfl) : Keep W s0 (State.doDrop s a1 a2 a3) := by
  unfold State.doDrop
  try dsimp only
  repeat' first
    | with_reducible assumption
    | with_reducible refine Keep.ite ?_ ?_
    | with_reducible apply State.doubleFree_keep
    | with_reducible apply State.setRow_keep
    | with_reducible apply State.moveBook_keep
    | with_reducible apply State.inc_keep
    | with_reducible apply State.freeRow_keep
    | with_reducible apply State.updSlot_keep
    | ((with_reducible refine Parts.blk_true ?_); first | exact w_b_page)
    | with_reducible refine Keep.foldlFst ?_ ?_
    | (intro _; intros; try dsimp only)
    | (split <;> try dsimp only)
    | with_reducible refine Keep.foldl ?_ ?_
    | with_reducible refine Keep.upd_pages (h := ?_)

theorem State.doFreeList_keep {a1 a2} (h : Keep W s0 s) (w_pages : W.pages = true := by first | assumption | rfl) (w_slots : W.slots = true := by first | assumption | rfl) (w_b_page : W.b_page = true := by first | assumption | rfl) : Keep W s0 (State.doFreeList s a1 a2) := by
  unfold State.doFreeList
  try dsimp only
  repeat' first
    | with_reducible assumption
    | with_reducible refine Keep.ite ?_ ?_
    | with_reducible apply State.freeRow_keep
    | with_reducible apply State.updSlot_keep
    | (intro _; intros; try dsimp only)
    | (split <;> try dsimp only)
    | with_reducible refine Keep.foldl ?_ ?_

theorem State.doEvict_keep {a1 a2} (h : Keep W s0 s) (w_bbs : W.bbs = true := by first | assumption | rfl) (w_out : W.out = true := by first | assumption | rfl) (w_po : W.po = true := by first | assumption | rfl) (w_faults : W.faults = true := by first | assumption | rfl) (w_pages : W.pages = true := by first | assumption | rfl) (w_slots : W.slots = true := by first | assumption | rfl) (w_opc : W.opc = true := by first | assumption | rfl) (w_b_page : W.b_page = true := by first | assumption | rfl) (w_b_output : W.b_output = true := by first | assumption | rfl) (w_b_fault : W.b_fault = true := by first | assumption | rfl) (w_b_amber : W.b_amber = true := by first | assumption | rfl) (w_b_perf : W.b_perf = true := by first | assumption | rfl) : Keep W s0 (State.doEvict s a1 a2) := by
  unfold State.doEvict
  try dsimp only
  repeat' first
    | with_reducible assumption
    | with_reducible refine Keep.ite ?_ ?_
    | with_reducible apply State.updSlot_keep
    | with_reducible apply State.freeRow_keep
    | with_reducible apply State.doubleFree_keep
    | (split <;> try dsimp only)

theorem State.doQuar_keep {a1 a2} (h : Keep W s0 s) (w_pages : W.pages = true := by first | assumption | rfl) (w_b_page : W.b_page = true := by first | assumption | rfl) : Keep W s0 (State.doQuar s a1 a2) := by
  unfold State.doQuar
  try dsimp only
  repeat' first
    | with_reducible assumption
    | with_reducible refine Keep.ite ?_ ?_
    | with_reducible apply State.moveBook_keep
    | with_reducible apply State.setPage_keep
    | with_reducible apply State.setRow_keep
    | with_reducible apply State.bump_keep
    | ((with_reducible refine Parts.blk_true ?_); first | exact w_b_page)
    | (split <;> try dsimp only)

theorem State.pageCmdDone_keep {a1} (h : Keep W s0 s) (w_pages : W.pages = true := by first | assumption | rfl) (w_b_page : W.b_page = true := by first | assumption | rfl) : Keep W s0 (State.pageCmdDone s a1) := by
  unfold State.pageCmdDone
  try dsimp only
  repeat' first
    | with_reducible assumption
    | with_reducible refine Keep.ite ?_ ?_
    | with_reducible apply State.setB_keep
    | with_reducible apply State.wr_keep
    | ((with_reducible refine Parts.blk_true ?_); first | exact w_b_page)
    | (split <;> try dsimp only)
    | with_reducible refine Keep.upd_pages (h := ?_)

theorem State.advance_keep {a1 a2} (h : Keep W s0 s) (w_bbs : W.bbs = true := by first | assumption | rfl) (w_out : W.out = true := by first | assumption | rfl) (w_po : W.po = true := by first | assumption | rfl) (w_faults : W.faults = true := by first | assumption | rfl) (w_pages : W.pages = true := by first | assumption | rfl) (w_serve : W.serve = true := by first | assumption | rfl) (w_slots : W.slots = true := by first | assumption | rfl) (w_opc : W.opc = true := by first | assumption | rfl) (w_b_page : W.b_page = true := by first | assumption | rfl) (w_b_output : W.b_output = true := by first | assumption | rfl) (w_b_fault : W.b_fault = true := by first | assumption | rfl) (w_b_amber : W.b_amber = true := by first | assumption | rfl) (w_b_perf : W.b_perf = true := by first | assumption | rfl) : Keep W s0 (State.advance s a1 a2) := by
  unfold State.advance
  try dsimp only
  repeat' first
    | with_reducible assumption
    | with_reducible refine Keep.ite ?_ ?_
    | with_reducible apply State.doLen_keep
    | with_reducible apply State.doAlloc_keep
    | with_reducible apply State.doDrop_keep
    | with_reducible apply State.doFreeList_keep
    | with_reducible apply State.doEvict_keep
    | with_reducible apply State.doQuar_keep
    | with_reducible apply State.setPage_keep
    | with_reducible apply State.scoreCommit_keep
    | with_reducible apply State.rescore_keep
    | with_reducible apply State.wr_keep
    | with_reducible apply State.updSrv_keep
    | with_reducible apply State.pageCmdDone_keep
    | ((with_reducible refine Parts.blk_true ?_); first | exact w_b_page)
    | (intro _; intros; try dsimp only)
    | (split <;> try dsimp only)
    | with_reducible refine Keep.foldl ?_ ?_

end Sys2Proof.Machine
end

