-- ==== Sys2Proof/Laws/KeepStepOps.lean ====
section
/-! SUPPORT. What the operations of Machine/StepOps.lean keep: one lemma per operation. -/

namespace Sys2Proof.Machine

-- One proof at a time: the package is compiled as one text under a memory limit.
set_option Elab.async false

set_option linter.all false

variable {W : Parts} {s0 s : State}

theorem State.setFabric_keep {a1} (h : Keep W s0 s) (w_fabric : W.fabric = true := by first | assumption | rfl) : Keep W s0 (State.setFabric s a1) := by
  unfold State.setFabric
  try dsimp only
  repeat' first
    | with_reducible assumption
    | with_reducible refine Keep.ite ?_ ?_
    | with_reducible refine Keep.upd_fabric (h := ?_)

theorem State.stopClusters_keep {a1} (h : Keep W s0 s) (w_fabric : W.fabric = true := by first | assumption | rfl) (w_stk : W.stk = true := by first | assumption | rfl) (w_dbg : W.dbg = true := by first | assumption | rfl) : Keep W s0 (State.stopClusters s a1) := by
  unfold State.stopClusters
  try dsimp only
  repeat' first
    | with_reducible assumption
    | with_reducible refine Keep.ite ?_ ?_
    | with_reducible apply State.releaseUnits_keep
    | with_reducible apply State.setFabric_keep
    | with_reducible refine Keep.upd_stk (h := ?_)

theorem State.requeue_keep {a1} (h : Keep W s0 s) (w_slots : W.slots = true := by first | assumption | rfl) : Keep W s0 (State.requeue s a1) := by
  unfold State.requeue
  try dsimp only
  repeat' first
    | with_reducible assumption
    | with_reducible refine Keep.ite ?_ ?_
    | with_reducible apply State.updSlot_keep
    | (intro _; intros; try dsimp only)
    | (split <;> try dsimp only)
    | with_reducible refine Keep.foldl ?_ ?_

theorem State.afterAdvance_keep {a1} (h : Keep W s0 s) (w_slots : W.slots = true := by first | assumption | rfl) : Keep W s0 (State.afterAdvance s a1) := by
  unfold State.afterAdvance
  try dsimp only
  repeat' first
    | with_reducible assumption
    | with_reducible refine Keep.ite ?_ ?_
    | with_reducible apply State.setSlot_keep
    | (intro _; intros; try dsimp only)
    | (split <;> try dsimp only)
    | with_reducible refine Keep.foldl ?_ ?_

theorem State.stepDiscarded_keep {a1} (h : Keep W s0 s) (w_opc : W.opc = true := by first | assumption | rfl) (w_b_perf : W.b_perf = true := by first | assumption | rfl) : Keep W s0 (State.stepDiscarded s a1) := by
  unfold State.stepDiscarded
  try dsimp only
  repeat' first
    | with_reducible assumption
    | with_reducible refine Keep.ite ?_ ?_
    | with_reducible apply State.tally_keep
    | with_reducible apply State.count_keep

theorem State.discardStep_keep {a1} (h : Keep W s0 s) (w_bbs : W.bbs = true := by first | assumption | rfl) (w_out : W.out = true := by first | assumption | rfl) (w_po : W.po = true := by first | assumption | rfl) (w_faults : W.faults = true := by first | assumption | rfl) (w_pages : W.pages = true := by first | assumption | rfl) (w_serve : W.serve = true := by first | assumption | rfl) (w_slots : W.slots = true := by first | assumption | rfl) (w_fabric : W.fabric = true := by first | assumption | rfl) (w_stk : W.stk = true := by first | assumption | rfl) (w_dbg : W.dbg = true := by first | assumption | rfl) (w_opc : W.opc = true := by first | assumption | rfl) (w_b_page : W.b_page = true := by first | assumption | rfl) (w_b_output : W.b_output = true := by first | assumption | rfl) (w_b_fault : W.b_fault = true := by first | assumption | rfl) (w_b_amber : W.b_amber = true := by first | assumption | rfl) (w_b_perf : W.b_perf = true := by first | assumption | rfl) : Keep W s0 (State.discardStep s a1) := by
  unfold State.discardStep
  try dsimp only
  repeat' first
    | with_reducible assumption
    | with_reducible refine Keep.ite ?_ ?_
    | with_reducible apply State.stopClusters_keep
    | with_reducible apply State.updSrv_keep
    | with_reducible apply State.afterAdvance_keep
    | with_reducible apply State.advance_keep
    | with_reducible apply State.stepDiscarded_keep
    | with_reducible apply State.requeue_keep
    | (split <;> try dsimp only)

theorem State.clearReruns_keep {a1} (h : Keep W s0 s) (w_reruns : W.reruns = true := by first | assumption | rfl) : Keep W s0 (State.clearReruns s a1) := by
  unfold State.clearReruns
  try dsimp only
  repeat' first
    | with_reducible assumption
    | with_reducible refine Keep.ite ?_ ?_
    | with_reducible refine Keep.upd_reruns (h := ?_)

end Sys2Proof.Machine
end

