-- ==== Sys2Proof/Laws/KeepFaultOps.lean ====
section
/-! SUPPORT. What the operations of Machine/FaultOps.lean keep: one lemma per operation. -/

namespace Sys2Proof.Machine

-- One proof at a time: the package is compiled as one text under a memory limit.
set_option Elab.async false

set_option linter.all false

variable {W : Parts} {s0 s : State}

theorem State.stopEffects_keep {a1} (h : Keep W s0 s) (w_bbs : W.bbs = true := by first | assumption | rfl) (w_out : W.out = true := by first | assumption | rfl) (w_po : W.po = true := by first | assumption | rfl) (w_faults : W.faults = true := by first | assumption | rfl) (w_pages : W.pages = true := by first | assumption | rfl) (w_serve : W.serve = true := by first | assumption | rfl) (w_slots : W.slots = true := by first | assumption | rfl) (w_fabric : W.fabric = true := by first | assumption | rfl) (w_stk : W.stk = true := by first | assumption | rfl) (w_dbg : W.dbg = true := by first | assumption | rfl) (w_opc : W.opc = true := by first | assumption | rfl) (w_b_image : W.b_image = true := by first | assumption | rfl) (w_b_page : W.b_page = true := by first | assumption | rfl) (w_b_output : W.b_output = true := by first | assumption | rfl) (w_b_fault : W.b_fault = true := by first | assumption | rfl) (w_b_amber : W.b_amber = true := by first | assumption | rfl) (w_b_redundancy : W.b_redundancy = true := by first | assumption | rfl) (w_b_perf : W.b_perf = true := by first | assumption | rfl) : Keep W s0 (State.stopEffects s a1) := by
  unfold State.stopEffects
  try dsimp only
  repeat' first
    | with_reducible assumption
    | with_reducible refine Keep.ite ?_ ?_
    | with_reducible apply State.stopClusters_keep
    | with_reducible apply State.discardStep_keep
    | with_reducible apply State.wr_keep
    | with_reducible apply State.setB_keep
    | ((with_reducible refine Parts.blk_true ?_); first | exact w_b_image | exact w_b_redundancy)

theorem State.eventFuel_keep {k i d b inj p} (h : Keep W s0 s) (w_bbs : W.bbs = true := by first | assumption | rfl) (w_out : W.out = true := by first | assumption | rfl) (w_po : W.po = true := by first | assumption | rfl) (w_faults : W.faults = true := by first | assumption | rfl) (w_lease : W.lease = true := by first | assumption | rfl) (w_pages : W.pages = true := by first | assumption | rfl) (w_serve : W.serve = true := by first | assumption | rfl) (w_slots : W.slots = true := by first | assumption | rfl) (w_fabric : W.fabric = true := by first | assumption | rfl) (w_stk : W.stk = true := by first | assumption | rfl) (w_links : W.links = true := by first | assumption | rfl) (w_dbg : W.dbg = true := by first | assumption | rfl) (w_opc : W.opc = true := by first | assumption | rfl) (w_b_image : W.b_image = true := by first | assumption | rfl) (w_b_page : W.b_page = true := by first | assumption | rfl) (w_b_output : W.b_output = true := by first | assumption | rfl) (w_b_fault : W.b_fault = true := by first | assumption | rfl) (w_b_amber : W.b_amber = true := by first | assumption | rfl) (w_b_redundancy : W.b_redundancy = true := by first | assumption | rfl) (w_b_perf : W.b_perf = true := by first | assumption | rfl) : Keep W s0 (State.eventFuel k s i d b inj p) := by
  induction k generalizing s i d b inj p with
  | zero => exact State.record_keep h
  | succ k ih =>
    unfold State.eventFuel
    try dsimp only
    refine Keep.ite (Keep.foldl (State.giveUpLease_keep (State.wr_keep (State.record_keep h))) fun u n hu => ?_) (State.record_keep h)
    try dsimp only
    exact Keep.ite (ih (State.stopEffects_keep hu)) hu

theorem State.eventAt_keep {a1 a2 a3 a4 a5} (h : Keep W s0 s) (w_bbs : W.bbs = true := by first | assumption | rfl) (w_out : W.out = true := by first | assumption | rfl) (w_po : W.po = true := by first | assumption | rfl) (w_faults : W.faults = true := by first | assumption | rfl) (w_lease : W.lease = true := by first | assumption | rfl) (w_pages : W.pages = true := by first | assumption | rfl) (w_serve : W.serve = true := by first | assumption | rfl) (w_slots : W.slots = true := by first | assumption | rfl) (w_fabric : W.fabric = true := by first | assumption | rfl) (w_stk : W.stk = true := by first | assumption | rfl) (w_links : W.links = true := by first | assumption | rfl) (w_dbg : W.dbg = true := by first | assumption | rfl) (w_opc : W.opc = true := by first | assumption | rfl) (w_b_image : W.b_image = true := by first | assumption | rfl) (w_b_page : W.b_page = true := by first | assumption | rfl) (w_b_output : W.b_output = true := by first | assumption | rfl) (w_b_fault : W.b_fault = true := by first | assumption | rfl) (w_b_amber : W.b_amber = true := by first | assumption | rfl) (w_b_redundancy : W.b_redundancy = true := by first | assumption | rfl) (w_b_perf : W.b_perf = true := by first | assumption | rfl) : Keep W s0 (State.eventAt s a1 a2 a3 a4 a5) := by
  unfold State.eventAt
  try dsimp only
  repeat' first
    | with_reducible assumption
    | with_reducible refine Keep.ite ?_ ?_
    | with_reducible apply State.eventFuel_keep

theorem State.event_keep {a1 a2 a3} (h : Keep W s0 s) (w_bbs : W.bbs = true := by first | assumption | rfl) (w_out : W.out = true := by first | assumption | rfl) (w_po : W.po = true := by first | assumption | rfl) (w_faults : W.faults = true := by first | assumption | rfl) (w_lease : W.lease = true := by first | assumption | rfl) (w_pages : W.pages = true := by first | assumption | rfl) (w_serve : W.serve = true := by first | assumption | rfl) (w_slots : W.slots = true := by first | assumption | rfl) (w_fabric : W.fabric = true := by first | assumption | rfl) (w_stk : W.stk = true := by first | assumption | rfl) (w_links : W.links = true := by first | assumption | rfl) (w_dbg : W.dbg = true := by first | assumption | rfl) (w_opc : W.opc = true := by first | assumption | rfl) (w_b_image : W.b_image = true := by first | assumption | rfl) (w_b_page : W.b_page = true := by first | assumption | rfl) (w_b_output : W.b_output = true := by first | assumption | rfl) (w_b_fault : W.b_fault = true := by first | assumption | rfl) (w_b_amber : W.b_amber = true := by first | assumption | rfl) (w_b_redundancy : W.b_redundancy = true := by first | assumption | rfl) (w_b_perf : W.b_perf = true := by first | assumption | rfl) : Keep W s0 (State.event s a1 a2 a3) := by
  unfold State.event
  try dsimp only
  repeat' first
    | with_reducible assumption
    | with_reducible refine Keep.ite ?_ ?_
    | with_reducible apply State.eventAt_keep

theorem State.stopPartition_keep {a1 a2} (h : Keep W s0 s) (w_bbs : W.bbs = true := by first | assumption | rfl) (w_out : W.out = true := by first | assumption | rfl) (w_po : W.po = true := by first | assumption | rfl) (w_faults : W.faults = true := by first | assumption | rfl) (w_lease : W.lease = true := by first | assumption | rfl) (w_pages : W.pages = true := by first | assumption | rfl) (w_serve : W.serve = true := by first | assumption | rfl) (w_slots : W.slots = true := by first | assumption | rfl) (w_fabric : W.fabric = true := by first | assumption | rfl) (w_stk : W.stk = true := by first | assumption | rfl) (w_links : W.links = true := by first | assumption | rfl) (w_dbg : W.dbg = true := by first | assumption | rfl) (w_opc : W.opc = true := by first | assumption | rfl) (w_b_image : W.b_image = true := by first | assumption | rfl) (w_b_page : W.b_page = true := by first | assumption | rfl) (w_b_output : W.b_output = true := by first | assumption | rfl) (w_b_fault : W.b_fault = true := by first | assumption | rfl) (w_b_amber : W.b_amber = true := by first | assumption | rfl) (w_b_redundancy : W.b_redundancy = true := by first | assumption | rfl) (w_b_perf : W.b_perf = true := by first | assumption | rfl) : Keep W s0 (State.stopPartition s a1 a2) := by
  unfold State.stopPartition
  try dsimp only
  repeat' first
    | with_reducible assumption
    | with_reducible refine Keep.ite ?_ ?_
    | with_reducible apply State.eventFuel_keep
    | with_reducible apply State.stopEffects_keep
    | (split <;> try dsimp only)

theorem State.accessNote_keep {a1} (h : Keep W s0 s) (w_bbs : W.bbs = true := by first | assumption | rfl) (w_out : W.out = true := by first | assumption | rfl) (w_po : W.po = true := by first | assumption | rfl) (w_faults : W.faults = true := by first | assumption | rfl) (w_lease : W.lease = true := by first | assumption | rfl) (w_pages : W.pages = true := by first | assumption | rfl) (w_serve : W.serve = true := by first | assumption | rfl) (w_slots : W.slots = true := by first | assumption | rfl) (w_fabric : W.fabric = true := by first | assumption | rfl) (w_stk : W.stk = true := by first | assumption | rfl) (w_links : W.links = true := by first | assumption | rfl) (w_dbg : W.dbg = true := by first | assumption | rfl) (w_opc : W.opc = true := by first | assumption | rfl) (w_b_image : W.b_image = true := by first | assumption | rfl) (w_b_page : W.b_page = true := by first | assumption | rfl) (w_b_output : W.b_output = true := by first | assumption | rfl) (w_b_fault : W.b_fault = true := by first | assumption | rfl) (w_b_amber : W.b_amber = true := by first | assumption | rfl) (w_b_redundancy : W.b_redundancy = true := by first | assumption | rfl) (w_b_perf : W.b_perf = true := by first | assumption | rfl) : Keep W s0 (State.accessNote s a1) := by
  unfold State.accessNote
  try dsimp only
  repeat' first
    | with_reducible assumption
    | with_reducible refine Keep.ite ?_ ?_
    | with_reducible apply State.event_keep
    | (split <;> try dsimp only)

end Sys2Proof.Machine
end

