-- ==== Sys2Proof/Laws/State.lean ====
section
/-! SUPPORT. What each named operation over State leaves alone: one lemma per operation and field, true by unfolding. -/

namespace Sys2Proof.Machine

-- One proof at a time: the package is compiled as one text under a memory limit.
set_option Elab.async false

variable (s : State)

/-! ## wr -/

@[simp] theorem State.wr_mem (f : Fld) (v i j : Nat) : (s.wr f v i j).mem = s.mem := rfl
@[simp] theorem State.wr_bbs (f : Fld) (v i j : Nat) : (s.wr f v i j).bbs = s.bbs := rfl
@[simp] theorem State.wr_clk (f : Fld) (v i j : Nat) : (s.wr f v i j).clk = s.clk := rfl
@[simp] theorem State.wr_modTime (f : Fld) (v i j : Nat) : (s.wr f v i j).modTime = s.modTime := rfl
@[simp] theorem State.wr_resetAt (f : Fld) (v i j : Nat) : (s.wr f v i j).resetAt = s.resetAt := rfl
@[simp] theorem State.wr_fresh (f : Fld) (v i j : Nat) : (s.wr f v i j).fresh = s.fresh := rfl
@[simp] theorem State.wr_out (f : Fld) (v i j : Nat) : (s.wr f v i j).out = s.out := rfl
@[simp] theorem State.wr_lastRead (f : Fld) (v i j : Nat) : (s.wr f v i j).lastRead = s.lastRead := rfl
@[simp] theorem State.wr_struct (f : Fld) (v i j : Nat) : (s.wr f v i j).struct = s.struct := rfl
@[simp] theorem State.wr_wparts (f : Fld) (v i j : Nat) : (s.wr f v i j).wparts = s.wparts := rfl
@[simp] theorem State.wr_rings (f : Fld) (v i j : Nat) : (s.wr f v i j).rings = s.rings := rfl
@[simp] theorem State.wr_irqs (f : Fld) (v i j : Nat) : (s.wr f v i j).irqs = s.irqs := rfl
@[simp] theorem State.wr_badUnits (f : Fld) (v i j : Nat) : (s.wr f v i j).badUnits = s.badUnits := rfl
@[simp] theorem State.wr_badRecord (f : Fld) (v i j : Nat) : (s.wr f v i j).badRecord = s.badRecord := rfl
@[simp] theorem State.wr_reruns (f : Fld) (v i j : Nat) : (s.wr f v i j).reruns = s.reruns := rfl
@[simp] theorem State.wr_po (f : Fld) (v i j : Nat) : (s.wr f v i j).po = s.po := rfl
@[simp] theorem State.wr_cv (f : Fld) (v i j : Nat) : (s.wr f v i j).cv = s.cv := rfl
@[simp] theorem State.wr_ptp (f : Fld) (v i j : Nat) : (s.wr f v i j).ptp = s.ptp := rfl
@[simp] theorem State.wr_faults (f : Fld) (v i j : Nat) : (s.wr f v i j).faults = s.faults := rfl
@[simp] theorem State.wr_lease (f : Fld) (v i j : Nat) : (s.wr f v i j).lease = s.lease := rfl
@[simp] theorem State.wr_identity (f : Fld) (v i j : Nat) : (s.wr f v i j).identity = s.identity := rfl
@[simp] theorem State.wr_linkSignal (f : Fld) (v i j : Nat) : (s.wr f v i j).linkSignal = s.linkSignal := rfl
@[simp] theorem State.wr_sec (f : Fld) (v i j : Nat) : (s.wr f v i j).sec = s.sec := rfl
@[simp] theorem State.wr_pages (f : Fld) (v i j : Nat) : (s.wr f v i j).pages = s.pages := rfl
@[simp] theorem State.wr_serve (f : Fld) (v i j : Nat) : (s.wr f v i j).serve = s.serve := rfl
@[simp] theorem State.wr_slots (f : Fld) (v i j : Nat) : (s.wr f v i j).slots = s.slots := rfl
@[simp] theorem State.wr_fabric (f : Fld) (v i j : Nat) : (s.wr f v i j).fabric = s.fabric := rfl
@[simp] theorem State.wr_stk (f : Fld) (v i j : Nat) : (s.wr f v i j).stk = s.stk := rfl
@[simp] theorem State.wr_links (f : Fld) (v i j : Nat) : (s.wr f v i j).links = s.links := rfl
@[simp] theorem State.wr_video (f : Fld) (v i j : Nat) : (s.wr f v i j).video = s.video := rfl
@[simp] theorem State.wr_power (f : Fld) (v i j : Nat) : (s.wr f v i j).power = s.power := rfl
@[simp] theorem State.wr_fw (f : Fld) (v i j : Nat) : (s.wr f v i j).fw = s.fw := rfl
@[simp] theorem State.wr_sdio (f : Fld) (v i j : Nat) : (s.wr f v i j).sdio = s.sdio := rfl
@[simp] theorem State.wr_mgmt (f : Fld) (v i j : Nat) : (s.wr f v i j).mgmt = s.mgmt := rfl
@[simp] theorem State.wr_cores (f : Fld) (v i j : Nat) : (s.wr f v i j).cores = s.cores := rfl
@[simp] theorem State.wr_dbg (f : Fld) (v i j : Nat) : (s.wr f v i j).dbg = s.dbg := rfl
@[simp] theorem State.wr_perf (f : Fld) (v i j : Nat) : (s.wr f v i j).perf = s.perf := rfl
@[simp] theorem State.wr_opc (f : Fld) (v i j : Nat) : (s.wr f v i j).opc = s.opc := rfl
@[simp] theorem State.wr_opcShadow (f : Fld) (v i j : Nat) : (s.wr f v i j).opcShadow = s.opcShadow := rfl
@[simp] theorem State.wr_bwStart (f : Fld) (v i j : Nat) : (s.wr f v i j).bwStart = s.bwStart := rfl
@[simp] theorem State.wr_pending (f : Fld) (v i j : Nat) : (s.wr f v i j).pending = s.pending := rfl

/-! ## rst -/

@[simp] theorem State.rst_mem (f : Fld) (i j : Nat) : (s.rst f i j).mem = s.mem := rfl
@[simp] theorem State.rst_bbs (f : Fld) (i j : Nat) : (s.rst f i j).bbs = s.bbs := rfl
@[simp] theorem State.rst_clk (f : Fld) (i j : Nat) : (s.rst f i j).clk = s.clk := rfl
@[simp] theorem State.rst_modTime (f : Fld) (i j : Nat) : (s.rst f i j).modTime = s.modTime := rfl
@[simp] theorem State.rst_resetAt (f : Fld) (i j : Nat) : (s.rst f i j).resetAt = s.resetAt := rfl
@[simp] theorem State.rst_fresh (f : Fld) (i j : Nat) : (s.rst f i j).fresh = s.fresh := rfl
@[simp] theorem State.rst_out (f : Fld) (i j : Nat) : (s.rst f i j).out = s.out := rfl
@[simp] theorem State.rst_lastRead (f : Fld) (i j : Nat) : (s.rst f i j).lastRead = s.lastRead := rfl
@[simp] theorem State.rst_struct (f : Fld) (i j : Nat) : (s.rst f i j).struct = s.struct := rfl
@[simp] theorem State.rst_wparts (f : Fld) (i j : Nat) : (s.rst f i j).wparts = s.wparts := rfl
@[simp] theorem State.rst_rings (f : Fld) (i j : Nat) : (s.rst f i j).rings = s.rings := rfl
@[simp] theorem State.rst_irqs (f : Fld) (i j : Nat) : (s.rst f i j).irqs = s.irqs := rfl
@[simp] theorem State.rst_badUnits (f : Fld) (i j : Nat) : (s.rst f i j).badUnits = s.badUnits := rfl
@[simp] theorem State.rst_badRecord (f : Fld) (i j : Nat) : (s.rst f i j).badRecord = s.badRecord := rfl
@[simp] theorem State.rst_reruns (f : Fld) (i j : Nat) : (s.rst f i j).reruns = s.reruns := rfl
@[simp] theorem State.rst_po (f : Fld) (i j : Nat) : (s.rst f i j).po = s.po := rfl
@[simp] theorem State.rst_cv (f : Fld) (i j : Nat) : (s.rst f i j).cv = s.cv := rfl
@[simp] theorem State.rst_ptp (f : Fld) (i j : Nat) : (s.rst f i j).ptp = s.ptp := rfl
@[simp] theorem State.rst_faults (f : Fld) (i j : Nat) : (s.rst f i j).faults = s.faults := rfl
@[simp] theorem State.rst_lease (f : Fld) (i j : Nat) : (s.rst f i j).lease = s.lease := rfl
@[simp] theorem State.rst_identity (f : Fld) (i j : Nat) : (s.rst f i j).identity = s.identity := rfl
@[simp] theorem State.rst_linkSignal (f : Fld) (i j : Nat) : (s.rst f i j).linkSignal = s.linkSignal := rfl
@[simp] theorem State.rst_sec (f : Fld) (i j : Nat) : (s.rst f i j).sec = s.sec := rfl
@[simp] theorem State.rst_pages (f : Fld) (i j : Nat) : (s.rst f i j).pages = s.pages := rfl
@[simp] theorem State.rst_serve (f : Fld) (i j : Nat) : (s.rst f i j).serve = s.serve := rfl
@[simp] theorem State.rst_slots (f : Fld) (i j : Nat) : (s.rst f i j).slots = s.slots := rfl
@[simp] theorem State.rst_fabric (f : Fld) (i j : Nat) : (s.rst f i j).fabric = s.fabric := rfl
@[simp] theorem State.rst_stk (f : Fld) (i j : Nat) : (s.rst f i j).stk = s.stk := rfl
@[simp] theorem State.rst_links (f : Fld) (i j : Nat) : (s.rst f i j).links = s.links := rfl
@[simp] theorem State.rst_video (f : Fld) (i j : Nat) : (s.rst f i j).video = s.video := rfl
@[simp] theorem State.rst_power (f : Fld) (i j : Nat) : (s.rst f i j).power = s.power := rfl
@[simp] theorem State.rst_fw (f : Fld) (i j : Nat) : (s.rst f i j).fw = s.fw := rfl
@[simp] theorem State.rst_sdio (f : Fld) (i j : Nat) : (s.rst f i j).sdio = s.sdio := rfl
@[simp] theorem State.rst_mgmt (f : Fld) (i j : Nat) : (s.rst f i j).mgmt = s.mgmt := rfl
@[simp] theorem State.rst_cores (f : Fld) (i j : Nat) : (s.rst f i j).cores = s.cores := rfl
@[simp] theorem State.rst_dbg (f : Fld) (i j : Nat) : (s.rst f i j).dbg = s.dbg := rfl
@[simp] theorem State.rst_perf (f : Fld) (i j : Nat) : (s.rst f i j).perf = s.perf := rfl
@[simp] theorem State.rst_opc (f : Fld) (i j : Nat) : (s.rst f i j).opc = s.opc := rfl
@[simp] theorem State.rst_opcShadow (f : Fld) (i j : Nat) : (s.rst f i j).opcShadow = s.opcShadow := rfl
@[simp] theorem State.rst_bwStart (f : Fld) (i j : Nat) : (s.rst f i j).bwStart = s.bwStart := rfl
@[simp] theorem State.rst_pending (f : Fld) (i j : Nat) : (s.rst f i j).pending = s.pending := rfl

/-! ## inc -/

@[simp] theorem State.inc_mem (f : Fld) (i j n : Nat) : (s.inc f i j n).mem = s.mem := rfl
@[simp] theorem State.inc_bbs (f : Fld) (i j n : Nat) : (s.inc f i j n).bbs = s.bbs := rfl
@[simp] theorem State.inc_clk (f : Fld) (i j n : Nat) : (s.inc f i j n).clk = s.clk := rfl
@[simp] theorem State.inc_modTime (f : Fld) (i j n : Nat) : (s.inc f i j n).modTime = s.modTime := rfl
@[simp] theorem State.inc_resetAt (f : Fld) (i j n : Nat) : (s.inc f i j n).resetAt = s.resetAt := rfl
@[simp] theorem State.inc_fresh (f : Fld) (i j n : Nat) : (s.inc f i j n).fresh = s.fresh := rfl
@[simp] theorem State.inc_out (f : Fld) (i j n : Nat) : (s.inc f i j n).out = s.out := rfl
@[simp] theorem State.inc_lastRead (f : Fld) (i j n : Nat) : (s.inc f i j n).lastRead = s.lastRead := rfl
@[simp] theorem State.inc_struct (f : Fld) (i j n : Nat) : (s.inc f i j n).struct = s.struct := rfl
@[simp] theorem State.inc_wparts (f : Fld) (i j n : Nat) : (s.inc f i j n).wparts = s.wparts := rfl
@[simp] theorem State.inc_rings (f : Fld) (i j n : Nat) : (s.inc f i j n).rings = s.rings := rfl
@[simp] theorem State.inc_irqs (f : Fld) (i j n : Nat) : (s.inc f i j n).irqs = s.irqs := rfl
@[simp] theorem State.inc_badUnits (f : Fld) (i j n : Nat) : (s.inc f i j n).badUnits = s.badUnits := rfl
@[simp] theorem State.inc_badRecord (f : Fld) (i j n : Nat) : (s.inc f i j n).badRecord = s.badRecord := rfl
@[simp] theorem State.inc_reruns (f : Fld) (i j n : Nat) : (s.inc f i j n).reruns = s.reruns := rfl
@[simp] theorem State.inc_po (f : Fld) (i j n : Nat) : (s.inc f i j n).po = s.po := rfl
@[simp] theorem State.inc_cv (f : Fld) (i j n : Nat) : (s.inc f i j n).cv = s.cv := rfl
@[simp] theorem State.inc_ptp (f : Fld) (i j n : Nat) : (s.inc f i j n).ptp = s.ptp := rfl
@[simp] theorem State.inc_faults (f : Fld) (i j n : Nat) : (s.inc f i j n).faults = s.faults := rfl
@[simp] theorem State.inc_lease (f : Fld) (i j n : Nat) : (s.inc f i j n).lease = s.lease := rfl
@[simp] theorem State.inc_identity (f : Fld) (i j n : Nat) : (s.inc f i j n).identity = s.identity := rfl
@[simp] theorem State.inc_linkSignal (f : Fld) (i j n : Nat) : (s.inc f i j n).linkSignal = s.linkSignal := rfl
@[simp] theorem State.inc_sec (f : Fld) (i j n : Nat) : (s.inc f i j n).sec = s.sec := rfl
@[simp] theorem State.inc_pages (f : Fld) (i j n : Nat) : (s.inc f i j n).pages = s.pages := rfl
@[simp] theorem State.inc_serve (f : Fld) (i j n : Nat) : (s.inc f i j n).serve = s.serve := rfl
@[simp] theorem State.inc_slots (f : Fld) (i j n : Nat) : (s.inc f i j n).slots = s.slots := rfl
@[simp] theorem State.inc_fabric (f : Fld) (i j n : Nat) : (s.inc f i j n).fabric = s.fabric := rfl
@[simp] theorem State.inc_stk (f : Fld) (i j n : Nat) : (s.inc f i j n).stk = s.stk := rfl
@[simp] theorem State.inc_links (f : Fld) (i j n : Nat) : (s.inc f i j n).links = s.links := rfl
@[simp] theorem State.inc_video (f : Fld) (i j n : Nat) : (s.inc f i j n).video = s.video := rfl
@[simp] theorem State.inc_power (f : Fld) (i j n : Nat) : (s.inc f i j n).power = s.power := rfl
@[simp] theorem State.inc_fw (f : Fld) (i j n : Nat) : (s.inc f i j n).fw = s.fw := rfl
@[simp] theorem State.inc_sdio (f : Fld) (i j n : Nat) : (s.inc f i j n).sdio = s.sdio := rfl
@[simp] theorem State.inc_mgmt (f : Fld) (i j n : Nat) : (s.inc f i j n).mgmt = s.mgmt := rfl
@[simp] theorem State.inc_cores (f : Fld) (i j n : Nat) : (s.inc f i j n).cores = s.cores := rfl
@[simp] theorem State.inc_dbg (f : Fld) (i j n : Nat) : (s.inc f i j n).dbg = s.dbg := rfl
@[simp] theorem State.inc_perf (f : Fld) (i j n : Nat) : (s.inc f i j n).perf = s.perf := rfl
@[simp] theorem State.inc_opc (f : Fld) (i j n : Nat) : (s.inc f i j n).opc = s.opc := rfl
@[simp] theorem State.inc_opcShadow (f : Fld) (i j n : Nat) : (s.inc f i j n).opcShadow = s.opcShadow := rfl
@[simp] theorem State.inc_bwStart (f : Fld) (i j n : Nat) : (s.inc f i j n).bwStart = s.bwStart := rfl
@[simp] theorem State.inc_pending (f : Fld) (i j n : Nat) : (s.inc f i j n).pending = s.pending := rfl

/-! ## setB -/

@[simp] theorem State.setB_mem (f : Fld) (i j : Nat) : (s.setB f i j).mem = s.mem := rfl
@[simp] theorem State.setB_bbs (f : Fld) (i j : Nat) : (s.setB f i j).bbs = s.bbs := rfl
@[simp] theorem State.setB_clk (f : Fld) (i j : Nat) : (s.setB f i j).clk = s.clk := rfl
@[simp] theorem State.setB_modTime (f : Fld) (i j : Nat) : (s.setB f i j).modTime = s.modTime := rfl
@[simp] theorem State.setB_resetAt (f : Fld) (i j : Nat) : (s.setB f i j).resetAt = s.resetAt := rfl
@[simp] theorem State.setB_fresh (f : Fld) (i j : Nat) : (s.setB f i j).fresh = s.fresh := rfl
@[simp] theorem State.setB_out (f : Fld) (i j : Nat) : (s.setB f i j).out = s.out := rfl
@[simp] theorem State.setB_lastRead (f : Fld) (i j : Nat) : (s.setB f i j).lastRead = s.lastRead := rfl
@[simp] theorem State.setB_struct (f : Fld) (i j : Nat) : (s.setB f i j).struct = s.struct := rfl
@[simp] theorem State.setB_wparts (f : Fld) (i j : Nat) : (s.setB f i j).wparts = s.wparts := rfl
@[simp] theorem State.setB_rings (f : Fld) (i j : Nat) : (s.setB f i j).rings = s.rings := rfl
@[simp] theorem State.setB_irqs (f : Fld) (i j : Nat) : (s.setB f i j).irqs = s.irqs := rfl
@[simp] theorem State.setB_badUnits (f : Fld) (i j : Nat) : (s.setB f i j).badUnits = s.badUnits := rfl
@[simp] theorem State.setB_badRecord (f : Fld) (i j : Nat) : (s.setB f i j).badRecord = s.badRecord := rfl
@[simp] theorem State.setB_reruns (f : Fld) (i j : Nat) : (s.setB f i j).reruns = s.reruns := rfl
@[simp] theorem State.setB_po (f : Fld) (i j : Nat) : (s.setB f i j).po = s.po := rfl
@[simp] theorem State.setB_cv (f : Fld) (i j : Nat) : (s.setB f i j).cv = s.cv := rfl
@[simp] theorem State.setB_ptp (f : Fld) (i j : Nat) : (s.setB f i j).ptp = s.ptp := rfl
@[simp] theorem State.setB_faults (f : Fld) (i j : Nat) : (s.setB f i j).faults = s.faults := rfl
@[simp] theorem State.setB_lease (f : Fld) (i j : Nat) : (s.setB f i j).lease = s.lease := rfl
@[simp] theorem State.setB_identity (f : Fld) (i j : Nat) : (s.setB f i j).identity = s.identity := rfl
@[simp] theorem State.setB_linkSignal (f : Fld) (i j : Nat) : (s.setB f i j).linkSignal = s.linkSignal := rfl
@[simp] theorem State.setB_sec (f : Fld) (i j : Nat) : (s.setB f i j).sec = s.sec := rfl
@[simp] theorem State.setB_pages (f : Fld) (i j : Nat) : (s.setB f i j).pages = s.pages := rfl
@[simp] theorem State.setB_serve (f : Fld) (i j : Nat) : (s.setB f i j).serve = s.serve := rfl
@[simp] theorem State.setB_slots (f : Fld) (i j : Nat) : (s.setB f i j).slots = s.slots := rfl
@[simp] theorem State.setB_fabric (f : Fld) (i j : Nat) : (s.setB f i j).fabric = s.fabric := rfl
@[simp] theorem State.setB_stk (f : Fld) (i j : Nat) : (s.setB f i j).stk = s.stk := rfl
@[simp] theorem State.setB_links (f : Fld) (i j : Nat) : (s.setB f i j).links = s.links := rfl
@[simp] theorem State.setB_video (f : Fld) (i j : Nat) : (s.setB f i j).video = s.video := rfl
@[simp] theorem State.setB_power (f : Fld) (i j : Nat) : (s.setB f i j).power = s.power := rfl
@[simp] theorem State.setB_fw (f : Fld) (i j : Nat) : (s.setB f i j).fw = s.fw := rfl
@[simp] theorem State.setB_sdio (f : Fld) (i j : Nat) : (s.setB f i j).sdio = s.sdio := rfl
@[simp] theorem State.setB_mgmt (f : Fld) (i j : Nat) : (s.setB f i j).mgmt = s.mgmt := rfl
@[simp] theorem State.setB_cores (f : Fld) (i j : Nat) : (s.setB f i j).cores = s.cores := rfl
@[simp] theorem State.setB_dbg (f : Fld) (i j : Nat) : (s.setB f i j).dbg = s.dbg := rfl
@[simp] theorem State.setB_perf (f : Fld) (i j : Nat) : (s.setB f i j).perf = s.perf := rfl
@[simp] theorem State.setB_opc (f : Fld) (i j : Nat) : (s.setB f i j).opc = s.opc := rfl
@[simp] theorem State.setB_opcShadow (f : Fld) (i j : Nat) : (s.setB f i j).opcShadow = s.opcShadow := rfl
@[simp] theorem State.setB_bwStart (f : Fld) (i j : Nat) : (s.setB f i j).bwStart = s.bwStart := rfl
@[simp] theorem State.setB_pending (f : Fld) (i j : Nat) : (s.setB f i j).pending = s.pending := rfl

/-! ## draw -/

@[simp] theorem State.draw_regs : (s.draw).regs = s.regs := rfl
@[simp] theorem State.draw_mem : (s.draw).mem = s.mem := rfl
@[simp] theorem State.draw_bbs : (s.draw).bbs = s.bbs := rfl
@[simp] theorem State.draw_clk : (s.draw).clk = s.clk := rfl
@[simp] theorem State.draw_modTime : (s.draw).modTime = s.modTime := rfl
@[simp] theorem State.draw_resetAt : (s.draw).resetAt = s.resetAt := rfl
@[simp] theorem State.draw_out : (s.draw).out = s.out := rfl
@[simp] theorem State.draw_lastRead : (s.draw).lastRead = s.lastRead := rfl
@[simp] theorem State.draw_struct : (s.draw).struct = s.struct := rfl
@[simp] theorem State.draw_wparts : (s.draw).wparts = s.wparts := rfl
@[simp] theorem State.draw_rings : (s.draw).rings = s.rings := rfl
@[simp] theorem State.draw_irqs : (s.draw).irqs = s.irqs := rfl
@[simp] theorem State.draw_badUnits : (s.draw).badUnits = s.badUnits := rfl
@[simp] theorem State.draw_badRecord : (s.draw).badRecord = s.badRecord := rfl
@[simp] theorem State.draw_reruns : (s.draw).reruns = s.reruns := rfl
@[simp] theorem State.draw_po : (s.draw).po = s.po := rfl
@[simp] theorem State.draw_cv : (s.draw).cv = s.cv := rfl
@[simp] theorem State.draw_ptp : (s.draw).ptp = s.ptp := rfl
@[simp] theorem State.draw_faults : (s.draw).faults = s.faults := rfl
@[simp] theorem State.draw_lease : (s.draw).lease = s.lease := rfl
@[simp] theorem State.draw_identity : (s.draw).identity = s.identity := rfl
@[simp] theorem State.draw_linkSignal : (s.draw).linkSignal = s.linkSignal := rfl
@[simp] theorem State.draw_sec : (s.draw).sec = s.sec := rfl
@[simp] theorem State.draw_pages : (s.draw).pages = s.pages := rfl
@[simp] theorem State.draw_serve : (s.draw).serve = s.serve := rfl
@[simp] theorem State.draw_slots : (s.draw).slots = s.slots := rfl
@[simp] theorem State.draw_fabric : (s.draw).fabric = s.fabric := rfl
@[simp] theorem State.draw_stk : (s.draw).stk = s.stk := rfl
@[simp] theorem State.draw_links : (s.draw).links = s.links := rfl
@[simp] theorem State.draw_video : (s.draw).video = s.video := rfl
@[simp] theorem State.draw_power : (s.draw).power = s.power := rfl
@[simp] theorem State.draw_fw : (s.draw).fw = s.fw := rfl
@[simp] theorem State.draw_sdio : (s.draw).sdio = s.sdio := rfl
@[simp] theorem State.draw_mgmt : (s.draw).mgmt = s.mgmt := rfl
@[simp] theorem State.draw_cores : (s.draw).cores = s.cores := rfl
@[simp] theorem State.draw_dbg : (s.draw).dbg = s.dbg := rfl
@[simp] theorem State.draw_perf : (s.draw).perf = s.perf := rfl
@[simp] theorem State.draw_opc : (s.draw).opc = s.opc := rfl
@[simp] theorem State.draw_opcShadow : (s.draw).opcShadow = s.opcShadow := rfl
@[simp] theorem State.draw_bwStart : (s.draw).bwStart = s.bwStart := rfl
@[simp] theorem State.draw_pending : (s.draw).pending = s.pending := rfl

/-! ## emit -/

@[simp] theorem State.emit_regs (m : OutMsg) : (s.emit m).regs = s.regs := rfl
@[simp] theorem State.emit_mem (m : OutMsg) : (s.emit m).mem = s.mem := rfl
@[simp] theorem State.emit_bbs (m : OutMsg) : (s.emit m).bbs = s.bbs := rfl
@[simp] theorem State.emit_clk (m : OutMsg) : (s.emit m).clk = s.clk := rfl
@[simp] theorem State.emit_modTime (m : OutMsg) : (s.emit m).modTime = s.modTime := rfl
@[simp] theorem State.emit_resetAt (m : OutMsg) : (s.emit m).resetAt = s.resetAt := rfl
@[simp] theorem State.emit_fresh (m : OutMsg) : (s.emit m).fresh = s.fresh := rfl
@[simp] theorem State.emit_lastRead (m : OutMsg) : (s.emit m).lastRead = s.lastRead := rfl
@[simp] theorem State.emit_struct (m : OutMsg) : (s.emit m).struct = s.struct := rfl
@[simp] theorem State.emit_wparts (m : OutMsg) : (s.emit m).wparts = s.wparts := rfl
@[simp] theorem State.emit_rings (m : OutMsg) : (s.emit m).rings = s.rings := rfl
@[simp] theorem State.emit_irqs (m : OutMsg) : (s.emit m).irqs = s.irqs := rfl
@[simp] theorem State.emit_badUnits (m : OutMsg) : (s.emit m).badUnits = s.badUnits := rfl
@[simp] theorem State.emit_badRecord (m : OutMsg) : (s.emit m).badRecord = s.badRecord := rfl
@[simp] theorem State.emit_reruns (m : OutMsg) : (s.emit m).reruns = s.reruns := rfl
@[simp] theorem State.emit_po (m : OutMsg) : (s.emit m).po = s.po := rfl
@[simp] theorem State.emit_cv (m : OutMsg) : (s.emit m).cv = s.cv := rfl
@[simp] theorem State.emit_ptp (m : OutMsg) : (s.emit m).ptp = s.ptp := rfl
@[simp] theorem State.emit_faults (m : OutMsg) : (s.emit m).faults = s.faults := rfl
@[simp] theorem State.emit_lease (m : OutMsg) : (s.emit m).lease = s.lease := rfl
@[simp] theorem State.emit_identity (m : OutMsg) : (s.emit m).identity = s.identity := rfl
@[simp] theorem State.emit_linkSignal (m : OutMsg) : (s.emit m).linkSignal = s.linkSignal := rfl
@[simp] theorem State.emit_sec (m : OutMsg) : (s.emit m).sec = s.sec := rfl
@[simp] theorem State.emit_pages (m : OutMsg) : (s.emit m).pages = s.pages := rfl
@[simp] theorem State.emit_serve (m : OutMsg) : (s.emit m).serve = s.serve := rfl
@[simp] theorem State.emit_slots (m : OutMsg) : (s.emit m).slots = s.slots := rfl
@[simp] theorem State.emit_fabric (m : OutMsg) : (s.emit m).fabric = s.fabric := rfl
@[simp] theorem State.emit_stk (m : OutMsg) : (s.emit m).stk = s.stk := rfl
@[simp] theorem State.emit_links (m : OutMsg) : (s.emit m).links = s.links := rfl
@[simp] theorem State.emit_video (m : OutMsg) : (s.emit m).video = s.video := rfl
@[simp] theorem State.emit_power (m : OutMsg) : (s.emit m).power = s.power := rfl
@[simp] theorem State.emit_fw (m : OutMsg) : (s.emit m).fw = s.fw := rfl
@[simp] theorem State.emit_sdio (m : OutMsg) : (s.emit m).sdio = s.sdio := rfl
@[simp] theorem State.emit_mgmt (m : OutMsg) : (s.emit m).mgmt = s.mgmt := rfl
@[simp] theorem State.emit_cores (m : OutMsg) : (s.emit m).cores = s.cores := rfl
@[simp] theorem State.emit_dbg (m : OutMsg) : (s.emit m).dbg = s.dbg := rfl
@[simp] theorem State.emit_perf (m : OutMsg) : (s.emit m).perf = s.perf := rfl
@[simp] theorem State.emit_opc (m : OutMsg) : (s.emit m).opc = s.opc := rfl
@[simp] theorem State.emit_opcShadow (m : OutMsg) : (s.emit m).opcShadow = s.opcShadow := rfl
@[simp] theorem State.emit_bwStart (m : OutMsg) : (s.emit m).bwStart = s.bwStart := rfl
@[simp] theorem State.emit_pending (m : OutMsg) : (s.emit m).pending = s.pending := rfl

/-! ## setByte -/

@[simp] theorem State.setByte_regs (a : Nat) (b : Byte) : (s.setByte a b).regs = s.regs := rfl
@[simp] theorem State.setByte_bbs (a : Nat) (b : Byte) : (s.setByte a b).bbs = s.bbs := rfl
@[simp] theorem State.setByte_clk (a : Nat) (b : Byte) : (s.setByte a b).clk = s.clk := rfl
@[simp] theorem State.setByte_modTime (a : Nat) (b : Byte) : (s.setByte a b).modTime = s.modTime := rfl
@[simp] theorem State.setByte_resetAt (a : Nat) (b : Byte) : (s.setByte a b).resetAt = s.resetAt := rfl
@[simp] theorem State.setByte_fresh (a : Nat) (b : Byte) : (s.setByte a b).fresh = s.fresh := rfl
@[simp] theorem State.setByte_out (a : Nat) (b : Byte) : (s.setByte a b).out = s.out := rfl
@[simp] theorem State.setByte_lastRead (a : Nat) (b : Byte) : (s.setByte a b).lastRead = s.lastRead := rfl
@[simp] theorem State.setByte_struct (a : Nat) (b : Byte) : (s.setByte a b).struct = s.struct := rfl
@[simp] theorem State.setByte_wparts (a : Nat) (b : Byte) : (s.setByte a b).wparts = s.wparts := rfl
@[simp] theorem State.setByte_rings (a : Nat) (b : Byte) : (s.setByte a b).rings = s.rings := rfl
@[simp] theorem State.setByte_irqs (a : Nat) (b : Byte) : (s.setByte a b).irqs = s.irqs := rfl
@[simp] theorem State.setByte_badUnits (a : Nat) (b : Byte) : (s.setByte a b).badUnits = s.badUnits := rfl
@[simp] theorem State.setByte_badRecord (a : Nat) (b : Byte) : (s.setByte a b).badRecord = s.badRecord := rfl
@[simp] theorem State.setByte_reruns (a : Nat) (b : Byte) : (s.setByte a b).reruns = s.reruns := rfl
@[simp] theorem State.setByte_po (a : Nat) (b : Byte) : (s.setByte a b).po = s.po := rfl
@[simp] theorem State.setByte_cv (a : Nat) (b : Byte) : (s.setByte a b).cv = s.cv := rfl
@[simp] theorem State.setByte_ptp (a : Nat) (b : Byte) : (s.setByte a b).ptp = s.ptp := rfl
@[simp] theorem State.setByte_faults (a : Nat) (b : Byte) : (s.setByte a b).faults = s.faults := rfl
@[simp] theorem State.setByte_lease (a : Nat) (b : Byte) : (s.setByte a b).lease = s.lease := rfl
@[simp] theorem State.setByte_identity (a : Nat) (b : Byte) : (s.setByte a b).identity = s.identity := rfl
@[simp] theorem State.setByte_linkSignal (a : Nat) (b : Byte) : (s.setByte a b).linkSignal = s.linkSignal := rfl
@[simp] theorem State.setByte_sec (a : Nat) (b : Byte) : (s.setByte a b).sec = s.sec := rfl
@[simp] theorem State.setByte_pages (a : Nat) (b : Byte) : (s.setByte a b).pages = s.pages := rfl
@[simp] theorem State.setByte_serve (a : Nat) (b : Byte) : (s.setByte a b).serve = s.serve := rfl
@[simp] theorem State.setByte_slots (a : Nat) (b : Byte) : (s.setByte a b).slots = s.slots := rfl
@[simp] theorem State.setByte_fabric (a : Nat) (b : Byte) : (s.setByte a b).fabric = s.fabric := rfl
@[simp] theorem State.setByte_stk (a : Nat) (b : Byte) : (s.setByte a b).stk = s.stk := rfl
@[simp] theorem State.setByte_links (a : Nat) (b : Byte) : (s.setByte a b).links = s.links := rfl
@[simp] theorem State.setByte_video (a : Nat) (b : Byte) : (s.setByte a b).video = s.video := rfl
@[simp] theorem State.setByte_power (a : Nat) (b : Byte) : (s.setByte a b).power = s.power := rfl
@[simp] theorem State.setByte_fw (a : Nat) (b : Byte) : (s.setByte a b).fw = s.fw := rfl
@[simp] theorem State.setByte_sdio (a : Nat) (b : Byte) : (s.setByte a b).sdio = s.sdio := rfl
@[simp] theorem State.setByte_mgmt (a : Nat) (b : Byte) : (s.setByte a b).mgmt = s.mgmt := rfl
@[simp] theorem State.setByte_cores (a : Nat) (b : Byte) : (s.setByte a b).cores = s.cores := rfl
@[simp] theorem State.setByte_dbg (a : Nat) (b : Byte) : (s.setByte a b).dbg = s.dbg := rfl
@[simp] theorem State.setByte_perf (a : Nat) (b : Byte) : (s.setByte a b).perf = s.perf := rfl
@[simp] theorem State.setByte_opc (a : Nat) (b : Byte) : (s.setByte a b).opc = s.opc := rfl
@[simp] theorem State.setByte_opcShadow (a : Nat) (b : Byte) : (s.setByte a b).opcShadow = s.opcShadow := rfl
@[simp] theorem State.setByte_bwStart (a : Nat) (b : Byte) : (s.setByte a b).bwStart = s.bwStart := rfl
@[simp] theorem State.setByte_pending (a : Nat) (b : Byte) : (s.setByte a b).pending = s.pending := rfl

/-! ## putBytes -/

@[simp] theorem State.putBytes_regs (a : Nat) (bs : List Byte) : (s.putBytes a bs).regs = s.regs := rfl
@[simp] theorem State.putBytes_bbs (a : Nat) (bs : List Byte) : (s.putBytes a bs).bbs = s.bbs := rfl
@[simp] theorem State.putBytes_clk (a : Nat) (bs : List Byte) : (s.putBytes a bs).clk = s.clk := rfl
@[simp] theorem State.putBytes_modTime (a : Nat) (bs : List Byte) : (s.putBytes a bs).modTime = s.modTime := rfl
@[simp] theorem State.putBytes_resetAt (a : Nat) (bs : List Byte) : (s.putBytes a bs).resetAt = s.resetAt := rfl
@[simp] theorem State.putBytes_fresh (a : Nat) (bs : List Byte) : (s.putBytes a bs).fresh = s.fresh := rfl
@[simp] theorem State.putBytes_out (a : Nat) (bs : List Byte) : (s.putBytes a bs).out = s.out := rfl
@[simp] theorem State.putBytes_lastRead (a : Nat) (bs : List Byte) : (s.putBytes a bs).lastRead = s.lastRead := rfl
@[simp] theorem State.putBytes_struct (a : Nat) (bs : List Byte) : (s.putBytes a bs).struct = s.struct := rfl
@[simp] theorem State.putBytes_wparts (a : Nat) (bs : List Byte) : (s.putBytes a bs).wparts = s.wparts := rfl
@[simp] theorem State.putBytes_rings (a : Nat) (bs : List Byte) : (s.putBytes a bs).rings = s.rings := rfl
@[simp] theorem State.putBytes_irqs (a : Nat) (bs : List Byte) : (s.putBytes a bs).irqs = s.irqs := rfl
@[simp] theorem State.putBytes_badUnits (a : Nat) (bs : List Byte) : (s.putBytes a bs).badUnits = s.badUnits := rfl
@[simp] theorem State.putBytes_badRecord (a : Nat) (bs : List Byte) : (s.putBytes a bs).badRecord = s.badRecord := rfl
@[simp] theorem State.putBytes_reruns (a : Nat) (bs : List Byte) : (s.putBytes a bs).reruns = s.reruns := rfl
@[simp] theorem State.putBytes_po (a : Nat) (bs : List Byte) : (s.putBytes a bs).po = s.po := rfl
@[simp] theorem State.putBytes_cv (a : Nat) (bs : List Byte) : (s.putBytes a bs).cv = s.cv := rfl
@[simp] theorem State.putBytes_ptp (a : Nat) (bs : List Byte) : (s.putBytes a bs).ptp = s.ptp := rfl
@[simp] theorem State.putBytes_faults (a : Nat) (bs : List Byte) : (s.putBytes a bs).faults = s.faults := rfl
@[simp] theorem State.putBytes_lease (a : Nat) (bs : List Byte) : (s.putBytes a bs).lease = s.lease := rfl
@[simp] theorem State.putBytes_identity (a : Nat) (bs : List Byte) : (s.putBytes a bs).identity = s.identity := rfl
@[simp] theorem State.putBytes_linkSignal (a : Nat) (bs : List Byte) : (s.putBytes a bs).linkSignal = s.linkSignal := rfl
@[simp] theorem State.putBytes_sec (a : Nat) (bs : List Byte) : (s.putBytes a bs).sec = s.sec := rfl
@[simp] theorem State.putBytes_pages (a : Nat) (bs : List Byte) : (s.putBytes a bs).pages = s.pages := rfl
@[simp] theorem State.putBytes_serve (a : Nat) (bs : List Byte) : (s.putBytes a bs).serve = s.serve := rfl
@[simp] theorem State.putBytes_slots (a : Nat) (bs : List Byte) : (s.putBytes a bs).slots = s.slots := rfl
@[simp] theorem State.putBytes_fabric (a : Nat) (bs : List Byte) : (s.putBytes a bs).fabric = s.fabric := rfl
@[simp] theorem State.putBytes_stk (a : Nat) (bs : List Byte) : (s.putBytes a bs).stk = s.stk := rfl
@[simp] theorem State.putBytes_links (a : Nat) (bs : List Byte) : (s.putBytes a bs).links = s.links := rfl
@[simp] theorem State.putBytes_video (a : Nat) (bs : List Byte) : (s.putBytes a bs).video = s.video := rfl
@[simp] theorem State.putBytes_power (a : Nat) (bs : List Byte) : (s.putBytes a bs).power = s.power := rfl
@[simp] theorem State.putBytes_fw (a : Nat) (bs : List Byte) : (s.putBytes a bs).fw = s.fw := rfl
@[simp] theorem State.putBytes_sdio (a : Nat) (bs : List Byte) : (s.putBytes a bs).sdio = s.sdio := rfl
@[simp] theorem State.putBytes_mgmt (a : Nat) (bs : List Byte) : (s.putBytes a bs).mgmt = s.mgmt := rfl
@[simp] theorem State.putBytes_cores (a : Nat) (bs : List Byte) : (s.putBytes a bs).cores = s.cores := rfl
@[simp] theorem State.putBytes_dbg (a : Nat) (bs : List Byte) : (s.putBytes a bs).dbg = s.dbg := rfl
@[simp] theorem State.putBytes_perf (a : Nat) (bs : List Byte) : (s.putBytes a bs).perf = s.perf := rfl
@[simp] theorem State.putBytes_opc (a : Nat) (bs : List Byte) : (s.putBytes a bs).opc = s.opc := rfl
@[simp] theorem State.putBytes_opcShadow (a : Nat) (bs : List Byte) : (s.putBytes a bs).opcShadow = s.opcShadow := rfl
@[simp] theorem State.putBytes_bwStart (a : Nat) (bs : List Byte) : (s.putBytes a bs).bwStart = s.bwStart := rfl
@[simp] theorem State.putBytes_pending (a : Nat) (bs : List Byte) : (s.putBytes a bs).pending = s.pending := rfl

/-! ## zeroWhere -/

@[simp] theorem State.zeroWhere_regs (p : Nat → Bool) : (s.zeroWhere p).regs = s.regs := rfl
@[simp] theorem State.zeroWhere_bbs (p : Nat → Bool) : (s.zeroWhere p).bbs = s.bbs := rfl
@[simp] theorem State.zeroWhere_clk (p : Nat → Bool) : (s.zeroWhere p).clk = s.clk := rfl
@[simp] theorem State.zeroWhere_modTime (p : Nat → Bool) : (s.zeroWhere p).modTime = s.modTime := rfl
@[simp] theorem State.zeroWhere_resetAt (p : Nat → Bool) : (s.zeroWhere p).resetAt = s.resetAt := rfl
@[simp] theorem State.zeroWhere_fresh (p : Nat → Bool) : (s.zeroWhere p).fresh = s.fresh := rfl
@[simp] theorem State.zeroWhere_out (p : Nat → Bool) : (s.zeroWhere p).out = s.out := rfl
@[simp] theorem State.zeroWhere_lastRead (p : Nat → Bool) : (s.zeroWhere p).lastRead = s.lastRead := rfl
@[simp] theorem State.zeroWhere_struct (p : Nat → Bool) : (s.zeroWhere p).struct = s.struct := rfl
@[simp] theorem State.zeroWhere_wparts (p : Nat → Bool) : (s.zeroWhere p).wparts = s.wparts := rfl
@[simp] theorem State.zeroWhere_rings (p : Nat → Bool) : (s.zeroWhere p).rings = s.rings := rfl
@[simp] theorem State.zeroWhere_irqs (p : Nat → Bool) : (s.zeroWhere p).irqs = s.irqs := rfl
@[simp] theorem State.zeroWhere_badUnits (p : Nat → Bool) : (s.zeroWhere p).badUnits = s.badUnits := rfl
@[simp] theorem State.zeroWhere_badRecord (p : Nat → Bool) : (s.zeroWhere p).badRecord = s.badRecord := rfl
@[simp] theorem State.zeroWhere_reruns (p : Nat → Bool) : (s.zeroWhere p).reruns = s.reruns := rfl
@[simp] theorem State.zeroWhere_po (p : Nat → Bool) : (s.zeroWhere p).po = s.po := rfl
@[simp] theorem State.zeroWhere_cv (p : Nat → Bool) : (s.zeroWhere p).cv = s.cv := rfl
@[simp] theorem State.zeroWhere_ptp (p : Nat → Bool) : (s.zeroWhere p).ptp = s.ptp := rfl
@[simp] theorem State.zeroWhere_faults (p : Nat → Bool) : (s.zeroWhere p).faults = s.faults := rfl
@[simp] theorem State.zeroWhere_lease (p : Nat → Bool) : (s.zeroWhere p).lease = s.lease := rfl
@[simp] theorem State.zeroWhere_identity (p : Nat → Bool) : (s.zeroWhere p).identity = s.identity := rfl
@[simp] theorem State.zeroWhere_linkSignal (p : Nat → Bool) : (s.zeroWhere p).linkSignal = s.linkSignal := rfl
@[simp] theorem State.zeroWhere_sec (p : Nat → Bool) : (s.zeroWhere p).sec = s.sec := rfl
@[simp] theorem State.zeroWhere_pages (p : Nat → Bool) : (s.zeroWhere p).pages = s.pages := rfl
@[simp] theorem State.zeroWhere_serve (p : Nat → Bool) : (s.zeroWhere p).serve = s.serve := rfl
@[simp] theorem State.zeroWhere_slots (p : Nat → Bool) : (s.zeroWhere p).slots = s.slots := rfl
@[simp] theorem State.zeroWhere_fabric (p : Nat → Bool) : (s.zeroWhere p).fabric = s.fabric := rfl
@[simp] theorem State.zeroWhere_stk (p : Nat → Bool) : (s.zeroWhere p).stk = s.stk := rfl
@[simp] theorem State.zeroWhere_links (p : Nat → Bool) : (s.zeroWhere p).links = s.links := rfl
@[simp] theorem State.zeroWhere_video (p : Nat → Bool) : (s.zeroWhere p).video = s.video := rfl
@[simp] theorem State.zeroWhere_power (p : Nat → Bool) : (s.zeroWhere p).power = s.power := rfl
@[simp] theorem State.zeroWhere_fw (p : Nat → Bool) : (s.zeroWhere p).fw = s.fw := rfl
@[simp] theorem State.zeroWhere_sdio (p : Nat → Bool) : (s.zeroWhere p).sdio = s.sdio := rfl
@[simp] theorem State.zeroWhere_mgmt (p : Nat → Bool) : (s.zeroWhere p).mgmt = s.mgmt := rfl
@[simp] theorem State.zeroWhere_cores (p : Nat → Bool) : (s.zeroWhere p).cores = s.cores := rfl
@[simp] theorem State.zeroWhere_dbg (p : Nat → Bool) : (s.zeroWhere p).dbg = s.dbg := rfl
@[simp] theorem State.zeroWhere_perf (p : Nat → Bool) : (s.zeroWhere p).perf = s.perf := rfl
@[simp] theorem State.zeroWhere_opc (p : Nat → Bool) : (s.zeroWhere p).opc = s.opc := rfl
@[simp] theorem State.zeroWhere_opcShadow (p : Nat → Bool) : (s.zeroWhere p).opcShadow = s.opcShadow := rfl
@[simp] theorem State.zeroWhere_bwStart (p : Nat → Bool) : (s.zeroWhere p).bwStart = s.bwStart := rfl
@[simp] theorem State.zeroWhere_pending (p : Nat → Bool) : (s.zeroWhere p).pending = s.pending := rfl

/-! ## bbsRaw -/

@[simp] theorem State.bbsRaw_regs (a : Nat) (bs : List Byte) : (s.bbsRaw a bs).regs = s.regs := rfl
@[simp] theorem State.bbsRaw_mem (a : Nat) (bs : List Byte) : (s.bbsRaw a bs).mem = s.mem := rfl
@[simp] theorem State.bbsRaw_clk (a : Nat) (bs : List Byte) : (s.bbsRaw a bs).clk = s.clk := rfl
@[simp] theorem State.bbsRaw_modTime (a : Nat) (bs : List Byte) : (s.bbsRaw a bs).modTime = s.modTime := rfl
@[simp] theorem State.bbsRaw_resetAt (a : Nat) (bs : List Byte) : (s.bbsRaw a bs).resetAt = s.resetAt := rfl
@[simp] theorem State.bbsRaw_fresh (a : Nat) (bs : List Byte) : (s.bbsRaw a bs).fresh = s.fresh := rfl
@[simp] theorem State.bbsRaw_out (a : Nat) (bs : List Byte) : (s.bbsRaw a bs).out = s.out := rfl
@[simp] theorem State.bbsRaw_lastRead (a : Nat) (bs : List Byte) : (s.bbsRaw a bs).lastRead = s.lastRead := rfl
@[simp] theorem State.bbsRaw_struct (a : Nat) (bs : List Byte) : (s.bbsRaw a bs).struct = s.struct := rfl
@[simp] theorem State.bbsRaw_wparts (a : Nat) (bs : List Byte) : (s.bbsRaw a bs).wparts = s.wparts := rfl
@[simp] theorem State.bbsRaw_rings (a : Nat) (bs : List Byte) : (s.bbsRaw a bs).rings = s.rings := rfl
@[simp] theorem State.bbsRaw_irqs (a : Nat) (bs : List Byte) : (s.bbsRaw a bs).irqs = s.irqs := rfl
@[simp] theorem State.bbsRaw_badUnits (a : Nat) (bs : List Byte) : (s.bbsRaw a bs).badUnits = s.badUnits := rfl
@[simp] theorem State.bbsRaw_badRecord (a : Nat) (bs : List Byte) : (s.bbsRaw a bs).badRecord = s.badRecord := rfl
@[simp] theorem State.bbsRaw_reruns (a : Nat) (bs : List Byte) : (s.bbsRaw a bs).reruns = s.reruns := rfl
@[simp] theorem State.bbsRaw_po (a : Nat) (bs : List Byte) : (s.bbsRaw a bs).po = s.po := rfl
@[simp] theorem State.bbsRaw_cv (a : Nat) (bs : List Byte) : (s.bbsRaw a bs).cv = s.cv := rfl
@[simp] theorem State.bbsRaw_ptp (a : Nat) (bs : List Byte) : (s.bbsRaw a bs).ptp = s.ptp := rfl
@[simp] theorem State.bbsRaw_faults (a : Nat) (bs : List Byte) : (s.bbsRaw a bs).faults = s.faults := rfl
@[simp] theorem State.bbsRaw_lease (a : Nat) (bs : List Byte) : (s.bbsRaw a bs).lease = s.lease := rfl
@[simp] theorem State.bbsRaw_identity (a : Nat) (bs : List Byte) : (s.bbsRaw a bs).identity = s.identity := rfl
@[simp] theorem State.bbsRaw_linkSignal (a : Nat) (bs : List Byte) : (s.bbsRaw a bs).linkSignal = s.linkSignal := rfl
@[simp] theorem State.bbsRaw_sec (a : Nat) (bs : List Byte) : (s.bbsRaw a bs).sec = s.sec := rfl
@[simp] theorem State.bbsRaw_pages (a : Nat) (bs : List Byte) : (s.bbsRaw a bs).pages = s.pages := rfl
@[simp] theorem State.bbsRaw_serve (a : Nat) (bs : List Byte) : (s.bbsRaw a bs).serve = s.serve := rfl
@[simp] theorem State.bbsRaw_slots (a : Nat) (bs : List Byte) : (s.bbsRaw a bs).slots = s.slots := rfl
@[simp] theorem State.bbsRaw_fabric (a : Nat) (bs : List Byte) : (s.bbsRaw a bs).fabric = s.fabric := rfl
@[simp] theorem State.bbsRaw_stk (a : Nat) (bs : List Byte) : (s.bbsRaw a bs).stk = s.stk := rfl
@[simp] theorem State.bbsRaw_links (a : Nat) (bs : List Byte) : (s.bbsRaw a bs).links = s.links := rfl
@[simp] theorem State.bbsRaw_video (a : Nat) (bs : List Byte) : (s.bbsRaw a bs).video = s.video := rfl
@[simp] theorem State.bbsRaw_power (a : Nat) (bs : List Byte) : (s.bbsRaw a bs).power = s.power := rfl
@[simp] theorem State.bbsRaw_fw (a : Nat) (bs : List Byte) : (s.bbsRaw a bs).fw = s.fw := rfl
@[simp] theorem State.bbsRaw_sdio (a : Nat) (bs : List Byte) : (s.bbsRaw a bs).sdio = s.sdio := rfl
@[simp] theorem State.bbsRaw_mgmt (a : Nat) (bs : List Byte) : (s.bbsRaw a bs).mgmt = s.mgmt := rfl
@[simp] theorem State.bbsRaw_cores (a : Nat) (bs : List Byte) : (s.bbsRaw a bs).cores = s.cores := rfl
@[simp] theorem State.bbsRaw_dbg (a : Nat) (bs : List Byte) : (s.bbsRaw a bs).dbg = s.dbg := rfl
@[simp] theorem State.bbsRaw_perf (a : Nat) (bs : List Byte) : (s.bbsRaw a bs).perf = s.perf := rfl
@[simp] theorem State.bbsRaw_opc (a : Nat) (bs : List Byte) : (s.bbsRaw a bs).opc = s.opc := rfl
@[simp] theorem State.bbsRaw_opcShadow (a : Nat) (bs : List Byte) : (s.bbsRaw a bs).opcShadow = s.opcShadow := rfl
@[simp] theorem State.bbsRaw_bwStart (a : Nat) (bs : List Byte) : (s.bbsRaw a bs).bwStart = s.bwStart := rfl
@[simp] theorem State.bbsRaw_pending (a : Nat) (bs : List Byte) : (s.bbsRaw a bs).pending = s.pending := rfl

/-! ## bbsZero -/

@[simp] theorem State.bbsZero_regs (a n : Nat) : (s.bbsZero a n).regs = s.regs := rfl
@[simp] theorem State.bbsZero_mem (a n : Nat) : (s.bbsZero a n).mem = s.mem := rfl
@[simp] theorem State.bbsZero_clk (a n : Nat) : (s.bbsZero a n).clk = s.clk := rfl
@[simp] theorem State.bbsZero_modTime (a n : Nat) : (s.bbsZero a n).modTime = s.modTime := rfl
@[simp] theorem State.bbsZero_resetAt (a n : Nat) : (s.bbsZero a n).resetAt = s.resetAt := rfl
@[simp] theorem State.bbsZero_fresh (a n : Nat) : (s.bbsZero a n).fresh = s.fresh := rfl
@[simp] theorem State.bbsZero_out (a n : Nat) : (s.bbsZero a n).out = s.out := rfl
@[simp] theorem State.bbsZero_lastRead (a n : Nat) : (s.bbsZero a n).lastRead = s.lastRead := rfl
@[simp] theorem State.bbsZero_struct (a n : Nat) : (s.bbsZero a n).struct = s.struct := rfl
@[simp] theorem State.bbsZero_wparts (a n : Nat) : (s.bbsZero a n).wparts = s.wparts := rfl
@[simp] theorem State.bbsZero_rings (a n : Nat) : (s.bbsZero a n).rings = s.rings := rfl
@[simp] theorem State.bbsZero_irqs (a n : Nat) : (s.bbsZero a n).irqs = s.irqs := rfl
@[simp] theorem State.bbsZero_badUnits (a n : Nat) : (s.bbsZero a n).badUnits = s.badUnits := rfl
@[simp] theorem State.bbsZero_badRecord (a n : Nat) : (s.bbsZero a n).badRecord = s.badRecord := rfl
@[simp] theorem State.bbsZero_reruns (a n : Nat) : (s.bbsZero a n).reruns = s.reruns := rfl
@[simp] theorem State.bbsZero_po (a n : Nat) : (s.bbsZero a n).po = s.po := rfl
@[simp] theorem State.bbsZero_cv (a n : Nat) : (s.bbsZero a n).cv = s.cv := rfl
@[simp] theorem State.bbsZero_ptp (a n : Nat) : (s.bbsZero a n).ptp = s.ptp := rfl
@[simp] theorem State.bbsZero_faults (a n : Nat) : (s.bbsZero a n).faults = s.faults := rfl
@[simp] theorem State.bbsZero_lease (a n : Nat) : (s.bbsZero a n).lease = s.lease := rfl
@[simp] theorem State.bbsZero_identity (a n : Nat) : (s.bbsZero a n).identity = s.identity := rfl
@[simp] theorem State.bbsZero_linkSignal (a n : Nat) : (s.bbsZero a n).linkSignal = s.linkSignal := rfl
@[simp] theorem State.bbsZero_sec (a n : Nat) : (s.bbsZero a n).sec = s.sec := rfl
@[simp] theorem State.bbsZero_pages (a n : Nat) : (s.bbsZero a n).pages = s.pages := rfl
@[simp] theorem State.bbsZero_serve (a n : Nat) : (s.bbsZero a n).serve = s.serve := rfl
@[simp] theorem State.bbsZero_slots (a n : Nat) : (s.bbsZero a n).slots = s.slots := rfl
@[simp] theorem State.bbsZero_fabric (a n : Nat) : (s.bbsZero a n).fabric = s.fabric := rfl
@[simp] theorem State.bbsZero_stk (a n : Nat) : (s.bbsZero a n).stk = s.stk := rfl
@[simp] theorem State.bbsZero_links (a n : Nat) : (s.bbsZero a n).links = s.links := rfl
@[simp] theorem State.bbsZero_video (a n : Nat) : (s.bbsZero a n).video = s.video := rfl
@[simp] theorem State.bbsZero_power (a n : Nat) : (s.bbsZero a n).power = s.power := rfl
@[simp] theorem State.bbsZero_fw (a n : Nat) : (s.bbsZero a n).fw = s.fw := rfl
@[simp] theorem State.bbsZero_sdio (a n : Nat) : (s.bbsZero a n).sdio = s.sdio := rfl
@[simp] theorem State.bbsZero_mgmt (a n : Nat) : (s.bbsZero a n).mgmt = s.mgmt := rfl
@[simp] theorem State.bbsZero_cores (a n : Nat) : (s.bbsZero a n).cores = s.cores := rfl
@[simp] theorem State.bbsZero_dbg (a n : Nat) : (s.bbsZero a n).dbg = s.dbg := rfl
@[simp] theorem State.bbsZero_perf (a n : Nat) : (s.bbsZero a n).perf = s.perf := rfl
@[simp] theorem State.bbsZero_opc (a n : Nat) : (s.bbsZero a n).opc = s.opc := rfl
@[simp] theorem State.bbsZero_opcShadow (a n : Nat) : (s.bbsZero a n).opcShadow = s.opcShadow := rfl
@[simp] theorem State.bbsZero_bwStart (a n : Nat) : (s.bbsZero a n).bwStart = s.bwStart := rfl
@[simp] theorem State.bbsZero_pending (a n : Nat) : (s.bbsZero a n).pending = s.pending := rfl

/-! ## setWpart -/

@[simp] theorem State.setWpart_regs (n : Nat) (w : WPart) : (s.setWpart n w).regs = s.regs := rfl
@[simp] theorem State.setWpart_mem (n : Nat) (w : WPart) : (s.setWpart n w).mem = s.mem := rfl
@[simp] theorem State.setWpart_bbs (n : Nat) (w : WPart) : (s.setWpart n w).bbs = s.bbs := rfl
@[simp] theorem State.setWpart_clk (n : Nat) (w : WPart) : (s.setWpart n w).clk = s.clk := rfl
@[simp] theorem State.setWpart_modTime (n : Nat) (w : WPart) : (s.setWpart n w).modTime = s.modTime := rfl
@[simp] theorem State.setWpart_resetAt (n : Nat) (w : WPart) : (s.setWpart n w).resetAt = s.resetAt := rfl
@[simp] theorem State.setWpart_fresh (n : Nat) (w : WPart) : (s.setWpart n w).fresh = s.fresh := rfl
@[simp] theorem State.setWpart_out (n : Nat) (w : WPart) : (s.setWpart n w).out = s.out := rfl
@[simp] theorem State.setWpart_lastRead (n : Nat) (w : WPart) : (s.setWpart n w).lastRead = s.lastRead := rfl
@[simp] theorem State.setWpart_struct (n : Nat) (w : WPart) : (s.setWpart n w).struct = s.struct := rfl
@[simp] theorem State.setWpart_rings (n : Nat) (w : WPart) : (s.setWpart n w).rings = s.rings := rfl
@[simp] theorem State.setWpart_irqs (n : Nat) (w : WPart) : (s.setWpart n w).irqs = s.irqs := rfl
@[simp] theorem State.setWpart_badUnits (n : Nat) (w : WPart) : (s.setWpart n w).badUnits = s.badUnits := rfl
@[simp] theorem State.setWpart_badRecord (n : Nat) (w : WPart) : (s.setWpart n w).badRecord = s.badRecord := rfl
@[simp] theorem State.setWpart_reruns (n : Nat) (w : WPart) : (s.setWpart n w).reruns = s.reruns := rfl
@[simp] theorem State.setWpart_po (n : Nat) (w : WPart) : (s.setWpart n w).po = s.po := rfl
@[simp] theorem State.setWpart_cv (n : Nat) (w : WPart) : (s.setWpart n w).cv = s.cv := rfl
@[simp] theorem State.setWpart_ptp (n : Nat) (w : WPart) : (s.setWpart n w).ptp = s.ptp := rfl
@[simp] theorem State.setWpart_faults (n : Nat) (w : WPart) : (s.setWpart n w).faults = s.faults := rfl
@[simp] theorem State.setWpart_lease (n : Nat) (w : WPart) : (s.setWpart n w).lease = s.lease := rfl
@[simp] theorem State.setWpart_identity (n : Nat) (w : WPart) : (s.setWpart n w).identity = s.identity := rfl
@[simp] theorem State.setWpart_linkSignal (n : Nat) (w : WPart) : (s.setWpart n w).linkSignal = s.linkSignal := rfl
@[simp] theorem State.setWpart_sec (n : Nat) (w : WPart) : (s.setWpart n w).sec = s.sec := rfl
@[simp] theorem State.setWpart_pages (n : Nat) (w : WPart) : (s.setWpart n w).pages = s.pages := rfl
@[simp] theorem State.setWpart_serve (n : Nat) (w : WPart) : (s.setWpart n w).serve = s.serve := rfl
@[simp] theorem State.setWpart_slots (n : Nat) (w : WPart) : (s.setWpart n w).slots = s.slots := rfl
@[simp] theorem State.setWpart_fabric (n : Nat) (w : WPart) : (s.setWpart n w).fabric = s.fabric := rfl
@[simp] theorem State.setWpart_stk (n : Nat) (w : WPart) : (s.setWpart n w).stk = s.stk := rfl
@[simp] theorem State.setWpart_links (n : Nat) (w : WPart) : (s.setWpart n w).links = s.links := rfl
@[simp] theorem State.setWpart_video (n : Nat) (w : WPart) : (s.setWpart n w).video = s.video := rfl
@[simp] theorem State.setWpart_power (n : Nat) (w : WPart) : (s.setWpart n w).power = s.power := rfl
@[simp] theorem State.setWpart_fw (n : Nat) (w : WPart) : (s.setWpart n w).fw = s.fw := rfl
@[simp] theorem State.setWpart_sdio (n : Nat) (w : WPart) : (s.setWpart n w).sdio = s.sdio := rfl
@[simp] theorem State.setWpart_mgmt (n : Nat) (w : WPart) : (s.setWpart n w).mgmt = s.mgmt := rfl
@[simp] theorem State.setWpart_cores (n : Nat) (w : WPart) : (s.setWpart n w).cores = s.cores := rfl
@[simp] theorem State.setWpart_dbg (n : Nat) (w : WPart) : (s.setWpart n w).dbg = s.dbg := rfl
@[simp] theorem State.setWpart_perf (n : Nat) (w : WPart) : (s.setWpart n w).perf = s.perf := rfl
@[simp] theorem State.setWpart_opc (n : Nat) (w : WPart) : (s.setWpart n w).opc = s.opc := rfl
@[simp] theorem State.setWpart_opcShadow (n : Nat) (w : WPart) : (s.setWpart n w).opcShadow = s.opcShadow := rfl
@[simp] theorem State.setWpart_bwStart (n : Nat) (w : WPart) : (s.setWpart n w).bwStart = s.bwStart := rfl
@[simp] theorem State.setWpart_pending (n : Nat) (w : WPart) : (s.setWpart n w).pending = s.pending := rfl

/-! ## setUnitDbg -/

@[simp] theorem State.setUnitDbg_regs (kd u : Nat) (x : UnitDbg) : (s.setUnitDbg kd u x).regs = s.regs := rfl
@[simp] theorem State.setUnitDbg_mem (kd u : Nat) (x : UnitDbg) : (s.setUnitDbg kd u x).mem = s.mem := rfl
@[simp] theorem State.setUnitDbg_bbs (kd u : Nat) (x : UnitDbg) : (s.setUnitDbg kd u x).bbs = s.bbs := rfl
@[simp] theorem State.setUnitDbg_clk (kd u : Nat) (x : UnitDbg) : (s.setUnitDbg kd u x).clk = s.clk := rfl
@[simp] theorem State.setUnitDbg_modTime (kd u : Nat) (x : UnitDbg) : (s.setUnitDbg kd u x).modTime = s.modTime := rfl
@[simp] theorem State.setUnitDbg_resetAt (kd u : Nat) (x : UnitDbg) : (s.setUnitDbg kd u x).resetAt = s.resetAt := rfl
@[simp] theorem State.setUnitDbg_fresh (kd u : Nat) (x : UnitDbg) : (s.setUnitDbg kd u x).fresh = s.fresh := rfl
@[simp] theorem State.setUnitDbg_out (kd u : Nat) (x : UnitDbg) : (s.setUnitDbg kd u x).out = s.out := rfl
@[simp] theorem State.setUnitDbg_lastRead (kd u : Nat) (x : UnitDbg) : (s.setUnitDbg kd u x).lastRead = s.lastRead := rfl
@[simp] theorem State.setUnitDbg_struct (kd u : Nat) (x : UnitDbg) : (s.setUnitDbg kd u x).struct = s.struct := rfl
@[simp] theorem State.setUnitDbg_wparts (kd u : Nat) (x : UnitDbg) : (s.setUnitDbg kd u x).wparts = s.wparts := rfl
@[simp] theorem State.setUnitDbg_rings (kd u : Nat) (x : UnitDbg) : (s.setUnitDbg kd u x).rings = s.rings := rfl
@[simp] theorem State.setUnitDbg_irqs (kd u : Nat) (x : UnitDbg) : (s.setUnitDbg kd u x).irqs = s.irqs := rfl
@[simp] theorem State.setUnitDbg_badUnits (kd u : Nat) (x : UnitDbg) : (s.setUnitDbg kd u x).badUnits = s.badUnits := rfl
@[simp] theorem State.setUnitDbg_badRecord (kd u : Nat) (x : UnitDbg) : (s.setUnitDbg kd u x).badRecord = s.badRecord := rfl
@[simp] theorem State.setUnitDbg_reruns (kd u : Nat) (x : UnitDbg) : (s.setUnitDbg kd u x).reruns = s.reruns := rfl
@[simp] theorem State.setUnitDbg_po (kd u : Nat) (x : UnitDbg) : (s.setUnitDbg kd u x).po = s.po := rfl
@[simp] theorem State.setUnitDbg_cv (kd u : Nat) (x : UnitDbg) : (s.setUnitDbg kd u x).cv = s.cv := rfl
@[simp] theorem State.setUnitDbg_ptp (kd u : Nat) (x : UnitDbg) : (s.setUnitDbg kd u x).ptp = s.ptp := rfl
@[simp] theorem State.setUnitDbg_faults (kd u : Nat) (x : UnitDbg) : (s.setUnitDbg kd u x).faults = s.faults := rfl
@[simp] theorem State.setUnitDbg_lease (kd u : Nat) (x : UnitDbg) : (s.setUnitDbg kd u x).lease = s.lease := rfl
@[simp] theorem State.setUnitDbg_identity (kd u : Nat) (x : UnitDbg) : (s.setUnitDbg kd u x).identity = s.identity := rfl
@[simp] theorem State.setUnitDbg_linkSignal (kd u : Nat) (x : UnitDbg) : (s.setUnitDbg kd u x).linkSignal = s.linkSignal := rfl
@[simp] theorem State.setUnitDbg_sec (kd u : Nat) (x : UnitDbg) : (s.setUnitDbg kd u x).sec = s.sec := rfl
@[simp] theorem State.setUnitDbg_pages (kd u : Nat) (x : UnitDbg) : (s.setUnitDbg kd u x).pages = s.pages := rfl
@[simp] theorem State.setUnitDbg_serve (kd u : Nat) (x : UnitDbg) : (s.setUnitDbg kd u x).serve = s.serve := rfl
@[simp] theorem State.setUnitDbg_slots (kd u : Nat) (x : UnitDbg) : (s.setUnitDbg kd u x).slots = s.slots := rfl
@[simp] theorem State.setUnitDbg_fabric (kd u : Nat) (x : UnitDbg) : (s.setUnitDbg kd u x).fabric = s.fabric := rfl
@[simp] theorem State.setUnitDbg_stk (kd u : Nat) (x : UnitDbg) : (s.setUnitDbg kd u x).stk = s.stk := rfl
@[simp] theorem State.setUnitDbg_links (kd u : Nat) (x : UnitDbg) : (s.setUnitDbg kd u x).links = s.links := rfl
@[simp] theorem State.setUnitDbg_video (kd u : Nat) (x : UnitDbg) : (s.setUnitDbg kd u x).video = s.video := rfl
@[simp] theorem State.setUnitDbg_power (kd u : Nat) (x : UnitDbg) : (s.setUnitDbg kd u x).power = s.power := rfl
@[simp] theorem State.setUnitDbg_fw (kd u : Nat) (x : UnitDbg) : (s.setUnitDbg kd u x).fw = s.fw := rfl
@[simp] theorem State.setUnitDbg_sdio (kd u : Nat) (x : UnitDbg) : (s.setUnitDbg kd u x).sdio = s.sdio := rfl
@[simp] theorem State.setUnitDbg_mgmt (kd u : Nat) (x : UnitDbg) : (s.setUnitDbg kd u x).mgmt = s.mgmt := rfl
@[simp] theorem State.setUnitDbg_cores (kd u : Nat) (x : UnitDbg) : (s.setUnitDbg kd u x).cores = s.cores := rfl
@[simp] theorem State.setUnitDbg_perf (kd u : Nat) (x : UnitDbg) : (s.setUnitDbg kd u x).perf = s.perf := rfl
@[simp] theorem State.setUnitDbg_opc (kd u : Nat) (x : UnitDbg) : (s.setUnitDbg kd u x).opc = s.opc := rfl
@[simp] theorem State.setUnitDbg_opcShadow (kd u : Nat) (x : UnitDbg) : (s.setUnitDbg kd u x).opcShadow = s.opcShadow := rfl
@[simp] theorem State.setUnitDbg_bwStart (kd u : Nat) (x : UnitDbg) : (s.setUnitDbg kd u x).bwStart = s.bwStart := rfl
@[simp] theorem State.setUnitDbg_pending (kd u : Nat) (x : UnitDbg) : (s.setUnitDbg kd u x).pending = s.pending := rfl

/-! ## Reads through operations that leave the register file or memory -/

@[simp] theorem State.byte_wr (f : Fld) (v i j : Nat) (c : Nat) : (s.wr f v i j).byte c = s.byte c := rfl
@[simp] theorem State.byte_rst (f : Fld) (i j : Nat) (c : Nat) : (s.rst f i j).byte c = s.byte c := rfl
@[simp] theorem State.byte_inc (f : Fld) (i j n : Nat) (c : Nat) : (s.inc f i j n).byte c = s.byte c := rfl
@[simp] theorem State.byte_setB (f : Fld) (i j : Nat) (c : Nat) : (s.setB f i j).byte c = s.byte c := rfl
@[simp] theorem State.rd_draw (g : Fld) (k l : Nat) : (s.draw).rd g k l = s.rd g k l := rfl
@[simp] theorem State.byte_draw (c : Nat) : (s.draw).byte c = s.byte c := rfl
@[simp] theorem State.rd_emit (m : OutMsg) (g : Fld) (k l : Nat) : (s.emit m).rd g k l = s.rd g k l := rfl
@[simp] theorem State.byte_emit (m : OutMsg) (c : Nat) : (s.emit m).byte c = s.byte c := rfl
@[simp] theorem State.rd_setByte (a : Nat) (b : Byte) (g : Fld) (k l : Nat) : (s.setByte a b).rd g k l = s.rd g k l := rfl
@[simp] theorem State.rd_putBytes (a : Nat) (bs : List Byte) (g : Fld) (k l : Nat) : (s.putBytes a bs).rd g k l = s.rd g k l := rfl
@[simp] theorem State.rd_zeroWhere (p : Nat → Bool) (g : Fld) (k l : Nat) : (s.zeroWhere p).rd g k l = s.rd g k l := rfl
@[simp] theorem State.rd_bbsRaw (a : Nat) (bs : List Byte) (g : Fld) (k l : Nat) : (s.bbsRaw a bs).rd g k l = s.rd g k l := rfl
@[simp] theorem State.byte_bbsRaw (a : Nat) (bs : List Byte) (c : Nat) : (s.bbsRaw a bs).byte c = s.byte c := rfl
@[simp] theorem State.rd_bbsZero (a n : Nat) (g : Fld) (k l : Nat) : (s.bbsZero a n).rd g k l = s.rd g k l := rfl
@[simp] theorem State.byte_bbsZero (a n : Nat) (c : Nat) : (s.bbsZero a n).byte c = s.byte c := rfl
@[simp] theorem State.rd_setWpart (n : Nat) (w : WPart) (g : Fld) (k l : Nat) : (s.setWpart n w).rd g k l = s.rd g k l := rfl
@[simp] theorem State.byte_setWpart (n : Nat) (w : WPart) (c : Nat) : (s.setWpart n w).byte c = s.byte c := rfl
@[simp] theorem State.rd_setUnitDbg (kd u : Nat) (x : UnitDbg) (g : Fld) (k l : Nat) : (s.setUnitDbg kd u x).rd g k l = s.rd g k l := rfl
@[simp] theorem State.byte_setUnitDbg (kd u : Nat) (x : UnitDbg) (c : Nat) : (s.setUnitDbg kd u x).byte c = s.byte c := rfl

end Sys2Proof.Machine
end

