-- ==== Sys2Proof/Laws/Events.lean ====
section
/-! SUPPORT. Laws of fault events: what an event leaves in its source's registers (R467 to R477). -/

namespace Sys2Proof.Machine

-- One proof at a time: the package is compiled as one text under a memory limit.
set_option Elab.async false

/-- Two fields of the fault registers have different keys when they differ in register or low bit. -/
theorem Fld.key_ne {f g : Fld} {i j k l : Nat} (h : f.reg ≠ g.reg ∨ f.lo ≠ g.lo) : f.key i j ≠ g.key k l := fun e =>
  h.elim (fun h => h (Fld.key_eq.mp e).1) (fun h => h (Fld.key_eq.mp e).2.1)

variable {s : State} {i detail base : Nat} {inj persist : Bool}

theorem State.amberWrite_unchanged (e l : Nat) : Unchanged { bbs := true, b_amber := true } s (s.amberWrite e l) :=
  (State.amberWrite_keep (Keep.refl s)).parts

theorem State.withdrawFor_unchanged (i l : Nat) :
    Unchanged { out := true, po := true, opc := true, b_output := true, b_perf := true } s (s.withdrawFor i l) :=
  (State.withdrawFor_keep (Keep.refl s)).parts

theorem State.rd_withFaults (x : Faults) (f : Fld) (k j : Nat) : ({ s with faults := x } : State).rd f k j = s.rd f k j := rfl

/-- Finding an event's level changes the window alone: its count and its end. -/
theorem State.eventLevel_rd (f : Fld) (k : Nat) (h : f.reg ≠ .FAULT_SRC_STATUS ∨ f.lo ≠ 32) :
    (s.eventLevel i base).1.rd f k = s.rd f k := by
  have hk : f.key k 0 ≠ F.FAULT_SRC_STATUS_window_count.key i 0 := Fld.key_ne h
  unfold State.eventLevel State.countEvent
  simp only
  split
  · split
    · exact State.rd_wr_other _ _ hk
    · rw [State.rd_wr_other _ _ hk, State.rd_withFaults]
  · rfl

theorem State.setCauses_rd (l : List Nat) (f : Fld) (k : Nat) (h : f.reg ≠ .FAULT_SRC_STATUS ∨ f.lo ≠ 8) :
    (s.setCauses i l).rd f k = s.rd f k := State.rd_wr_other _ _ (Fld.key_ne h)

/-- What an event leaves at its source (R467 step 4, R469): `l` is its level after counting and escalation. -/
theorem State.record_status {l : Nat} (hl : (s.eventLevel i base).2 = l) :
    (s.record i detail base inj persist).2 = l ∧
    (s.record i detail base inj persist).1.rd F.FAULT_SRC_STATUS_level i = max (s.level i) l % 8 ∧
    (s.record i detail base inj persist).1.rd F.FAULT_SRC_STATUS_events i = min (s.rd F.FAULT_SRC_STATUS_events i + 1) 65535 ∧
    (s.record i detail base inj persist).1.rd F.FAULT_SRC_STATUS_injected i = ofBool inj ∧
    (s.record i detail base inj persist).1.rd F.FAULT_SRC_STATUS_detail i =
      (if 3 ≤ l then detail % 8192 else s.rd F.FAULT_SRC_STATUS_detail i) ∧
    (s.record i detail base inj persist).1.rd F.FAULT_SRC_STATUS_pending i =
      (if 3 ≤ l then 1 else s.rd F.FAULT_SRC_STATUS_pending i) ∧
    (4 ≤ l → (s.record i detail base inj persist).1.rd F.FAULT_CTRL_fault_n_low = 1 ∧
      (s.record i detail base inj persist).1.faults.pin = false) := by
  have h1 := State.eventLevel_rd (s := s) (i := i) (base := base)
  unfold State.record
  simp only [hl]
  generalize hu : (s.eventLevel i base).1 = u at h1 ⊢
  have e1 := h1 F.FAULT_SRC_STATUS_level i (by decide)
  have e2 := h1 F.FAULT_SRC_STATUS_events i (by decide)
  have e3 := h1 F.FAULT_SRC_STATUS_detail i (by decide)
  have e4 := h1 F.FAULT_SRC_STATUS_pending i (by decide)
  set a := ((u.wr F.FAULT_SRC_STATUS_level (max (u.level i) l) i).inc F.FAULT_SRC_STATUS_events i).wr
    F.FAULT_SRC_STATUS_injected (ofBool inj) i with ha
  have a1 : a.rd F.FAULT_SRC_STATUS_level i = max (s.level i) l % 8 := by
    simp [ha, State.level, State.rd_wr, State.inc, F.FAULT_SRC_STATUS_level, F.FAULT_SRC_STATUS_events, F.FAULT_SRC_STATUS_injected, Fld.width]
    rw [show (Fld.mk .FAULT_SRC_STATUS 5 3) = F.FAULT_SRC_STATUS_level from rfl, e1]
  have a2 : a.rd F.FAULT_SRC_STATUS_events i = min (s.rd F.FAULT_SRC_STATUS_events i + 1) 65535 := by
    rw [← e2]
    simp [ha, State.rd_wr, State.inc, F.FAULT_SRC_STATUS_level, F.FAULT_SRC_STATUS_events, F.FAULT_SRC_STATUS_injected, Fld.width, satAdd]
  have a3 : a.rd F.FAULT_SRC_STATUS_injected i = ofBool inj := by
    rw [ha, State.rd_wr_same]; cases inj <;> rfl
  have a4 : a.rd F.FAULT_SRC_STATUS_detail i = s.rd F.FAULT_SRC_STATUS_detail i := by
    rw [← e3]
    simp [ha, State.rd_wr, State.inc, F.FAULT_SRC_STATUS_level, F.FAULT_SRC_STATUS_events, F.FAULT_SRC_STATUS_injected, F.FAULT_SRC_STATUS_detail]
  have a5 : a.rd F.FAULT_SRC_STATUS_pending i = s.rd F.FAULT_SRC_STATUS_pending i := by
    rw [← e4]
    simp [ha, State.rd_wr, State.inc, F.FAULT_SRC_STATUS_level, F.FAULT_SRC_STATUS_events, F.FAULT_SRC_STATUS_injected, F.FAULT_SRC_STATUS_pending]
  clear_value a
  set b := (if 3 ≤ l then (a.wr F.FAULT_SRC_STATUS_detail detail i).setB F.FAULT_SRC_STATUS_pending i else a) with hb
  have b1 : b.rd F.FAULT_SRC_STATUS_level i = max (s.level i) l % 8 := by
    rw [hb, ← a1]; split <;> simp [State.setB, State.rd_wr, F.FAULT_SRC_STATUS_level, F.FAULT_SRC_STATUS_detail, F.FAULT_SRC_STATUS_pending]
  have b2 : b.rd F.FAULT_SRC_STATUS_events i = min (s.rd F.FAULT_SRC_STATUS_events i + 1) 65535 := by
    rw [hb, ← a2]; split <;> simp [State.setB, State.rd_wr, F.FAULT_SRC_STATUS_events, F.FAULT_SRC_STATUS_detail, F.FAULT_SRC_STATUS_pending]
  have b3 : b.rd F.FAULT_SRC_STATUS_injected i = ofBool inj := by
    rw [hb, ← a3]; split <;> simp [State.setB, State.rd_wr, F.FAULT_SRC_STATUS_injected, F.FAULT_SRC_STATUS_detail, F.FAULT_SRC_STATUS_pending]
  have b4 : b.rd F.FAULT_SRC_STATUS_detail i = (if 3 ≤ l then detail % 8192 else s.rd F.FAULT_SRC_STATUS_detail i) := by
    rw [hb, ← a4]; split <;> simp [State.setB, State.rd_wr, F.FAULT_SRC_STATUS_detail, F.FAULT_SRC_STATUS_pending, Fld.width]
  have b5 : b.rd F.FAULT_SRC_STATUS_pending i = (if 3 ≤ l then 1 else s.rd F.FAULT_SRC_STATUS_pending i) := by
    rw [hb, ← a5]; split <;> simp [State.setB, State.rd_wr, F.FAULT_SRC_STATUS_pending, Fld.width]
  clear_value b
  set c := (if (persist || decide (l = 5)) = true then
      b.setCauses i ((b.causes i ++ (if persist then [detail] else []) ++ (if l = 5 then [0] else [])).dedup) else b) with hc
  have c0 : ∀ f : Fld, (f.reg ≠ .FAULT_SRC_STATUS ∨ f.lo ≠ 8) → c.rd f i = b.rd f i := by
    intro f hf; rw [hc]; split
    · exact State.setCauses_rd _ f i hf
    · rfl
  rw [← c0 _ (by decide)] at b1 b2 b3 b4 b5
  clear_value c
  set d := (if c.rd F.FAULT_SRC_CFG_log_min i ≤ l ∨ 4 ≤ l then c.amberWrite (c.amberEntry i detail l inj) l else c) with hd
  have d0 : ∀ f : Fld, f.reg.block = .fault → d.rd f i = c.rd f i := by
    intro f hf; rw [hd]; split
    · exact (State.amberWrite_unchanged _ _).regs f i 0 (by rw [hf]; rfl)
    · rfl
  rw [← d0 _ rfl] at b1 b2 b3 b4 b5
  clear_value d
  by_cases h4 : 4 ≤ l
  · simp only [h4, if_true, true_and]
    have w := (State.withdrawFor_unchanged (s := d) i l).regs
    generalize d.withdrawFor i l = e at w
    have z : ∀ f : Fld, f.reg = .FAULT_SRC_STATUS →
        ((e.setB F.FAULT_CTRL_fault_n_low).setB F.FAULT_CTRL_pulse).rd f i = d.rd f i := by
      intro f hf
      unfold State.setB
      rw [State.rd_wr_other _ _ (Fld.key_ne (Or.inl (by rw [hf]; decide))), State.rd_wr_other _ _ (Fld.key_ne (Or.inl (by rw [hf]; decide)))]
      exact w f i 0 (by rw [hf]; rfl)
    simp only [State.rd_withFaults]
    rw [z _ rfl, z _ rfl, z _ rfl, z _ rfl, z _ rfl]
    refine ⟨b1, b2, b3, b4, b5, fun _ => ⟨?_, trivial⟩⟩
    simp [State.setB, State.rd_wr, F.FAULT_CTRL_fault_n_low, F.FAULT_CTRL_pulse, Fld.width]
  · simp only [h4, if_false]
    exact ⟨trivial, b1, b2, b3, b4, b5, fun h => h.elim⟩

/-- A note or a corrected event that is not counted keeps its level (R467). -/
theorem State.eventLevel_low (hb : base ≤ 2) (hc : base < 2 ∨ s.rdB F.FAULT_SRC_CFG_count_enable i = false) :
    s.eventLevel i base = (s, base) := by
  have h0 : (s.rdB F.FAULT_SRC_CFG_count_enable i && (decide (base = 2) || decide (base = 3))) = false := by
    rcases hc with h | h
    · have : ¬ base = 2 ∧ ¬ base = 3 := by omega
      simp [this]
    · rw [h]; rfl
  have : ¬ (3 ≤ base) := by omega
  unfold State.eventLevel; rw [h0]; simp [this]

/-- Below FATAL an event is its record alone. -/
theorem State.eventFuel_record {k : Nat} (h : (s.eventLevel i base).2 ≠ 5) :
    State.eventFuel k s i detail base inj persist = (s.record i detail base inj persist).1 := by
  cases k with
  | zero => rfl
  | succ k =>
    have e : ¬ (s.record i detail base inj persist).2 = 5 := fun h' => h ((State.record_status rfl).1 ▸ h')
    unfold State.eventFuel
    simp only
    rw [if_neg e]

/-- A note or an uncounted corrected event without a lasting condition: its source counts it, and nothing changes beside the source's status
and the Amber log. -/
theorem State.record_low (hb : base ≤ 2) (hc : base < 2 ∨ s.rdB F.FAULT_SRC_CFG_count_enable i = false) :
    Unchanged { bbs := true, b_fault := true, b_amber := true } s (s.record i detail base inj false).1 := by
  have h3 : ¬ 3 ≤ base := by omega
  have h4 : ¬ 4 ≤ base := by omega
  have h5 : ¬ base = 5 := by omega
  unfold State.record
  simp only [State.eventLevel_low hb hc, h3, h4, h5, or_false, Bool.false_or, decide_false, Bool.false_eq_true, if_false]
  have k : Keep { bbs := true, b_fault := true, b_amber := true } s (((s.wr F.FAULT_SRC_STATUS_level (max (s.level i) base) i).inc
      F.FAULT_SRC_STATUS_events i).wr F.FAULT_SRC_STATUS_injected (ofBool inj) i) :=
    State.wr_keep (State.inc_keep (State.wr_keep (Keep.refl s) rfl) rfl) rfl
  split
  · exact (State.amberWrite_keep k).parts
  · exact k.parts

/-- The note of an access error (R9, R44, R595). -/
theorem State.event_note (h : baseLevel i detail = 1) :
    Unchanged { bbs := true, b_fault := true, b_amber := true } s (s.event i detail) ∧
    (s.event i detail).rd F.FAULT_SRC_STATUS_events i = min (s.rd F.FAULT_SRC_STATUS_events i + 1) 65535 ∧
    (s.event i detail).rd F.FAULT_SRC_STATUS_level i = max (s.level i) 1 % 8 := by
  have e : (s.eventLevel i 1).2 = 1 := by rw [State.eventLevel_low (by omega) (Or.inl (by omega))]
  unfold State.event State.eventAt
  rw [h, State.eventFuel_record (by omega)]
  exact ⟨State.record_low (by omega) (Or.inl (by omega)), (State.record_status e).2.2.1, (State.record_status e).2.1⟩

theorem State.countEvent_inject (s : State) (i : Nat) : (s.countEvent i).1.faults.inject = s.faults.inject := by
  unfold State.countEvent
  simp only [apply_ite Prod.fst, apply_ite State.faults, apply_ite Faults.inject, State.wr_faults, ite_self]

/-- Finding a level leaves the queue of injections. -/
theorem State.eventLevel_inject (s : State) (i base : Nat) : (s.eventLevel i base).1.faults.inject = s.faults.inject := by
  have h := State.countEvent_inject s i
  unfold State.eventLevel
  simp only [apply_ite Prod.fst, apply_ite State.faults, apply_ite Faults.inject, h, ite_self]

/-- An event leaves the queue of injections. -/
theorem State.record_inject (s : State) (i detail base : Nat) (inj persist : Bool) :
    (s.record i detail base inj persist).1.faults.inject = s.faults.inject := by
  rw [← State.eventLevel_inject s i base]
  have eA : ∀ (x : State) (a b : Nat), (x.amberWrite a b).faults = x.faults := fun x a b => (State.amberWrite_unchanged a b).faults rfl
  have eW : ∀ (x : State) (a b : Nat), (x.withdrawFor a b).faults = x.faults := fun x a b => (State.withdrawFor_unchanged a b).faults rfl
  have eC : ∀ (x : State) (a : Nat) (b : List Nat), (x.setCauses a b).faults.inject = x.faults.inject := fun x a b => rfl
  unfold State.record
  simp only
  generalize (s.eventLevel i base).1 = u
  generalize (s.eventLevel i base).2 = l
  generalize ha : ((u.wr F.FAULT_SRC_STATUS_level (max (u.level i) l) i).inc F.FAULT_SRC_STATUS_events i).wr
    F.FAULT_SRC_STATUS_injected (ofBool inj) i = a
  have ha : a.faults.inject = u.faults.inject := by rw [← ha]; rfl
  rw [← ha]
  generalize hb : (if 3 ≤ l then (a.wr F.FAULT_SRC_STATUS_detail detail i).setB F.FAULT_SRC_STATUS_pending i else a) = b
  have hb : b.faults.inject = a.faults.inject := by rw [← hb]; split <;> rfl
  rw [← hb]
  generalize hc : (if (persist || decide (l = 5)) = true then
      b.setCauses i ((b.causes i ++ (if persist then [detail] else []) ++ (if l = 5 then [0] else [])).dedup) else b) = c
  have hc : c.faults.inject = b.faults.inject := by rw [← hc]; split <;> rfl
  rw [← hc]
  generalize hd : (if c.rd F.FAULT_SRC_CFG_log_min i ≤ l ∨ 4 ≤ l then c.amberWrite (c.amberEntry i detail l inj) l else c) = d
  have hd : d.faults.inject = c.faults.inject := by rw [← hd]; split; rw [eA]; rfl
  rw [← hd]
  split
  · have := eW d i l
    generalize d.withdrawFor i l = e at this
    rw [← this]
  · rfl

end Sys2Proof.Machine
end

