-- ==== Sys2Proof/Laws/KeepFaults.lean ====
section
/-! SUPPORT. What the operations of Machine/Faults.lean keep: one lemma per operation. -/

namespace Sys2Proof.Machine

-- One proof at a time: the package is compiled as one text under a memory limit.
set_option Elab.async false

set_option linter.all false

variable {W : Parts} {s0 s : State}

theorem guardHcs_keep {ok f} (h : Keep W s0 s) (hf : ∀ u, Keep W s0 u → Keep W s0 (f u)) (w_bbs : W.bbs = true := by first | assumption | rfl) (w_out : W.out = true := by first | assumption | rfl) (w_po : W.po = true := by first | assumption | rfl) (w_faults : W.faults = true := by first | assumption | rfl) (w_lease : W.lease = true := by first | assumption | rfl) (w_pages : W.pages = true := by first | assumption | rfl) (w_serve : W.serve = true := by first | assumption | rfl) (w_slots : W.slots = true := by first | assumption | rfl) (w_fabric : W.fabric = true := by first | assumption | rfl) (w_stk : W.stk = true := by first | assumption | rfl) (w_links : W.links = true := by first | assumption | rfl) (w_dbg : W.dbg = true := by first | assumption | rfl) (w_opc : W.opc = true := by first | assumption | rfl) (w_b_image : W.b_image = true := by first | assumption | rfl) (w_b_page : W.b_page = true := by first | assumption | rfl) (w_b_output : W.b_output = true := by first | assumption | rfl) (w_b_fault : W.b_fault = true := by first | assumption | rfl) (w_b_amber : W.b_amber = true := by first | assumption | rfl) (w_b_redundancy : W.b_redundancy = true := by first | assumption | rfl) (w_b_perf : W.b_perf = true := by first | assumption | rfl) : KeepR W s0 (guardHcs ok s f) :=
  KeepR.next (Keep.ite (hf s h) (State.accessNote_keep h))

theorem State.pulseOver_keep (h : Keep W s0 s) (w_faults : W.faults = true := by first | assumption | rfl) (w_b_fault : W.b_fault = true := by first | assumption | rfl) : Keep W s0 (State.pulseOver s) := by
  unfold State.pulseOver
  try dsimp only
  repeat' first
    | with_reducible assumption
    | with_reducible refine Keep.ite ?_ ?_
    | with_reducible apply State.faultPin_keep
    | with_reducible apply State.wr_keep
    | ((with_reducible refine Parts.blk_true ?_); first | exact w_b_fault)
    | with_reducible refine Keep.upd_faults (h := ?_)

theorem execFaultNPulseEnd_keep (h : Keep W s0 s) (w_clk : W.clk = true := by first | assumption | rfl) (w_modTime : W.modTime = true := by first | assumption | rfl) (w_ptp : W.ptp = true := by first | assumption | rfl) (w_faults : W.faults = true := by first | assumption | rfl) (w_b_fault : W.b_fault = true := by first | assumption | rfl) (w_b_perf : W.b_perf = true := by first | assumption | rfl) : KeepR W s0 (execFaultNPulseEnd s) := by
  unfold execFaultNPulseEnd
  try dsimp only
  repeat' first
    | with_reducible assumption
    | with_reducible refine Keep.ite ?_ ?_
    | with_reducible refine KeepR.ite ?_ ?_
    | with_reducible refine KeepR.next ?_
    | with_reducible apply State.pulseOver_keep
    | with_reducible apply State.advanceTo_keep
    | (split <;> try dsimp only)

theorem State.faultCmd_keep {a1 a2} (h : Keep W s0 s) (w_b_fault : W.b_fault = true := by first | assumption | rfl) : Keep W s0 (State.faultCmd s a1 a2) := by
  unfold State.faultCmd
  try dsimp only
  repeat' first
    | with_reducible assumption
    | with_reducible refine Keep.ite ?_ ?_
    | with_reducible apply State.wr_keep
    | ((with_reducible refine Parts.blk_true ?_); first | exact w_b_fault)

theorem execFaultAck_keep {a1 a2} (h : Keep W s0 s) (w_bbs : W.bbs = true := by first | assumption | rfl) (w_out : W.out = true := by first | assumption | rfl) (w_po : W.po = true := by first | assumption | rfl) (w_faults : W.faults = true := by first | assumption | rfl) (w_lease : W.lease = true := by first | assumption | rfl) (w_pages : W.pages = true := by first | assumption | rfl) (w_serve : W.serve = true := by first | assumption | rfl) (w_slots : W.slots = true := by first | assumption | rfl) (w_fabric : W.fabric = true := by first | assumption | rfl) (w_stk : W.stk = true := by first | assumption | rfl) (w_links : W.links = true := by first | assumption | rfl) (w_dbg : W.dbg = true := by first | assumption | rfl) (w_opc : W.opc = true := by first | assumption | rfl) (w_b_image : W.b_image = true := by first | assumption | rfl) (w_b_page : W.b_page = true := by first | assumption | rfl) (w_b_output : W.b_output = true := by first | assumption | rfl) (w_b_fault : W.b_fault = true := by first | assumption | rfl) (w_b_amber : W.b_amber = true := by first | assumption | rfl) (w_b_redundancy : W.b_redundancy = true := by first | assumption | rfl) (w_b_perf : W.b_perf = true := by first | assumption | rfl) : KeepR W s0 (execFaultAck a1 a2 s) := by
  unfold execFaultAck
  try dsimp only
  repeat' first
    | with_reducible assumption
    | with_reducible refine Keep.ite ?_ ?_
    | with_reducible refine KeepR.ite ?_ ?_
    | with_reducible refine KeepR.next ?_
    | with_reducible apply guardHcs_keep
    | with_reducible apply State.faultCmd_keep
    | with_reducible apply State.wr_keep
    | ((with_reducible refine Parts.blk_true ?_); first | exact w_b_fault)
    | (intro _; intros; try dsimp only)
    | (split <;> try dsimp only)

theorem State.clearSource_keep {a1} (h : Keep W s0 s) (w_faults : W.faults = true := by first | assumption | rfl) (w_b_fault : W.b_fault = true := by first | assumption | rfl) : Keep W s0 (State.clearSource s a1) := by
  unfold State.clearSource
  try dsimp only
  repeat' first
    | with_reducible assumption
    | with_reducible refine Keep.ite ?_ ?_
    | with_reducible apply State.wr_keep
    | ((with_reducible refine Parts.blk_true ?_); first | exact w_b_fault)
    | with_reducible refine Keep.upd_faults (h := ?_)

theorem execFaultClear_keep {a1 a2} (h : Keep W s0 s) (w_bbs : W.bbs = true := by first | assumption | rfl) (w_out : W.out = true := by first | assumption | rfl) (w_po : W.po = true := by first | assumption | rfl) (w_faults : W.faults = true := by first | assumption | rfl) (w_lease : W.lease = true := by first | assumption | rfl) (w_pages : W.pages = true := by first | assumption | rfl) (w_serve : W.serve = true := by first | assumption | rfl) (w_slots : W.slots = true := by first | assumption | rfl) (w_fabric : W.fabric = true := by first | assumption | rfl) (w_stk : W.stk = true := by first | assumption | rfl) (w_links : W.links = true := by first | assumption | rfl) (w_dbg : W.dbg = true := by first | assumption | rfl) (w_opc : W.opc = true := by first | assumption | rfl) (w_b_image : W.b_image = true := by first | assumption | rfl) (w_b_page : W.b_page = true := by first | assumption | rfl) (w_b_output : W.b_output = true := by first | assumption | rfl) (w_b_fault : W.b_fault = true := by first | assumption | rfl) (w_b_amber : W.b_amber = true := by first | assumption | rfl) (w_b_redundancy : W.b_redundancy = true := by first | assumption | rfl) (w_b_perf : W.b_perf = true := by first | assumption | rfl) : KeepR W s0 (execFaultClear a1 a2 s) := by
  unfold execFaultClear
  try dsimp only
  repeat' first
    | with_reducible assumption
    | with_reducible refine Keep.ite ?_ ?_
    | with_reducible refine KeepR.ite ?_ ?_
    | with_reducible refine KeepR.next ?_
    | with_reducible apply guardHcs_keep
    | with_reducible apply State.faultCmd_keep
    | with_reducible apply State.inc_keep
    | with_reducible apply State.clearSource_keep
    | ((with_reducible refine Parts.blk_true ?_); first | exact w_b_fault)
    | (intro _; intros; try dsimp only)
    | (split <;> try dsimp only)

theorem execAckAll_keep {a1} (h : Keep W s0 s) (w_bbs : W.bbs = true := by first | assumption | rfl) (w_out : W.out = true := by first | assumption | rfl) (w_po : W.po = true := by first | assumption | rfl) (w_faults : W.faults = true := by first | assumption | rfl) (w_lease : W.lease = true := by first | assumption | rfl) (w_pages : W.pages = true := by first | assumption | rfl) (w_serve : W.serve = true := by first | assumption | rfl) (w_slots : W.slots = true := by first | assumption | rfl) (w_fabric : W.fabric = true := by first | assumption | rfl) (w_stk : W.stk = true := by first | assumption | rfl) (w_links : W.links = true := by first | assumption | rfl) (w_dbg : W.dbg = true := by first | assumption | rfl) (w_opc : W.opc = true := by first | assumption | rfl) (w_b_image : W.b_image = true := by first | assumption | rfl) (w_b_page : W.b_page = true := by first | assumption | rfl) (w_b_output : W.b_output = true := by first | assumption | rfl) (w_b_fault : W.b_fault = true := by first | assumption | rfl) (w_b_amber : W.b_amber = true := by first | assumption | rfl) (w_b_redundancy : W.b_redundancy = true := by first | assumption | rfl) (w_b_perf : W.b_perf = true := by first | assumption | rfl) : KeepR W s0 (execAckAll a1 s) := by
  unfold execAckAll
  try dsimp only
  repeat' first
    | with_reducible assumption
    | with_reducible refine Keep.ite ?_ ?_
    | with_reducible refine KeepR.ite ?_ ?_
    | with_reducible refine KeepR.next ?_
    | with_reducible apply guardHcs_keep
    | with_reducible apply State.faultCmd_keep
    | with_reducible apply State.wr_keep
    | ((with_reducible refine Parts.blk_true ?_); first | exact w_b_fault)
    | (intro _; intros; try dsimp only)
    | with_reducible refine Keep.foldl ?_ ?_

theorem execFaultInject_keep {a1 a2} (h : Keep W s0 s) (w_bbs : W.bbs = true := by first | assumption | rfl) (w_out : W.out = true := by first | assumption | rfl) (w_po : W.po = true := by first | assumption | rfl) (w_faults : W.faults = true := by first | assumption | rfl) (w_lease : W.lease = true := by first | assumption | rfl) (w_pages : W.pages = true := by first | assumption | rfl) (w_serve : W.serve = true := by first | assumption | rfl) (w_slots : W.slots = true := by first | assumption | rfl) (w_fabric : W.fabric = true := by first | assumption | rfl) (w_stk : W.stk = true := by first | assumption | rfl) (w_links : W.links = true := by first | assumption | rfl) (w_dbg : W.dbg = true := by first | assumption | rfl) (w_opc : W.opc = true := by first | assumption | rfl) (w_b_image : W.b_image = true := by first | assumption | rfl) (w_b_page : W.b_page = true := by first | assumption | rfl) (w_b_output : W.b_output = true := by first | assumption | rfl) (w_b_fault : W.b_fault = true := by first | assumption | rfl) (w_b_amber : W.b_amber = true := by first | assumption | rfl) (w_b_redundancy : W.b_redundancy = true := by first | assumption | rfl) (w_b_perf : W.b_perf = true := by first | assumption | rfl) : KeepR W s0 (execFaultInject a1 a2 s) := by
  unfold execFaultInject
  try dsimp only
  repeat' first
    | with_reducible assumption
    | with_reducible refine Keep.ite ?_ ?_
    | with_reducible refine KeepR.ite ?_ ?_
    | with_reducible refine KeepR.next ?_
    | with_reducible apply guardHcs_keep
    | with_reducible apply State.applyWrite_keep
    | ((with_reducible refine Parts.blk_true ?_); first | exact w_b_fault)
    | (intro _; intros; try dsimp only)
    | (split <;> try dsimp only)
    | with_reducible refine Keep.upd_faults (h := ?_)

theorem execInjectedEvent_keep (h : Keep W s0 s) (w_bbs : W.bbs = true := by first | assumption | rfl) (w_clk : W.clk = true := by first | assumption | rfl) (w_modTime : W.modTime = true := by first | assumption | rfl) (w_out : W.out = true := by first | assumption | rfl) (w_po : W.po = true := by first | assumption | rfl) (w_ptp : W.ptp = true := by first | assumption | rfl) (w_faults : W.faults = true := by first | assumption | rfl) (w_lease : W.lease = true := by first | assumption | rfl) (w_pages : W.pages = true := by first | assumption | rfl) (w_serve : W.serve = true := by first | assumption | rfl) (w_slots : W.slots = true := by first | assumption | rfl) (w_fabric : W.fabric = true := by first | assumption | rfl) (w_stk : W.stk = true := by first | assumption | rfl) (w_links : W.links = true := by first | assumption | rfl) (w_dbg : W.dbg = true := by first | assumption | rfl) (w_opc : W.opc = true := by first | assumption | rfl) (w_b_image : W.b_image = true := by first | assumption | rfl) (w_b_page : W.b_page = true := by first | assumption | rfl) (w_b_output : W.b_output = true := by first | assumption | rfl) (w_b_fault : W.b_fault = true := by first | assumption | rfl) (w_b_amber : W.b_amber = true := by first | assumption | rfl) (w_b_redundancy : W.b_redundancy = true := by first | assumption | rfl) (w_b_perf : W.b_perf = true := by first | assumption | rfl) : KeepR W s0 (execInjectedEvent s) := by
  unfold execInjectedEvent
  try dsimp only
  repeat' first
    | with_reducible assumption
    | with_reducible refine Keep.ite ?_ ?_
    | with_reducible refine KeepR.ite ?_ ?_
    | with_reducible refine KeepR.next ?_
    | with_reducible apply State.advanceTo_keep
    | with_reducible apply State.eventAt_keep
    | (split <;> try dsimp only)
    | with_reducible refine Keep.upd_faults (h := ?_)

theorem execAmberLogClear_keep {a1 a2} (h : Keep W s0 s) (w_bbs : W.bbs = true := by first | assumption | rfl) (w_out : W.out = true := by first | assumption | rfl) (w_po : W.po = true := by first | assumption | rfl) (w_faults : W.faults = true := by first | assumption | rfl) (w_lease : W.lease = true := by first | assumption | rfl) (w_pages : W.pages = true := by first | assumption | rfl) (w_serve : W.serve = true := by first | assumption | rfl) (w_slots : W.slots = true := by first | assumption | rfl) (w_fabric : W.fabric = true := by first | assumption | rfl) (w_stk : W.stk = true := by first | assumption | rfl) (w_links : W.links = true := by first | assumption | rfl) (w_dbg : W.dbg = true := by first | assumption | rfl) (w_opc : W.opc = true := by first | assumption | rfl) (w_b_image : W.b_image = true := by first | assumption | rfl) (w_b_page : W.b_page = true := by first | assumption | rfl) (w_b_output : W.b_output = true := by first | assumption | rfl) (w_b_fault : W.b_fault = true := by first | assumption | rfl) (w_b_amber : W.b_amber = true := by first | assumption | rfl) (w_b_redundancy : W.b_redundancy = true := by first | assumption | rfl) (w_b_perf : W.b_perf = true := by first | assumption | rfl) : KeepR W s0 (execAmberLogClear a1 a2 s) := by
  unfold execAmberLogClear
  try dsimp only
  repeat' first
    | with_reducible assumption
    | with_reducible refine Keep.ite ?_ ?_
    | with_reducible refine KeepR.ite ?_ ?_
    | with_reducible refine KeepR.next ?_
    | with_reducible apply guardHcs_keep
    | with_reducible apply State.applyWrite_keep
    | with_reducible apply State.wr_keep
    | with_reducible apply State.bbsZero_keep
    | ((with_reducible refine Parts.blk_true ?_); first | exact w_b_amber)
    | (intro _; intros; try dsimp only)
    | (split <;> try dsimp only)

end Sys2Proof.Machine
end

