-- ==== Sys2Proof/Laws/KeepRedundancy.lean ====
section
/-! SUPPORT. What the operations of Machine/Redundancy.lean keep: one lemma per operation. -/

namespace Sys2Proof.Machine

-- One proof at a time: the package is compiled as one text under a memory limit.
set_option Elab.async false

set_option linter.all false

variable {W : Parts} {s0 s : State}

theorem State.leaseHeard_keep {a1} (h : Keep W s0 s) (w_lease : W.lease = true := by first | assumption | rfl) (w_b_redundancy : W.b_redundancy = true := by first | assumption | rfl) : Keep W s0 (State.leaseHeard s a1) := by
  unfold State.leaseHeard
  try dsimp only
  repeat' first
    | with_reducible assumption
    | with_reducible refine Keep.ite ?_ ?_
    | with_reducible apply State.wr_keep
    | ((with_reducible refine Parts.blk_true ?_); first | exact w_b_redundancy)
    | (split <;> try dsimp only)
    | with_reducible refine Keep.upd_lease (h := ?_)

theorem State.leaseDiscard_keep (h : Keep W s0 s) (w_bbs : W.bbs = true := by first | assumption | rfl) (w_out : W.out = true := by first | assumption | rfl) (w_po : W.po = true := by first | assumption | rfl) (w_faults : W.faults = true := by first | assumption | rfl) (w_lease : W.lease = true := by first | assumption | rfl) (w_pages : W.pages = true := by first | assumption | rfl) (w_serve : W.serve = true := by first | assumption | rfl) (w_slots : W.slots = true := by first | assumption | rfl) (w_fabric : W.fabric = true := by first | assumption | rfl) (w_stk : W.stk = true := by first | assumption | rfl) (w_links : W.links = true := by first | assumption | rfl) (w_dbg : W.dbg = true := by first | assumption | rfl) (w_opc : W.opc = true := by first | assumption | rfl) (w_b_image : W.b_image = true := by first | assumption | rfl) (w_b_page : W.b_page = true := by first | assumption | rfl) (w_b_output : W.b_output = true := by first | assumption | rfl) (w_b_fault : W.b_fault = true := by first | assumption | rfl) (w_b_amber : W.b_amber = true := by first | assumption | rfl) (w_b_redundancy : W.b_redundancy = true := by first | assumption | rfl) (w_b_perf : W.b_perf = true := by first | assumption | rfl) : Keep W s0 (State.leaseDiscard s) := by
  unfold State.leaseDiscard
  try dsimp only
  repeat' first
    | with_reducible assumption
    | with_reducible refine Keep.ite ?_ ?_
    | with_reducible apply State.event_keep
    | with_reducible apply State.inc_keep
    | ((with_reducible refine Parts.blk_true ?_); first | exact w_b_redundancy)

theorem State.withLease_keep {p m f} (h : Keep W s0 s) (hf : ∀ u, Keep W s0 u → Keep W s0 (f u)) (w_bbs : W.bbs = true := by first | assumption | rfl) (w_out : W.out = true := by first | assumption | rfl) (w_po : W.po = true := by first | assumption | rfl) (w_faults : W.faults = true := by first | assumption | rfl) (w_lease : W.lease = true := by first | assumption | rfl) (w_pages : W.pages = true := by first | assumption | rfl) (w_serve : W.serve = true := by first | assumption | rfl) (w_slots : W.slots = true := by first | assumption | rfl) (w_fabric : W.fabric = true := by first | assumption | rfl) (w_stk : W.stk = true := by first | assumption | rfl) (w_links : W.links = true := by first | assumption | rfl) (w_dbg : W.dbg = true := by first | assumption | rfl) (w_opc : W.opc = true := by first | assumption | rfl) (w_b_image : W.b_image = true := by first | assumption | rfl) (w_b_page : W.b_page = true := by first | assumption | rfl) (w_b_output : W.b_output = true := by first | assumption | rfl) (w_b_fault : W.b_fault = true := by first | assumption | rfl) (w_b_amber : W.b_amber = true := by first | assumption | rfl) (w_b_redundancy : W.b_redundancy = true := by first | assumption | rfl) (w_b_perf : W.b_perf = true := by first | assumption | rfl) : KeepR W s0 (State.withLease s p m f) :=
  KeepR.next (Keep.ite h (Keep.ite (hf _ (State.leaseHeard_keep h)) (State.leaseDiscard_keep h)))

theorem State.takeOver_keep (h : Keep W s0 s) (w_bbs : W.bbs = true := by first | assumption | rfl) (w_out : W.out = true := by first | assumption | rfl) (w_po : W.po = true := by first | assumption | rfl) (w_faults : W.faults = true := by first | assumption | rfl) (w_lease : W.lease = true := by first | assumption | rfl) (w_pages : W.pages = true := by first | assumption | rfl) (w_serve : W.serve = true := by first | assumption | rfl) (w_slots : W.slots = true := by first | assumption | rfl) (w_fabric : W.fabric = true := by first | assumption | rfl) (w_stk : W.stk = true := by first | assumption | rfl) (w_links : W.links = true := by first | assumption | rfl) (w_dbg : W.dbg = true := by first | assumption | rfl) (w_opc : W.opc = true := by first | assumption | rfl) (w_b_image : W.b_image = true := by first | assumption | rfl) (w_b_page : W.b_page = true := by first | assumption | rfl) (w_b_output : W.b_output = true := by first | assumption | rfl) (w_b_fault : W.b_fault = true := by first | assumption | rfl) (w_b_amber : W.b_amber = true := by first | assumption | rfl) (w_b_redundancy : W.b_redundancy = true := by first | assumption | rfl) (w_b_perf : W.b_perf = true := by first | assumption | rfl) : Keep W s0 (State.takeOver s) := by
  unfold State.takeOver
  try dsimp only
  repeat' first
    | with_reducible assumption
    | with_reducible refine Keep.ite ?_ ?_
    | with_reducible apply State.setLease_keep
    | with_reducible apply State.event_keep
    | with_reducible apply State.inc_keep
    | with_reducible apply State.sendRenew_keep
    | ((with_reducible refine Parts.blk_true ?_); first | exact w_b_redundancy)
    | with_reducible refine Keep.upd_lease (h := ?_)

theorem State.takeoverCond_keep (h : Keep W s0 s) (w_bbs : W.bbs = true := by first | assumption | rfl) (w_out : W.out = true := by first | assumption | rfl) (w_po : W.po = true := by first | assumption | rfl) (w_faults : W.faults = true := by first | assumption | rfl) (w_lease : W.lease = true := by first | assumption | rfl) (w_pages : W.pages = true := by first | assumption | rfl) (w_serve : W.serve = true := by first | assumption | rfl) (w_slots : W.slots = true := by first | assumption | rfl) (w_fabric : W.fabric = true := by first | assumption | rfl) (w_stk : W.stk = true := by first | assumption | rfl) (w_links : W.links = true := by first | assumption | rfl) (w_dbg : W.dbg = true := by first | assumption | rfl) (w_opc : W.opc = true := by first | assumption | rfl) (w_b_image : W.b_image = true := by first | assumption | rfl) (w_b_page : W.b_page = true := by first | assumption | rfl) (w_b_output : W.b_output = true := by first | assumption | rfl) (w_b_fault : W.b_fault = true := by first | assumption | rfl) (w_b_amber : W.b_amber = true := by first | assumption | rfl) (w_b_redundancy : W.b_redundancy = true := by first | assumption | rfl) (w_b_perf : W.b_perf = true := by first | assumption | rfl) : Keep W s0 (State.takeoverCond s) := by
  unfold State.takeoverCond
  try dsimp only
  repeat' first
    | with_reducible assumption
    | with_reducible refine Keep.ite ?_ ?_
    | with_reducible apply State.takeOver_keep
    | with_reducible apply State.event_keep
    | (split <;> try dsimp only)
    | with_reducible refine Keep.upd_lease (h := ?_)

theorem State.grantRenew_keep {a1} (h : Keep W s0 s) (w_out : W.out = true := by first | assumption | rfl) (w_lease : W.lease = true := by first | assumption | rfl) (w_links : W.links = true := by first | assumption | rfl) (w_opc : W.opc = true := by first | assumption | rfl) (w_b_redundancy : W.b_redundancy = true := by first | assumption | rfl) (w_b_perf : W.b_perf = true := by first | assumption | rfl) : Keep W s0 (State.grantRenew s a1) := by
  unfold State.grantRenew
  try dsimp only
  repeat' first
    | with_reducible assumption
    | with_reducible refine Keep.ite ?_ ?_
    | with_reducible apply State.wr_keep
    | with_reducible apply State.sendLease_keep
    | ((with_reducible refine Parts.blk_true ?_); first | exact w_b_redundancy)
    | with_reducible refine Keep.upd_lease (h := ?_)

theorem execRenew_keep {a1 a2} (h : Keep W s0 s) (w_bbs : W.bbs = true := by first | assumption | rfl) (w_out : W.out = true := by first | assumption | rfl) (w_po : W.po = true := by first | assumption | rfl) (w_faults : W.faults = true := by first | assumption | rfl) (w_lease : W.lease = true := by first | assumption | rfl) (w_pages : W.pages = true := by first | assumption | rfl) (w_serve : W.serve = true := by first | assumption | rfl) (w_slots : W.slots = true := by first | assumption | rfl) (w_fabric : W.fabric = true := by first | assumption | rfl) (w_stk : W.stk = true := by first | assumption | rfl) (w_links : W.links = true := by first | assumption | rfl) (w_dbg : W.dbg = true := by first | assumption | rfl) (w_opc : W.opc = true := by first | assumption | rfl) (w_b_image : W.b_image = true := by first | assumption | rfl) (w_b_page : W.b_page = true := by first | assumption | rfl) (w_b_output : W.b_output = true := by first | assumption | rfl) (w_b_fault : W.b_fault = true := by first | assumption | rfl) (w_b_amber : W.b_amber = true := by first | assumption | rfl) (w_b_redundancy : W.b_redundancy = true := by first | assumption | rfl) (w_b_perf : W.b_perf = true := by first | assumption | rfl) : KeepR W s0 (execRenew a1 a2 s) := by
  unfold execRenew
  try dsimp only
  repeat' first
    | with_reducible assumption
    | with_reducible refine Keep.ite ?_ ?_
    | with_reducible refine KeepR.ite ?_ ?_
    | with_reducible refine KeepR.next ?_
    | with_reducible apply State.withLease_keep
    | with_reducible apply State.grantRenew_keep
    | with_reducible apply State.setLease_keep
    | with_reducible apply State.sendLease_keep
    | with_reducible apply State.event_keep
    | (intro _; intros; try dsimp only)
    | (split <;> try dsimp only)
    | with_reducible refine Keep.upd_lease (h := ?_)

theorem execGrant_keep {a1 a2} (h : Keep W s0 s) (w_bbs : W.bbs = true := by first | assumption | rfl) (w_out : W.out = true := by first | assumption | rfl) (w_po : W.po = true := by first | assumption | rfl) (w_faults : W.faults = true := by first | assumption | rfl) (w_lease : W.lease = true := by first | assumption | rfl) (w_pages : W.pages = true := by first | assumption | rfl) (w_serve : W.serve = true := by first | assumption | rfl) (w_slots : W.slots = true := by first | assumption | rfl) (w_fabric : W.fabric = true := by first | assumption | rfl) (w_stk : W.stk = true := by first | assumption | rfl) (w_links : W.links = true := by first | assumption | rfl) (w_dbg : W.dbg = true := by first | assumption | rfl) (w_opc : W.opc = true := by first | assumption | rfl) (w_b_image : W.b_image = true := by first | assumption | rfl) (w_b_page : W.b_page = true := by first | assumption | rfl) (w_b_output : W.b_output = true := by first | assumption | rfl) (w_b_fault : W.b_fault = true := by first | assumption | rfl) (w_b_amber : W.b_amber = true := by first | assumption | rfl) (w_b_redundancy : W.b_redundancy = true := by first | assumption | rfl) (w_b_perf : W.b_perf = true := by first | assumption | rfl) : KeepR W s0 (execGrant a1 a2 s) := by
  unfold execGrant
  try dsimp only
  repeat' first
    | with_reducible assumption
    | with_reducible refine Keep.ite ?_ ?_
    | with_reducible refine KeepR.ite ?_ ?_
    | with_reducible refine KeepR.next ?_
    | with_reducible apply State.withLease_keep
    | with_reducible apply State.wr_keep
    | with_reducible apply State.setLease_keep
    | ((with_reducible refine Parts.blk_true ?_); first | exact w_b_redundancy)
    | (intro _; intros; try dsimp only)
    | (split <;> try dsimp only)
    | with_reducible refine Keep.upd_lease (h := ?_)

theorem execDeny_keep {a1 a2} (h : Keep W s0 s) (w_bbs : W.bbs = true := by first | assumption | rfl) (w_out : W.out = true := by first | assumption | rfl) (w_po : W.po = true := by first | assumption | rfl) (w_faults : W.faults = true := by first | assumption | rfl) (w_lease : W.lease = true := by first | assumption | rfl) (w_pages : W.pages = true := by first | assumption | rfl) (w_serve : W.serve = true := by first | assumption | rfl) (w_slots : W.slots = true := by first | assumption | rfl) (w_fabric : W.fabric = true := by first | assumption | rfl) (w_stk : W.stk = true := by first | assumption | rfl) (w_links : W.links = true := by first | assumption | rfl) (w_dbg : W.dbg = true := by first | assumption | rfl) (w_opc : W.opc = true := by first | assumption | rfl) (w_b_image : W.b_image = true := by first | assumption | rfl) (w_b_page : W.b_page = true := by first | assumption | rfl) (w_b_output : W.b_output = true := by first | assumption | rfl) (w_b_fault : W.b_fault = true := by first | assumption | rfl) (w_b_amber : W.b_amber = true := by first | assumption | rfl) (w_b_redundancy : W.b_redundancy = true := by first | assumption | rfl) (w_b_perf : W.b_perf = true := by first | assumption | rfl) : KeepR W s0 (execDeny a1 a2 s) := by
  unfold execDeny
  try dsimp only
  repeat' first
    | with_reducible assumption
    | with_reducible refine Keep.ite ?_ ?_
    | with_reducible refine KeepR.ite ?_ ?_
    | with_reducible refine KeepR.next ?_
    | with_reducible apply State.withLease_keep
    | with_reducible apply State.setLease_keep
    | (intro _; intros; try dsimp only)
    | (split <;> try dsimp only)

theorem execRelease_keep {a1 a2} (h : Keep W s0 s) (w_bbs : W.bbs = true := by first | assumption | rfl) (w_out : W.out = true := by first | assumption | rfl) (w_po : W.po = true := by first | assumption | rfl) (w_faults : W.faults = true := by first | assumption | rfl) (w_lease : W.lease = true := by first | assumption | rfl) (w_pages : W.pages = true := by first | assumption | rfl) (w_serve : W.serve = true := by first | assumption | rfl) (w_slots : W.slots = true := by first | assumption | rfl) (w_fabric : W.fabric = true := by first | assumption | rfl) (w_stk : W.stk = true := by first | assumption | rfl) (w_links : W.links = true := by first | assumption | rfl) (w_dbg : W.dbg = true := by first | assumption | rfl) (w_opc : W.opc = true := by first | assumption | rfl) (w_b_image : W.b_image = true := by first | assumption | rfl) (w_b_page : W.b_page = true := by first | assumption | rfl) (w_b_output : W.b_output = true := by first | assumption | rfl) (w_b_fault : W.b_fault = true := by first | assumption | rfl) (w_b_amber : W.b_amber = true := by first | assumption | rfl) (w_b_redundancy : W.b_redundancy = true := by first | assumption | rfl) (w_b_perf : W.b_perf = true := by first | assumption | rfl) : KeepR W s0 (execRelease a1 a2 s) := by
  unfold execRelease
  try dsimp only
  repeat' first
    | with_reducible assumption
    | with_reducible refine Keep.ite ?_ ?_
    | with_reducible refine KeepR.ite ?_ ?_
    | with_reducible refine KeepR.next ?_
    | with_reducible apply State.withLease_keep
    | with_reducible apply State.takeoverCond_keep
    | (intro _; intros; try dsimp only)

theorem execRenewTimer_keep (h : Keep W s0 s) (w_clk : W.clk = true := by first | assumption | rfl) (w_modTime : W.modTime = true := by first | assumption | rfl) (w_out : W.out = true := by first | assumption | rfl) (w_ptp : W.ptp = true := by first | assumption | rfl) (w_lease : W.lease = true := by first | assumption | rfl) (w_links : W.links = true := by first | assumption | rfl) (w_opc : W.opc = true := by first | assumption | rfl) (w_b_perf : W.b_perf = true := by first | assumption | rfl) : KeepR W s0 (execRenewTimer s) := by
  unfold execRenewTimer
  try dsimp only
  repeat' first
    | with_reducible assumption
    | with_reducible refine Keep.ite ?_ ?_
    | with_reducible refine KeepR.ite ?_ ?_
    | with_reducible refine KeepR.next ?_
    | with_reducible apply State.sendRenew_keep
    | with_reducible apply State.advanceTo_keep
    | (split <;> try dsimp only)

theorem execLeaseDoubt_keep (h : Keep W s0 s) (w_clk : W.clk = true := by first | assumption | rfl) (w_modTime : W.modTime = true := by first | assumption | rfl) (w_out : W.out = true := by first | assumption | rfl) (w_po : W.po = true := by first | assumption | rfl) (w_ptp : W.ptp = true := by first | assumption | rfl) (w_lease : W.lease = true := by first | assumption | rfl) (w_opc : W.opc = true := by first | assumption | rfl) (w_b_output : W.b_output = true := by first | assumption | rfl) (w_b_redundancy : W.b_redundancy = true := by first | assumption | rfl) (w_b_perf : W.b_perf = true := by first | assumption | rfl) : KeepR W s0 (execLeaseDoubt s) := by
  unfold execLeaseDoubt
  try dsimp only
  repeat' first
    | with_reducible assumption
    | with_reducible refine Keep.ite ?_ ?_
    | with_reducible refine KeepR.ite ?_ ?_
    | with_reducible refine KeepR.next ?_
    | with_reducible apply State.setLease_keep
    | with_reducible apply State.advanceTo_keep
    | (split <;> try dsimp only)

theorem execLeaseExpiry_keep (h : Keep W s0 s) (w_bbs : W.bbs = true := by first | assumption | rfl) (w_clk : W.clk = true := by first | assumption | rfl) (w_modTime : W.modTime = true := by first | assumption | rfl) (w_out : W.out = true := by first | assumption | rfl) (w_po : W.po = true := by first | assumption | rfl) (w_ptp : W.ptp = true := by first | assumption | rfl) (w_faults : W.faults = true := by first | assumption | rfl) (w_lease : W.lease = true := by first | assumption | rfl) (w_pages : W.pages = true := by first | assumption | rfl) (w_serve : W.serve = true := by first | assumption | rfl) (w_slots : W.slots = true := by first | assumption | rfl) (w_fabric : W.fabric = true := by first | assumption | rfl) (w_stk : W.stk = true := by first | assumption | rfl) (w_links : W.links = true := by first | assumption | rfl) (w_dbg : W.dbg = true := by first | assumption | rfl) (w_opc : W.opc = true := by first | assumption | rfl) (w_b_image : W.b_image = true := by first | assumption | rfl) (w_b_page : W.b_page = true := by first | assumption | rfl) (w_b_output : W.b_output = true := by first | assumption | rfl) (w_b_fault : W.b_fault = true := by first | assumption | rfl) (w_b_amber : W.b_amber = true := by first | assumption | rfl) (w_b_redundancy : W.b_redundancy = true := by first | assumption | rfl) (w_b_perf : W.b_perf = true := by first | assumption | rfl) : KeepR W s0 (execLeaseExpiry s) := by
  unfold execLeaseExpiry
  try dsimp only
  repeat' first
    | with_reducible assumption
    | with_reducible refine Keep.ite ?_ ?_
    | with_reducible refine KeepR.ite ?_ ?_
    | with_reducible refine KeepR.next ?_
    | with_reducible apply State.event_keep
    | with_reducible apply State.inc_keep
    | with_reducible apply State.setLease_keep
    | with_reducible apply State.advanceTo_keep
    | ((with_reducible refine Parts.blk_true ?_); first | exact w_b_redundancy)
    | (split <;> try dsimp only)

theorem execTakeoverTimer_keep (h : Keep W s0 s) (w_bbs : W.bbs = true := by first | assumption | rfl) (w_clk : W.clk = true := by first | assumption | rfl) (w_modTime : W.modTime = true := by first | assumption | rfl) (w_out : W.out = true := by first | assumption | rfl) (w_po : W.po = true := by first | assumption | rfl) (w_ptp : W.ptp = true := by first | assumption | rfl) (w_faults : W.faults = true := by first | assumption | rfl) (w_lease : W.lease = true := by first | assumption | rfl) (w_pages : W.pages = true := by first | assumption | rfl) (w_serve : W.serve = true := by first | assumption | rfl) (w_slots : W.slots = true := by first | assumption | rfl) (w_fabric : W.fabric = true := by first | assumption | rfl) (w_stk : W.stk = true := by first | assumption | rfl) (w_links : W.links = true := by first | assumption | rfl) (w_dbg : W.dbg = true := by first | assumption | rfl) (w_opc : W.opc = true := by first | assumption | rfl) (w_b_image : W.b_image = true := by first | assumption | rfl) (w_b_page : W.b_page = true := by first | assumption | rfl) (w_b_output : W.b_output = true := by first | assumption | rfl) (w_b_fault : W.b_fault = true := by first | assumption | rfl) (w_b_amber : W.b_amber = true := by first | assumption | rfl) (w_b_redundancy : W.b_redundancy = true := by first | assumption | rfl) (w_b_perf : W.b_perf = true := by first | assumption | rfl) : KeepR W s0 (execTakeoverTimer s) := by
  unfold execTakeoverTimer
  try dsimp only
  repeat' first
    | with_reducible assumption
    | with_reducible refine Keep.ite ?_ ?_
    | with_reducible refine KeepR.ite ?_ ?_
    | with_reducible refine KeepR.next ?_
    | with_reducible apply State.takeoverCond_keep
    | with_reducible apply State.advanceTo_keep
    | (split <;> try dsimp only)

theorem execPartnerSilent_keep (h : Keep W s0 s) (w_bbs : W.bbs = true := by first | assumption | rfl) (w_clk : W.clk = true := by first | assumption | rfl) (w_modTime : W.modTime = true := by first | assumption | rfl) (w_out : W.out = true := by first | assumption | rfl) (w_po : W.po = true := by first | assumption | rfl) (w_ptp : W.ptp = true := by first | assumption | rfl) (w_faults : W.faults = true := by first | assumption | rfl) (w_lease : W.lease = true := by first | assumption | rfl) (w_pages : W.pages = true := by first | assumption | rfl) (w_serve : W.serve = true := by first | assumption | rfl) (w_slots : W.slots = true := by first | assumption | rfl) (w_fabric : W.fabric = true := by first | assumption | rfl) (w_stk : W.stk = true := by first | assumption | rfl) (w_links : W.links = true := by first | assumption | rfl) (w_dbg : W.dbg = true := by first | assumption | rfl) (w_opc : W.opc = true := by first | assumption | rfl) (w_b_image : W.b_image = true := by first | assumption | rfl) (w_b_page : W.b_page = true := by first | assumption | rfl) (w_b_output : W.b_output = true := by first | assumption | rfl) (w_b_fault : W.b_fault = true := by first | assumption | rfl) (w_b_amber : W.b_amber = true := by first | assumption | rfl) (w_b_redundancy : W.b_redundancy = true := by first | assumption | rfl) (w_b_perf : W.b_perf = true := by first | assumption | rfl) : KeepR W s0 (execPartnerSilent s) := by
  unfold execPartnerSilent
  try dsimp only
  repeat' first
    | with_reducible assumption
    | with_reducible refine Keep.ite ?_ ?_
    | with_reducible refine KeepR.ite ?_ ?_
    | with_reducible refine KeepR.next ?_
    | with_reducible apply State.setB_keep
    | with_reducible apply State.advanceTo_keep
    | with_reducible apply State.takeoverCond_keep
    | with_reducible apply State.setLease_keep
    | ((with_reducible refine Parts.blk_true ?_); first | exact w_b_redundancy)
    | (split <;> try dsimp only)

theorem execReleaseResend_keep (h : Keep W s0 s) (w_clk : W.clk = true := by first | assumption | rfl) (w_modTime : W.modTime = true := by first | assumption | rfl) (w_out : W.out = true := by first | assumption | rfl) (w_ptp : W.ptp = true := by first | assumption | rfl) (w_lease : W.lease = true := by first | assumption | rfl) (w_links : W.links = true := by first | assumption | rfl) (w_opc : W.opc = true := by first | assumption | rfl) (w_b_perf : W.b_perf = true := by first | assumption | rfl) : KeepR W s0 (execReleaseResend s) := by
  unfold execReleaseResend
  try dsimp only
  repeat' first
    | with_reducible assumption
    | with_reducible refine Keep.ite ?_ ?_
    | with_reducible refine KeepR.ite ?_ ?_
    | with_reducible refine KeepR.next ?_
    | with_reducible apply State.sendLease_keep
    | with_reducible apply State.advanceTo_keep
    | (split <;> try dsimp only)
    | with_reducible refine Keep.upd_lease (h := ?_)

theorem State.handOver_keep (h : Keep W s0 s) (w_bbs : W.bbs = true := by first | assumption | rfl) (w_out : W.out = true := by first | assumption | rfl) (w_po : W.po = true := by first | assumption | rfl) (w_faults : W.faults = true := by first | assumption | rfl) (w_lease : W.lease = true := by first | assumption | rfl) (w_pages : W.pages = true := by first | assumption | rfl) (w_serve : W.serve = true := by first | assumption | rfl) (w_slots : W.slots = true := by first | assumption | rfl) (w_fabric : W.fabric = true := by first | assumption | rfl) (w_stk : W.stk = true := by first | assumption | rfl) (w_links : W.links = true := by first | assumption | rfl) (w_dbg : W.dbg = true := by first | assumption | rfl) (w_opc : W.opc = true := by first | assumption | rfl) (w_b_image : W.b_image = true := by first | assumption | rfl) (w_b_page : W.b_page = true := by first | assumption | rfl) (w_b_output : W.b_output = true := by first | assumption | rfl) (w_b_fault : W.b_fault = true := by first | assumption | rfl) (w_b_amber : W.b_amber = true := by first | assumption | rfl) (w_b_redundancy : W.b_redundancy = true := by first | assumption | rfl) (w_b_perf : W.b_perf = true := by first | assumption | rfl) : Keep W s0 (State.handOver s).1 := by
  unfold State.handOver
  try dsimp only
  repeat' first
    | with_reducible assumption
    | with_reducible refine Keep.ite ?_ ?_
    | with_reducible apply State.event_keep
    | with_reducible apply State.inc_keep
    | with_reducible apply State.giveUpLease_keep
    | ((with_reducible refine Parts.blk_true ?_); first | exact w_b_redundancy)
    | with_reducible refine Keep.iteFst ?_ ?_
    | (split <;> try dsimp only)

theorem execHandover_keep {a1} (h : Keep W s0 s) (w_bbs : W.bbs = true := by first | assumption | rfl) (w_out : W.out = true := by first | assumption | rfl) (w_po : W.po = true := by first | assumption | rfl) (w_faults : W.faults = true := by first | assumption | rfl) (w_lease : W.lease = true := by first | assumption | rfl) (w_pages : W.pages = true := by first | assumption | rfl) (w_serve : W.serve = true := by first | assumption | rfl) (w_slots : W.slots = true := by first | assumption | rfl) (w_fabric : W.fabric = true := by first | assumption | rfl) (w_stk : W.stk = true := by first | assumption | rfl) (w_links : W.links = true := by first | assumption | rfl) (w_dbg : W.dbg = true := by first | assumption | rfl) (w_opc : W.opc = true := by first | assumption | rfl) (w_b_image : W.b_image = true := by first | assumption | rfl) (w_b_page : W.b_page = true := by first | assumption | rfl) (w_b_output : W.b_output = true := by first | assumption | rfl) (w_b_fault : W.b_fault = true := by first | assumption | rfl) (w_b_amber : W.b_amber = true := by first | assumption | rfl) (w_b_redundancy : W.b_redundancy = true := by first | assumption | rfl) (w_b_perf : W.b_perf = true := by first | assumption | rfl) : KeepR W s0 (execHandover a1 s) := by
  unfold execHandover
  try dsimp only
  repeat' first
    | with_reducible assumption
    | with_reducible refine Keep.ite ?_ ?_
    | with_reducible refine KeepR.ite ?_ ?_
    | with_reducible refine KeepR.next ?_
    | with_reducible apply guardHcs_keep
    | with_reducible apply State.handOver_keep
    | with_reducible apply State.wr_keep
    | ((with_reducible refine Parts.blk_true ?_); first | exact w_b_redundancy)
    | (intro _; intros; try dsimp only)
    | (split <;> try dsimp only)

theorem execWatchdogKick_keep {a1 a2} (h : Keep W s0 s) (w_bbs : W.bbs = true := by first | assumption | rfl) (w_out : W.out = true := by first | assumption | rfl) (w_po : W.po = true := by first | assumption | rfl) (w_faults : W.faults = true := by first | assumption | rfl) (w_lease : W.lease = true := by first | assumption | rfl) (w_pages : W.pages = true := by first | assumption | rfl) (w_serve : W.serve = true := by first | assumption | rfl) (w_slots : W.slots = true := by first | assumption | rfl) (w_fabric : W.fabric = true := by first | assumption | rfl) (w_stk : W.stk = true := by first | assumption | rfl) (w_links : W.links = true := by first | assumption | rfl) (w_dbg : W.dbg = true := by first | assumption | rfl) (w_opc : W.opc = true := by first | assumption | rfl) (w_b_image : W.b_image = true := by first | assumption | rfl) (w_b_page : W.b_page = true := by first | assumption | rfl) (w_b_output : W.b_output = true := by first | assumption | rfl) (w_b_fault : W.b_fault = true := by first | assumption | rfl) (w_b_amber : W.b_amber = true := by first | assumption | rfl) (w_b_redundancy : W.b_redundancy = true := by first | assumption | rfl) (w_b_perf : W.b_perf = true := by first | assumption | rfl) : KeepR W s0 (execWatchdogKick a1 a2 s) := by
  unfold execWatchdogKick
  try dsimp only
  repeat' first
    | with_reducible assumption
    | with_reducible refine Keep.ite ?_ ?_
    | with_reducible refine KeepR.ite ?_ ?_
    | with_reducible refine KeepR.next ?_
    | with_reducible apply guardHcs_keep
    | with_reducible apply State.wr_keep
    | ((with_reducible refine Parts.blk_true ?_); first | exact w_b_redundancy)
    | (intro _; intros; try dsimp only)
    | (split <;> try dsimp only)
    | with_reducible refine Keep.upd_lease (h := ?_)

theorem execWatchdog_keep (h : Keep W s0 s) (w_bbs : W.bbs = true := by first | assumption | rfl) (w_clk : W.clk = true := by first | assumption | rfl) (w_modTime : W.modTime = true := by first | assumption | rfl) (w_out : W.out = true := by first | assumption | rfl) (w_po : W.po = true := by first | assumption | rfl) (w_ptp : W.ptp = true := by first | assumption | rfl) (w_faults : W.faults = true := by first | assumption | rfl) (w_lease : W.lease = true := by first | assumption | rfl) (w_pages : W.pages = true := by first | assumption | rfl) (w_serve : W.serve = true := by first | assumption | rfl) (w_slots : W.slots = true := by first | assumption | rfl) (w_fabric : W.fabric = true := by first | assumption | rfl) (w_stk : W.stk = true := by first | assumption | rfl) (w_links : W.links = true := by first | assumption | rfl) (w_dbg : W.dbg = true := by first | assumption | rfl) (w_opc : W.opc = true := by first | assumption | rfl) (w_b_image : W.b_image = true := by first | assumption | rfl) (w_b_page : W.b_page = true := by first | assumption | rfl) (w_b_output : W.b_output = true := by first | assumption | rfl) (w_b_fault : W.b_fault = true := by first | assumption | rfl) (w_b_amber : W.b_amber = true := by first | assumption | rfl) (w_b_redundancy : W.b_redundancy = true := by first | assumption | rfl) (w_b_perf : W.b_perf = true := by first | assumption | rfl) : KeepR W s0 (execWatchdog s) := by
  unfold execWatchdog
  try dsimp only
  repeat' first
    | with_reducible assumption
    | with_reducible refine Keep.ite ?_ ?_
    | with_reducible refine KeepR.ite ?_ ?_
    | with_reducible refine KeepR.next ?_
    | with_reducible apply State.advanceTo_keep
    | with_reducible apply State.event_keep
    | with_reducible apply State.giveUpLease_keep
    | (split <;> try dsimp only)
    | with_reducible refine Keep.upd_lease (h := ?_)

theorem execPathSilent_keep {a1} (h : Keep W s0 s) (w_bbs : W.bbs = true := by first | assumption | rfl) (w_clk : W.clk = true := by first | assumption | rfl) (w_modTime : W.modTime = true := by first | assumption | rfl) (w_out : W.out = true := by first | assumption | rfl) (w_po : W.po = true := by first | assumption | rfl) (w_ptp : W.ptp = true := by first | assumption | rfl) (w_faults : W.faults = true := by first | assumption | rfl) (w_lease : W.lease = true := by first | assumption | rfl) (w_pages : W.pages = true := by first | assumption | rfl) (w_serve : W.serve = true := by first | assumption | rfl) (w_slots : W.slots = true := by first | assumption | rfl) (w_fabric : W.fabric = true := by first | assumption | rfl) (w_stk : W.stk = true := by first | assumption | rfl) (w_links : W.links = true := by first | assumption | rfl) (w_dbg : W.dbg = true := by first | assumption | rfl) (w_opc : W.opc = true := by first | assumption | rfl) (w_b_image : W.b_image = true := by first | assumption | rfl) (w_b_page : W.b_page = true := by first | assumption | rfl) (w_b_output : W.b_output = true := by first | assumption | rfl) (w_b_fault : W.b_fault = true := by first | assumption | rfl) (w_b_amber : W.b_amber = true := by first | assumption | rfl) (w_b_redundancy : W.b_redundancy = true := by first | assumption | rfl) (w_b_perf : W.b_perf = true := by first | assumption | rfl) : KeepR W s0 (execPathSilent a1 s) := by
  unfold execPathSilent
  try dsimp only
  repeat' first
    | with_reducible assumption
    | with_reducible refine Keep.ite ?_ ?_
    | with_reducible refine KeepR.ite ?_ ?_
    | with_reducible refine KeepR.next ?_
    | with_reducible apply State.advanceTo_keep
    | with_reducible apply State.event_keep
    | (split <;> try dsimp only)
    | with_reducible refine Keep.upd_lease (h := ?_)

theorem execRemovalWarning_keep (h : Keep W s0 s) (w_bbs : W.bbs = true := by first | assumption | rfl) (w_out : W.out = true := by first | assumption | rfl) (w_po : W.po = true := by first | assumption | rfl) (w_faults : W.faults = true := by first | assumption | rfl) (w_lease : W.lease = true := by first | assumption | rfl) (w_pages : W.pages = true := by first | assumption | rfl) (w_serve : W.serve = true := by first | assumption | rfl) (w_slots : W.slots = true := by first | assumption | rfl) (w_fabric : W.fabric = true := by first | assumption | rfl) (w_stk : W.stk = true := by first | assumption | rfl) (w_links : W.links = true := by first | assumption | rfl) (w_dbg : W.dbg = true := by first | assumption | rfl) (w_opc : W.opc = true := by first | assumption | rfl) (w_b_image : W.b_image = true := by first | assumption | rfl) (w_b_page : W.b_page = true := by first | assumption | rfl) (w_b_output : W.b_output = true := by first | assumption | rfl) (w_b_fault : W.b_fault = true := by first | assumption | rfl) (w_b_amber : W.b_amber = true := by first | assumption | rfl) (w_b_redundancy : W.b_redundancy = true := by first | assumption | rfl) (w_b_perf : W.b_perf = true := by first | assumption | rfl) : KeepR W s0 (execRemovalWarning s) := by
  unfold execRemovalWarning
  try dsimp only
  repeat' first
    | with_reducible assumption
    | with_reducible refine Keep.ite ?_ ?_
    | with_reducible refine KeepR.ite ?_ ?_
    | with_reducible refine KeepR.next ?_
    | with_reducible apply State.giveUpLease_keep
    | with_reducible apply State.event_keep

end Sys2Proof.Machine
end

