-- ==== Sys2Proof/Laws/KeepRingOps.lean ====
section
/-! SUPPORT. What the operations of Machine/RingOps.lean keep: one lemma per operation. -/

namespace Sys2Proof.Machine

-- One proof at a time: the package is compiled as one text under a memory limit.
set_option Elab.async false

set_option linter.all false

variable {W : Parts} {s0 s : State}

theorem State.setRing_keep {a1 a2} (h : Keep W s0 s) (w_rings : W.rings = true := by first | assumption | rfl) : Keep W s0 (State.setRing s a1 a2) := by
  unfold State.setRing
  try dsimp only
  repeat' first
    | with_reducible assumption
    | with_reducible refine Keep.ite ?_ ?_
    | with_reducible refine Keep.upd_rings (h := ?_)

theorem State.updRing_keep {a1 a2} (h : Keep W s0 s) (w_rings : W.rings = true := by first | assumption | rfl) : Keep W s0 (State.updRing s a1 a2) := by
  unfold State.updRing
  try dsimp only
  repeat' first
    | with_reducible assumption
    | with_reducible refine Keep.ite ?_ ?_
    | with_reducible apply State.setRing_keep

theorem State.ringIrq_keep {a1} (h : Keep W s0 s) (w_rings : W.rings = true := by first | assumption | rfl) (w_irqs : W.irqs = true := by first | assumption | rfl) (w_b_core : W.b_core = true := by first | assumption | rfl) : Keep W s0 (State.ringIrq s a1) := by
  unfold State.ringIrq
  try dsimp only
  repeat' first
    | with_reducible assumption
    | with_reducible refine Keep.ite ?_ ?_
    | with_reducible apply State.updRing_keep
    | with_reducible apply State.setB_keep
    | ((with_reducible refine Parts.blk_true ?_); first | exact w_b_core)
    | (split <;> try dsimp only)
    | with_reducible refine Keep.upd_irqs (h := ?_)

theorem State.signal_keep {a1 a2} (h : Keep W s0 s) (w_rings : W.rings = true := by first | assumption | rfl) (w_irqs : W.irqs = true := by first | assumption | rfl) (w_b_core : W.b_core = true := by first | assumption | rfl) : Keep W s0 (State.signal s a1 a2) := by
  unfold State.signal
  try dsimp only
  repeat' first
    | with_reducible assumption
    | with_reducible refine Keep.ite ?_ ?_
    | with_reducible apply State.updRing_keep
    | with_reducible apply State.ringIrq_keep
    | (split <;> try dsimp only)

theorem State.writeEntry_keep {a1 a2} (h : Keep W s0 s) (w_mem : W.mem = true := by first | assumption | rfl) (w_rings : W.rings = true := by first | assumption | rfl) (w_irqs : W.irqs = true := by first | assumption | rfl) (w_badUnits : W.badUnits = true := by first | assumption | rfl) (w_badRecord : W.badRecord = true := by first | assumption | rfl) (w_b_ring : W.b_ring = true := by first | assumption | rfl) (w_b_core : W.b_core = true := by first | assumption | rfl) : Keep W s0 (State.writeEntry s a1 a2).1 := by
  unfold State.writeEntry
  try dsimp only
  repeat' first
    | with_reducible assumption
    | with_reducible refine Keep.ite ?_ ?_
    | with_reducible apply State.updRing_keep
    | with_reducible apply State.setB_keep
    | with_reducible apply State.ddrPut_keep
    | with_reducible apply State.wr_keep
    | with_reducible apply State.signal_keep
    | with_reducible apply State.incWrap_keep
    | ((with_reducible refine Parts.blk_true ?_); first | exact w_b_ring)
    | with_reducible refine Keep.iteFst ?_ ?_
    | (split <;> try dsimp only)

theorem State.produce_keep {a1 a2} (h : Keep W s0 s) (w_mem : W.mem = true := by first | assumption | rfl) (w_rings : W.rings = true := by first | assumption | rfl) (w_irqs : W.irqs = true := by first | assumption | rfl) (w_badUnits : W.badUnits = true := by first | assumption | rfl) (w_badRecord : W.badRecord = true := by first | assumption | rfl) (w_b_ring : W.b_ring = true := by first | assumption | rfl) (w_b_core : W.b_core = true := by first | assumption | rfl) : Keep W s0 (State.produce s a1 a2).1 := by
  unfold State.produce
  try dsimp only
  repeat' first
    | with_reducible assumption
    | with_reducible refine Keep.ite ?_ ?_
    | with_reducible apply State.writeEntry_keep
    | with_reducible refine Keep.iteFst ?_ ?_
    | (split <;> try dsimp only)

theorem State.unreserve_keep {a1} (h : Keep W s0 s) (w_b_ring : W.b_ring = true := by first | assumption | rfl) : Keep W s0 (State.unreserve s a1) := by
  unfold State.unreserve
  try dsimp only
  repeat' first
    | with_reducible assumption
    | with_reducible refine Keep.ite ?_ ?_
    | with_reducible apply State.wr_keep
    | ((with_reducible refine Parts.blk_true ?_); first | exact w_b_ring)

theorem State.pauseRing_keep {a1 a2} (h : Keep W s0 s) (w_b_ring : W.b_ring = true := by first | assumption | rfl) : Keep W s0 (State.pauseRing s a1 a2) := by
  unfold State.pauseRing
  try dsimp only
  repeat' first
    | with_reducible assumption
    | with_reducible refine Keep.ite ?_ ?_
    | with_reducible apply State.wr_keep
    | ((with_reducible refine Parts.blk_true ?_); first | exact w_b_ring)

theorem State.ringCmdDone_keep {a1} (h : Keep W s0 s) (w_rings : W.rings = true := by first | assumption | rfl) (w_b_ring : W.b_ring = true := by first | assumption | rfl) : Keep W s0 (State.ringCmdDone s a1) := by
  unfold State.ringCmdDone
  try dsimp only
  repeat' first
    | with_reducible assumption
    | with_reducible refine Keep.ite ?_ ?_
    | with_reducible apply State.updRing_keep
    | with_reducible apply State.setB_keep
    | with_reducible apply State.wr_keep
    | ((with_reducible refine Parts.blk_true ?_); first | exact w_b_ring)
    | (split <;> try dsimp only)

theorem State.settleRing_keep {a1} (h : Keep W s0 s) (w_rings : W.rings = true := by first | assumption | rfl) (w_b_ring : W.b_ring = true := by first | assumption | rfl) : Keep W s0 (State.settleRing s a1) := by
  unfold State.settleRing
  try dsimp only
  repeat' first
    | with_reducible assumption
    | with_reducible refine Keep.ite ?_ ?_
    | with_reducible apply State.setB_keep
    | with_reducible apply State.pauseRing_keep
    | with_reducible apply State.updRing_keep
    | with_reducible apply State.wr_keep
    | with_reducible apply State.ringCmdDone_keep
    | ((with_reducible refine Parts.blk_true ?_); first | exact w_b_ring)
    | (split <;> try dsimp only)

theorem State.retire_keep {k r} (h : Keep W s0 s) (w_mem : W.mem = true := by first | assumption | rfl) (w_rings : W.rings = true := by first | assumption | rfl) (w_irqs : W.irqs = true := by first | assumption | rfl) (w_badUnits : W.badUnits = true := by first | assumption | rfl) (w_badRecord : W.badRecord = true := by first | assumption | rfl) (w_b_ring : W.b_ring = true := by first | assumption | rfl) (w_b_core : W.b_core = true := by first | assumption | rfl) : Keep W s0 (State.retire k s r) := by
  induction k generalizing s r with
  | zero => exact h
  | succ k ih =>
    unfold State.retire
    try dsimp only
    split
    · exact State.settleRing_keep h
    · have hw : ∀ (u : State) q (c : Bool) e, Keep W s0 u → Keep W s0 (if c then State.writeEntry u q e else (u, false)).1 := fun u q c e hu =>
        Keep.iteFst (State.writeEntry_keep hu) (by exact hu)
      refine Keep.ite (State.settleRing_keep h) (Keep.ite (Keep.ite (Keep.ite ?_ (hw _ _ _ _ h)) ?_) ?_)
      · exact ih (State.wr_keep (State.incWrap_keep (State.updRing_keep (State.unreserve_keep (hw _ _ _ _ h)))))
      · exact ih (State.wr_keep (State.incWrap_keep (State.updRing_keep h)))
      · exact ih (State.wr_keep (State.incWrap_keep (State.updRing_keep (Keep.ite (State.unreserve_keep h) h))))

theorem State.retireAll_keep {a1} (h : Keep W s0 s) (w_mem : W.mem = true := by first | assumption | rfl) (w_rings : W.rings = true := by first | assumption | rfl) (w_irqs : W.irqs = true := by first | assumption | rfl) (w_badUnits : W.badUnits = true := by first | assumption | rfl) (w_badRecord : W.badRecord = true := by first | assumption | rfl) (w_b_ring : W.b_ring = true := by first | assumption | rfl) (w_b_core : W.b_core = true := by first | assumption | rfl) : Keep W s0 (State.retireAll s a1) := by
  unfold State.retireAll
  try dsimp only
  repeat' first
    | with_reducible assumption
    | with_reducible refine Keep.ite ?_ ?_
    | with_reducible apply State.retire_keep

theorem State.updFlight_keep {a1 a2 a3} (h : Keep W s0 s) (w_rings : W.rings = true := by first | assumption | rfl) : Keep W s0 (State.updFlight s a1 a2 a3) := by
  unfold State.updFlight
  try dsimp only
  repeat' first
    | with_reducible assumption
    | with_reducible refine Keep.ite ?_ ?_
    | with_reducible apply State.updRing_keep
    | (split <;> try dsimp only)

theorem State.finishFlight_keep {a1 a2 a3 a4 a5} (h : Keep W s0 s) (w_rings : W.rings = true := by first | assumption | rfl) : Keep W s0 (State.finishFlight s a1 a2 a3 a4 a5) := by
  unfold State.finishFlight
  try dsimp only
  repeat' first
    | with_reducible assumption
    | with_reducible refine Keep.ite ?_ ?_
    | with_reducible apply State.updFlight_keep

theorem State.zeroCounts_keep {a1} (h : Keep W s0 s) (w_b_ring : W.b_ring = true := by first | assumption | rfl) : Keep W s0 (State.zeroCounts s a1) := by
  unfold State.zeroCounts
  try dsimp only
  repeat' first
    | with_reducible assumption
    | with_reducible refine Keep.ite ?_ ?_
    | with_reducible apply State.wr_keep
    | ((with_reducible refine Parts.blk_true ?_); first | exact w_b_ring)

theorem State.dropFlights_keep {a1} (h : Keep W s0 s) (w_rings : W.rings = true := by first | assumption | rfl) (w_links : W.links = true := by first | assumption | rfl) (w_b_ring : W.b_ring = true := by first | assumption | rfl) : Keep W s0 (State.dropFlights s a1) := by
  unfold State.dropFlights
  try dsimp only
  repeat' first
    | with_reducible assumption
    | with_reducible refine Keep.ite ?_ ?_
    | with_reducible apply State.cancelLinks_keep
    | with_reducible apply State.unreserve_keep
    | with_reducible apply State.updRing_keep
    | with_reducible apply State.wr_keep
    | ((with_reducible refine Parts.blk_true ?_); first | exact w_b_ring)
    | (intro _; intros; try dsimp only)
    | (split <;> try dsimp only)
    | with_reducible refine Keep.foldl ?_ ?_

theorem State.zeroRing_keep {a1} (h : Keep W s0 s) (w_mem : W.mem = true := by first | assumption | rfl) (w_rings : W.rings = true := by first | assumption | rfl) (w_badUnits : W.badUnits = true := by first | assumption | rfl) (w_badRecord : W.badRecord = true := by first | assumption | rfl) (w_b_ring : W.b_ring = true := by first | assumption | rfl) : Keep W s0 (State.zeroRing s a1) := by
  unfold State.zeroRing
  try dsimp only
  repeat' first
    | with_reducible assumption
    | with_reducible refine Keep.ite ?_ ?_
    | with_reducible apply State.zeroWhere_keep
    | with_reducible apply State.wr_keep
    | with_reducible apply State.updRing_keep
    | ((with_reducible refine Parts.blk_true ?_); first | exact w_b_ring)
    | with_reducible refine Keep.upd_badUnits_badRecord (h := ?_)

theorem State.disableRing_keep {a1} (h : Keep W s0 s) (w_rings : W.rings = true := by first | assumption | rfl) (w_links : W.links = true := by first | assumption | rfl) (w_b_ring : W.b_ring = true := by first | assumption | rfl) : Keep W s0 (State.disableRing s a1) := by
  unfold State.disableRing
  try dsimp only
  repeat' first
    | with_reducible assumption
    | with_reducible refine Keep.ite ?_ ?_
    | with_reducible apply State.dropFlights_keep
    | with_reducible apply State.wr_keep
    | with_reducible apply State.updRing_keep
    | ((with_reducible refine Parts.blk_true ?_); first | exact w_b_ring)

theorem State.fenceRings_keep {a1} (h : Keep W s0 s) (w_rings : W.rings = true := by first | assumption | rfl) (w_b_ring : W.b_ring = true := by first | assumption | rfl) : Keep W s0 (State.fenceRings s a1) := by
  unfold State.fenceRings
  try dsimp only
  repeat' first
    | with_reducible assumption
    | with_reducible refine Keep.ite ?_ ?_
    | with_reducible apply State.wr_keep
    | with_reducible apply State.updRing_keep
    | ((with_reducible refine Parts.blk_true ?_); first | exact w_b_ring)
    | (intro _; intros; try dsimp only)
    | (split <;> try dsimp only)
    | with_reducible refine Keep.foldl ?_ ?_

theorem State.ingress_keep {a1 a2 a3 a4 a5 a6} (h : Keep W s0 s) (w_mem : W.mem = true := by first | assumption | rfl) (w_rings : W.rings = true := by first | assumption | rfl) (w_irqs : W.irqs = true := by first | assumption | rfl) (w_badUnits : W.badUnits = true := by first | assumption | rfl) (w_badRecord : W.badRecord = true := by first | assumption | rfl) (w_b_ring : W.b_ring = true := by first | assumption | rfl) (w_b_core : W.b_core = true := by first | assumption | rfl) : Keep W s0 (State.ingress s a1 a2 a3 a4 a5 a6) := by
  unfold State.ingress
  try dsimp only
  repeat' first
    | with_reducible assumption
    | with_reducible refine Keep.ite ?_ ?_
    | with_reducible apply State.setB_keep
    | with_reducible apply State.inc_keep
    | with_reducible apply State.writeEntry_keep
    | with_reducible apply State.ddrPut_keep
    | ((with_reducible refine Parts.blk_true ?_); first | exact w_b_ring)
    | (split <;> try dsimp only)

end Sys2Proof.Machine
end

