-- ==== Sys2Proof/Laws/KeepDdr4Ops.lean ====
section
/-! SUPPORT. What the operations of Machine/Ddr4Ops.lean keep: one lemma per operation. -/

namespace Sys2Proof.Machine

-- One proof at a time: the package is compiled as one text under a memory limit.
set_option Elab.async false

set_option linter.all false

variable {W : Parts} {s0 s : State}

theorem State.meetUnit_keep {a1} (h : Keep W s0 s) (w_bbs : W.bbs = true := by first | assumption | rfl) (w_out : W.out = true := by first | assumption | rfl) (w_badRecord : W.badRecord = true := by first | assumption | rfl) (w_po : W.po = true := by first | assumption | rfl) (w_faults : W.faults = true := by first | assumption | rfl) (w_lease : W.lease = true := by first | assumption | rfl) (w_pages : W.pages = true := by first | assumption | rfl) (w_serve : W.serve = true := by first | assumption | rfl) (w_slots : W.slots = true := by first | assumption | rfl) (w_fabric : W.fabric = true := by first | assumption | rfl) (w_stk : W.stk = true := by first | assumption | rfl) (w_links : W.links = true := by first | assumption | rfl) (w_dbg : W.dbg = true := by first | assumption | rfl) (w_opc : W.opc = true := by first | assumption | rfl) (w_b_image : W.b_image = true := by first | assumption | rfl) (w_b_page : W.b_page = true := by first | assumption | rfl) (w_b_ddr4 : W.b_ddr4 = true := by first | assumption | rfl) (w_b_output : W.b_output = true := by first | assumption | rfl) (w_b_fault : W.b_fault = true := by first | assumption | rfl) (w_b_amber : W.b_amber = true := by first | assumption | rfl) (w_b_redundancy : W.b_redundancy = true := by first | assumption | rfl) (w_b_perf : W.b_perf = true := by first | assumption | rfl) : Keep W s0 (State.meetUnit s a1) := by
  unfold State.meetUnit
  try dsimp only
  repeat' first
    | with_reducible assumption
    | with_reducible refine Keep.ite ?_ ?_
    | with_reducible apply State.wr_keep
    | with_reducible apply State.inc_keep
    | with_reducible apply State.setB_keep
    | with_reducible apply State.event_keep
    | ((with_reducible refine Parts.blk_true ?_); first | exact w_b_ddr4)
    | (split <;> try dsimp only)
    | with_reducible refine Keep.upd_badRecord (h := ?_)

theorem State.meetAt_keep {a1} (h : Keep W s0 s) (w_bbs : W.bbs = true := by first | assumption | rfl) (w_out : W.out = true := by first | assumption | rfl) (w_badRecord : W.badRecord = true := by first | assumption | rfl) (w_po : W.po = true := by first | assumption | rfl) (w_faults : W.faults = true := by first | assumption | rfl) (w_lease : W.lease = true := by first | assumption | rfl) (w_pages : W.pages = true := by first | assumption | rfl) (w_serve : W.serve = true := by first | assumption | rfl) (w_slots : W.slots = true := by first | assumption | rfl) (w_fabric : W.fabric = true := by first | assumption | rfl) (w_stk : W.stk = true := by first | assumption | rfl) (w_links : W.links = true := by first | assumption | rfl) (w_dbg : W.dbg = true := by first | assumption | rfl) (w_opc : W.opc = true := by first | assumption | rfl) (w_b_image : W.b_image = true := by first | assumption | rfl) (w_b_page : W.b_page = true := by first | assumption | rfl) (w_b_ddr4 : W.b_ddr4 = true := by first | assumption | rfl) (w_b_output : W.b_output = true := by first | assumption | rfl) (w_b_fault : W.b_fault = true := by first | assumption | rfl) (w_b_amber : W.b_amber = true := by first | assumption | rfl) (w_b_redundancy : W.b_redundancy = true := by first | assumption | rfl) (w_b_perf : W.b_perf = true := by first | assumption | rfl) : Keep W s0 (State.meetAt s a1) := by
  unfold State.meetAt
  try dsimp only
  repeat' first
    | with_reducible assumption
    | with_reducible refine Keep.ite ?_ ?_
    | with_reducible apply State.meetUnit_keep
    | (split <;> try dsimp only)

end Sys2Proof.Machine
end

