-- ==== Sys2Proof/Laws/KeepRings.lean ====
section
/-! SUPPORT. What the operations of Machine/Rings.lean keep: one lemma per operation. -/

namespace Sys2Proof.Machine

-- One proof at a time: the package is compiled as one text under a memory limit.
set_option Elab.async false

set_option linter.all false

variable {W : Parts} {s0 s : State}

theorem State.ringStatus_keep {a1 a2 a3 a4} (h : Keep W s0 s) (w_b_ring : W.b_ring = true := by first | assumption | rfl) : Keep W s0 (State.ringStatus s a1 a2 a3 a4) := by
  unfold State.ringStatus
  try dsimp only
  repeat' first
    | with_reducible assumption
    | with_reducible refine Keep.ite ?_ ?_
    | with_reducible apply State.wr_keep
    | with_reducible apply State.setB_keep
    | ((with_reducible refine Parts.blk_true ?_); first | exact w_b_ring)
    | (split <;> try dsimp only)

theorem State.ringCommand_keep {m n c a f} (h : Keep W s0 s) (hf : ∀ u x, Keep W s0 u → Keep W s0 (f u x)) (w_bbs : W.bbs = true := by first | assumption | rfl) (w_out : W.out = true := by first | assumption | rfl) (w_po : W.po = true := by first | assumption | rfl) (w_faults : W.faults = true := by first | assumption | rfl) (w_lease : W.lease = true := by first | assumption | rfl) (w_pages : W.pages = true := by first | assumption | rfl) (w_serve : W.serve = true := by first | assumption | rfl) (w_slots : W.slots = true := by first | assumption | rfl) (w_fabric : W.fabric = true := by first | assumption | rfl) (w_stk : W.stk = true := by first | assumption | rfl) (w_links : W.links = true := by first | assumption | rfl) (w_dbg : W.dbg = true := by first | assumption | rfl) (w_opc : W.opc = true := by first | assumption | rfl) (w_b_image : W.b_image = true := by first | assumption | rfl) (w_b_page : W.b_page = true := by first | assumption | rfl) (w_b_ring : W.b_ring = true := by first | assumption | rfl) (w_b_output : W.b_output = true := by first | assumption | rfl) (w_b_fault : W.b_fault = true := by first | assumption | rfl) (w_b_amber : W.b_amber = true := by first | assumption | rfl) (w_b_redundancy : W.b_redundancy = true := by first | assumption | rfl) (w_b_perf : W.b_perf = true := by first | assumption | rfl) :
    KeepR W s0 (State.ringCommand s m n c a f) :=
  guardHcs_keep h fun u hu => Keep.ite (State.ringStatus_keep hu) (Keep.ite (State.ringStatus_keep hu)
    (Keep.ite (State.ringStatus_keep hu) (Keep.ite (State.ringStatus_keep hu) (hf u _ hu))))

theorem execCreate_keep {a1 a2} (h : Keep W s0 s) (w_bbs : W.bbs = true := by first | assumption | rfl) (w_out : W.out = true := by first | assumption | rfl) (w_rings : W.rings = true := by first | assumption | rfl) (w_po : W.po = true := by first | assumption | rfl) (w_faults : W.faults = true := by first | assumption | rfl) (w_lease : W.lease = true := by first | assumption | rfl) (w_pages : W.pages = true := by first | assumption | rfl) (w_serve : W.serve = true := by first | assumption | rfl) (w_slots : W.slots = true := by first | assumption | rfl) (w_fabric : W.fabric = true := by first | assumption | rfl) (w_stk : W.stk = true := by first | assumption | rfl) (w_links : W.links = true := by first | assumption | rfl) (w_dbg : W.dbg = true := by first | assumption | rfl) (w_opc : W.opc = true := by first | assumption | rfl) (w_b_image : W.b_image = true := by first | assumption | rfl) (w_b_page : W.b_page = true := by first | assumption | rfl) (w_b_ring : W.b_ring = true := by first | assumption | rfl) (w_b_output : W.b_output = true := by first | assumption | rfl) (w_b_fault : W.b_fault = true := by first | assumption | rfl) (w_b_amber : W.b_amber = true := by first | assumption | rfl) (w_b_redundancy : W.b_redundancy = true := by first | assumption | rfl) (w_b_perf : W.b_perf = true := by first | assumption | rfl) : KeepR W s0 (execCreate a1 a2 s) := by
  unfold execCreate
  try dsimp only
  repeat' first
    | with_reducible assumption
    | with_reducible refine Keep.ite ?_ ?_
    | with_reducible refine KeepR.ite ?_ ?_
    | with_reducible refine KeepR.next ?_
    | with_reducible apply State.ringCommand_keep
    | with_reducible apply State.ringStatus_keep
    | with_reducible apply State.setB_keep
    | with_reducible apply State.setRing_keep
    | ((with_reducible refine Parts.blk_true ?_); first | exact w_b_ring)
    | (intro _; intros; try dsimp only)
    | (split <;> try dsimp only)

theorem execCreateDone_keep {a1} (h : Keep W s0 s) (w_mem : W.mem = true := by first | assumption | rfl) (w_rings : W.rings = true := by first | assumption | rfl) (w_badUnits : W.badUnits = true := by first | assumption | rfl) (w_badRecord : W.badRecord = true := by first | assumption | rfl) (w_b_ring : W.b_ring = true := by first | assumption | rfl) : KeepR W s0 (execCreateDone a1 s) := by
  unfold execCreateDone
  try dsimp only
  repeat' first
    | with_reducible assumption
    | with_reducible refine Keep.ite ?_ ?_
    | with_reducible refine KeepR.ite ?_ ?_
    | with_reducible refine KeepR.next ?_
    | with_reducible apply State.zeroCounts_keep
    | with_reducible apply State.zeroRing_keep
    | with_reducible apply State.wr_keep
    | with_reducible apply State.updRing_keep
    | with_reducible apply State.setB_keep
    | ((with_reducible refine Parts.blk_true ?_); first | exact w_b_ring)
    | (split <;> try dsimp only)

theorem execDestroy_keep {a1 a2} (h : Keep W s0 s) (w_bbs : W.bbs = true := by first | assumption | rfl) (w_out : W.out = true := by first | assumption | rfl) (w_rings : W.rings = true := by first | assumption | rfl) (w_po : W.po = true := by first | assumption | rfl) (w_faults : W.faults = true := by first | assumption | rfl) (w_lease : W.lease = true := by first | assumption | rfl) (w_pages : W.pages = true := by first | assumption | rfl) (w_serve : W.serve = true := by first | assumption | rfl) (w_slots : W.slots = true := by first | assumption | rfl) (w_fabric : W.fabric = true := by first | assumption | rfl) (w_stk : W.stk = true := by first | assumption | rfl) (w_links : W.links = true := by first | assumption | rfl) (w_dbg : W.dbg = true := by first | assumption | rfl) (w_opc : W.opc = true := by first | assumption | rfl) (w_b_image : W.b_image = true := by first | assumption | rfl) (w_b_page : W.b_page = true := by first | assumption | rfl) (w_b_ring : W.b_ring = true := by first | assumption | rfl) (w_b_output : W.b_output = true := by first | assumption | rfl) (w_b_fault : W.b_fault = true := by first | assumption | rfl) (w_b_amber : W.b_amber = true := by first | assumption | rfl) (w_b_redundancy : W.b_redundancy = true := by first | assumption | rfl) (w_b_perf : W.b_perf = true := by first | assumption | rfl) : KeepR W s0 (execDestroy a1 a2 s) := by
  unfold execDestroy
  try dsimp only
  repeat' first
    | with_reducible assumption
    | with_reducible refine Keep.ite ?_ ?_
    | with_reducible refine KeepR.ite ?_ ?_
    | with_reducible refine KeepR.next ?_
    | with_reducible apply State.ringCommand_keep
    | with_reducible apply State.ringStatus_keep
    | with_reducible apply State.disableRing_keep
    | (intro _; intros; try dsimp only)

theorem State.ringPending_keep {a1 a2 a3} (h : Keep W s0 s) (w_rings : W.rings = true := by first | assumption | rfl) (w_b_ring : W.b_ring = true := by first | assumption | rfl) : Keep W s0 (State.ringPending s a1 a2 a3) := by
  unfold State.ringPending
  try dsimp only
  repeat' first
    | with_reducible assumption
    | with_reducible refine Keep.ite ?_ ?_
    | with_reducible apply State.updRing_keep
    | with_reducible apply State.ringStatus_keep

theorem execRingPause_keep {a1 a2} (h : Keep W s0 s) (w_bbs : W.bbs = true := by first | assumption | rfl) (w_out : W.out = true := by first | assumption | rfl) (w_rings : W.rings = true := by first | assumption | rfl) (w_po : W.po = true := by first | assumption | rfl) (w_faults : W.faults = true := by first | assumption | rfl) (w_lease : W.lease = true := by first | assumption | rfl) (w_pages : W.pages = true := by first | assumption | rfl) (w_serve : W.serve = true := by first | assumption | rfl) (w_slots : W.slots = true := by first | assumption | rfl) (w_fabric : W.fabric = true := by first | assumption | rfl) (w_stk : W.stk = true := by first | assumption | rfl) (w_links : W.links = true := by first | assumption | rfl) (w_dbg : W.dbg = true := by first | assumption | rfl) (w_opc : W.opc = true := by first | assumption | rfl) (w_b_image : W.b_image = true := by first | assumption | rfl) (w_b_page : W.b_page = true := by first | assumption | rfl) (w_b_ring : W.b_ring = true := by first | assumption | rfl) (w_b_output : W.b_output = true := by first | assumption | rfl) (w_b_fault : W.b_fault = true := by first | assumption | rfl) (w_b_amber : W.b_amber = true := by first | assumption | rfl) (w_b_redundancy : W.b_redundancy = true := by first | assumption | rfl) (w_b_perf : W.b_perf = true := by first | assumption | rfl) : KeepR W s0 (execRingPause a1 a2 s) := by
  unfold execRingPause
  try dsimp only
  repeat' first
    | with_reducible assumption
    | with_reducible refine Keep.ite ?_ ?_
    | with_reducible refine KeepR.ite ?_ ?_
    | with_reducible refine KeepR.next ?_
    | with_reducible apply State.ringCommand_keep
    | with_reducible apply State.settleRing_keep
    | with_reducible apply State.updRing_keep
    | with_reducible apply State.ringPending_keep
    | (intro _; intros; try dsimp only)

theorem execRingResume_keep {a1 a2} (h : Keep W s0 s) (w_bbs : W.bbs = true := by first | assumption | rfl) (w_out : W.out = true := by first | assumption | rfl) (w_po : W.po = true := by first | assumption | rfl) (w_faults : W.faults = true := by first | assumption | rfl) (w_lease : W.lease = true := by first | assumption | rfl) (w_pages : W.pages = true := by first | assumption | rfl) (w_serve : W.serve = true := by first | assumption | rfl) (w_slots : W.slots = true := by first | assumption | rfl) (w_fabric : W.fabric = true := by first | assumption | rfl) (w_stk : W.stk = true := by first | assumption | rfl) (w_links : W.links = true := by first | assumption | rfl) (w_dbg : W.dbg = true := by first | assumption | rfl) (w_opc : W.opc = true := by first | assumption | rfl) (w_b_image : W.b_image = true := by first | assumption | rfl) (w_b_page : W.b_page = true := by first | assumption | rfl) (w_b_ring : W.b_ring = true := by first | assumption | rfl) (w_b_output : W.b_output = true := by first | assumption | rfl) (w_b_fault : W.b_fault = true := by first | assumption | rfl) (w_b_amber : W.b_amber = true := by first | assumption | rfl) (w_b_redundancy : W.b_redundancy = true := by first | assumption | rfl) (w_b_perf : W.b_perf = true := by first | assumption | rfl) : KeepR W s0 (execRingResume a1 a2 s) := by
  unfold execRingResume
  try dsimp only
  repeat' first
    | with_reducible assumption
    | with_reducible refine Keep.ite ?_ ?_
    | with_reducible refine KeepR.ite ?_ ?_
    | with_reducible refine KeepR.next ?_
    | with_reducible apply State.ringCommand_keep
    | with_reducible apply State.ringStatus_keep
    | with_reducible apply State.wr_keep
    | ((with_reducible refine Parts.blk_true ?_); first | exact w_b_ring)
    | (intro _; intros; try dsimp only)

theorem execDrain_keep {a1 a2} (h : Keep W s0 s) (w_bbs : W.bbs = true := by first | assumption | rfl) (w_out : W.out = true := by first | assumption | rfl) (w_rings : W.rings = true := by first | assumption | rfl) (w_po : W.po = true := by first | assumption | rfl) (w_faults : W.faults = true := by first | assumption | rfl) (w_lease : W.lease = true := by first | assumption | rfl) (w_pages : W.pages = true := by first | assumption | rfl) (w_serve : W.serve = true := by first | assumption | rfl) (w_slots : W.slots = true := by first | assumption | rfl) (w_fabric : W.fabric = true := by first | assumption | rfl) (w_stk : W.stk = true := by first | assumption | rfl) (w_links : W.links = true := by first | assumption | rfl) (w_dbg : W.dbg = true := by first | assumption | rfl) (w_opc : W.opc = true := by first | assumption | rfl) (w_b_image : W.b_image = true := by first | assumption | rfl) (w_b_page : W.b_page = true := by first | assumption | rfl) (w_b_ring : W.b_ring = true := by first | assumption | rfl) (w_b_output : W.b_output = true := by first | assumption | rfl) (w_b_fault : W.b_fault = true := by first | assumption | rfl) (w_b_amber : W.b_amber = true := by first | assumption | rfl) (w_b_redundancy : W.b_redundancy = true := by first | assumption | rfl) (w_b_perf : W.b_perf = true := by first | assumption | rfl) : KeepR W s0 (execDrain a1 a2 s) := by
  unfold execDrain
  try dsimp only
  repeat' first
    | with_reducible assumption
    | with_reducible refine Keep.ite ?_ ?_
    | with_reducible refine KeepR.ite ?_ ?_
    | with_reducible refine KeepR.next ?_
    | with_reducible apply State.ringCommand_keep
    | with_reducible apply State.ringPending_keep
    | with_reducible apply State.wr_keep
    | with_reducible apply State.settleRing_keep
    | with_reducible apply State.updRing_keep
    | with_reducible apply State.ringCmdDone_keep
    | with_reducible apply State.setB_keep
    | with_reducible apply State.pauseRing_keep
    | ((with_reducible refine Parts.blk_true ?_); first | exact w_b_ring)
    | (intro _; intros; try dsimp only)
    | (split <;> try dsimp only)

theorem execRingReset_keep {a1 a2} (h : Keep W s0 s) (w_bbs : W.bbs = true := by first | assumption | rfl) (w_out : W.out = true := by first | assumption | rfl) (w_rings : W.rings = true := by first | assumption | rfl) (w_po : W.po = true := by first | assumption | rfl) (w_faults : W.faults = true := by first | assumption | rfl) (w_lease : W.lease = true := by first | assumption | rfl) (w_pages : W.pages = true := by first | assumption | rfl) (w_serve : W.serve = true := by first | assumption | rfl) (w_slots : W.slots = true := by first | assumption | rfl) (w_fabric : W.fabric = true := by first | assumption | rfl) (w_stk : W.stk = true := by first | assumption | rfl) (w_links : W.links = true := by first | assumption | rfl) (w_dbg : W.dbg = true := by first | assumption | rfl) (w_opc : W.opc = true := by first | assumption | rfl) (w_b_image : W.b_image = true := by first | assumption | rfl) (w_b_page : W.b_page = true := by first | assumption | rfl) (w_b_ring : W.b_ring = true := by first | assumption | rfl) (w_b_output : W.b_output = true := by first | assumption | rfl) (w_b_fault : W.b_fault = true := by first | assumption | rfl) (w_b_amber : W.b_amber = true := by first | assumption | rfl) (w_b_redundancy : W.b_redundancy = true := by first | assumption | rfl) (w_b_perf : W.b_perf = true := by first | assumption | rfl) : KeepR W s0 (execRingReset a1 a2 s) := by
  unfold execRingReset
  try dsimp only
  repeat' first
    | with_reducible assumption
    | with_reducible refine Keep.ite ?_ ?_
    | with_reducible refine KeepR.ite ?_ ?_
    | with_reducible refine KeepR.next ?_
    | with_reducible apply State.ringCommand_keep
    | with_reducible apply State.wr_keep
    | with_reducible apply State.ringPending_keep
    | with_reducible apply State.dropFlights_keep
    | ((with_reducible refine Parts.blk_true ?_); first | exact w_b_ring)
    | (intro _; intros; try dsimp only)

theorem execRingResetDone_keep {a1} (h : Keep W s0 s) (w_mem : W.mem = true := by first | assumption | rfl) (w_rings : W.rings = true := by first | assumption | rfl) (w_badUnits : W.badUnits = true := by first | assumption | rfl) (w_badRecord : W.badRecord = true := by first | assumption | rfl) (w_b_ring : W.b_ring = true := by first | assumption | rfl) : KeepR W s0 (execRingResetDone a1 s) := by
  unfold execRingResetDone
  try dsimp only
  repeat' first
    | with_reducible assumption
    | with_reducible refine Keep.ite ?_ ?_
    | with_reducible refine KeepR.ite ?_ ?_
    | with_reducible refine KeepR.next ?_
    | with_reducible apply State.pauseRing_keep
    | with_reducible apply State.zeroCounts_keep
    | with_reducible apply State.zeroRing_keep
    | with_reducible apply State.ringCmdDone_keep
    | with_reducible apply State.wr_keep
    | ((with_reducible refine Parts.blk_true ?_); first | exact w_b_ring)
    | (split <;> try dsimp only)

theorem execRingRead_keep {a1 a2} (h : Keep W s0 s) (w_bbs : W.bbs = true := by first | assumption | rfl) (w_out : W.out = true := by first | assumption | rfl) (w_po : W.po = true := by first | assumption | rfl) (w_faults : W.faults = true := by first | assumption | rfl) (w_lease : W.lease = true := by first | assumption | rfl) (w_pages : W.pages = true := by first | assumption | rfl) (w_serve : W.serve = true := by first | assumption | rfl) (w_slots : W.slots = true := by first | assumption | rfl) (w_fabric : W.fabric = true := by first | assumption | rfl) (w_stk : W.stk = true := by first | assumption | rfl) (w_links : W.links = true := by first | assumption | rfl) (w_dbg : W.dbg = true := by first | assumption | rfl) (w_opc : W.opc = true := by first | assumption | rfl) (w_b_image : W.b_image = true := by first | assumption | rfl) (w_b_page : W.b_page = true := by first | assumption | rfl) (w_b_ring : W.b_ring = true := by first | assumption | rfl) (w_b_output : W.b_output = true := by first | assumption | rfl) (w_b_fault : W.b_fault = true := by first | assumption | rfl) (w_b_amber : W.b_amber = true := by first | assumption | rfl) (w_b_redundancy : W.b_redundancy = true := by first | assumption | rfl) (w_b_perf : W.b_perf = true := by first | assumption | rfl) : KeepR W s0 (execRingRead a1 a2 s) := by
  unfold execRingRead
  try dsimp only
  repeat' first
    | with_reducible assumption
    | with_reducible refine Keep.ite ?_ ?_
    | with_reducible refine KeepR.ite ?_ ?_
    | with_reducible refine KeepR.next ?_
    | with_reducible apply State.ringCommand_keep
    | with_reducible apply State.wr_keep
    | with_reducible apply State.ringStatus_keep
    | ((with_reducible refine Parts.blk_true ?_); first | exact w_b_ring)
    | (intro _; intros; try dsimp only)
    | with_reducible refine Keep.foldl ?_ ?_

theorem State.badDoorbell_keep {a1} (h : Keep W s0 s) (w_bbs : W.bbs = true := by first | assumption | rfl) (w_out : W.out = true := by first | assumption | rfl) (w_po : W.po = true := by first | assumption | rfl) (w_faults : W.faults = true := by first | assumption | rfl) (w_lease : W.lease = true := by first | assumption | rfl) (w_pages : W.pages = true := by first | assumption | rfl) (w_serve : W.serve = true := by first | assumption | rfl) (w_slots : W.slots = true := by first | assumption | rfl) (w_fabric : W.fabric = true := by first | assumption | rfl) (w_stk : W.stk = true := by first | assumption | rfl) (w_links : W.links = true := by first | assumption | rfl) (w_dbg : W.dbg = true := by first | assumption | rfl) (w_opc : W.opc = true := by first | assumption | rfl) (w_b_image : W.b_image = true := by first | assumption | rfl) (w_b_page : W.b_page = true := by first | assumption | rfl) (w_b_ring : W.b_ring = true := by first | assumption | rfl) (w_b_output : W.b_output = true := by first | assumption | rfl) (w_b_fault : W.b_fault = true := by first | assumption | rfl) (w_b_amber : W.b_amber = true := by first | assumption | rfl) (w_b_redundancy : W.b_redundancy = true := by first | assumption | rfl) (w_b_perf : W.b_perf = true := by first | assumption | rfl) : Keep W s0 (State.badDoorbell s a1) := by
  unfold State.badDoorbell
  try dsimp only
  repeat' first
    | with_reducible assumption
    | with_reducible refine Keep.ite ?_ ?_
    | with_reducible apply State.event_keep
    | with_reducible apply State.setB_keep
    | with_reducible apply State.inc_keep
    | ((with_reducible refine Parts.blk_true ?_); first | exact w_b_ring)
    | (split <;> try dsimp only)

theorem execProducerDoorbell_keep {a1 a2 a3} (h : Keep W s0 s) (w_bbs : W.bbs = true := by first | assumption | rfl) (w_out : W.out = true := by first | assumption | rfl) (w_po : W.po = true := by first | assumption | rfl) (w_faults : W.faults = true := by first | assumption | rfl) (w_lease : W.lease = true := by first | assumption | rfl) (w_pages : W.pages = true := by first | assumption | rfl) (w_serve : W.serve = true := by first | assumption | rfl) (w_slots : W.slots = true := by first | assumption | rfl) (w_fabric : W.fabric = true := by first | assumption | rfl) (w_stk : W.stk = true := by first | assumption | rfl) (w_links : W.links = true := by first | assumption | rfl) (w_dbg : W.dbg = true := by first | assumption | rfl) (w_opc : W.opc = true := by first | assumption | rfl) (w_b_image : W.b_image = true := by first | assumption | rfl) (w_b_page : W.b_page = true := by first | assumption | rfl) (w_b_ring : W.b_ring = true := by first | assumption | rfl) (w_b_output : W.b_output = true := by first | assumption | rfl) (w_b_fault : W.b_fault = true := by first | assumption | rfl) (w_b_amber : W.b_amber = true := by first | assumption | rfl) (w_b_redundancy : W.b_redundancy = true := by first | assumption | rfl) (w_b_perf : W.b_perf = true := by first | assumption | rfl) : KeepR W s0 (execProducerDoorbell a1 a2 a3 s) := by
  unfold execProducerDoorbell
  try dsimp only
  repeat' first
    | with_reducible assumption
    | with_reducible refine Keep.ite ?_ ?_
    | with_reducible refine KeepR.ite ?_ ?_
    | with_reducible refine KeepR.next ?_
    | with_reducible apply guardHcs_keep
    | with_reducible apply State.wr_keep
    | with_reducible apply State.badDoorbell_keep
    | ((with_reducible refine Parts.blk_true ?_); first | exact w_b_ring)
    | (intro _; intros; try dsimp only)
    | (split <;> try dsimp only)

theorem execConsumerDoorbell_keep {a1 a2 a3} (h : Keep W s0 s) (w_bbs : W.bbs = true := by first | assumption | rfl) (w_out : W.out = true := by first | assumption | rfl) (w_rings : W.rings = true := by first | assumption | rfl) (w_po : W.po = true := by first | assumption | rfl) (w_faults : W.faults = true := by first | assumption | rfl) (w_lease : W.lease = true := by first | assumption | rfl) (w_pages : W.pages = true := by first | assumption | rfl) (w_serve : W.serve = true := by first | assumption | rfl) (w_slots : W.slots = true := by first | assumption | rfl) (w_fabric : W.fabric = true := by first | assumption | rfl) (w_stk : W.stk = true := by first | assumption | rfl) (w_links : W.links = true := by first | assumption | rfl) (w_dbg : W.dbg = true := by first | assumption | rfl) (w_opc : W.opc = true := by first | assumption | rfl) (w_b_image : W.b_image = true := by first | assumption | rfl) (w_b_page : W.b_page = true := by first | assumption | rfl) (w_b_ring : W.b_ring = true := by first | assumption | rfl) (w_b_output : W.b_output = true := by first | assumption | rfl) (w_b_fault : W.b_fault = true := by first | assumption | rfl) (w_b_amber : W.b_amber = true := by first | assumption | rfl) (w_b_redundancy : W.b_redundancy = true := by first | assumption | rfl) (w_b_perf : W.b_perf = true := by first | assumption | rfl) : KeepR W s0 (execConsumerDoorbell a1 a2 a3 s) := by
  unfold execConsumerDoorbell
  try dsimp only
  repeat' first
    | with_reducible assumption
    | with_reducible refine Keep.ite ?_ ?_
    | with_reducible refine KeepR.ite ?_ ?_
    | with_reducible refine KeepR.next ?_
    | with_reducible apply guardHcs_keep
    | with_reducible apply State.updRing_keep
    | with_reducible apply State.wr_keep
    | with_reducible apply State.badDoorbell_keep
    | ((with_reducible refine Parts.blk_true ?_); first | exact w_b_ring)
    | (intro _; intros; try dsimp only)
    | (split <;> try dsimp only)

theorem execCompletionReservation_keep {a1} (h : Keep W s0 s) (w_mem : W.mem = true := by first | assumption | rfl) (w_bbs : W.bbs = true := by first | assumption | rfl) (w_out : W.out = true := by first | assumption | rfl) (w_rings : W.rings = true := by first | assumption | rfl) (w_irqs : W.irqs = true := by first | assumption | rfl) (w_badUnits : W.badUnits = true := by first | assumption | rfl) (w_badRecord : W.badRecord = true := by first | assumption | rfl) (w_po : W.po = true := by first | assumption | rfl) (w_faults : W.faults = true := by first | assumption | rfl) (w_lease : W.lease = true := by first | assumption | rfl) (w_pages : W.pages = true := by first | assumption | rfl) (w_serve : W.serve = true := by first | assumption | rfl) (w_slots : W.slots = true := by first | assumption | rfl) (w_fabric : W.fabric = true := by first | assumption | rfl) (w_stk : W.stk = true := by first | assumption | rfl) (w_links : W.links = true := by first | assumption | rfl) (w_dbg : W.dbg = true := by first | assumption | rfl) (w_opc : W.opc = true := by first | assumption | rfl) (w_b_image : W.b_image = true := by first | assumption | rfl) (w_b_page : W.b_page = true := by first | assumption | rfl) (w_b_ring : W.b_ring = true := by first | assumption | rfl) (w_b_ddr4 : W.b_ddr4 = true := by first | assumption | rfl) (w_b_output : W.b_output = true := by first | assumption | rfl) (w_b_fault : W.b_fault = true := by first | assumption | rfl) (w_b_amber : W.b_amber = true := by first | assumption | rfl) (w_b_redundancy : W.b_redundancy = true := by first | assumption | rfl) (w_b_core : W.b_core = true := by first | assumption | rfl) (w_b_perf : W.b_perf = true := by first | assumption | rfl) : KeepR W s0 (execCompletionReservation a1 s) := by
  unfold execCompletionReservation
  try dsimp only
  repeat' first
    | with_reducible assumption
    | with_reducible refine Keep.ite ?_ ?_
    | with_reducible refine KeepR.ite ?_ ?_
    | with_reducible refine KeepR.next ?_
    | with_reducible apply State.incWrap_keep
    | with_reducible apply State.wr_keep
    | with_reducible apply State.updRing_keep
    | with_reducible apply State.retireAll_keep
    | with_reducible apply State.event_keep
    | with_reducible apply State.finishFlight_keep
    | with_reducible apply State.meetUnit_keep
    | with_reducible apply State.unreserve_keep
    | ((with_reducible refine Parts.blk_true ?_); first | exact w_b_ring)
    | (split <;> try dsimp only)

theorem State.startFlight_keep {a1 a2 a3 a4 a5} (h : Keep W s0 s) (w_rings : W.rings = true := by first | assumption | rfl) : Keep W s0 (State.startFlight s a1 a2 a3 a4 a5) := by
  unfold State.startFlight
  try dsimp only
  repeat' first
    | with_reducible assumption
    | with_reducible refine Keep.ite ?_ ?_
    | with_reducible apply State.updFlight_keep

theorem State.dmaBytes_keep {a1 a2 a3} (h : Keep W s0 s) (w_opc : W.opc = true := by first | assumption | rfl) (w_b_perf : W.b_perf = true := by first | assumption | rfl) : Keep W s0 (State.dmaBytes s a1 a2 a3) := by
  unfold State.dmaBytes
  try dsimp only
  repeat' first
    | with_reducible assumption
    | with_reducible refine Keep.ite ?_ ?_
    | with_reducible apply State.draw_keep
    | with_reducible apply State.tally_keep
    | with_reducible apply State.count_keep

theorem State.failFlight_keep {a1 a2 a3 a4} (h : Keep W s0 s) (w_mem : W.mem = true := by first | assumption | rfl) (w_bbs : W.bbs = true := by first | assumption | rfl) (w_out : W.out = true := by first | assumption | rfl) (w_rings : W.rings = true := by first | assumption | rfl) (w_irqs : W.irqs = true := by first | assumption | rfl) (w_badUnits : W.badUnits = true := by first | assumption | rfl) (w_badRecord : W.badRecord = true := by first | assumption | rfl) (w_po : W.po = true := by first | assumption | rfl) (w_faults : W.faults = true := by first | assumption | rfl) (w_lease : W.lease = true := by first | assumption | rfl) (w_pages : W.pages = true := by first | assumption | rfl) (w_serve : W.serve = true := by first | assumption | rfl) (w_slots : W.slots = true := by first | assumption | rfl) (w_fabric : W.fabric = true := by first | assumption | rfl) (w_stk : W.stk = true := by first | assumption | rfl) (w_links : W.links = true := by first | assumption | rfl) (w_dbg : W.dbg = true := by first | assumption | rfl) (w_opc : W.opc = true := by first | assumption | rfl) (w_b_image : W.b_image = true := by first | assumption | rfl) (w_b_page : W.b_page = true := by first | assumption | rfl) (w_b_ring : W.b_ring = true := by first | assumption | rfl) (w_b_output : W.b_output = true := by first | assumption | rfl) (w_b_fault : W.b_fault = true := by first | assumption | rfl) (w_b_amber : W.b_amber = true := by first | assumption | rfl) (w_b_redundancy : W.b_redundancy = true := by first | assumption | rfl) (w_b_core : W.b_core = true := by first | assumption | rfl) (w_b_perf : W.b_perf = true := by first | assumption | rfl) : Keep W s0 (State.failFlight s a1 a2 a3 a4) := by
  unfold State.failFlight
  try dsimp only
  repeat' first
    | with_reducible assumption
    | with_reducible refine Keep.ite ?_ ?_
    | with_reducible apply State.finishFlight_keep
    | with_reducible apply State.event_keep
    | with_reducible apply State.retireAll_keep
    | (split <;> try dsimp only)

theorem execDmaNop_keep {a1} (h : Keep W s0 s) (w_mem : W.mem = true := by first | assumption | rfl) (w_bbs : W.bbs = true := by first | assumption | rfl) (w_out : W.out = true := by first | assumption | rfl) (w_rings : W.rings = true := by first | assumption | rfl) (w_irqs : W.irqs = true := by first | assumption | rfl) (w_badUnits : W.badUnits = true := by first | assumption | rfl) (w_badRecord : W.badRecord = true := by first | assumption | rfl) (w_po : W.po = true := by first | assumption | rfl) (w_faults : W.faults = true := by first | assumption | rfl) (w_lease : W.lease = true := by first | assumption | rfl) (w_pages : W.pages = true := by first | assumption | rfl) (w_serve : W.serve = true := by first | assumption | rfl) (w_slots : W.slots = true := by first | assumption | rfl) (w_fabric : W.fabric = true := by first | assumption | rfl) (w_stk : W.stk = true := by first | assumption | rfl) (w_links : W.links = true := by first | assumption | rfl) (w_dbg : W.dbg = true := by first | assumption | rfl) (w_opc : W.opc = true := by first | assumption | rfl) (w_b_image : W.b_image = true := by first | assumption | rfl) (w_b_page : W.b_page = true := by first | assumption | rfl) (w_b_ring : W.b_ring = true := by first | assumption | rfl) (w_b_output : W.b_output = true := by first | assumption | rfl) (w_b_fault : W.b_fault = true := by first | assumption | rfl) (w_b_amber : W.b_amber = true := by first | assumption | rfl) (w_b_redundancy : W.b_redundancy = true := by first | assumption | rfl) (w_b_core : W.b_core = true := by first | assumption | rfl) (w_b_perf : W.b_perf = true := by first | assumption | rfl) : KeepR W s0 (execDmaNop a1 s) := by
  unfold execDmaNop
  try dsimp only
  repeat' first
    | with_reducible assumption
    | with_reducible refine Keep.ite ?_ ?_
    | with_reducible refine KeepR.ite ?_ ?_
    | with_reducible refine KeepR.next ?_
    | with_reducible apply State.retireAll_keep
    | with_reducible apply State.finishFlight_keep
    | with_reducible apply State.failFlight_keep
    | (split <;> try dsimp only)

theorem execCopy_keep {a1} (h : Keep W s0 s) (w_mem : W.mem = true := by first | assumption | rfl) (w_bbs : W.bbs = true := by first | assumption | rfl) (w_out : W.out = true := by first | assumption | rfl) (w_rings : W.rings = true := by first | assumption | rfl) (w_irqs : W.irqs = true := by first | assumption | rfl) (w_badUnits : W.badUnits = true := by first | assumption | rfl) (w_badRecord : W.badRecord = true := by first | assumption | rfl) (w_po : W.po = true := by first | assumption | rfl) (w_faults : W.faults = true := by first | assumption | rfl) (w_lease : W.lease = true := by first | assumption | rfl) (w_pages : W.pages = true := by first | assumption | rfl) (w_serve : W.serve = true := by first | assumption | rfl) (w_slots : W.slots = true := by first | assumption | rfl) (w_fabric : W.fabric = true := by first | assumption | rfl) (w_stk : W.stk = true := by first | assumption | rfl) (w_links : W.links = true := by first | assumption | rfl) (w_dbg : W.dbg = true := by first | assumption | rfl) (w_opc : W.opc = true := by first | assumption | rfl) (w_b_image : W.b_image = true := by first | assumption | rfl) (w_b_page : W.b_page = true := by first | assumption | rfl) (w_b_ring : W.b_ring = true := by first | assumption | rfl) (w_b_ddr4 : W.b_ddr4 = true := by first | assumption | rfl) (w_b_output : W.b_output = true := by first | assumption | rfl) (w_b_fault : W.b_fault = true := by first | assumption | rfl) (w_b_amber : W.b_amber = true := by first | assumption | rfl) (w_b_redundancy : W.b_redundancy = true := by first | assumption | rfl) (w_b_core : W.b_core = true := by first | assumption | rfl) (w_b_perf : W.b_perf = true := by first | assumption | rfl) : KeepR W s0 (execCopy a1 s) := by
  unfold execCopy
  try dsimp only
  repeat' first
    | with_reducible assumption
    | with_reducible refine Keep.ite ?_ ?_
    | with_reducible refine KeepR.ite ?_ ?_
    | with_reducible refine KeepR.next ?_
    | with_reducible apply State.failFlight_keep
    | with_reducible apply State.retireAll_keep
    | with_reducible apply State.finishFlight_keep
    | with_reducible apply State.dmaBytes_keep
    | with_reducible apply State.store_keep
    | with_reducible apply State.startFlight_keep
    | with_reducible apply State.meetAt_keep
    | (split <;> try dsimp only)

theorem execFill_keep {a1} (h : Keep W s0 s) (w_mem : W.mem = true := by first | assumption | rfl) (w_bbs : W.bbs = true := by first | assumption | rfl) (w_out : W.out = true := by first | assumption | rfl) (w_rings : W.rings = true := by first | assumption | rfl) (w_irqs : W.irqs = true := by first | assumption | rfl) (w_badUnits : W.badUnits = true := by first | assumption | rfl) (w_badRecord : W.badRecord = true := by first | assumption | rfl) (w_po : W.po = true := by first | assumption | rfl) (w_faults : W.faults = true := by first | assumption | rfl) (w_lease : W.lease = true := by first | assumption | rfl) (w_pages : W.pages = true := by first | assumption | rfl) (w_serve : W.serve = true := by first | assumption | rfl) (w_slots : W.slots = true := by first | assumption | rfl) (w_fabric : W.fabric = true := by first | assumption | rfl) (w_stk : W.stk = true := by first | assumption | rfl) (w_links : W.links = true := by first | assumption | rfl) (w_dbg : W.dbg = true := by first | assumption | rfl) (w_opc : W.opc = true := by first | assumption | rfl) (w_b_image : W.b_image = true := by first | assumption | rfl) (w_b_page : W.b_page = true := by first | assumption | rfl) (w_b_ring : W.b_ring = true := by first | assumption | rfl) (w_b_ddr4 : W.b_ddr4 = true := by first | assumption | rfl) (w_b_output : W.b_output = true := by first | assumption | rfl) (w_b_fault : W.b_fault = true := by first | assumption | rfl) (w_b_amber : W.b_amber = true := by first | assumption | rfl) (w_b_redundancy : W.b_redundancy = true := by first | assumption | rfl) (w_b_core : W.b_core = true := by first | assumption | rfl) (w_b_perf : W.b_perf = true := by first | assumption | rfl) : KeepR W s0 (execFill a1 s) := by
  unfold execFill
  try dsimp only
  repeat' first
    | with_reducible assumption
    | with_reducible refine Keep.ite ?_ ?_
    | with_reducible refine KeepR.ite ?_ ?_
    | with_reducible refine KeepR.next ?_
    | with_reducible apply State.failFlight_keep
    | with_reducible apply State.retireAll_keep
    | with_reducible apply State.finishFlight_keep
    | with_reducible apply State.dmaBytes_keep
    | with_reducible apply State.store_keep
    | with_reducible apply State.startFlight_keep
    | with_reducible apply State.meetAt_keep
    | (split <;> try dsimp only)

theorem State.moveRows_keep {n len sst dst_ k a d acc} (h : Keep W s0 s) (w_mem : W.mem = true := by first | assumption | rfl) (w_badUnits : W.badUnits = true := by first | assumption | rfl) (w_badRecord : W.badRecord = true := by first | assumption | rfl) (w_opc : W.opc = true := by first | assumption | rfl) (w_b_perf : W.b_perf = true := by first | assumption | rfl) : Keep W s0 (State.moveRows n len sst dst_ k s a d acc).1 := by
  induction k generalizing s a d acc with
  | zero => exact h
  | succ k ih =>
    unfold State.moveRows
    try dsimp only
    split
    · exact ih (State.dmaBytes_keep (State.store_keep h))
    · exact State.dmaBytes_keep (State.store_keep h)

theorem execStrided_keep {a1} (h : Keep W s0 s) (w_mem : W.mem = true := by first | assumption | rfl) (w_bbs : W.bbs = true := by first | assumption | rfl) (w_out : W.out = true := by first | assumption | rfl) (w_rings : W.rings = true := by first | assumption | rfl) (w_irqs : W.irqs = true := by first | assumption | rfl) (w_badUnits : W.badUnits = true := by first | assumption | rfl) (w_badRecord : W.badRecord = true := by first | assumption | rfl) (w_po : W.po = true := by first | assumption | rfl) (w_faults : W.faults = true := by first | assumption | rfl) (w_lease : W.lease = true := by first | assumption | rfl) (w_pages : W.pages = true := by first | assumption | rfl) (w_serve : W.serve = true := by first | assumption | rfl) (w_slots : W.slots = true := by first | assumption | rfl) (w_fabric : W.fabric = true := by first | assumption | rfl) (w_stk : W.stk = true := by first | assumption | rfl) (w_links : W.links = true := by first | assumption | rfl) (w_dbg : W.dbg = true := by first | assumption | rfl) (w_opc : W.opc = true := by first | assumption | rfl) (w_b_image : W.b_image = true := by first | assumption | rfl) (w_b_page : W.b_page = true := by first | assumption | rfl) (w_b_ring : W.b_ring = true := by first | assumption | rfl) (w_b_ddr4 : W.b_ddr4 = true := by first | assumption | rfl) (w_b_output : W.b_output = true := by first | assumption | rfl) (w_b_fault : W.b_fault = true := by first | assumption | rfl) (w_b_amber : W.b_amber = true := by first | assumption | rfl) (w_b_redundancy : W.b_redundancy = true := by first | assumption | rfl) (w_b_core : W.b_core = true := by first | assumption | rfl) (w_b_perf : W.b_perf = true := by first | assumption | rfl) : KeepR W s0 (execStrided a1 s) := by
  unfold execStrided
  try dsimp only
  repeat' first
    | with_reducible assumption
    | with_reducible refine Keep.ite ?_ ?_
    | with_reducible refine KeepR.ite ?_ ?_
    | with_reducible refine KeepR.next ?_
    | with_reducible apply State.failFlight_keep
    | with_reducible apply State.retireAll_keep
    | with_reducible apply State.finishFlight_keep
    | with_reducible apply State.moveRows_keep
    | with_reducible apply State.startFlight_keep
    | with_reducible apply State.meetAt_keep
    | (split <;> try dsimp only)

theorem execDescriptorComplete_keep {a1 a2} (h : Keep W s0 s) (w_mem : W.mem = true := by first | assumption | rfl) (w_rings : W.rings = true := by first | assumption | rfl) (w_irqs : W.irqs = true := by first | assumption | rfl) (w_badUnits : W.badUnits = true := by first | assumption | rfl) (w_badRecord : W.badRecord = true := by first | assumption | rfl) (w_b_ring : W.b_ring = true := by first | assumption | rfl) (w_b_core : W.b_core = true := by first | assumption | rfl) : KeepR W s0 (execDescriptorComplete a1 a2 s) := by
  unfold execDescriptorComplete
  try dsimp only
  repeat' first
    | with_reducible assumption
    | with_reducible refine Keep.ite ?_ ?_
    | with_reducible refine KeepR.ite ?_ ?_
    | with_reducible refine KeepR.next ?_
    | with_reducible apply State.retireAll_keep
    | with_reducible apply State.updFlight_keep
    | (split <;> try dsimp only)

theorem execEntryWriteRetry_keep {a1} (h : Keep W s0 s) (w_mem : W.mem = true := by first | assumption | rfl) (w_clk : W.clk = true := by first | assumption | rfl) (w_modTime : W.modTime = true := by first | assumption | rfl) (w_rings : W.rings = true := by first | assumption | rfl) (w_irqs : W.irqs = true := by first | assumption | rfl) (w_badUnits : W.badUnits = true := by first | assumption | rfl) (w_badRecord : W.badRecord = true := by first | assumption | rfl) (w_ptp : W.ptp = true := by first | assumption | rfl) (w_b_ring : W.b_ring = true := by first | assumption | rfl) (w_b_core : W.b_core = true := by first | assumption | rfl) (w_b_perf : W.b_perf = true := by first | assumption | rfl) : KeepR W s0 (execEntryWriteRetry a1 s) := by
  unfold execEntryWriteRetry
  try dsimp only
  repeat' first
    | with_reducible assumption
    | with_reducible refine Keep.ite ?_ ?_
    | with_reducible refine KeepR.ite ?_ ?_
    | with_reducible refine KeepR.next ?_
    | with_reducible apply State.advanceTo_keep
    | with_reducible apply State.retireAll_keep
    | with_reducible refine Keep.foldlFst ?_ ?_
    | (intro _; intros; try dsimp only)
    | (split <;> try dsimp only)
    | with_reducible refine Keep.foldl ?_ ?_

theorem execRingAuditCheck_keep (h : Keep W s0 s) (w_bbs : W.bbs = true := by first | assumption | rfl) (w_clk : W.clk = true := by first | assumption | rfl) (w_modTime : W.modTime = true := by first | assumption | rfl) (w_out : W.out = true := by first | assumption | rfl) (w_po : W.po = true := by first | assumption | rfl) (w_ptp : W.ptp = true := by first | assumption | rfl) (w_faults : W.faults = true := by first | assumption | rfl) (w_lease : W.lease = true := by first | assumption | rfl) (w_pages : W.pages = true := by first | assumption | rfl) (w_serve : W.serve = true := by first | assumption | rfl) (w_slots : W.slots = true := by first | assumption | rfl) (w_fabric : W.fabric = true := by first | assumption | rfl) (w_stk : W.stk = true := by first | assumption | rfl) (w_links : W.links = true := by first | assumption | rfl) (w_dbg : W.dbg = true := by first | assumption | rfl) (w_opc : W.opc = true := by first | assumption | rfl) (w_b_image : W.b_image = true := by first | assumption | rfl) (w_b_page : W.b_page = true := by first | assumption | rfl) (w_b_ring : W.b_ring = true := by first | assumption | rfl) (w_b_output : W.b_output = true := by first | assumption | rfl) (w_b_fault : W.b_fault = true := by first | assumption | rfl) (w_b_amber : W.b_amber = true := by first | assumption | rfl) (w_b_redundancy : W.b_redundancy = true := by first | assumption | rfl) (w_b_perf : W.b_perf = true := by first | assumption | rfl) : KeepR W s0 (execRingAuditCheck s) := by
  unfold execRingAuditCheck
  try dsimp only
  repeat' first
    | with_reducible assumption
    | with_reducible refine Keep.ite ?_ ?_
    | with_reducible refine KeepR.ite ?_ ?_
    | with_reducible refine KeepR.next ?_
    | with_reducible apply State.advancePeriod_keep
    | with_reducible apply State.wr_keep
    | with_reducible apply State.incWrap_keep
    | with_reducible apply State.event_keep
    | with_reducible apply State.setB_keep
    | ((with_reducible refine Parts.blk_true ?_); first | exact w_b_ring)
    | (split <;> try dsimp only)

theorem execRingIrqTimer_keep {a1} (h : Keep W s0 s) (w_clk : W.clk = true := by first | assumption | rfl) (w_modTime : W.modTime = true := by first | assumption | rfl) (w_rings : W.rings = true := by first | assumption | rfl) (w_irqs : W.irqs = true := by first | assumption | rfl) (w_ptp : W.ptp = true := by first | assumption | rfl) (w_b_core : W.b_core = true := by first | assumption | rfl) (w_b_perf : W.b_perf = true := by first | assumption | rfl) : KeepR W s0 (execRingIrqTimer a1 s) := by
  unfold execRingIrqTimer
  try dsimp only
  repeat' first
    | with_reducible assumption
    | with_reducible refine Keep.ite ?_ ?_
    | with_reducible refine KeepR.ite ?_ ?_
    | with_reducible refine KeepR.next ?_
    | with_reducible apply State.ringIrq_keep
    | with_reducible apply State.advanceTo_keep
    | (split <;> try dsimp only)

end Sys2Proof.Machine
end

