-- ==== Sys2Proof/Laws/KeepVideoOps.lean ====
section
/-! SUPPORT. What the operations of Machine/VideoOps.lean keep: one lemma per operation. -/

namespace Sys2Proof.Machine

-- One proof at a time: the package is compiled as one text under a memory limit.
set_option Elab.async false

set_option linter.all false

variable {W : Parts} {s0 s : State}

theorem State.setVid_keep {a1 a2} (h : Keep W s0 s) (w_video : W.video = true := by first | assumption | rfl) : Keep W s0 (State.setVid s a1 a2) := by
  unfold State.setVid
  try dsimp only
  repeat' first
    | with_reducible assumption
    | with_reducible refine Keep.ite ?_ ?_
    | with_reducible refine Keep.upd_video (h := ?_)

theorem State.setVidState_keep {a1 a2} (h : Keep W s0 s) (w_b_video : W.b_video = true := by first | assumption | rfl) : Keep W s0 (State.setVidState s a1 a2) := by
  unfold State.setVidState
  try dsimp only
  repeat' first
    | with_reducible assumption
    | with_reducible refine Keep.ite ?_ ?_
    | with_reducible apply State.wr_keep
    | ((with_reducible refine Parts.blk_true ?_); first | exact w_b_video)

theorem State.closeSession_keep {a1} (h : Keep W s0 s) (w_video : W.video = true := by first | assumption | rfl) (w_b_video : W.b_video = true := by first | assumption | rfl) : Keep W s0 (State.closeSession s a1) := by
  unfold State.closeSession
  try dsimp only
  repeat' first
    | with_reducible assumption
    | with_reducible refine Keep.ite ?_ ?_
    | with_reducible apply State.setVidState_keep
    | with_reducible apply State.setVid_keep
    | (intro _; intros; try dsimp only)
    | (split <;> try dsimp only)
    | with_reducible refine Keep.foldl ?_ ?_

theorem State.fenceVideo_keep {a1} (h : Keep W s0 s) (w_video : W.video = true := by first | assumption | rfl) (w_b_video : W.b_video = true := by first | assumption | rfl) : Keep W s0 (State.fenceVideo s a1) := by
  unfold State.fenceVideo
  try dsimp only
  repeat' first
    | with_reducible assumption
    | with_reducible refine Keep.ite ?_ ?_
    | with_reducible apply State.setVidState_keep
    | with_reducible apply State.setVid_keep
    | (intro _; intros; try dsimp only)
    | with_reducible refine Keep.foldl ?_ ?_

theorem State.clearVideo_keep {a1} (h : Keep W s0 s) (w_video : W.video = true := by first | assumption | rfl) (w_b_video : W.b_video = true := by first | assumption | rfl) : Keep W s0 (State.clearVideo s a1) := by
  unfold State.clearVideo
  try dsimp only
  repeat' first
    | with_reducible assumption
    | with_reducible refine Keep.ite ?_ ?_
    | with_reducible apply State.setVidState_keep
    | with_reducible apply State.setVid_keep
    | (intro _; intros; try dsimp only)
    | with_reducible refine Keep.foldl ?_ ?_

theorem State.applyVideo_keep {a1 a2} (h : Keep W s0 s) (w_video : W.video = true := by first | assumption | rfl) (w_b_video : W.b_video = true := by first | assumption | rfl) : Keep W s0 (State.applyVideo s a1 a2) := by
  unfold State.applyVideo
  try dsimp only
  repeat' first
    | with_reducible assumption
    | with_reducible refine Keep.ite ?_ ?_
    | with_reducible apply State.rstReg_keep
    | with_reducible apply State.closeSession_keep
    | ((with_reducible refine Parts.blk_true ?_); first | exact w_b_video)
    | (intro _; intros; try dsimp only)
    | (split <;> try dsimp only)
    | with_reducible refine Keep.foldl ?_ ?_

theorem State.videoFrame_keep {n u p a t} (h : Keep W s0 s) (e : State.videoFrame s n u p a = some t) (w_video : W.video = true := by first | assumption | rfl) (w_b_video : W.b_video = true := by first | assumption | rfl) : Keep W s0 t := by
  unfold State.videoFrame at e
  obtain ⟨k, _, rfl⟩ := Option.map_eq_some_iff.mp e
  exact Keep.ite (State.inc_keep h) (State.setVid_keep h)

end Sys2Proof.Machine
end

