-- ==== Sys2Proof/Laws/KeepPlant.lean ====
section
/-! SUPPORT. What the operations of Machine/Plant.lean keep: one lemma per operation. -/

namespace Sys2Proof.Machine

-- One proof at a time: the package is compiled as one text under a memory limit.
set_option Elab.async false

set_option linter.all false

variable {W : Parts} {s0 s : State}

theorem State.delivered_keep {a1} (h : Keep W s0 s) (w_b_perf : W.b_perf = true := by first | assumption | rfl) : Keep W s0 (State.delivered s a1) := by
  unfold State.delivered
  try dsimp only
  repeat' first
    | with_reducible assumption
    | with_reducible refine Keep.ite ?_ ?_
    | with_reducible apply State.count_keep

theorem State.toRing_keep {a1 a2 a3 a4 a5 a6 a7 a8} (h : Keep W s0 s) (w_mem : W.mem = true := by first | assumption | rfl) (w_rings : W.rings = true := by first | assumption | rfl) (w_irqs : W.irqs = true := by first | assumption | rfl) (w_badUnits : W.badUnits = true := by first | assumption | rfl) (w_badRecord : W.badRecord = true := by first | assumption | rfl) (w_b_ring : W.b_ring = true := by first | assumption | rfl) (w_b_plant : W.b_plant = true := by first | assumption | rfl) (w_b_core : W.b_core = true := by first | assumption | rfl) (w_b_perf : W.b_perf = true := by first | assumption | rfl) : Keep W s0 (State.toRing s a1 a2 a3 a4 a5 a6 a7 a8) := by
  unfold State.toRing
  try dsimp only
  repeat' first
    | with_reducible assumption
    | with_reducible refine Keep.ite ?_ ?_
    | with_reducible apply State.ingress_keep
    | with_reducible apply State.delivered_keep
    | with_reducible apply State.inc_keep
    | ((with_reducible refine Parts.blk_true ?_); first | exact w_b_plant)
    | (split <;> try dsimp only)

theorem State.toDefault_keep {a1 a2 a3 a4 a5} (h : Keep W s0 s) (w_mem : W.mem = true := by first | assumption | rfl) (w_rings : W.rings = true := by first | assumption | rfl) (w_irqs : W.irqs = true := by first | assumption | rfl) (w_badUnits : W.badUnits = true := by first | assumption | rfl) (w_badRecord : W.badRecord = true := by first | assumption | rfl) (w_b_ring : W.b_ring = true := by first | assumption | rfl) (w_b_plant : W.b_plant = true := by first | assumption | rfl) (w_b_core : W.b_core = true := by first | assumption | rfl) (w_b_perf : W.b_perf = true := by first | assumption | rfl) : Keep W s0 (State.toDefault s a1 a2 a3 a4 a5) := by
  unfold State.toDefault
  try dsimp only
  repeat' first
    | with_reducible assumption
    | with_reducible refine Keep.ite ?_ ?_
    | with_reducible apply State.toRing_keep

theorem State.cvJudge_keep {a1 a2} (h : Keep W s0 s) (w_cv : W.cv = true := by first | assumption | rfl) (w_b_checkValue : W.b_checkValue = true := by first | assumption | rfl) : Keep W s0 (State.cvJudge s a1 a2).1 := by
  unfold State.cvJudge
  try dsimp only
  repeat' first
    | with_reducible assumption
    | with_reducible refine Keep.ite ?_ ?_
    | with_reducible apply State.inc_keep
    | with_reducible apply State.setCv_keep
    | with_reducible apply State.wr_keep
    | ((with_reducible refine Parts.blk_true ?_); first | exact w_b_checkValue)
    | with_reducible refine Keep.iteFst ?_ ?_
    | (split <;> try dsimp only)

theorem State.steer_keep {a1 a2 a3 a4 a5 a6 a7} (h : Keep W s0 s) (w_mem : W.mem = true := by first | assumption | rfl) (w_rings : W.rings = true := by first | assumption | rfl) (w_irqs : W.irqs = true := by first | assumption | rfl) (w_badUnits : W.badUnits = true := by first | assumption | rfl) (w_badRecord : W.badRecord = true := by first | assumption | rfl) (w_cv : W.cv = true := by first | assumption | rfl) (w_video : W.video = true := by first | assumption | rfl) (w_b_ring : W.b_ring = true := by first | assumption | rfl) (w_b_plant : W.b_plant = true := by first | assumption | rfl) (w_b_checkValue : W.b_checkValue = true := by first | assumption | rfl) (w_b_video : W.b_video = true := by first | assumption | rfl) (w_b_core : W.b_core = true := by first | assumption | rfl) (w_b_perf : W.b_perf = true := by first | assumption | rfl) : Keep W s0 (State.steer s a1 a2 a3 a4 a5 a6 a7) := by
  unfold State.steer
  try dsimp only
  refine Keep.ite (Keep.ite (State.inc_keep h) h) ?_
  have hj : Keep W s0 (match s.cvIngress a1 a3 with
      | none => (s, true, a7)
      | some c => ((s.cvJudge c a7).1, (s.cvJudge c a7).2, a7.take (a7.length - checkLen (s.rd F.CV_CFG_algo c)))).1 := by
    split
    · exact h
    · exact State.cvJudge_keep h
  refine Keep.ite hj ?_
  split
  · next e => exact State.delivered_keep (State.videoFrame_keep hj e)
  · exact State.toRing_keep hj

theorem State.frameStages_keep {a1 a2} (h : Keep W s0 s) (w_mem : W.mem = true := by first | assumption | rfl) (w_out : W.out = true := by first | assumption | rfl) (w_rings : W.rings = true := by first | assumption | rfl) (w_irqs : W.irqs = true := by first | assumption | rfl) (w_badUnits : W.badUnits = true := by first | assumption | rfl) (w_badRecord : W.badRecord = true := by first | assumption | rfl) (w_cv : W.cv = true := by first | assumption | rfl) (w_video : W.video = true := by first | assumption | rfl) (w_opc : W.opc = true := by first | assumption | rfl) (w_b_ring : W.b_ring = true := by first | assumption | rfl) (w_b_plant : W.b_plant = true := by first | assumption | rfl) (w_b_checkValue : W.b_checkValue = true := by first | assumption | rfl) (w_b_video : W.b_video = true := by first | assumption | rfl) (w_b_core : W.b_core = true := by first | assumption | rfl) (w_b_perf : W.b_perf = true := by first | assumption | rfl) : KeepR W s0 (State.frameStages s a1 a2) := by
  unfold State.frameStages
  try dsimp only
  repeat' first
    | with_reducible assumption
    | with_reducible refine Keep.ite ?_ ?_
    | with_reducible refine KeepR.ite ?_ ?_
    | with_reducible refine KeepR.next ?_
    | with_reducible apply State.inc_keep
    | with_reducible apply State.emit_keep
    | with_reducible apply State.tally_keep
    | with_reducible apply State.toDefault_keep
    | with_reducible apply State.steer_keep
    | ((with_reducible refine Parts.blk_true ?_); first | exact w_b_plant)
    | (split <;> try dsimp only)

theorem execPlantFrame_keep {a1 a2} (h : Keep W s0 s) (w_mem : W.mem = true := by first | assumption | rfl) (w_out : W.out = true := by first | assumption | rfl) (w_rings : W.rings = true := by first | assumption | rfl) (w_irqs : W.irqs = true := by first | assumption | rfl) (w_badUnits : W.badUnits = true := by first | assumption | rfl) (w_badRecord : W.badRecord = true := by first | assumption | rfl) (w_cv : W.cv = true := by first | assumption | rfl) (w_video : W.video = true := by first | assumption | rfl) (w_opc : W.opc = true := by first | assumption | rfl) (w_b_ring : W.b_ring = true := by first | assumption | rfl) (w_b_plant : W.b_plant = true := by first | assumption | rfl) (w_b_checkValue : W.b_checkValue = true := by first | assumption | rfl) (w_b_video : W.b_video = true := by first | assumption | rfl) (w_b_core : W.b_core = true := by first | assumption | rfl) (w_b_perf : W.b_perf = true := by first | assumption | rfl) : KeepR W s0 (execPlantFrame a1 a2 s) := by
  unfold execPlantFrame
  try dsimp only
  repeat' first
    | with_reducible assumption
    | with_reducible refine Keep.ite ?_ ?_
    | with_reducible refine KeepR.ite ?_ ?_
    | with_reducible refine KeepR.next ?_
    | with_reducible apply State.inc_keep
    | with_reducible apply State.frameStages_keep
    | with_reducible apply State.tally_keep
    | ((with_reducible refine Parts.blk_true ?_); first | exact w_b_plant)
    | (split <;> try dsimp only)

theorem State.ptpChoose_keep (h : Keep W s0 s) (w_b_ptp : W.b_ptp = true := by first | assumption | rfl) : Keep W s0 (State.ptpChoose s) := by
  unfold State.ptpChoose
  try dsimp only
  repeat' first
    | with_reducible assumption
    | with_reducible refine Keep.ite ?_ ?_
    | with_reducible apply State.wr_keep
    | ((with_reducible refine Parts.blk_true ?_); first | exact w_b_ptp)
    | (split <;> try dsimp only)

theorem execPlantLinkChange_keep {a1 a2} (h : Keep W s0 s) (w_bbs : W.bbs = true := by first | assumption | rfl) (w_out : W.out = true := by first | assumption | rfl) (w_po : W.po = true := by first | assumption | rfl) (w_faults : W.faults = true := by first | assumption | rfl) (w_lease : W.lease = true := by first | assumption | rfl) (w_pages : W.pages = true := by first | assumption | rfl) (w_serve : W.serve = true := by first | assumption | rfl) (w_slots : W.slots = true := by first | assumption | rfl) (w_fabric : W.fabric = true := by first | assumption | rfl) (w_stk : W.stk = true := by first | assumption | rfl) (w_links : W.links = true := by first | assumption | rfl) (w_dbg : W.dbg = true := by first | assumption | rfl) (w_opc : W.opc = true := by first | assumption | rfl) (w_b_image : W.b_image = true := by first | assumption | rfl) (w_b_page : W.b_page = true := by first | assumption | rfl) (w_b_plant : W.b_plant = true := by first | assumption | rfl) (w_b_ptp : W.b_ptp = true := by first | assumption | rfl) (w_b_output : W.b_output = true := by first | assumption | rfl) (w_b_fault : W.b_fault = true := by first | assumption | rfl) (w_b_amber : W.b_amber = true := by first | assumption | rfl) (w_b_redundancy : W.b_redundancy = true := by first | assumption | rfl) (w_b_perf : W.b_perf = true := by first | assumption | rfl) : KeepR W s0 (execPlantLinkChange a1 a2 s) := by
  unfold execPlantLinkChange
  try dsimp only
  repeat' first
    | with_reducible assumption
    | with_reducible refine Keep.ite ?_ ?_
    | with_reducible refine KeepR.ite ?_ ?_
    | with_reducible refine KeepR.next ?_
    | with_reducible apply State.ptpChoose_keep
    | with_reducible apply State.causeEnds_keep
    | with_reducible apply State.wr_keep
    | with_reducible apply State.event_keep
    | ((with_reducible refine Parts.blk_true ?_); first | exact w_b_plant)
    | (split <;> try dsimp only)

theorem execPtpMessage_keep {a1 a2} (h : Keep W s0 s) (w_bbs : W.bbs = true := by first | assumption | rfl) (w_modTime : W.modTime = true := by first | assumption | rfl) (w_out : W.out = true := by first | assumption | rfl) (w_po : W.po = true := by first | assumption | rfl) (w_ptp : W.ptp = true := by first | assumption | rfl) (w_faults : W.faults = true := by first | assumption | rfl) (w_lease : W.lease = true := by first | assumption | rfl) (w_pages : W.pages = true := by first | assumption | rfl) (w_serve : W.serve = true := by first | assumption | rfl) (w_slots : W.slots = true := by first | assumption | rfl) (w_fabric : W.fabric = true := by first | assumption | rfl) (w_stk : W.stk = true := by first | assumption | rfl) (w_links : W.links = true := by first | assumption | rfl) (w_dbg : W.dbg = true := by first | assumption | rfl) (w_opc : W.opc = true := by first | assumption | rfl) (w_b_image : W.b_image = true := by first | assumption | rfl) (w_b_page : W.b_page = true := by first | assumption | rfl) (w_b_ptp : W.b_ptp = true := by first | assumption | rfl) (w_b_output : W.b_output = true := by first | assumption | rfl) (w_b_fault : W.b_fault = true := by first | assumption | rfl) (w_b_amber : W.b_amber = true := by first | assumption | rfl) (w_b_redundancy : W.b_redundancy = true := by first | assumption | rfl) (w_b_perf : W.b_perf = true := by first | assumption | rfl) : KeepR W s0 (execPtpMessage a1 a2 s) := by
  unfold execPtpMessage
  try dsimp only
  repeat' first
    | with_reducible assumption
    | with_reducible refine Keep.ite ?_ ?_
    | with_reducible refine KeepR.ite ?_ ?_
    | with_reducible refine KeepR.next ?_
    | with_reducible apply State.wr_keep
    | with_reducible apply State.event_keep
    | with_reducible apply State.inc_keep
    | ((with_reducible refine Parts.blk_true ?_); first | exact w_b_ptp)
    | (split <;> try dsimp only)
    | with_reducible refine Keep.upd_modTime_ptp (h := ?_)
    | with_reducible refine Keep.upd_ptp (h := ?_)

theorem execAnnounceTimeout_keep (h : Keep W s0 s) (w_bbs : W.bbs = true := by first | assumption | rfl) (w_clk : W.clk = true := by first | assumption | rfl) (w_modTime : W.modTime = true := by first | assumption | rfl) (w_out : W.out = true := by first | assumption | rfl) (w_po : W.po = true := by first | assumption | rfl) (w_ptp : W.ptp = true := by first | assumption | rfl) (w_faults : W.faults = true := by first | assumption | rfl) (w_lease : W.lease = true := by first | assumption | rfl) (w_pages : W.pages = true := by first | assumption | rfl) (w_serve : W.serve = true := by first | assumption | rfl) (w_slots : W.slots = true := by first | assumption | rfl) (w_fabric : W.fabric = true := by first | assumption | rfl) (w_stk : W.stk = true := by first | assumption | rfl) (w_links : W.links = true := by first | assumption | rfl) (w_dbg : W.dbg = true := by first | assumption | rfl) (w_opc : W.opc = true := by first | assumption | rfl) (w_b_image : W.b_image = true := by first | assumption | rfl) (w_b_page : W.b_page = true := by first | assumption | rfl) (w_b_ptp : W.b_ptp = true := by first | assumption | rfl) (w_b_output : W.b_output = true := by first | assumption | rfl) (w_b_fault : W.b_fault = true := by first | assumption | rfl) (w_b_amber : W.b_amber = true := by first | assumption | rfl) (w_b_redundancy : W.b_redundancy = true := by first | assumption | rfl) (w_b_perf : W.b_perf = true := by first | assumption | rfl) : KeepR W s0 (execAnnounceTimeout s) := by
  unfold execAnnounceTimeout
  try dsimp only
  repeat' first
    | with_reducible assumption
    | with_reducible refine Keep.ite ?_ ?_
    | with_reducible refine KeepR.ite ?_ ?_
    | with_reducible refine KeepR.next ?_
    | with_reducible apply State.advanceTo_keep
    | with_reducible apply State.wr_keep
    | with_reducible apply State.event_keep
    | ((with_reducible refine Parts.blk_true ?_); first | exact w_b_ptp)
    | (split <;> try dsimp only)
    | with_reducible refine Keep.upd_ptp (h := ?_)

theorem execPoTx_keep {a1 a2 a3} (h : Keep W s0 s) (w_bbs : W.bbs = true := by first | assumption | rfl) (w_out : W.out = true := by first | assumption | rfl) (w_po : W.po = true := by first | assumption | rfl) (w_faults : W.faults = true := by first | assumption | rfl) (w_lease : W.lease = true := by first | assumption | rfl) (w_pages : W.pages = true := by first | assumption | rfl) (w_serve : W.serve = true := by first | assumption | rfl) (w_slots : W.slots = true := by first | assumption | rfl) (w_fabric : W.fabric = true := by first | assumption | rfl) (w_stk : W.stk = true := by first | assumption | rfl) (w_links : W.links = true := by first | assumption | rfl) (w_dbg : W.dbg = true := by first | assumption | rfl) (w_opc : W.opc = true := by first | assumption | rfl) (w_b_image : W.b_image = true := by first | assumption | rfl) (w_b_page : W.b_page = true := by first | assumption | rfl) (w_b_output : W.b_output = true := by first | assumption | rfl) (w_b_fault : W.b_fault = true := by first | assumption | rfl) (w_b_amber : W.b_amber = true := by first | assumption | rfl) (w_b_redundancy : W.b_redundancy = true := by first | assumption | rfl) (w_b_perf : W.b_perf = true := by first | assumption | rfl) : KeepR W s0 (execPoTx a1 a2 a3 s) := by
  unfold execPoTx
  try dsimp only
  repeat' first
    | with_reducible assumption
    | with_reducible refine Keep.ite ?_ ?_
    | with_reducible refine KeepR.ite ?_ ?_
    | with_reducible refine KeepR.next ?_
    | with_reducible apply guardHcs_keep
    | with_reducible apply State.inc_keep
    | with_reducible apply State.setPo_keep
    | with_reducible apply State.setB_keep
    | ((with_reducible refine Parts.blk_true ?_); first | exact w_b_output)
    | (intro _; intros; try dsimp only)
    | (split <;> try dsimp only)

theorem State.poAccept_keep {a1 a2} (h : Keep W s0 s) (w_out : W.out = true := by first | assumption | rfl) (w_po : W.po = true := by first | assumption | rfl) (w_opc : W.opc = true := by first | assumption | rfl) (w_b_output : W.b_output = true := by first | assumption | rfl) (w_b_checkValue : W.b_checkValue = true := by first | assumption | rfl) (w_b_perf : W.b_perf = true := by first | assumption | rfl) : Keep W s0 (State.poAccept s a1 a2) := by
  unfold State.poAccept
  try dsimp only
  repeat' first
    | with_reducible assumption
    | with_reducible refine Keep.ite ?_ ?_
    | with_reducible apply State.incWrap_keep
    | with_reducible apply State.setPo_keep
    | with_reducible apply State.poSend_keep
    | ((with_reducible refine Parts.blk_true ?_); first | exact w_b_checkValue)
    | (split <;> try dsimp only)

theorem execPoCopyDone_keep {a1} (h : Keep W s0 s) (w_bbs : W.bbs = true := by first | assumption | rfl) (w_out : W.out = true := by first | assumption | rfl) (w_badRecord : W.badRecord = true := by first | assumption | rfl) (w_po : W.po = true := by first | assumption | rfl) (w_faults : W.faults = true := by first | assumption | rfl) (w_lease : W.lease = true := by first | assumption | rfl) (w_pages : W.pages = true := by first | assumption | rfl) (w_serve : W.serve = true := by first | assumption | rfl) (w_slots : W.slots = true := by first | assumption | rfl) (w_fabric : W.fabric = true := by first | assumption | rfl) (w_stk : W.stk = true := by first | assumption | rfl) (w_links : W.links = true := by first | assumption | rfl) (w_dbg : W.dbg = true := by first | assumption | rfl) (w_opc : W.opc = true := by first | assumption | rfl) (w_b_image : W.b_image = true := by first | assumption | rfl) (w_b_page : W.b_page = true := by first | assumption | rfl) (w_b_ddr4 : W.b_ddr4 = true := by first | assumption | rfl) (w_b_output : W.b_output = true := by first | assumption | rfl) (w_b_checkValue : W.b_checkValue = true := by first | assumption | rfl) (w_b_fault : W.b_fault = true := by first | assumption | rfl) (w_b_amber : W.b_amber = true := by first | assumption | rfl) (w_b_redundancy : W.b_redundancy = true := by first | assumption | rfl) (w_b_perf : W.b_perf = true := by first | assumption | rfl) : KeepR W s0 (execPoCopyDone a1 s) := by
  unfold execPoCopyDone
  try dsimp only
  repeat' first
    | with_reducible assumption
    | with_reducible refine Keep.ite ?_ ?_
    | with_reducible refine KeepR.ite ?_ ?_
    | with_reducible refine KeepR.next ?_
    | with_reducible apply State.setPo_keep
    | with_reducible apply State.wr_keep
    | with_reducible apply State.inc_keep
    | with_reducible apply State.meetUnit_keep
    | with_reducible apply State.poAccept_keep
    | ((with_reducible refine Parts.blk_true ?_); first | exact w_b_output)
    | (split <;> try dsimp only)

theorem execPoPeriod_keep {a1} (h : Keep W s0 s) (w_clk : W.clk = true := by first | assumption | rfl) (w_modTime : W.modTime = true := by first | assumption | rfl) (w_out : W.out = true := by first | assumption | rfl) (w_po : W.po = true := by first | assumption | rfl) (w_ptp : W.ptp = true := by first | assumption | rfl) (w_opc : W.opc = true := by first | assumption | rfl) (w_b_output : W.b_output = true := by first | assumption | rfl) (w_b_perf : W.b_perf = true := by first | assumption | rfl) : KeepR W s0 (execPoPeriod a1 s) := by
  unfold execPoPeriod
  try dsimp only
  repeat' first
    | with_reducible assumption
    | with_reducible refine Keep.ite ?_ ?_
    | with_reducible refine KeepR.ite ?_ ?_
    | with_reducible refine KeepR.next ?_
    | with_reducible apply State.advanceTo_keep
    | with_reducible apply State.poSendWithdrawn_keep
    | with_reducible apply State.poSend_keep
    | with_reducible apply State.setPo_keep
    | (split <;> try dsimp only)

theorem execCvCfgWrite_keep {a1 a2 a3} (h : Keep W s0 s) (w_bbs : W.bbs = true := by first | assumption | rfl) (w_out : W.out = true := by first | assumption | rfl) (w_po : W.po = true := by first | assumption | rfl) (w_cv : W.cv = true := by first | assumption | rfl) (w_faults : W.faults = true := by first | assumption | rfl) (w_lease : W.lease = true := by first | assumption | rfl) (w_pages : W.pages = true := by first | assumption | rfl) (w_serve : W.serve = true := by first | assumption | rfl) (w_slots : W.slots = true := by first | assumption | rfl) (w_fabric : W.fabric = true := by first | assumption | rfl) (w_stk : W.stk = true := by first | assumption | rfl) (w_links : W.links = true := by first | assumption | rfl) (w_dbg : W.dbg = true := by first | assumption | rfl) (w_opc : W.opc = true := by first | assumption | rfl) (w_b_image : W.b_image = true := by first | assumption | rfl) (w_b_page : W.b_page = true := by first | assumption | rfl) (w_b_output : W.b_output = true := by first | assumption | rfl) (w_b_checkValue : W.b_checkValue = true := by first | assumption | rfl) (w_b_fault : W.b_fault = true := by first | assumption | rfl) (w_b_amber : W.b_amber = true := by first | assumption | rfl) (w_b_redundancy : W.b_redundancy = true := by first | assumption | rfl) (w_b_perf : W.b_perf = true := by first | assumption | rfl) : KeepR W s0 (execCvCfgWrite a1 a2 a3 s) := by
  unfold execCvCfgWrite
  try dsimp only
  repeat' first
    | with_reducible assumption
    | with_reducible refine Keep.ite ?_ ?_
    | with_reducible refine KeepR.ite ?_ ?_
    | with_reducible refine KeepR.next ?_
    | with_reducible apply guardHcs_keep
    | with_reducible apply State.applyWrite_keep
    | with_reducible apply State.wr_keep
    | with_reducible apply State.setCv_keep
    | ((with_reducible refine Parts.blk_true ?_); first | exact w_b_checkValue)
    | (intro _; intros; try dsimp only)
    | (split <;> try dsimp only)

theorem execScanStart_keep {a1 a2 a3} (h : Keep W s0 s) (w_bbs : W.bbs = true := by first | assumption | rfl) (w_out : W.out = true := by first | assumption | rfl) (w_po : W.po = true := by first | assumption | rfl) (w_cv : W.cv = true := by first | assumption | rfl) (w_faults : W.faults = true := by first | assumption | rfl) (w_lease : W.lease = true := by first | assumption | rfl) (w_pages : W.pages = true := by first | assumption | rfl) (w_serve : W.serve = true := by first | assumption | rfl) (w_slots : W.slots = true := by first | assumption | rfl) (w_fabric : W.fabric = true := by first | assumption | rfl) (w_stk : W.stk = true := by first | assumption | rfl) (w_links : W.links = true := by first | assumption | rfl) (w_dbg : W.dbg = true := by first | assumption | rfl) (w_opc : W.opc = true := by first | assumption | rfl) (w_b_image : W.b_image = true := by first | assumption | rfl) (w_b_page : W.b_page = true := by first | assumption | rfl) (w_b_output : W.b_output = true := by first | assumption | rfl) (w_b_checkValue : W.b_checkValue = true := by first | assumption | rfl) (w_b_fault : W.b_fault = true := by first | assumption | rfl) (w_b_amber : W.b_amber = true := by first | assumption | rfl) (w_b_redundancy : W.b_redundancy = true := by first | assumption | rfl) (w_b_perf : W.b_perf = true := by first | assumption | rfl) : KeepR W s0 (execScanStart a1 a2 a3 s) := by
  unfold execScanStart
  try dsimp only
  repeat' first
    | with_reducible assumption
    | with_reducible refine Keep.ite ?_ ?_
    | with_reducible refine KeepR.ite ?_ ?_
    | with_reducible refine KeepR.next ?_
    | with_reducible apply guardHcs_keep
    | with_reducible apply State.applyWrite_keep
    | with_reducible apply State.setCv_keep
    | with_reducible apply State.setB_keep
    | ((with_reducible refine Parts.blk_true ?_); first | exact w_b_checkValue)
    | (intro _; intros; try dsimp only)
    | (split <;> try dsimp only)

theorem execScanDone_keep {a1} (h : Keep W s0 s) (w_bbs : W.bbs = true := by first | assumption | rfl) (w_out : W.out = true := by first | assumption | rfl) (w_badRecord : W.badRecord = true := by first | assumption | rfl) (w_po : W.po = true := by first | assumption | rfl) (w_cv : W.cv = true := by first | assumption | rfl) (w_faults : W.faults = true := by first | assumption | rfl) (w_lease : W.lease = true := by first | assumption | rfl) (w_pages : W.pages = true := by first | assumption | rfl) (w_serve : W.serve = true := by first | assumption | rfl) (w_slots : W.slots = true := by first | assumption | rfl) (w_fabric : W.fabric = true := by first | assumption | rfl) (w_stk : W.stk = true := by first | assumption | rfl) (w_links : W.links = true := by first | assumption | rfl) (w_dbg : W.dbg = true := by first | assumption | rfl) (w_opc : W.opc = true := by first | assumption | rfl) (w_b_image : W.b_image = true := by first | assumption | rfl) (w_b_page : W.b_page = true := by first | assumption | rfl) (w_b_ddr4 : W.b_ddr4 = true := by first | assumption | rfl) (w_b_output : W.b_output = true := by first | assumption | rfl) (w_b_checkValue : W.b_checkValue = true := by first | assumption | rfl) (w_b_fault : W.b_fault = true := by first | assumption | rfl) (w_b_amber : W.b_amber = true := by first | assumption | rfl) (w_b_redundancy : W.b_redundancy = true := by first | assumption | rfl) (w_b_perf : W.b_perf = true := by first | assumption | rfl) : KeepR W s0 (execScanDone a1 s) := by
  unfold execScanDone
  try dsimp only
  repeat' first
    | with_reducible assumption
    | with_reducible refine Keep.ite ?_ ?_
    | with_reducible refine KeepR.ite ?_ ?_
    | with_reducible refine KeepR.next ?_
    | with_reducible apply State.setCv_keep
    | with_reducible apply State.wr_keep
    | with_reducible apply State.meetAt_keep
    | ((with_reducible refine Parts.blk_true ?_); first | exact w_b_checkValue)
    | (split <;> try dsimp only)

end Sys2Proof.Machine
end

