-- ==== Sys2Proof/Laws/KeepSecOps.lean ====
section
/-! SUPPORT. What the operations of Machine/SecOps.lean keep: one lemma per operation. -/

namespace Sys2Proof.Machine

-- One proof at a time: the package is compiled as one text under a memory limit.
set_option Elab.async false

set_option linter.all false

variable {W : Parts} {s0 s : State}

theorem State.random_keep (h : Keep W s0 s) : Keep W s0 (State.random s).1 := by
  unfold State.random
  try dsimp only
  repeat' first
    | with_reducible assumption
    | with_reducible refine Keep.ite ?_ ?_
    | with_reducible refine Keep.iteFst ?_ ?_
    | with_reducible refine Keep.upd_fresh (h := ?_)

theorem State.newNonce_keep {a1} (h : Keep W s0 s) (w_b_security : W.b_security = true := by first | assumption | rfl) : Keep W s0 (State.newNonce s a1) := by
  unfold State.newNonce
  try dsimp only
  repeat' first
    | with_reducible assumption
    | with_reducible refine Keep.ite ?_ ?_
    | with_reducible apply State.random_keep
    | with_reducible apply State.wr_keep
    | ((with_reducible refine Parts.blk_true ?_); first | exact w_b_security)

theorem State.debugDetach_keep {a1} (h : Keep W s0 s) (w_dbg : W.dbg = true := by first | assumption | rfl) (w_b_core : W.b_core = true := by first | assumption | rfl) : Keep W s0 (State.debugDetach s a1) := by
  unfold State.debugDetach
  try dsimp only
  repeat' first
    | with_reducible assumption
    | with_reducible refine Keep.ite ?_ ?_
    | with_reducible apply State.releaseUnits_keep
    | with_reducible apply State.wr_keep
    | ((with_reducible refine Parts.blk_true ?_); first | exact w_b_core)
    | (intro _; intros; try dsimp only)
    | (split <;> try dsimp only)
    | with_reducible refine Keep.foldl ?_ ?_
    | with_reducible refine Keep.upd_dbg (h := ?_)

theorem State.endConsent_keep {a1} (h : Keep W s0 s) (w_sec : W.sec = true := by first | assumption | rfl) (w_dbg : W.dbg = true := by first | assumption | rfl) (w_b_security : W.b_security = true := by first | assumption | rfl) (w_b_core : W.b_core = true := by first | assumption | rfl) : Keep W s0 (State.endConsent s a1) := by
  unfold State.endConsent
  try dsimp only
  repeat' first
    | with_reducible assumption
    | with_reducible refine Keep.ite ?_ ?_
    | with_reducible apply State.debugDetach_keep
    | with_reducible apply State.wr_keep
    | with_reducible apply State.newNonce_keep
    | ((with_reducible refine Parts.blk_true ?_); first | exact w_b_security)
    | (split <;> try dsimp only)
    | with_reducible refine Keep.upd_sec (h := ?_)

theorem State.advanceEpoch_keep {a1 a2} (h : Keep W s0 s) (w_sec : W.sec = true := by first | assumption | rfl) (w_b_security : W.b_security = true := by first | assumption | rfl) : Keep W s0 (State.advanceEpoch s a1 a2) := by
  unfold State.advanceEpoch
  try dsimp only
  repeat' first
    | with_reducible assumption
    | with_reducible refine Keep.ite ?_ ?_
    | with_reducible apply State.incWrap_keep
    | ((with_reducible refine Parts.blk_true ?_); first | exact w_b_security)
    | (split <;> try dsimp only)
    | with_reducible refine Keep.upd_sec (h := ?_)

theorem State.dropTombs_keep {a1} (h : Keep W s0 s) (w_sec : W.sec = true := by first | assumption | rfl) : Keep W s0 (State.dropTombs s a1) := by
  unfold State.dropTombs
  try dsimp only
  repeat' first
    | with_reducible assumption
    | with_reducible refine Keep.ite ?_ ?_
    | with_reducible refine Keep.upd_sec (h := ?_)

theorem State.importKey_keep {a1 a2} (h : Keep W s0 s) (w_sec : W.sec = true := by first | assumption | rfl) : Keep W s0 (State.importKey s a1 a2).1 := by
  unfold State.importKey
  try dsimp only
  repeat' first
    | with_reducible assumption
    | with_reducible refine Keep.ite ?_ ?_
    | with_reducible refine Keep.iteFst ?_ ?_
    | (split <;> try dsimp only)
    | with_reducible refine Keep.upd_sec (h := ?_)

theorem State.deleteKey_keep {a1 a2} (h : Keep W s0 s) (w_sec : W.sec = true := by first | assumption | rfl) : Keep W s0 (State.deleteKey s a1 a2).1 := by
  unfold State.deleteKey
  try dsimp only
  repeat' first
    | with_reducible assumption
    | with_reducible refine Keep.ite ?_ ?_
    | with_reducible refine Keep.iteFst ?_ ?_
    | (split <;> try dsimp only)
    | with_reducible refine Keep.upd_sec (h := ?_)

theorem State.submitConsent_keep {a1 a2} (h : Keep W s0 s) (w_sec : W.sec = true := by first | assumption | rfl) (w_b_security : W.b_security = true := by first | assumption | rfl) : Keep W s0 (State.submitConsent s a1 a2).1 := by
  unfold State.submitConsent
  try dsimp only
  repeat' first
    | with_reducible assumption
    | with_reducible refine Keep.ite ?_ ?_
    | with_reducible apply State.wr_keep
    | with_reducible apply State.setB_keep
    | with_reducible apply State.newNonce_keep
    | ((with_reducible refine Parts.blk_true ?_); first | exact w_b_security)
    | with_reducible refine Keep.iteFst ?_ ?_
    | (split <;> try dsimp only)
    | with_reducible refine Keep.upd_sec (h := ?_)

end Sys2Proof.Machine
end

