-- ==== Sys2Proof/Laws/KeepTillerOps.lean ====
section
/-! SUPPORT. What the operations of Machine/TillerOps.lean keep: one lemma per operation. -/

namespace Sys2Proof.Machine

-- One proof at a time: the package is compiled as one text under a memory limit.
set_option Elab.async false

set_option linter.all false

variable {W : Parts} {s0 s : State}

theorem State.offer_keep {a1 a2} (h : Keep W s0 s) (w_mem : W.mem = true := by first | assumption | rfl) (w_rings : W.rings = true := by first | assumption | rfl) (w_irqs : W.irqs = true := by first | assumption | rfl) (w_badUnits : W.badUnits = true := by first | assumption | rfl) (w_badRecord : W.badRecord = true := by first | assumption | rfl) (w_serve : W.serve = true := by first | assumption | rfl) (w_slots : W.slots = true := by first | assumption | rfl) (w_b_request : W.b_request = true := by first | assumption | rfl) (w_b_ring : W.b_ring = true := by first | assumption | rfl) (w_b_core : W.b_core = true := by first | assumption | rfl) : Keep W s0 (State.offer s a1 a2) := by
  unfold State.offer
  try dsimp only
  repeat' first
    | with_reducible assumption
    | with_reducible refine Keep.ite ?_ ?_
    | with_reducible apply State.produce_keep
    | with_reducible apply State.updSlot_keep
    | with_reducible apply State.inc_keep
    | with_reducible apply State.setB_keep
    | with_reducible apply State.updSrv_keep
    | ((with_reducible refine Parts.blk_true ?_); first | exact w_b_request)
    | (split <;> try dsimp only)

theorem State.reoffer_keep {a1} (h : Keep W s0 s) (w_mem : W.mem = true := by first | assumption | rfl) (w_rings : W.rings = true := by first | assumption | rfl) (w_irqs : W.irqs = true := by first | assumption | rfl) (w_badUnits : W.badUnits = true := by first | assumption | rfl) (w_badRecord : W.badRecord = true := by first | assumption | rfl) (w_serve : W.serve = true := by first | assumption | rfl) (w_slots : W.slots = true := by first | assumption | rfl) (w_b_request : W.b_request = true := by first | assumption | rfl) (w_b_ring : W.b_ring = true := by first | assumption | rfl) (w_b_core : W.b_core = true := by first | assumption | rfl) : Keep W s0 (State.reoffer s a1) := by
  unfold State.reoffer
  try dsimp only
  repeat' first
    | with_reducible assumption
    | with_reducible refine Keep.ite ?_ ?_
    | with_reducible apply State.offer_keep
    | with_reducible apply State.updSrv_keep
    | (intro _; intros; try dsimp only)
    | with_reducible refine Keep.foldl ?_ ?_

theorem State.commitSeg_keep {a1 a2 a3 a4 a5} (h : Keep W s0 s) (w_serve : W.serve = true := by first | assumption | rfl) (w_slots : W.slots = true := by first | assumption | rfl) (w_b_page : W.b_page = true := by first | assumption | rfl) : Keep W s0 (State.commitSeg s a1 a2 a3 a4 a5).1 := by
  unfold State.commitSeg
  try dsimp only
  repeat' first
    | with_reducible assumption
    | with_reducible refine Keep.ite ?_ ?_
    | with_reducible apply State.setSlot_keep
    | with_reducible apply State.enter_keep
    | with_reducible refine Keep.iteFst ?_ ?_
    | (split <;> try dsimp only)

theorem State.pendingDone_keep {a1 a2} (h : Keep W s0 s) (w_b_request : W.b_request = true := by first | assumption | rfl) : Keep W s0 (State.pendingDone s a1 a2) := by
  unfold State.pendingDone
  try dsimp only
  repeat' first
    | with_reducible assumption
    | with_reducible refine Keep.ite ?_ ?_
    | with_reducible apply State.setB_keep
    | with_reducible apply State.wr_keep
    | ((with_reducible refine Parts.blk_true ?_); first | exact w_b_request)
    | (split <;> try dsimp only)

theorem State.settleSlot_keep {a1 a2 a3} (h : Keep W s0 s) (w_slots : W.slots = true := by first | assumption | rfl) (w_b_request : W.b_request = true := by first | assumption | rfl) : Keep W s0 (State.settleSlot s a1 a2 a3).1 := by
  unfold State.settleSlot
  try dsimp only
  repeat' first
    | with_reducible assumption
    | with_reducible refine Keep.ite ?_ ?_
    | with_reducible apply State.setSlot_keep
    | with_reducible apply State.inc_keep
    | with_reducible apply State.pendingDone_keep
    | ((with_reducible refine Parts.blk_true ?_); first | exact w_b_request)
    | with_reducible refine Keep.iteFst ?_ ?_
    | (split <;> try dsimp only)

theorem State.closeSlot_keep {a1 a2 a3} (h : Keep W s0 s) (w_serve : W.serve = true := by first | assumption | rfl) (w_slots : W.slots = true := by first | assumption | rfl) (w_b_page : W.b_page = true := by first | assumption | rfl) : Keep W s0 (State.closeSlot s a1 a2 a3) := by
  unfold State.closeSlot
  try dsimp only
  repeat' first
    | with_reducible assumption
    | with_reducible refine Keep.ite ?_ ?_
    | with_reducible apply State.enter_keep
    | with_reducible apply State.setSlot_keep
    | (split <;> try dsimp only)

theorem State.settle_keep {a1 a2} (h : Keep W s0 s) (w_serve : W.serve = true := by first | assumption | rfl) (w_slots : W.slots = true := by first | assumption | rfl) (w_b_page : W.b_page = true := by first | assumption | rfl) (w_b_request : W.b_request = true := by first | assumption | rfl) : Keep W s0 (State.settle s a1 a2).1 := by
  unfold State.settle
  try dsimp only
  repeat' first
    | with_reducible assumption
    | with_reducible refine Keep.ite ?_ ?_
    | with_reducible apply State.settleSlot_keep
    | with_reducible apply State.closeSlot_keep
    | with_reducible refine Keep.iteFst ?_ ?_
    | with_reducible refine Keep.foldlFst ?_ ?_
    | (intro _; intros; try dsimp only)
    | (split <;> try dsimp only)
    | with_reducible refine Keep.foldl ?_ ?_

theorem State.writeRecords_keep {a1 a2 a3} (h : Keep W s0 s) (w_mem : W.mem = true := by first | assumption | rfl) (w_rings : W.rings = true := by first | assumption | rfl) (w_irqs : W.irqs = true := by first | assumption | rfl) (w_badUnits : W.badUnits = true := by first | assumption | rfl) (w_badRecord : W.badRecord = true := by first | assumption | rfl) (w_serve : W.serve = true := by first | assumption | rfl) (w_slots : W.slots = true := by first | assumption | rfl) (w_b_request : W.b_request = true := by first | assumption | rfl) (w_b_ring : W.b_ring = true := by first | assumption | rfl) (w_b_core : W.b_core = true := by first | assumption | rfl) : Keep W s0 (State.writeRecords s a1 a2 a3) := by
  unfold State.writeRecords
  try dsimp only
  repeat' first
    | with_reducible assumption
    | with_reducible refine Keep.ite ?_ ?_
    | with_reducible apply State.offer_keep
    | with_reducible apply State.reoffer_keep
    | (intro _; intros; try dsimp only)
    | with_reducible refine Keep.foldl ?_ ?_

theorem State.allocRow_keep {a1 a2 a3} (h : Keep W s0 s) (w_serve : W.serve = true := by first | assumption | rfl) (w_b_page : W.b_page = true := by first | assumption | rfl) : Keep W s0 (State.allocRow s a1 a2 a3) := by
  unfold State.allocRow
  try dsimp only
  repeat' first
    | with_reducible assumption
    | with_reducible refine Keep.ite ?_ ?_
    | with_reducible apply State.enter_keep
    | with_reducible apply State.bump_keep
    | with_reducible apply State.moveBook_keep
    | with_reducible apply State.updSrv_keep
    | ((with_reducible refine Parts.blk_true ?_); first | exact w_b_page)
    | (split <;> try dsimp only)

theorem State.pagesFor_keep {a1 a2 a3} (h : Keep W s0 s) (w_serve : W.serve = true := by first | assumption | rfl) (w_b_page : W.b_page = true := by first | assumption | rfl) : Keep W s0 (State.pagesFor s a1 a2 a3).1 := by
  unfold State.pagesFor
  try dsimp only
  repeat' first
    | with_reducible assumption
    | with_reducible refine Keep.ite ?_ ?_
    | with_reducible apply State.allocRow_keep
    | with_reducible refine Keep.iteFst ?_ ?_
    | with_reducible refine Keep.foldlFst ?_ ?_
    | (intro _; intros; try dsimp only)
    | (split <;> try dsimp only)
    | with_reducible refine Keep.foldl ?_ ?_

theorem State.composeDecode_keep {a1 a2 a3 a4 a5 a6} (h : Keep W s0 s) (w_serve : W.serve = true := by first | assumption | rfl) (w_b_page : W.b_page = true := by first | assumption | rfl) : Keep W s0 (State.composeDecode s a1 a2 a3 a4 a5 a6).1 := by
  unfold State.composeDecode
  try dsimp only
  repeat' first
    | with_reducible assumption
    | with_reducible refine Keep.ite ?_ ?_
    | with_reducible apply State.pagesFor_keep
    | with_reducible refine Keep.iteFst ?_ ?_
    | (split <;> try dsimp only)

theorem State.composePrefill_keep {a1 a2 a3 a4 a5 a6 a7} (h : Keep W s0 s) (w_serve : W.serve = true := by first | assumption | rfl) (w_b_page : W.b_page = true := by first | assumption | rfl) : Keep W s0 (State.composePrefill s a1 a2 a3 a4 a5 a6 a7).1 := by
  unfold State.composePrefill
  try dsimp only
  repeat' first
    | with_reducible assumption
    | with_reducible refine Keep.ite ?_ ?_
    | with_reducible apply State.pagesFor_keep
    | with_reducible refine Keep.iteFst ?_ ?_
    | (split <;> try dsimp only)

theorem State.evictRow_keep {a1 a2 a3} (h : Keep W s0 s) (w_serve : W.serve = true := by first | assumption | rfl) (w_slots : W.slots = true := by first | assumption | rfl) (w_b_page : W.b_page = true := by first | assumption | rfl) : Keep W s0 (State.evictRow s a1 a2 a3) := by
  unfold State.evictRow
  try dsimp only
  repeat' first
    | with_reducible assumption
    | with_reducible refine Keep.ite ?_ ?_
    | with_reducible apply State.enter_keep
    | with_reducible apply State.inc_keep
    | with_reducible apply State.moveBook_keep
    | with_reducible apply State.updSlot_keep
    | ((with_reducible refine Parts.blk_true ?_); first | exact w_b_page)

theorem State.makeRoom_keep {k n t l b} (h : Keep W s0 s) (w_serve : W.serve = true := by first | assumption | rfl) (w_slots : W.slots = true := by first | assumption | rfl) (w_b_page : W.b_page = true := by first | assumption | rfl) : Keep W s0 (State.makeRoom k s n t l b).1 := by
  induction k generalizing s with
  | zero => exact h
  | succ k ih =>
    unfold State.makeRoom
    try dsimp only
    refine Keep.iteFst h ?_
    split
    · exact h
    · refine ih (Keep.ite (Keep.foldl h fun u a hu => ?_) (State.evictRow_keep h))
      exact State.evictRow_keep hu

theorem State.abortTests_keep {a1} (h : Keep W s0 s) (w_fabric : W.fabric = true := by first | assumption | rfl) : Keep W s0 (State.abortTests s a1) := by
  unfold State.abortTests
  try dsimp only
  repeat' first
    | with_reducible assumption
    | with_reducible refine Keep.ite ?_ ?_
    | with_reducible apply State.setFabric_keep

theorem State.startStep_keep {a1 a2} (h : Keep W s0 s) (w_mem : W.mem = true := by first | assumption | rfl) (w_bbs : W.bbs = true := by first | assumption | rfl) (w_out : W.out = true := by first | assumption | rfl) (w_badUnits : W.badUnits = true := by first | assumption | rfl) (w_badRecord : W.badRecord = true := by first | assumption | rfl) (w_po : W.po = true := by first | assumption | rfl) (w_faults : W.faults = true := by first | assumption | rfl) (w_lease : W.lease = true := by first | assumption | rfl) (w_pages : W.pages = true := by first | assumption | rfl) (w_serve : W.serve = true := by first | assumption | rfl) (w_slots : W.slots = true := by first | assumption | rfl) (w_fabric : W.fabric = true := by first | assumption | rfl) (w_stk : W.stk = true := by first | assumption | rfl) (w_links : W.links = true := by first | assumption | rfl) (w_dbg : W.dbg = true := by first | assumption | rfl) (w_opc : W.opc = true := by first | assumption | rfl) (w_b_image : W.b_image = true := by first | assumption | rfl) (w_b_page : W.b_page = true := by first | assumption | rfl) (w_b_request : W.b_request = true := by first | assumption | rfl) (w_b_ddr4 : W.b_ddr4 = true := by first | assumption | rfl) (w_b_output : W.b_output = true := by first | assumption | rfl) (w_b_fault : W.b_fault = true := by first | assumption | rfl) (w_b_amber : W.b_amber = true := by first | assumption | rfl) (w_b_redundancy : W.b_redundancy = true := by first | assumption | rfl) (w_b_perf : W.b_perf = true := by first | assumption | rfl) : Keep W s0 (State.startStep s a1 a2) := by
  unfold State.startStep
  try dsimp only
  repeat' first
    | with_reducible assumption
    | with_reducible refine Keep.ite ?_ ?_
    | with_reducible apply State.updSlot_keep
    | with_reducible apply State.abortTests_keep
    | with_reducible apply State.updSrv_keep
    | with_reducible apply State.stopPartition_keep
    | with_reducible apply State.meetUnit_keep
    | with_reducible apply State.store_keep
    | with_reducible apply State.inc_keep
    | with_reducible apply State.wr_keep
    | ((with_reducible refine Parts.blk_true ?_); first | exact w_b_request)
    | (intro _; intros; try dsimp only)
    | (split <;> try dsimp only)
    | with_reducible refine Keep.foldl ?_ ?_

theorem State.lastResort_keep {a1 a2 a3} (h : Keep W s0 s) (w_mem : W.mem = true := by first | assumption | rfl) (w_rings : W.rings = true := by first | assumption | rfl) (w_irqs : W.irqs = true := by first | assumption | rfl) (w_badUnits : W.badUnits = true := by first | assumption | rfl) (w_badRecord : W.badRecord = true := by first | assumption | rfl) (w_serve : W.serve = true := by first | assumption | rfl) (w_slots : W.slots = true := by first | assumption | rfl) (w_b_page : W.b_page = true := by first | assumption | rfl) (w_b_request : W.b_request = true := by first | assumption | rfl) (w_b_ring : W.b_ring = true := by first | assumption | rfl) (w_b_core : W.b_core = true := by first | assumption | rfl) : Keep W s0 (State.lastResort s a1 a2 a3) := by
  unfold State.lastResort
  try dsimp only
  repeat' first
    | with_reducible assumption
    | with_reducible refine Keep.ite ?_ ?_
    | with_reducible apply State.makeRoom_keep
    | with_reducible apply State.updSlot_keep
    | with_reducible apply State.setB_keep
    | with_reducible apply State.closeSlot_keep
    | with_reducible apply State.writeRecords_keep
    | ((with_reducible refine Parts.blk_true ?_); first | exact w_b_request)
    | (split <;> try dsimp only)

theorem State.compose_keep {a1} (h : Keep W s0 s) (w_mem : W.mem = true := by first | assumption | rfl) (w_bbs : W.bbs = true := by first | assumption | rfl) (w_out : W.out = true := by first | assumption | rfl) (w_rings : W.rings = true := by first | assumption | rfl) (w_irqs : W.irqs = true := by first | assumption | rfl) (w_badUnits : W.badUnits = true := by first | assumption | rfl) (w_badRecord : W.badRecord = true := by first | assumption | rfl) (w_po : W.po = true := by first | assumption | rfl) (w_faults : W.faults = true := by first | assumption | rfl) (w_lease : W.lease = true := by first | assumption | rfl) (w_pages : W.pages = true := by first | assumption | rfl) (w_serve : W.serve = true := by first | assumption | rfl) (w_slots : W.slots = true := by first | assumption | rfl) (w_fabric : W.fabric = true := by first | assumption | rfl) (w_stk : W.stk = true := by first | assumption | rfl) (w_links : W.links = true := by first | assumption | rfl) (w_dbg : W.dbg = true := by first | assumption | rfl) (w_opc : W.opc = true := by first | assumption | rfl) (w_b_image : W.b_image = true := by first | assumption | rfl) (w_b_page : W.b_page = true := by first | assumption | rfl) (w_b_request : W.b_request = true := by first | assumption | rfl) (w_b_ring : W.b_ring = true := by first | assumption | rfl) (w_b_ddr4 : W.b_ddr4 = true := by first | assumption | rfl) (w_b_output : W.b_output = true := by first | assumption | rfl) (w_b_fault : W.b_fault = true := by first | assumption | rfl) (w_b_amber : W.b_amber = true := by first | assumption | rfl) (w_b_redundancy : W.b_redundancy = true := by first | assumption | rfl) (w_b_core : W.b_core = true := by first | assumption | rfl) (w_b_perf : W.b_perf = true := by first | assumption | rfl) : Keep W s0 (State.compose s a1) := by
  unfold State.compose
  split
  · exact h
  · refine Keep.ite h ?_
    extract_lets +onlyGivenNames tMax tb b p batch dec pre d c src c'
    have hc : Keep W s0 c.1 := Keep.foldlFst h fun u a hu => State.composeDecode_keep hu
    have hc' : Keep W s0 c'.1 := Keep.foldlFst (x := (_, _)) hc fun u a hu => State.composePrefill_keep hu
    clear_value src c'
    extract_lets +onlyGivenNames s1 low s2
    have h2 : Keep W s0 s2 := State.makeRoom_keep (State.count_keep (State.inc_keep hc'))
    clear_value s1 s2
    refine Keep.ite (State.startStep_keep h2) ?_
    split
    · exact h2
    · exact State.lastResort_keep h2

theorem State.discardBoundary_keep {a1} (h : Keep W s0 s) (w_mem : W.mem = true := by first | assumption | rfl) (w_bbs : W.bbs = true := by first | assumption | rfl) (w_out : W.out = true := by first | assumption | rfl) (w_rings : W.rings = true := by first | assumption | rfl) (w_irqs : W.irqs = true := by first | assumption | rfl) (w_badUnits : W.badUnits = true := by first | assumption | rfl) (w_badRecord : W.badRecord = true := by first | assumption | rfl) (w_po : W.po = true := by first | assumption | rfl) (w_faults : W.faults = true := by first | assumption | rfl) (w_pages : W.pages = true := by first | assumption | rfl) (w_serve : W.serve = true := by first | assumption | rfl) (w_slots : W.slots = true := by first | assumption | rfl) (w_fabric : W.fabric = true := by first | assumption | rfl) (w_stk : W.stk = true := by first | assumption | rfl) (w_dbg : W.dbg = true := by first | assumption | rfl) (w_opc : W.opc = true := by first | assumption | rfl) (w_b_page : W.b_page = true := by first | assumption | rfl) (w_b_request : W.b_request = true := by first | assumption | rfl) (w_b_ring : W.b_ring = true := by first | assumption | rfl) (w_b_output : W.b_output = true := by first | assumption | rfl) (w_b_fault : W.b_fault = true := by first | assumption | rfl) (w_b_amber : W.b_amber = true := by first | assumption | rfl) (w_b_core : W.b_core = true := by first | assumption | rfl) (w_b_perf : W.b_perf = true := by first | assumption | rfl) : Keep W s0 (State.discardBoundary s a1) := by
  unfold State.discardBoundary
  try dsimp only
  repeat' first
    | with_reducible assumption
    | with_reducible refine Keep.ite ?_ ?_
    | with_reducible apply State.stopClusters_keep
    | with_reducible apply State.stepDiscarded_keep
    | with_reducible apply State.requeue_keep
    | with_reducible apply State.settle_keep
    | with_reducible apply State.updSrv_keep
    | with_reducible apply State.advance_keep
    | with_reducible apply State.afterAdvance_keep
    | with_reducible apply State.writeRecords_keep
    | (split <;> try dsimp only)

theorem State.settleIdle_keep {a1} (h : Keep W s0 s) (w_mem : W.mem = true := by first | assumption | rfl) (w_rings : W.rings = true := by first | assumption | rfl) (w_irqs : W.irqs = true := by first | assumption | rfl) (w_badUnits : W.badUnits = true := by first | assumption | rfl) (w_badRecord : W.badRecord = true := by first | assumption | rfl) (w_serve : W.serve = true := by first | assumption | rfl) (w_slots : W.slots = true := by first | assumption | rfl) (w_b_page : W.b_page = true := by first | assumption | rfl) (w_b_request : W.b_request = true := by first | assumption | rfl) (w_b_ring : W.b_ring = true := by first | assumption | rfl) (w_b_core : W.b_core = true := by first | assumption | rfl) : Keep W s0 (State.settleIdle s a1) := by
  unfold State.settleIdle
  try dsimp only
  repeat' first
    | with_reducible assumption
    | with_reducible refine Keep.ite ?_ ?_
    | with_reducible apply State.settle_keep
    | with_reducible apply State.afterAdvance_keep
    | with_reducible apply State.writeRecords_keep

theorem State.commitStep_keep {a1 a2 a3} (h : Keep W s0 s) (w_mem : W.mem = true := by first | assumption | rfl) (w_bbs : W.bbs = true := by first | assumption | rfl) (w_out : W.out = true := by first | assumption | rfl) (w_rings : W.rings = true := by first | assumption | rfl) (w_irqs : W.irqs = true := by first | assumption | rfl) (w_badUnits : W.badUnits = true := by first | assumption | rfl) (w_badRecord : W.badRecord = true := by first | assumption | rfl) (w_reruns : W.reruns = true := by first | assumption | rfl) (w_po : W.po = true := by first | assumption | rfl) (w_faults : W.faults = true := by first | assumption | rfl) (w_lease : W.lease = true := by first | assumption | rfl) (w_pages : W.pages = true := by first | assumption | rfl) (w_serve : W.serve = true := by first | assumption | rfl) (w_slots : W.slots = true := by first | assumption | rfl) (w_fabric : W.fabric = true := by first | assumption | rfl) (w_stk : W.stk = true := by first | assumption | rfl) (w_links : W.links = true := by first | assumption | rfl) (w_dbg : W.dbg = true := by first | assumption | rfl) (w_opc : W.opc = true := by first | assumption | rfl) (w_b_image : W.b_image = true := by first | assumption | rfl) (w_b_page : W.b_page = true := by first | assumption | rfl) (w_b_request : W.b_request = true := by first | assumption | rfl) (w_b_ring : W.b_ring = true := by first | assumption | rfl) (w_b_ddr4 : W.b_ddr4 = true := by first | assumption | rfl) (w_b_output : W.b_output = true := by first | assumption | rfl) (w_b_fault : W.b_fault = true := by first | assumption | rfl) (w_b_amber : W.b_amber = true := by first | assumption | rfl) (w_b_redundancy : W.b_redundancy = true := by first | assumption | rfl) (w_b_core : W.b_core = true := by first | assumption | rfl) (w_b_perf : W.b_perf = true := by first | assumption | rfl) : Keep W s0 (State.commitStep s a1 a2 a3) := by
  unfold State.commitStep
  extract_lets +onlyGivenNames spec r writes
  have hr : Keep W s0 r.1 := Keep.foldlFst h fun u a hu => State.commitSeg_keep hu
  clear_value r writes
  split
  · exact State.stopPartition_keep (State.meetUnit_keep h)
  · extract_lets +onlyGivenNames q done
    have hq : Keep W s0 q.1 := State.settle_keep hr
    clear_value q done
    try dsimp only
    refine State.afterAdvance_keep (State.writeRecords_keep (Keep.foldl ?_ fun u a hu => State.ddrPut_keep hu))
    exact State.tally_keep (State.count_keep (State.tally_keep (State.count_keep (State.clearReruns_keep (State.updSrv_keep
      (State.advance_keep hq))))))

end Sys2Proof.Machine
end

