-- ==== Sys2Proof/Laws/KeepPartOps.lean ====
section
/-! SUPPORT. What the operations of Machine/PartOps.lean keep: one lemma per operation. -/

namespace Sys2Proof.Machine

-- One proof at a time: the package is compiled as one text under a memory limit.
set_option Elab.async false

set_option linter.all false

variable {W : Parts} {s0 s : State}

theorem State.finishZero_keep {a1} (h : Keep W s0 s) (w_pages : W.pages = true := by first | assumption | rfl) (w_b_page : W.b_page = true := by first | assumption | rfl) : Keep W s0 (State.finishZero s a1) := by
  unfold State.finishZero
  try dsimp only
  repeat' first
    | with_reducible assumption
    | with_reducible refine Keep.ite ?_ ?_
    | with_reducible apply State.moveBook_keep
    | with_reducible apply State.setPage_keep
    | (intro _; intros; try dsimp only)
    | (split <;> try dsimp only)
    | with_reducible refine Keep.foldl ?_ ?_
    | with_reducible refine Keep.upd_pages (h := ?_)

theorem State.clearServing_keep {a1} (h : Keep W s0 s) (w_pages : W.pages = true := by first | assumption | rfl) (w_serve : W.serve = true := by first | assumption | rfl) (w_slots : W.slots = true := by first | assumption | rfl) (w_b_page : W.b_page = true := by first | assumption | rfl) : Keep W s0 (State.clearServing s a1) := by
  unfold State.clearServing
  try dsimp only
  repeat' first
    | with_reducible assumption
    | with_reducible refine Keep.ite ?_ ?_
    | with_reducible apply State.finishZero_keep
    | with_reducible apply State.setPage_keep
    | with_reducible apply State.moveBook_keep
    | with_reducible apply State.setSlot_keep
    | with_reducible apply State.rstReg_keep
    | with_reducible apply State.setSrv_keep
    | with_reducible apply State.pageCmdDone_keep
    | ((with_reducible refine Parts.blk_true ?_); first | exact w_b_page)
    | (intro _; intros; try dsimp only)
    | (split <;> try dsimp only)
    | with_reducible refine Keep.foldl ?_ ?_
    | ((with_reducible refine Parts.blk_true ?_); rw [bookFld_block]; assumption)

theorem State.startServing_keep {a1} (h : Keep W s0 s) (w_pages : W.pages = true := by first | assumption | rfl) (w_serve : W.serve = true := by first | assumption | rfl) (w_slots : W.slots = true := by first | assumption | rfl) (w_perf : W.perf = true := by first | assumption | rfl) (w_b_page : W.b_page = true := by first | assumption | rfl) (w_b_request : W.b_request = true := by first | assumption | rfl) (w_b_power : W.b_power = true := by first | assumption | rfl) (w_b_perf : W.b_perf = true := by first | assumption | rfl) : Keep W s0 (State.startServing s a1) := by
  unfold State.startServing
  try dsimp only
  repeat' first
    | with_reducible assumption
    | with_reducible refine Keep.ite ?_ ?_
    | with_reducible apply State.rstReg_keep
    | with_reducible apply State.setSrv_keep
    | with_reducible apply State.updSrv_keep
    | with_reducible apply State.setSlot_keep
    | with_reducible apply State.clearPerf_keep
    | with_reducible apply State.wr_keep
    | with_reducible apply State.setPage_keep
    | with_reducible apply State.moveBook_keep
    | ((with_reducible refine Parts.blk_true ?_); first | exact w_b_page | exact w_b_power | exact w_b_request)
    | (intro _; intros; try dsimp only)
    | (split <;> try dsimp only)
    | with_reducible refine Keep.foldl ?_ ?_

theorem State.resetCores_keep {a1} (h : Keep W s0 s) (w_irqs : W.irqs = true := by first | assumption | rfl) (w_cores : W.cores = true := by first | assumption | rfl) (w_b_core : W.b_core = true := by first | assumption | rfl) : Keep W s0 (State.resetCores s a1) := by
  unfold State.resetCores
  try dsimp only
  repeat' first
    | with_reducible assumption
    | with_reducible refine Keep.ite ?_ ?_
    | with_reducible apply State.wr_keep
    | ((with_reducible refine Parts.blk_true ?_); first | exact w_b_core)
    | (intro _; intros; try dsimp only)
    | with_reducible refine Keep.foldl ?_ ?_
    | with_reducible refine Keep.upd_irqs_cores (h := ?_)

theorem State.startCores_keep {a1} (h : Keep W s0 s) (w_cores : W.cores = true := by first | assumption | rfl) (w_b_core : W.b_core = true := by first | assumption | rfl) : Keep W s0 (State.startCores s a1) := by
  unfold State.startCores
  try dsimp only
  repeat' first
    | with_reducible assumption
    | with_reducible refine Keep.ite ?_ ?_
    | with_reducible apply State.wr_keep
    | ((with_reducible refine Parts.blk_true ?_); first | exact w_b_core)
    | (intro _; intros; try dsimp only)
    | (split <;> try dsimp only)
    | with_reducible refine Keep.foldl ?_ ?_
    | with_reducible refine Keep.upd_cores (h := ?_)

theorem State.resetVc_keep {a1 a2} (h : Keep W s0 s) (w_out : W.out = true := by first | assumption | rfl) (w_links : W.links = true := by first | assumption | rfl) : Keep W s0 (State.resetVc s a1 a2) := by
  unfold State.resetVc
  try dsimp only
  repeat' first
    | with_reducible assumption
    | with_reducible refine Keep.ite ?_ ?_
    | with_reducible apply State.updLport_keep
    | with_reducible apply State.linkFree_keep
    | with_reducible apply State.sendHop_keep
    | with_reducible refine Keep.foldlFst ?_ ?_
    | (intro _; intros; try dsimp only)
    | (split <;> try dsimp only)
    | with_reducible refine Keep.foldl ?_ ?_

theorem State.retireInflight_keep {a1} (h : Keep W s0 s) (w_out : W.out = true := by first | assumption | rfl) (w_links : W.links = true := by first | assumption | rfl) : Keep W s0 (State.retireInflight s a1).1 := by
  unfold State.retireInflight
  try dsimp only
  repeat' first
    | with_reducible assumption
    | with_reducible refine Keep.ite ?_ ?_
    | with_reducible apply State.resetVc_keep
    | with_reducible refine Keep.iteFst ?_ ?_
    | with_reducible refine Keep.foldlFst ?_ ?_
    | (intro _; intros; try dsimp only)
    | with_reducible refine Keep.foldl ?_ ?_

theorem State.applyPages_keep {a1 a2} (h : Keep W s0 s) (w_pages : W.pages = true := by first | assumption | rfl) (w_b_page : W.b_page = true := by first | assumption | rfl) : Keep W s0 (State.applyPages s a1 a2) := by
  unfold State.applyPages
  try dsimp only
  repeat' first
    | with_reducible assumption
    | with_reducible refine Keep.ite ?_ ?_
    | with_reducible apply State.wr_keep
    | with_reducible apply State.rstReg_keep
    | ((with_reducible refine Parts.blk_true ?_); first | exact w_b_page)
    | (intro _; intros; try dsimp only)
    | (split <;> try dsimp only)
    | with_reducible refine Keep.foldl ?_ ?_
    | with_reducible refine Keep.upd_pages (h := ?_)

theorem State.applyCores_keep {a1 a2} (h : Keep W s0 s) (w_irqs : W.irqs = true := by first | assumption | rfl) (w_cores : W.cores = true := by first | assumption | rfl) (w_b_core : W.b_core = true := by first | assumption | rfl) : Keep W s0 (State.applyCores s a1 a2) := by
  unfold State.applyCores
  try dsimp only
  repeat' first
    | with_reducible assumption
    | with_reducible refine Keep.ite ?_ ?_
    | with_reducible apply State.wr_keep
    | ((with_reducible refine Parts.blk_true ?_); first | exact w_b_core)
    | (intro _; intros; try dsimp only)
    | (split <;> try dsimp only)
    | with_reducible refine Keep.foldl ?_ ?_
    | with_reducible refine Keep.upd_irqs_cores (h := ?_)

theorem State.retireClusters_keep (h : Keep W s0 s) (w_bbs : W.bbs = true := by first | assumption | rfl) (w_fabric : W.fabric = true := by first | assumption | rfl) : Keep W s0 (State.retireClusters s) := by
  unfold State.retireClusters
  try dsimp only
  repeat' first
    | with_reducible assumption
    | with_reducible refine Keep.ite ?_ ?_
    | with_reducible apply State.bbsPut_keep
    | with_reducible apply State.setFabric_keep
    | (intro _; intros; try dsimp only)
    | with_reducible refine Keep.foldl ?_ ?_

end Sys2Proof.Machine
end

