-- ==== Sys2Proof/Laws/KeepStructure.lean ====
section
/-! SUPPORT. What the operations of Machine/Structure.lean keep: one lemma per operation. -/

namespace Sys2Proof.Machine

-- One proof at a time: the package is compiled as one text under a memory limit.
set_option Elab.async false

set_option linter.all false

variable {W : Parts} {s0 s : State}

theorem State.setNypra_keep {a1 a2} (h : Keep W s0 s) (w_b_nypra : W.b_nypra = true := by first | assumption | rfl) : Keep W s0 (State.setNypra s a1 a2) := by
  unfold State.setNypra
  try dsimp only
  repeat' first
    | with_reducible assumption
    | with_reducible refine Keep.ite ?_ ?_
    | with_reducible apply State.wr_keep
    | ((with_reducible refine Parts.blk_true ?_); first | exact w_b_nypra)

theorem State.nypraCommand_keep {m f} (h : Keep W s0 s) (hf : ∀ u, Keep W s0 u → Keep W s0 (f u)) (w_bbs : W.bbs = true := by first | assumption | rfl) (w_out : W.out = true := by first | assumption | rfl) (w_po : W.po = true := by first | assumption | rfl) (w_faults : W.faults = true := by first | assumption | rfl) (w_lease : W.lease = true := by first | assumption | rfl) (w_pages : W.pages = true := by first | assumption | rfl) (w_serve : W.serve = true := by first | assumption | rfl) (w_slots : W.slots = true := by first | assumption | rfl) (w_fabric : W.fabric = true := by first | assumption | rfl) (w_stk : W.stk = true := by first | assumption | rfl) (w_links : W.links = true := by first | assumption | rfl) (w_dbg : W.dbg = true := by first | assumption | rfl) (w_opc : W.opc = true := by first | assumption | rfl) (w_b_nypra : W.b_nypra = true := by first | assumption | rfl) (w_b_image : W.b_image = true := by first | assumption | rfl) (w_b_page : W.b_page = true := by first | assumption | rfl) (w_b_output : W.b_output = true := by first | assumption | rfl) (w_b_fault : W.b_fault = true := by first | assumption | rfl) (w_b_amber : W.b_amber = true := by first | assumption | rfl) (w_b_redundancy : W.b_redundancy = true := by first | assumption | rfl) (w_b_perf : W.b_perf = true := by first | assumption | rfl) : KeepR W s0 (State.nypraCommand s m f) :=
  guardHcs_keep h fun u hu => Keep.ite (State.setB_keep hu) (hf u hu)

theorem State.setStruct_keep {a1} (h : Keep W s0 s) (w_struct : W.struct = true := by first | assumption | rfl) : Keep W s0 (State.setStruct s a1) := by
  unfold State.setStruct
  try dsimp only
  repeat' first
    | with_reducible assumption
    | with_reducible refine Keep.ite ?_ ?_
    | with_reducible refine Keep.upd_struct (h := ?_)

theorem execVerify_keep {a1} (h : Keep W s0 s) (w_bbs : W.bbs = true := by first | assumption | rfl) (w_out : W.out = true := by first | assumption | rfl) (w_struct : W.struct = true := by first | assumption | rfl) (w_badRecord : W.badRecord = true := by first | assumption | rfl) (w_po : W.po = true := by first | assumption | rfl) (w_faults : W.faults = true := by first | assumption | rfl) (w_lease : W.lease = true := by first | assumption | rfl) (w_pages : W.pages = true := by first | assumption | rfl) (w_serve : W.serve = true := by first | assumption | rfl) (w_slots : W.slots = true := by first | assumption | rfl) (w_fabric : W.fabric = true := by first | assumption | rfl) (w_stk : W.stk = true := by first | assumption | rfl) (w_links : W.links = true := by first | assumption | rfl) (w_dbg : W.dbg = true := by first | assumption | rfl) (w_opc : W.opc = true := by first | assumption | rfl) (w_b_nypra : W.b_nypra = true := by first | assumption | rfl) (w_b_image : W.b_image = true := by first | assumption | rfl) (w_b_page : W.b_page = true := by first | assumption | rfl) (w_b_ddr4 : W.b_ddr4 = true := by first | assumption | rfl) (w_b_output : W.b_output = true := by first | assumption | rfl) (w_b_fault : W.b_fault = true := by first | assumption | rfl) (w_b_amber : W.b_amber = true := by first | assumption | rfl) (w_b_redundancy : W.b_redundancy = true := by first | assumption | rfl) (w_b_perf : W.b_perf = true := by first | assumption | rfl) : KeepR W s0 (execVerify a1 s) := by
  unfold execVerify
  try dsimp only
  repeat' first
    | with_reducible assumption
    | with_reducible refine Keep.ite ?_ ?_
    | with_reducible refine KeepR.ite ?_ ?_
    | with_reducible refine KeepR.next ?_
    | with_reducible apply State.nypraCommand_keep
    | with_reducible apply State.meetUnit_keep
    | with_reducible apply State.setStruct_keep
    | with_reducible apply State.setNypra_keep
    | with_reducible apply State.wr_keep
    | ((with_reducible refine Parts.blk_true ?_); first | exact w_b_nypra)
    | (intro _; intros; try dsimp only)
    | (split <;> try dsimp only)

theorem State.nypraRefuse_keep {a1 a2} (h : Keep W s0 s) (w_b_nypra : W.b_nypra = true := by first | assumption | rfl) : Keep W s0 (State.nypraRefuse s a1 a2) := by
  unfold State.nypraRefuse
  try dsimp only
  repeat' first
    | with_reducible assumption
    | with_reducible refine Keep.ite ?_ ?_
    | with_reducible apply State.setB_keep
    | with_reducible apply State.setNypra_keep
    | with_reducible apply State.wr_keep
    | ((with_reducible refine Parts.blk_true ?_); first | exact w_b_nypra)

theorem execVerifyDone_keep (h : Keep W s0 s) (w_struct : W.struct = true := by first | assumption | rfl) (w_b_nypra : W.b_nypra = true := by first | assumption | rfl) : KeepR W s0 (execVerifyDone s) := by
  unfold execVerifyDone
  try dsimp only
  repeat' first
    | with_reducible assumption
    | with_reducible refine Keep.ite ?_ ?_
    | with_reducible refine KeepR.ite ?_ ?_
    | with_reducible refine KeepR.next ?_
    | with_reducible apply State.nypraRefuse_keep
    | with_reducible apply State.setStruct_keep
    | with_reducible apply State.setB_keep
    | with_reducible apply State.setNypra_keep
    | ((with_reducible refine Parts.blk_true ?_); first | exact w_b_nypra)
    | (split <;> try dsimp only)

theorem State.loadEnds_keep {a1 a2 a3} (h : Keep W s0 s) (w_wparts : W.wparts = true := by first | assumption | rfl) (w_b_image : W.b_image = true := by first | assumption | rfl) : Keep W s0 (State.loadEnds s a1 a2 a3) := by
  unfold State.loadEnds
  try dsimp only
  repeat' first
    | with_reducible assumption
    | with_reducible refine Keep.ite ?_ ?_
    | with_reducible apply State.setWpart_keep
    | with_reducible apply State.wr_keep
    | with_reducible apply State.setB_keep
    | ((with_reducible refine Parts.blk_true ?_); first | exact w_b_image)
    | (split <;> try dsimp only)

theorem State.scrubChanged_keep {a1 a2} (h : Keep W s0 s) (w_mem : W.mem = true := by first | assumption | rfl) (w_badUnits : W.badUnits = true := by first | assumption | rfl) (w_badRecord : W.badRecord = true := by first | assumption | rfl) : Keep W s0 (State.scrubChanged s a1 a2) := by
  unfold State.scrubChanged
  try dsimp only
  repeat' first
    | with_reducible assumption
    | with_reducible refine Keep.ite ?_ ?_
    | with_reducible apply State.zeroWhere_keep
    | with_reducible refine Keep.upd_badUnits_badRecord (h := ?_)

theorem State.applyRings_keep {a1} (h : Keep W s0 s) (w_rings : W.rings = true := by first | assumption | rfl) (w_links : W.links = true := by first | assumption | rfl) (w_b_ring : W.b_ring = true := by first | assumption | rfl) : Keep W s0 (State.applyRings s a1) := by
  unfold State.applyRings
  try dsimp only
  repeat' first
    | with_reducible assumption
    | with_reducible refine Keep.ite ?_ ?_
    | with_reducible apply State.wr_keep
    | with_reducible apply State.setRing_keep
    | with_reducible apply State.disableRing_keep
    | ((with_reducible refine Parts.blk_true ?_); first | exact w_b_ring)
    | with_reducible refine Keep.foldlFst ?_ ?_
    | (intro _; intros; try dsimp only)
    | (split <;> try dsimp only)
    | with_reducible refine Keep.foldl ?_ ?_

theorem State.applyChannels_keep {o n} (h : Keep W s0 s) (w_po : W.po = true := by first | assumption | rfl) (w_cv : W.cv = true := by first | assumption | rfl) (w_b_output : W.b_output = true := by first | assumption | rfl) (w_b_checkValue : W.b_checkValue = true := by first | assumption | rfl) : Keep W s0 (State.applyChannels s o n) := by
  refine Keep.foldl h fun u k hu => ?_
  have hp : ∀ v, Keep W s0 v → Keep W s0 ([RegId.PO_DEST, .PO_LINK, .PO_BUF, .PO_CFG, .PO_TX, .PO_STATE].foldl (fun s r => s.rstReg r k) v) :=
    fun v hv => by
      simp only [List.foldl_cons, List.foldl_nil]
      repeat' first
        | with_reducible assumption
        | with_reducible apply State.rstReg_keep
        | ((with_reducible refine Parts.blk_true ?_); with_unfolding_all assumption)
  have hc : ∀ v, Keep W s0 v → Keep W s0 ([RegId.CV_CFG, .CV_DATA_ID, .CV_INIT, .CV_XOROUT, .CV_SCAN_ADDR, .CV_SCAN_LEN, .CV_RESULT,
      .CV_STAT].foldl (fun s r => s.rstReg r k) v) := fun v hv => by
    simp only [List.foldl_cons, List.foldl_nil]
    repeat' first
      | with_reducible assumption
      | with_reducible apply State.rstReg_keep
      | ((with_reducible refine Parts.blk_true ?_); with_unfolding_all assumption)
  dsimp only
  have hu' := Keep.ite (c := o.po.getD k 0xFF = n.po.getD k 0xFF) hu (State.setPo_keep (a1 := k) (a2 := {}) (hp u hu))
  exact Keep.ite hu' (State.setCv_keep (hc _ hu'))

theorem execApply_keep {a1} (h : Keep W s0 s) (w_mem : W.mem = true := by first | assumption | rfl) (w_bbs : W.bbs = true := by first | assumption | rfl) (w_out : W.out = true := by first | assumption | rfl) (w_struct : W.struct = true := by first | assumption | rfl) (w_wparts : W.wparts = true := by first | assumption | rfl) (w_rings : W.rings = true := by first | assumption | rfl) (w_irqs : W.irqs = true := by first | assumption | rfl) (w_badUnits : W.badUnits = true := by first | assumption | rfl) (w_badRecord : W.badRecord = true := by first | assumption | rfl) (w_po : W.po = true := by first | assumption | rfl) (w_cv : W.cv = true := by first | assumption | rfl) (w_faults : W.faults = true := by first | assumption | rfl) (w_lease : W.lease = true := by first | assumption | rfl) (w_sec : W.sec = true := by first | assumption | rfl) (w_pages : W.pages = true := by first | assumption | rfl) (w_serve : W.serve = true := by first | assumption | rfl) (w_slots : W.slots = true := by first | assumption | rfl) (w_fabric : W.fabric = true := by first | assumption | rfl) (w_stk : W.stk = true := by first | assumption | rfl) (w_links : W.links = true := by first | assumption | rfl) (w_video : W.video = true := by first | assumption | rfl) (w_cores : W.cores = true := by first | assumption | rfl) (w_dbg : W.dbg = true := by first | assumption | rfl) (w_opc : W.opc = true := by first | assumption | rfl) (w_b_nypra : W.b_nypra = true := by first | assumption | rfl) (w_b_part : W.b_part = true := by first | assumption | rfl) (w_b_image : W.b_image = true := by first | assumption | rfl) (w_b_page : W.b_page = true := by first | assumption | rfl) (w_b_ring : W.b_ring = true := by first | assumption | rfl) (w_b_output : W.b_output = true := by first | assumption | rfl) (w_b_checkValue : W.b_checkValue = true := by first | assumption | rfl) (w_b_video : W.b_video = true := by first | assumption | rfl) (w_b_security : W.b_security = true := by first | assumption | rfl) (w_b_fault : W.b_fault = true := by first | assumption | rfl) (w_b_amber : W.b_amber = true := by first | assumption | rfl) (w_b_redundancy : W.b_redundancy = true := by first | assumption | rfl) (w_b_core : W.b_core = true := by first | assumption | rfl) (w_b_perf : W.b_perf = true := by first | assumption | rfl) : KeepR W s0 (execApply a1 s) := by
  unfold execApply
  try dsimp only
  repeat' first
    | with_reducible assumption
    | with_reducible refine Keep.ite ?_ ?_
    | with_reducible refine KeepR.ite ?_ ?_
    | with_reducible refine KeepR.next ?_
    | with_reducible apply State.nypraCommand_keep
    | with_reducible apply State.setB_keep
    | with_reducible apply State.nypraRefuse_keep
    | with_reducible apply State.loadEnds_keep
    | with_reducible apply State.setStruct_keep
    | with_reducible apply State.advanceEpoch_keep
    | with_reducible apply State.setPstate_keep
    | with_reducible apply State.applyPages_keep
    | with_reducible apply State.applyChannels_keep
    | with_reducible apply State.applyRings_keep
    | with_reducible apply State.scrubChanged_keep
    | with_reducible apply State.applyCores_keep
    | with_reducible apply State.applyVideo_keep
    | with_reducible apply State.setNypra_keep
    | ((with_reducible refine Parts.blk_true ?_); first | exact w_b_nypra)
    | with_reducible refine Keep.foldlFst ?_ ?_
    | (intro _; intros; try dsimp only)
    | (split <;> try dsimp only)
    | with_reducible refine Keep.foldl ?_ ?_

theorem execApplyScrubDone_keep (h : Keep W s0 s) (w_struct : W.struct = true := by first | assumption | rfl) (w_b_part : W.b_part = true := by first | assumption | rfl) : KeepR W s0 (execApplyScrubDone s) := by
  unfold execApplyScrubDone
  try dsimp only
  repeat' first
    | with_reducible assumption
    | with_reducible refine Keep.ite ?_ ?_
    | with_reducible refine KeepR.ite ?_ ?_
    | with_reducible refine KeepR.next ?_
    | with_reducible apply State.setStruct_keep
    | with_reducible apply State.setPstate_keep
    | (intro _; intros; try dsimp only)
    | (split <;> try dsimp only)
    | with_reducible refine Keep.foldl ?_ ?_

theorem execApplyDone_keep (h : Keep W s0 s) (w_bbs : W.bbs = true := by first | assumption | rfl) (w_out : W.out = true := by first | assumption | rfl) (w_struct : W.struct = true := by first | assumption | rfl) (w_po : W.po = true := by first | assumption | rfl) (w_lease : W.lease = true := by first | assumption | rfl) (w_sec : W.sec = true := by first | assumption | rfl) (w_fabric : W.fabric = true := by first | assumption | rfl) (w_links : W.links = true := by first | assumption | rfl) (w_opc : W.opc = true := by first | assumption | rfl) (w_b_nypra : W.b_nypra = true := by first | assumption | rfl) (w_b_output : W.b_output = true := by first | assumption | rfl) (w_b_redundancy : W.b_redundancy = true := by first | assumption | rfl) (w_b_perf : W.b_perf = true := by first | assumption | rfl) : KeepR W s0 (execApplyDone s) := by
  unfold execApplyDone
  try dsimp only
  repeat' first
    | with_reducible assumption
    | with_reducible refine Keep.ite ?_ ?_
    | with_reducible refine KeepR.ite ?_ ?_
    | with_reducible refine KeepR.next ?_
    | with_reducible apply State.giveUpLease_keep
    | with_reducible apply State.setStruct_keep
    | with_reducible apply State.wr_keep
    | with_reducible apply State.incWrap_keep
    | with_reducible apply State.retireClusters_keep
    | with_reducible apply State.initLease_keep
    | with_reducible apply State.setB_keep
    | with_reducible apply State.setNypra_keep
    | ((with_reducible refine Parts.blk_true ?_); first | exact w_b_nypra)
    | (split <;> try dsimp only)
    | with_reducible refine Keep.upd_sec (h := ?_)

theorem execDiscard_keep {a1} (h : Keep W s0 s) (w_bbs : W.bbs = true := by first | assumption | rfl) (w_out : W.out = true := by first | assumption | rfl) (w_struct : W.struct = true := by first | assumption | rfl) (w_po : W.po = true := by first | assumption | rfl) (w_faults : W.faults = true := by first | assumption | rfl) (w_lease : W.lease = true := by first | assumption | rfl) (w_pages : W.pages = true := by first | assumption | rfl) (w_serve : W.serve = true := by first | assumption | rfl) (w_slots : W.slots = true := by first | assumption | rfl) (w_fabric : W.fabric = true := by first | assumption | rfl) (w_stk : W.stk = true := by first | assumption | rfl) (w_links : W.links = true := by first | assumption | rfl) (w_dbg : W.dbg = true := by first | assumption | rfl) (w_opc : W.opc = true := by first | assumption | rfl) (w_b_nypra : W.b_nypra = true := by first | assumption | rfl) (w_b_image : W.b_image = true := by first | assumption | rfl) (w_b_page : W.b_page = true := by first | assumption | rfl) (w_b_output : W.b_output = true := by first | assumption | rfl) (w_b_fault : W.b_fault = true := by first | assumption | rfl) (w_b_amber : W.b_amber = true := by first | assumption | rfl) (w_b_redundancy : W.b_redundancy = true := by first | assumption | rfl) (w_b_perf : W.b_perf = true := by first | assumption | rfl) : KeepR W s0 (execDiscard a1 s) := by
  unfold execDiscard
  try dsimp only
  repeat' first
    | with_reducible assumption
    | with_reducible refine Keep.ite ?_ ?_
    | with_reducible refine KeepR.ite ?_ ?_
    | with_reducible refine KeepR.next ?_
    | with_reducible apply State.nypraCommand_keep
    | with_reducible apply State.setNypra_keep
    | with_reducible apply State.setStruct_keep
    | (intro _; intros; try dsimp only)

theorem execRemove_keep {a1 a2} (h : Keep W s0 s) (w_bbs : W.bbs = true := by first | assumption | rfl) (w_out : W.out = true := by first | assumption | rfl) (w_struct : W.struct = true := by first | assumption | rfl) (w_wparts : W.wparts = true := by first | assumption | rfl) (w_rings : W.rings = true := by first | assumption | rfl) (w_irqs : W.irqs = true := by first | assumption | rfl) (w_po : W.po = true := by first | assumption | rfl) (w_cv : W.cv = true := by first | assumption | rfl) (w_faults : W.faults = true := by first | assumption | rfl) (w_lease : W.lease = true := by first | assumption | rfl) (w_sec : W.sec = true := by first | assumption | rfl) (w_pages : W.pages = true := by first | assumption | rfl) (w_serve : W.serve = true := by first | assumption | rfl) (w_slots : W.slots = true := by first | assumption | rfl) (w_fabric : W.fabric = true := by first | assumption | rfl) (w_stk : W.stk = true := by first | assumption | rfl) (w_links : W.links = true := by first | assumption | rfl) (w_video : W.video = true := by first | assumption | rfl) (w_cores : W.cores = true := by first | assumption | rfl) (w_dbg : W.dbg = true := by first | assumption | rfl) (w_opc : W.opc = true := by first | assumption | rfl) (w_b_nypra : W.b_nypra = true := by first | assumption | rfl) (w_b_part : W.b_part = true := by first | assumption | rfl) (w_b_image : W.b_image = true := by first | assumption | rfl) (w_b_page : W.b_page = true := by first | assumption | rfl) (w_b_ring : W.b_ring = true := by first | assumption | rfl) (w_b_output : W.b_output = true := by first | assumption | rfl) (w_b_checkValue : W.b_checkValue = true := by first | assumption | rfl) (w_b_video : W.b_video = true := by first | assumption | rfl) (w_b_security : W.b_security = true := by first | assumption | rfl) (w_b_fault : W.b_fault = true := by first | assumption | rfl) (w_b_amber : W.b_amber = true := by first | assumption | rfl) (w_b_redundancy : W.b_redundancy = true := by first | assumption | rfl) (w_b_core : W.b_core = true := by first | assumption | rfl) (w_b_perf : W.b_perf = true := by first | assumption | rfl) : KeepR W s0 (execRemove a1 a2 s) := by
  unfold execRemove
  try dsimp only
  repeat' first
    | with_reducible assumption
    | with_reducible refine Keep.ite ?_ ?_
    | with_reducible refine KeepR.ite ?_ ?_
    | with_reducible refine KeepR.next ?_
    | with_reducible apply State.nypraCommand_keep
    | with_reducible apply State.setB_keep
    | with_reducible apply State.loadEnds_keep
    | with_reducible apply State.abortTests_keep
    | with_reducible apply State.stopClusters_keep
    | with_reducible apply State.discardStep_keep
    | with_reducible apply State.wr_keep
    | with_reducible apply State.setPstate_keep
    | with_reducible apply State.fenceVideo_keep
    | with_reducible apply State.resetCores_keep
    | with_reducible apply State.fenceRings_keep
    | with_reducible apply State.setCv_keep
    | with_reducible apply State.advanceEpoch_keep
    | with_reducible apply State.endConsent_keep
    | with_reducible apply State.dropFlights_keep
    | with_reducible apply State.setStruct_keep
    | with_reducible apply State.setNypra_keep
    | ((with_reducible refine Parts.blk_true ?_); first | exact w_b_checkValue | exact w_b_image | exact w_b_nypra | exact w_b_part)
    | (intro _; intros; try dsimp only)
    | (split <;> try dsimp only)
    | with_reducible refine Keep.foldl ?_ ?_

theorem State.beginScrub_keep {a1} (h : Keep W s0 s) (w_struct : W.struct = true := by first | assumption | rfl) (w_b_part : W.b_part = true := by first | assumption | rfl) : Keep W s0 (State.beginScrub s a1) := by
  unfold State.beginScrub
  try dsimp only
  repeat' first
    | with_reducible assumption
    | with_reducible refine Keep.ite ?_ ?_
    | with_reducible apply State.setStruct_keep
    | with_reducible apply State.setPstate_keep

theorem execRemovalDrainDone_keep (h : Keep W s0 s) (w_struct : W.struct = true := by first | assumption | rfl) (w_b_part : W.b_part = true := by first | assumption | rfl) : KeepR W s0 (execRemovalDrainDone s) := by
  unfold execRemovalDrainDone
  try dsimp only
  repeat' first
    | with_reducible assumption
    | with_reducible refine Keep.ite ?_ ?_
    | with_reducible refine KeepR.ite ?_ ?_
    | with_reducible refine KeepR.next ?_
    | with_reducible apply State.beginScrub_keep
    | with_reducible apply State.wr_keep
    | ((with_reducible refine Parts.blk_true ?_); first | exact w_b_part)
    | (split <;> try dsimp only)

theorem execRemovalTimeout_keep (h : Keep W s0 s) (w_bbs : W.bbs = true := by first | assumption | rfl) (w_clk : W.clk = true := by first | assumption | rfl) (w_modTime : W.modTime = true := by first | assumption | rfl) (w_out : W.out = true := by first | assumption | rfl) (w_struct : W.struct = true := by first | assumption | rfl) (w_po : W.po = true := by first | assumption | rfl) (w_ptp : W.ptp = true := by first | assumption | rfl) (w_faults : W.faults = true := by first | assumption | rfl) (w_lease : W.lease = true := by first | assumption | rfl) (w_pages : W.pages = true := by first | assumption | rfl) (w_serve : W.serve = true := by first | assumption | rfl) (w_slots : W.slots = true := by first | assumption | rfl) (w_fabric : W.fabric = true := by first | assumption | rfl) (w_stk : W.stk = true := by first | assumption | rfl) (w_links : W.links = true := by first | assumption | rfl) (w_dbg : W.dbg = true := by first | assumption | rfl) (w_opc : W.opc = true := by first | assumption | rfl) (w_b_nypra : W.b_nypra = true := by first | assumption | rfl) (w_b_part : W.b_part = true := by first | assumption | rfl) (w_b_image : W.b_image = true := by first | assumption | rfl) (w_b_page : W.b_page = true := by first | assumption | rfl) (w_b_output : W.b_output = true := by first | assumption | rfl) (w_b_fault : W.b_fault = true := by first | assumption | rfl) (w_b_amber : W.b_amber = true := by first | assumption | rfl) (w_b_redundancy : W.b_redundancy = true := by first | assumption | rfl) (w_b_perf : W.b_perf = true := by first | assumption | rfl) : KeepR W s0 (execRemovalTimeout s) := by
  unfold execRemovalTimeout
  try dsimp only
  repeat' first
    | with_reducible assumption
    | with_reducible refine Keep.ite ?_ ?_
    | with_reducible refine KeepR.ite ?_ ?_
    | with_reducible refine KeepR.next ?_
    | with_reducible apply State.advanceTo_keep
    | with_reducible apply State.retireInflight_keep
    | with_reducible apply State.wr_keep
    | with_reducible apply State.beginScrub_keep
    | with_reducible apply State.event_keep
    | with_reducible apply State.setB_keep
    | ((with_reducible refine Parts.blk_true ?_); first | exact w_b_nypra | exact w_b_part)
    | (split <;> try dsimp only)

theorem execRemovalScrubDone_keep (h : Keep W s0 s) (w_mem : W.mem = true := by first | assumption | rfl) (w_struct : W.struct = true := by first | assumption | rfl) (w_wparts : W.wparts = true := by first | assumption | rfl) (w_rings : W.rings = true := by first | assumption | rfl) (w_badUnits : W.badUnits = true := by first | assumption | rfl) (w_badRecord : W.badRecord = true := by first | assumption | rfl) (w_reruns : W.reruns = true := by first | assumption | rfl) (w_faults : W.faults = true := by first | assumption | rfl) (w_sec : W.sec = true := by first | assumption | rfl) (w_pages : W.pages = true := by first | assumption | rfl) (w_serve : W.serve = true := by first | assumption | rfl) (w_slots : W.slots = true := by first | assumption | rfl) (w_links : W.links = true := by first | assumption | rfl) (w_video : W.video = true := by first | assumption | rfl) (w_perf : W.perf = true := by first | assumption | rfl) (w_b_nypra : W.b_nypra = true := by first | assumption | rfl) (w_b_part : W.b_part = true := by first | assumption | rfl) (w_b_image : W.b_image = true := by first | assumption | rfl) (w_b_page : W.b_page = true := by first | assumption | rfl) (w_b_ring : W.b_ring = true := by first | assumption | rfl) (w_b_video : W.b_video = true := by first | assumption | rfl) (w_b_fault : W.b_fault = true := by first | assumption | rfl) (w_b_perf : W.b_perf = true := by first | assumption | rfl) : KeepR W s0 (execRemovalScrubDone s) := by
  unfold execRemovalScrubDone
  try dsimp only
  repeat' first
    | with_reducible assumption
    | with_reducible refine Keep.ite ?_ ?_
    | with_reducible refine KeepR.ite ?_ ?_
    | with_reducible refine KeepR.next ?_
    | with_reducible apply State.zeroWhere_keep
    | with_reducible apply State.clearVideo_keep
    | with_reducible apply State.clearServing_keep
    | with_reducible apply State.wr_keep
    | with_reducible apply State.setRing_keep
    | with_reducible apply State.disableRing_keep
    | with_reducible apply State.setWpart_keep
    | with_reducible apply State.dropTombs_keep
    | with_reducible apply State.setCauses_keep
    | with_reducible apply State.clearPerf_keep
    | with_reducible apply State.setStruct_keep
    | with_reducible apply State.setPstate_keep
    | with_reducible apply State.setB_keep
    | with_reducible apply State.setNypra_keep
    | ((with_reducible refine Parts.blk_true ?_); first | exact w_b_image | exact w_b_nypra | exact w_b_ring)
    | (intro _; intros; try dsimp only)
    | (split <;> try dsimp only)
    | with_reducible refine Keep.foldl ?_ ?_
    | with_reducible refine Keep.upd_badUnits_badRecord (h := ?_)
    | with_reducible refine Keep.upd_reruns (h := ?_)

theorem execCommitVersion_keep {a1} (h : Keep W s0 s) (w_bbs : W.bbs = true := by first | assumption | rfl) (w_out : W.out = true := by first | assumption | rfl) (w_po : W.po = true := by first | assumption | rfl) (w_faults : W.faults = true := by first | assumption | rfl) (w_lease : W.lease = true := by first | assumption | rfl) (w_pages : W.pages = true := by first | assumption | rfl) (w_serve : W.serve = true := by first | assumption | rfl) (w_slots : W.slots = true := by first | assumption | rfl) (w_fabric : W.fabric = true := by first | assumption | rfl) (w_stk : W.stk = true := by first | assumption | rfl) (w_links : W.links = true := by first | assumption | rfl) (w_fw : W.fw = true := by first | assumption | rfl) (w_dbg : W.dbg = true := by first | assumption | rfl) (w_opc : W.opc = true := by first | assumption | rfl) (w_b_nypra : W.b_nypra = true := by first | assumption | rfl) (w_b_image : W.b_image = true := by first | assumption | rfl) (w_b_page : W.b_page = true := by first | assumption | rfl) (w_b_output : W.b_output = true := by first | assumption | rfl) (w_b_fault : W.b_fault = true := by first | assumption | rfl) (w_b_amber : W.b_amber = true := by first | assumption | rfl) (w_b_redundancy : W.b_redundancy = true := by first | assumption | rfl) (w_b_perf : W.b_perf = true := by first | assumption | rfl) : KeepR W s0 (execCommitVersion a1 s) := by
  unfold execCommitVersion
  try dsimp only
  repeat' first
    | with_reducible assumption
    | with_reducible refine Keep.ite ?_ ?_
    | with_reducible refine KeepR.ite ?_ ?_
    | with_reducible refine KeepR.next ?_
    | with_reducible apply State.nypraCommand_keep
    | with_reducible apply State.setCounter_keep
    | (intro _; intros; try dsimp only)
    | (split <;> try dsimp only)

theorem execBootScrubDone_keep (h : Keep W s0 s) (w_struct : W.struct = true := by first | assumption | rfl) : KeepR W s0 (execBootScrubDone s) := by
  unfold execBootScrubDone
  try dsimp only
  repeat' first
    | with_reducible assumption
    | with_reducible refine Keep.ite ?_ ?_
    | with_reducible refine KeepR.ite ?_ ?_
    | with_reducible refine KeepR.next ?_
    | with_reducible apply State.setStruct_keep

theorem execPartitionBecomesEmpty_keep {a1} (h : Keep W s0 s) (w_b_part : W.b_part = true := by first | assumption | rfl) : KeepR W s0 (execPartitionBecomesEmpty a1 s) := by
  unfold execPartitionBecomesEmpty
  try dsimp only
  repeat' first
    | with_reducible assumption
    | with_reducible refine Keep.ite ?_ ?_
    | with_reducible refine KeepR.ite ?_ ?_
    | with_reducible refine KeepR.next ?_
    | with_reducible apply State.setPstate_keep
    | (split <;> try dsimp only)

end Sys2Proof.Machine
end

