-- ==== Sys2Proof/Laws/KeepFlags.lean ====
section
/-! SUPPORT. What the operations of Machine/Flags.lean keep: one lemma per operation. -/

namespace Sys2Proof.Machine

-- One proof at a time: the package is compiled as one text under a memory limit.
set_option Elab.async false

set_option linter.all false

variable {W : Parts} {s0 s : State}

theorem State.laneCmp_keep {a1 a2 a3 a4 a5} (h : Keep W s0 s) (w_fabric : W.fabric = true := by first | assumption | rfl) (w_dbg : W.dbg = true := by first | assumption | rfl) (w_opc : W.opc = true := by first | assumption | rfl) (w_b_perf : W.b_perf = true := by first | assumption | rfl) : KeepR W s0 (State.laneCmp s a1 a2 a3 a4 a5) := by
  unfold State.laneCmp
  try dsimp only
  repeat' first
    | with_reducible assumption
    | with_reducible refine Keep.ite ?_ ?_
    | with_reducible refine KeepR.ite ?_ ?_
    | with_reducible refine KeepR.next ?_
    | with_reducible apply State.laneReg_keep

theorem State.countNan_keep {a1 a2} (h : Keep W s0 s) (w_b_vector : W.b_vector = true := by first | assumption | rfl) : Keep W s0 (State.countNan s a1 a2) := by
  unfold State.countNan
  try dsimp only
  repeat' first
    | with_reducible assumption
    | with_reducible refine Keep.ite ?_ ?_
    | with_reducible apply State.inc_keep
    | ((with_reducible refine Parts.blk_true ?_); first | exact w_b_vector)

end Sys2Proof.Machine
end

