-- ==== Sys2Proof/Laws/KeepBootOps.lean ====
section
/-! SUPPORT. What the operations of Machine/BootOps.lean keep: one lemma per operation. -/

namespace Sys2Proof.Machine

-- One proof at a time: the package is compiled as one text under a memory limit.
set_option Elab.async false

set_option linter.all false

variable {W : Parts} {s0 s : State}

theorem State.clearCore_keep {a1} (h : Keep W s0 s) (w_mem : W.mem = true := by first | assumption | rfl) (w_bbs : W.bbs = true := by first | assumption | rfl) (w_clk : W.clk = true := by first | assumption | rfl) (w_modTime : W.modTime = true := by first | assumption | rfl) (w_resetAt : W.resetAt = true := by first | assumption | rfl) (w_out : W.out = true := by first | assumption | rfl) (w_lastRead : W.lastRead = true := by first | assumption | rfl) (w_struct : W.struct = true := by first | assumption | rfl) (w_wparts : W.wparts = true := by first | assumption | rfl) (w_rings : W.rings = true := by first | assumption | rfl) (w_irqs : W.irqs = true := by first | assumption | rfl) (w_badUnits : W.badUnits = true := by first | assumption | rfl) (w_badRecord : W.badRecord = true := by first | assumption | rfl) (w_reruns : W.reruns = true := by first | assumption | rfl) (w_po : W.po = true := by first | assumption | rfl) (w_cv : W.cv = true := by first | assumption | rfl) (w_ptp : W.ptp = true := by first | assumption | rfl) (w_faults : W.faults = true := by first | assumption | rfl) (w_lease : W.lease = true := by first | assumption | rfl) (w_linkSignal : W.linkSignal = true := by first | assumption | rfl) (w_sec : W.sec = true := by first | assumption | rfl) (w_pages : W.pages = true := by first | assumption | rfl) (w_serve : W.serve = true := by first | assumption | rfl) (w_slots : W.slots = true := by first | assumption | rfl) (w_fabric : W.fabric = true := by first | assumption | rfl) (w_stk : W.stk = true := by first | assumption | rfl) (w_links : W.links = true := by first | assumption | rfl) (w_video : W.video = true := by first | assumption | rfl) (w_power : W.power = true := by first | assumption | rfl) (w_fw : W.fw = true := by first | assumption | rfl) (w_sdio : W.sdio = true := by first | assumption | rfl) (w_mgmt : W.mgmt = true := by first | assumption | rfl) (w_cores : W.cores = true := by first | assumption | rfl) (w_dbg : W.dbg = true := by first | assumption | rfl) (w_perf : W.perf = true := by first | assumption | rfl) (w_opc : W.opc = true := by first | assumption | rfl) (w_opcShadow : W.opcShadow = true := by first | assumption | rfl) (w_bwStart : W.bwStart = true := by first | assumption | rfl) (w_b_nypra : W.b_nypra = true := by first | assumption | rfl) (w_b_part : W.b_part = true := by first | assumption | rfl) (w_b_tile : W.b_tile = true := by first | assumption | rfl) (w_b_vector : W.b_vector = true := by first | assumption | rfl) (w_b_image : W.b_image = true := by first | assumption | rfl) (w_b_stack : W.b_stack = true := by first | assumption | rfl) (w_b_page : W.b_page = true := by first | assumption | rfl) (w_b_request : W.b_request = true := by first | assumption | rfl) (w_b_ring : W.b_ring = true := by first | assumption | rfl) (w_b_ddr4 : W.b_ddr4 = true := by first | assumption | rfl) (w_b_link : W.b_link = true := by first | assumption | rfl) (w_b_plant : W.b_plant = true := by first | assumption | rfl) (w_b_ptp : W.b_ptp = true := by first | assumption | rfl) (w_b_output : W.b_output = true := by first | assumption | rfl) (w_b_checkValue : W.b_checkValue = true := by first | assumption | rfl) (w_b_video : W.b_video = true := by first | assumption | rfl) (w_b_security : W.b_security = true := by first | assumption | rfl) (w_b_lifecycle : W.b_lifecycle = true := by first | assumption | rfl) (w_b_firmware : W.b_firmware = true := by first | assumption | rfl) (w_b_fault : W.b_fault = true := by first | assumption | rfl) (w_b_amber : W.b_amber = true := by first | assumption | rfl) (w_b_redundancy : W.b_redundancy = true := by first | assumption | rfl) (w_b_power : W.b_power = true := by first | assumption | rfl) (w_b_island : W.b_island = true := by first | assumption | rfl) (w_b_battery : W.b_battery = true := by first | assumption | rfl) (w_b_core : W.b_core = true := by first | assumption | rfl) (w_b_perf : W.b_perf = true := by first | assumption | rfl) (w_b_opCount : W.b_opCount = true := by first | assumption | rfl) (w_b_bandwidth : W.b_bandwidth = true := by first | assumption | rfl) : Keep W s0 (State.clearCore s a1) := by
  unfold State.clearCore
  try dsimp only
  refine Keep.foldl ?_ fun u a hu => State.setCauses_keep hu
  have ht : ∀ t : State, t.pending = s.pending → t.mem = [] → t.bbs = s.bbs → t.regs = Tab.keep s.regs (heldKey a1) → t.fresh = s.fresh →
      t.identity = s.identity → t.clk = s.clk → t.out = s.out → t.lastRead = s.lastRead → t.linkSignal = s.linkSignal → Keep W s0 t :=
    fun t h1 h2 h3 h4 h5 h6 k_clk k_out k_lastRead k_linkSignal =>
    h.trans ⟨h1, fun _ => by rw [h2]; rfl, by rw [h3]; exact id, fun g => by rw [h4]; exact Tab.sorted_keep _ g, h5.ge, h6,
      ⟨fun f i j e => absurd e (by cases hb : f.reg.block <;> simp [Parts.blk, *]), Parts.no w_mem, Parts.no w_bbs, fun _ => k_clk, Parts.no w_modTime, Parts.no w_resetAt, fun _ => k_out, fun _ => k_lastRead, Parts.no w_struct, Parts.no w_wparts, Parts.no w_rings, Parts.no w_irqs, Parts.no w_badUnits, Parts.no w_badRecord, Parts.no w_reruns, Parts.no w_po, Parts.no w_cv, Parts.no w_ptp, Parts.no w_faults, Parts.no w_lease, fun _ => k_linkSignal, Parts.no w_sec, Parts.no w_pages, Parts.no w_serve, Parts.no w_slots, Parts.no w_fabric, Parts.no w_stk, Parts.no w_links, Parts.no w_video, Parts.no w_power, Parts.no w_fw, Parts.no w_sdio, Parts.no w_mgmt, Parts.no w_cores, Parts.no w_dbg, Parts.no w_perf, Parts.no w_opc, Parts.no w_opcShadow, Parts.no w_bwStart⟩⟩
  split
  · exact State.bbsWr_keep (ht _ rfl rfl rfl rfl rfl rfl rfl rfl rfl rfl)
  · exact ht _ rfl rfl rfl rfl rfl rfl rfl rfl rfl rfl

theorem State.setBattFlag_keep {a1 a2} (h : Keep W s0 s) (w_bbs : W.bbs = true := by first | assumption | rfl) : Keep W s0 (State.setBattFlag s a1 a2) := by
  unfold State.setBattFlag
  try dsimp only
  repeat' first
    | with_reducible assumption
    | with_reducible refine Keep.ite ?_ ?_
    | with_reducible apply State.bbsWr_keep
    | (split <;> try dsimp only)

theorem State.takeCounters_keep {a1} (h : Keep W s0 s) (w_bbs : W.bbs = true := by first | assumption | rfl) (w_fw : W.fw = true := by first | assumption | rfl) (w_b_lifecycle : W.b_lifecycle = true := by first | assumption | rfl) : Keep W s0 (State.takeCounters s a1) := by
  unfold State.takeCounters
  try dsimp only
  repeat' first
    | with_reducible assumption
    | with_reducible refine Keep.ite ?_ ?_
    | with_reducible apply State.setB_keep
    | with_reducible apply State.setCounter_keep
    | ((with_reducible refine Parts.blk_true ?_); first | exact w_b_lifecycle)
    | (intro _; intros; try dsimp only)
    | (split <;> try dsimp only)
    | with_reducible refine Keep.foldl ?_ ?_

theorem State.checkStore_keep (h : Keep W s0 s) (w_bbs : W.bbs = true := by first | assumption | rfl) (w_out : W.out = true := by first | assumption | rfl) (w_po : W.po = true := by first | assumption | rfl) (w_faults : W.faults = true := by first | assumption | rfl) (w_lease : W.lease = true := by first | assumption | rfl) (w_pages : W.pages = true := by first | assumption | rfl) (w_serve : W.serve = true := by first | assumption | rfl) (w_slots : W.slots = true := by first | assumption | rfl) (w_fabric : W.fabric = true := by first | assumption | rfl) (w_stk : W.stk = true := by first | assumption | rfl) (w_links : W.links = true := by first | assumption | rfl) (w_fw : W.fw = true := by first | assumption | rfl) (w_dbg : W.dbg = true := by first | assumption | rfl) (w_opc : W.opc = true := by first | assumption | rfl) (w_b_image : W.b_image = true := by first | assumption | rfl) (w_b_page : W.b_page = true := by first | assumption | rfl) (w_b_output : W.b_output = true := by first | assumption | rfl) (w_b_lifecycle : W.b_lifecycle = true := by first | assumption | rfl) (w_b_fault : W.b_fault = true := by first | assumption | rfl) (w_b_amber : W.b_amber = true := by first | assumption | rfl) (w_b_redundancy : W.b_redundancy = true := by first | assumption | rfl) (w_b_perf : W.b_perf = true := by first | assumption | rfl) : Keep W s0 (State.checkStore s) := by
  unfold State.checkStore
  try dsimp only
  repeat' first
    | with_reducible assumption
    | with_reducible refine Keep.ite ?_ ?_
    | with_reducible apply State.wr_keep
    | with_reducible apply State.setBattFlag_keep
    | with_reducible apply State.event_keep
    | with_reducible apply State.bbsZero_keep
    | with_reducible apply State.takeCounters_keep
    | with_reducible apply State.bbsWr_keep
    | with_reducible apply State.bbsPut_keep
    | ((with_reducible refine Parts.blk_true ?_); first | exact w_b_lifecycle)
    | (split <;> try dsimp only)

theorem State.setSlotState_keep {a1 a2} (h : Keep W s0 s) (w_bbs : W.bbs = true := by first | assumption | rfl) : Keep W s0 (State.setSlotState s a1 a2) := by
  unfold State.setSlotState
  try dsimp only
  repeat' first
    | with_reducible assumption
    | with_reducible refine Keep.ite ?_ ?_
    | with_reducible apply State.bbsWr_keep

theorem State.settleRegion_keep {a b c d f} (h : Keep W s0 s) (w : W.blk f.reg.block = true := by first | assumption | with_unfolding_all assumption) (w_bbs : W.bbs = true := by first | assumption | rfl) (w_out : W.out = true := by first | assumption | rfl) (w_po : W.po = true := by first | assumption | rfl) (w_faults : W.faults = true := by first | assumption | rfl) (w_lease : W.lease = true := by first | assumption | rfl) (w_pages : W.pages = true := by first | assumption | rfl) (w_serve : W.serve = true := by first | assumption | rfl) (w_slots : W.slots = true := by first | assumption | rfl) (w_fabric : W.fabric = true := by first | assumption | rfl) (w_stk : W.stk = true := by first | assumption | rfl) (w_links : W.links = true := by first | assumption | rfl) (w_dbg : W.dbg = true := by first | assumption | rfl) (w_opc : W.opc = true := by first | assumption | rfl) (w_b_image : W.b_image = true := by first | assumption | rfl) (w_b_page : W.b_page = true := by first | assumption | rfl) (w_b_output : W.b_output = true := by first | assumption | rfl) (w_b_fault : W.b_fault = true := by first | assumption | rfl) (w_b_amber : W.b_amber = true := by first | assumption | rfl) (w_b_redundancy : W.b_redundancy = true := by first | assumption | rfl) (w_b_perf : W.b_perf = true := by first | assumption | rfl) :
    Keep W s0 (State.settleRegion s a b c d f) := by
  unfold State.settleRegion
  try dsimp only
  exact Keep.ite h (State.event_keep (State.setB_keep (State.bbsPut_keep h) w))

theorem State.sealKeys_keep (h : Keep W s0 s) (w_bbs : W.bbs = true := by first | assumption | rfl) (w_sec : W.sec = true := by first | assumption | rfl) (w_fw : W.fw = true := by first | assumption | rfl) : Keep W s0 (State.sealKeys s) := by
  unfold State.sealKeys
  try dsimp only
  repeat' first
    | with_reducible assumption
    | with_reducible refine Keep.ite ?_ ?_
    | with_reducible apply State.setCounter_keep
    | with_reducible apply State.bbsPut_keep
    | with_reducible refine Keep.upd_sec (h := ?_)

theorem State.setStage_keep {a1} (h : Keep W s0 s) (w_b_firmware : W.b_firmware = true := by first | assumption | rfl) : Keep W s0 (State.setStage s a1) := by
  unfold State.setStage
  try dsimp only
  repeat' first
    | with_reducible assumption
    | with_reducible refine Keep.ite ?_ ?_
    | with_reducible apply State.wr_keep
    | ((with_reducible refine Parts.blk_true ?_); first | exact w_b_firmware)

theorem State.bringUp_keep (h : Keep W s0 s) (w_power : W.power = true := by first | assumption | rfl) (w_fw : W.fw = true := by first | assumption | rfl) (w_b_ddr4 : W.b_ddr4 = true := by first | assumption | rfl) (w_b_firmware : W.b_firmware = true := by first | assumption | rfl) : Keep W s0 (State.bringUp s) := by
  unfold State.bringUp
  try dsimp only
  repeat' first
    | with_reducible assumption
    | with_reducible refine Keep.ite ?_ ?_
    | with_reducible apply State.setStage_keep
    | with_reducible apply State.wr_keep
    | ((with_reducible refine Parts.blk_true ?_); first | exact w_b_ddr4)
    | (split <;> try dsimp only)
    | with_reducible refine Keep.upd_fw (h := ?_)
    | with_reducible refine Keep.upd_power_fw (h := ?_)

theorem State.startMgmt_keep (h : Keep W s0 s) (w_bbs : W.bbs = true := by first | assumption | rfl) (w_out : W.out = true := by first | assumption | rfl) (w_po : W.po = true := by first | assumption | rfl) (w_faults : W.faults = true := by first | assumption | rfl) (w_lease : W.lease = true := by first | assumption | rfl) (w_sec : W.sec = true := by first | assumption | rfl) (w_pages : W.pages = true := by first | assumption | rfl) (w_serve : W.serve = true := by first | assumption | rfl) (w_slots : W.slots = true := by first | assumption | rfl) (w_fabric : W.fabric = true := by first | assumption | rfl) (w_stk : W.stk = true := by first | assumption | rfl) (w_links : W.links = true := by first | assumption | rfl) (w_power : W.power = true := by first | assumption | rfl) (w_fw : W.fw = true := by first | assumption | rfl) (w_dbg : W.dbg = true := by first | assumption | rfl) (w_opc : W.opc = true := by first | assumption | rfl) (w_b_image : W.b_image = true := by first | assumption | rfl) (w_b_page : W.b_page = true := by first | assumption | rfl) (w_b_ddr4 : W.b_ddr4 = true := by first | assumption | rfl) (w_b_output : W.b_output = true := by first | assumption | rfl) (w_b_lifecycle : W.b_lifecycle = true := by first | assumption | rfl) (w_b_firmware : W.b_firmware = true := by first | assumption | rfl) (w_b_fault : W.b_fault = true := by first | assumption | rfl) (w_b_amber : W.b_amber = true := by first | assumption | rfl) (w_b_redundancy : W.b_redundancy = true := by first | assumption | rfl) (w_b_perf : W.b_perf = true := by first | assumption | rfl) : Keep W s0 (State.startMgmt s) := by
  unfold State.startMgmt
  try dsimp only
  repeat' first
    | with_reducible assumption
    | with_reducible refine Keep.ite ?_ ?_
    | with_reducible apply State.draw_keep
    | with_reducible apply State.faultPin_keep
    | with_reducible apply State.wr_keep
    | with_reducible apply State.setStage_keep
    | with_reducible apply State.event_keep
    | with_reducible apply State.setB_keep
    | with_reducible apply State.bringUp_keep
    | with_reducible apply State.settleRegion_keep
    | ((with_reducible refine Parts.blk_true ?_); first | exact w_b_firmware | exact w_b_lifecycle)
    | (split <;> try dsimp only)
    | with_reducible refine Keep.upd_fw (h := ?_)
    | with_reducible refine Keep.upd_sec (h := ?_)

theorem State.bootFromReset_keep {a1} (h : Keep W s0 s) (w_mem : W.mem = true := by first | assumption | rfl) (w_bbs : W.bbs = true := by first | assumption | rfl) (w_clk : W.clk = true := by first | assumption | rfl) (w_modTime : W.modTime = true := by first | assumption | rfl) (w_resetAt : W.resetAt = true := by first | assumption | rfl) (w_out : W.out = true := by first | assumption | rfl) (w_lastRead : W.lastRead = true := by first | assumption | rfl) (w_struct : W.struct = true := by first | assumption | rfl) (w_wparts : W.wparts = true := by first | assumption | rfl) (w_rings : W.rings = true := by first | assumption | rfl) (w_irqs : W.irqs = true := by first | assumption | rfl) (w_badUnits : W.badUnits = true := by first | assumption | rfl) (w_badRecord : W.badRecord = true := by first | assumption | rfl) (w_reruns : W.reruns = true := by first | assumption | rfl) (w_po : W.po = true := by first | assumption | rfl) (w_cv : W.cv = true := by first | assumption | rfl) (w_ptp : W.ptp = true := by first | assumption | rfl) (w_faults : W.faults = true := by first | assumption | rfl) (w_lease : W.lease = true := by first | assumption | rfl) (w_linkSignal : W.linkSignal = true := by first | assumption | rfl) (w_sec : W.sec = true := by first | assumption | rfl) (w_pages : W.pages = true := by first | assumption | rfl) (w_serve : W.serve = true := by first | assumption | rfl) (w_slots : W.slots = true := by first | assumption | rfl) (w_fabric : W.fabric = true := by first | assumption | rfl) (w_stk : W.stk = true := by first | assumption | rfl) (w_links : W.links = true := by first | assumption | rfl) (w_video : W.video = true := by first | assumption | rfl) (w_power : W.power = true := by first | assumption | rfl) (w_fw : W.fw = true := by first | assumption | rfl) (w_sdio : W.sdio = true := by first | assumption | rfl) (w_mgmt : W.mgmt = true := by first | assumption | rfl) (w_cores : W.cores = true := by first | assumption | rfl) (w_dbg : W.dbg = true := by first | assumption | rfl) (w_perf : W.perf = true := by first | assumption | rfl) (w_opc : W.opc = true := by first | assumption | rfl) (w_opcShadow : W.opcShadow = true := by first | assumption | rfl) (w_bwStart : W.bwStart = true := by first | assumption | rfl) (w_b_nypra : W.b_nypra = true := by first | assumption | rfl) (w_b_part : W.b_part = true := by first | assumption | rfl) (w_b_tile : W.b_tile = true := by first | assumption | rfl) (w_b_vector : W.b_vector = true := by first | assumption | rfl) (w_b_image : W.b_image = true := by first | assumption | rfl) (w_b_stack : W.b_stack = true := by first | assumption | rfl) (w_b_page : W.b_page = true := by first | assumption | rfl) (w_b_request : W.b_request = true := by first | assumption | rfl) (w_b_ring : W.b_ring = true := by first | assumption | rfl) (w_b_ddr4 : W.b_ddr4 = true := by first | assumption | rfl) (w_b_link : W.b_link = true := by first | assumption | rfl) (w_b_plant : W.b_plant = true := by first | assumption | rfl) (w_b_ptp : W.b_ptp = true := by first | assumption | rfl) (w_b_output : W.b_output = true := by first | assumption | rfl) (w_b_checkValue : W.b_checkValue = true := by first | assumption | rfl) (w_b_video : W.b_video = true := by first | assumption | rfl) (w_b_security : W.b_security = true := by first | assumption | rfl) (w_b_lifecycle : W.b_lifecycle = true := by first | assumption | rfl) (w_b_firmware : W.b_firmware = true := by first | assumption | rfl) (w_b_fault : W.b_fault = true := by first | assumption | rfl) (w_b_amber : W.b_amber = true := by first | assumption | rfl) (w_b_redundancy : W.b_redundancy = true := by first | assumption | rfl) (w_b_power : W.b_power = true := by first | assumption | rfl) (w_b_island : W.b_island = true := by first | assumption | rfl) (w_b_battery : W.b_battery = true := by first | assumption | rfl) (w_b_core : W.b_core = true := by first | assumption | rfl) (w_b_perf : W.b_perf = true := by first | assumption | rfl) (w_b_opCount : W.b_opCount = true := by first | assumption | rfl) (w_b_bandwidth : W.b_bandwidth = true := by first | assumption | rfl) : Keep W s0 (State.bootFromReset s a1) := by
  unfold State.bootFromReset
  try dsimp only
  repeat' first
    | with_reducible assumption
    | with_reducible refine Keep.ite ?_ ?_
    | with_reducible apply State.clearCore_keep
    | with_reducible apply State.setB_keep
    | with_reducible apply State.faultPin_keep
    | with_reducible apply State.newNonce_keep
    | with_reducible apply State.startMgmt_keep
    | with_reducible apply State.retireClusters_keep
    | with_reducible apply State.checkStore_keep
    | ((with_reducible refine Parts.blk_true ?_); first | exact w_b_fault | exact w_b_power)
    | (intro _; intros; try dsimp only)
    | (split <;> try dsimp only)
    | with_reducible refine Keep.foldl ?_ ?_
    | with_reducible refine Keep.upd_power_fw (h := ?_)

theorem State.removePower_keep {a1} (h : Keep W s0 s) (w_mem : W.mem = true := by first | assumption | rfl) (w_bbs : W.bbs = true := by first | assumption | rfl) (w_clk : W.clk = true := by first | assumption | rfl) (w_modTime : W.modTime = true := by first | assumption | rfl) (w_resetAt : W.resetAt = true := by first | assumption | rfl) (w_out : W.out = true := by first | assumption | rfl) (w_lastRead : W.lastRead = true := by first | assumption | rfl) (w_struct : W.struct = true := by first | assumption | rfl) (w_wparts : W.wparts = true := by first | assumption | rfl) (w_rings : W.rings = true := by first | assumption | rfl) (w_irqs : W.irqs = true := by first | assumption | rfl) (w_badUnits : W.badUnits = true := by first | assumption | rfl) (w_badRecord : W.badRecord = true := by first | assumption | rfl) (w_reruns : W.reruns = true := by first | assumption | rfl) (w_po : W.po = true := by first | assumption | rfl) (w_cv : W.cv = true := by first | assumption | rfl) (w_ptp : W.ptp = true := by first | assumption | rfl) (w_faults : W.faults = true := by first | assumption | rfl) (w_lease : W.lease = true := by first | assumption | rfl) (w_linkSignal : W.linkSignal = true := by first | assumption | rfl) (w_sec : W.sec = true := by first | assumption | rfl) (w_pages : W.pages = true := by first | assumption | rfl) (w_serve : W.serve = true := by first | assumption | rfl) (w_slots : W.slots = true := by first | assumption | rfl) (w_fabric : W.fabric = true := by first | assumption | rfl) (w_stk : W.stk = true := by first | assumption | rfl) (w_links : W.links = true := by first | assumption | rfl) (w_video : W.video = true := by first | assumption | rfl) (w_power : W.power = true := by first | assumption | rfl) (w_fw : W.fw = true := by first | assumption | rfl) (w_sdio : W.sdio = true := by first | assumption | rfl) (w_mgmt : W.mgmt = true := by first | assumption | rfl) (w_cores : W.cores = true := by first | assumption | rfl) (w_dbg : W.dbg = true := by first | assumption | rfl) (w_perf : W.perf = true := by first | assumption | rfl) (w_opc : W.opc = true := by first | assumption | rfl) (w_opcShadow : W.opcShadow = true := by first | assumption | rfl) (w_bwStart : W.bwStart = true := by first | assumption | rfl) (w_b_nypra : W.b_nypra = true := by first | assumption | rfl) (w_b_part : W.b_part = true := by first | assumption | rfl) (w_b_tile : W.b_tile = true := by first | assumption | rfl) (w_b_vector : W.b_vector = true := by first | assumption | rfl) (w_b_image : W.b_image = true := by first | assumption | rfl) (w_b_stack : W.b_stack = true := by first | assumption | rfl) (w_b_page : W.b_page = true := by first | assumption | rfl) (w_b_request : W.b_request = true := by first | assumption | rfl) (w_b_ring : W.b_ring = true := by first | assumption | rfl) (w_b_ddr4 : W.b_ddr4 = true := by first | assumption | rfl) (w_b_link : W.b_link = true := by first | assumption | rfl) (w_b_plant : W.b_plant = true := by first | assumption | rfl) (w_b_ptp : W.b_ptp = true := by first | assumption | rfl) (w_b_output : W.b_output = true := by first | assumption | rfl) (w_b_checkValue : W.b_checkValue = true := by first | assumption | rfl) (w_b_video : W.b_video = true := by first | assumption | rfl) (w_b_security : W.b_security = true := by first | assumption | rfl) (w_b_lifecycle : W.b_lifecycle = true := by first | assumption | rfl) (w_b_firmware : W.b_firmware = true := by first | assumption | rfl) (w_b_fault : W.b_fault = true := by first | assumption | rfl) (w_b_amber : W.b_amber = true := by first | assumption | rfl) (w_b_redundancy : W.b_redundancy = true := by first | assumption | rfl) (w_b_power : W.b_power = true := by first | assumption | rfl) (w_b_island : W.b_island = true := by first | assumption | rfl) (w_b_battery : W.b_battery = true := by first | assumption | rfl) (w_b_core : W.b_core = true := by first | assumption | rfl) (w_b_perf : W.b_perf = true := by first | assumption | rfl) (w_b_opCount : W.b_opCount = true := by first | assumption | rfl) (w_b_bandwidth : W.b_bandwidth = true := by first | assumption | rfl) : Keep W s0 (State.removePower s a1) := by
  unfold State.removePower
  try dsimp only
  repeat' first
    | with_reducible assumption
    | with_reducible refine Keep.ite ?_ ?_
    | with_reducible apply State.clearCore_keep
    | with_reducible apply State.setStage_keep
    | with_reducible apply State.wr_keep
    | ((with_reducible refine Parts.blk_true ?_); first | exact w_b_firmware | exact w_b_power)
    | (split <;> try dsimp only)
    | with_reducible refine Keep.upd_power_fw (h := ?_)

end Sys2Proof.Machine
end

