-- ==== Sys2Proof/Laws/KeepPowerOps.lean ====
section
/-! SUPPORT. What the operations of Machine/PowerOps.lean keep: one lemma per operation. -/

namespace Sys2Proof.Machine

-- One proof at a time: the package is compiled as one text under a memory limit.
set_option Elab.async false

set_option linter.all false

variable {W : Parts} {s0 s : State}

theorem State.setPower_keep {a1} (h : Keep W s0 s) (w_power : W.power = true := by first | assumption | rfl) : Keep W s0 (State.setPower s a1) := by
  unfold State.setPower
  try dsimp only
  repeat' first
    | with_reducible assumption
    | with_reducible refine Keep.ite ?_ ?_
    | with_reducible refine Keep.upd_power (h := ?_)

theorem State.books_keep (h : Keep W s0 s) (w_b_power : W.b_power = true := by first | assumption | rfl) : Keep W s0 (State.books s) := by
  unfold State.books
  try dsimp only
  repeat' first
    | with_reducible assumption
    | with_reducible refine Keep.ite ?_ ?_
    | with_reducible apply State.wr_keep
    | ((with_reducible refine Parts.blk_true ?_); first | exact w_b_power)

theorem State.regrant_keep {a1} (h : Keep W s0 s) (w_b_power : W.b_power = true := by first | assumption | rfl) : Keep W s0 (State.regrant s a1) := by
  unfold State.regrant
  try dsimp only
  repeat' first
    | with_reducible assumption
    | with_reducible refine Keep.ite ?_ ?_
    | with_reducible apply State.books_keep
    | with_reducible apply State.wr_keep
    | ((with_reducible refine Parts.blk_true ?_); first | exact w_b_power)
    | (intro _; intros; try dsimp only)
    | (split <;> try dsimp only)
    | with_reducible refine Keep.foldl ?_ ?_

theorem State.setGates_keep (h : Keep W s0 s) (w_b_power : W.b_power = true := by first | assumption | rfl) : Keep W s0 (State.setGates s) := by
  unfold State.setGates
  try dsimp only
  repeat' first
    | with_reducible assumption
    | with_reducible refine Keep.ite ?_ ?_
    | with_reducible apply State.wr_keep
    | ((with_reducible refine Parts.blk_true ?_); first | exact w_b_power)
    | (intro _; intros; try dsimp only)
    | (split <;> try dsimp only)
    | with_reducible refine Keep.foldl ?_ ?_

theorem State.setClock_keep {a1 a2} (h : Keep W s0 s) (w_power : W.power = true := by first | assumption | rfl) (w_b_island : W.b_island = true := by first | assumption | rfl) : Keep W s0 (State.setClock s a1 a2) := by
  unfold State.setClock
  try dsimp only
  repeat' first
    | with_reducible assumption
    | with_reducible refine Keep.ite ?_ ?_
    | with_reducible apply State.setPower_keep
    | with_reducible apply State.wr_keep
    | with_reducible apply State.setB_keep
    | ((with_reducible refine Parts.blk_true ?_); first | exact w_b_island)
    | (split <;> try dsimp only)

theorem State.retarget_keep {a1} (h : Keep W s0 s) (w_power : W.power = true := by first | assumption | rfl) (w_b_island : W.b_island = true := by first | assumption | rfl) : Keep W s0 (State.retarget s a1) := by
  unfold State.retarget
  try dsimp only
  repeat' first
    | with_reducible assumption
    | with_reducible refine Keep.ite ?_ ?_
    | with_reducible apply State.setClock_keep
    | with_reducible apply State.draw_keep
    | (intro _; intros; try dsimp only)
    | (split <;> try dsimp only)
    | with_reducible refine Keep.foldl ?_ ?_

theorem State.abortAllTests_keep (h : Keep W s0 s) (w_fabric : W.fabric = true := by first | assumption | rfl) : Keep W s0 (State.abortAllTests s) := by
  unfold State.abortAllTests
  try dsimp only
  repeat' first
    | with_reducible assumption
    | with_reducible refine Keep.ite ?_ ?_
    | with_reducible apply State.setFabric_keep

theorem State.noteLimiter_keep {a1} (h : Keep W s0 s) (w_bbs : W.bbs = true := by first | assumption | rfl) (w_out : W.out = true := by first | assumption | rfl) (w_po : W.po = true := by first | assumption | rfl) (w_faults : W.faults = true := by first | assumption | rfl) (w_lease : W.lease = true := by first | assumption | rfl) (w_pages : W.pages = true := by first | assumption | rfl) (w_serve : W.serve = true := by first | assumption | rfl) (w_slots : W.slots = true := by first | assumption | rfl) (w_fabric : W.fabric = true := by first | assumption | rfl) (w_stk : W.stk = true := by first | assumption | rfl) (w_links : W.links = true := by first | assumption | rfl) (w_dbg : W.dbg = true := by first | assumption | rfl) (w_opc : W.opc = true := by first | assumption | rfl) (w_b_image : W.b_image = true := by first | assumption | rfl) (w_b_page : W.b_page = true := by first | assumption | rfl) (w_b_output : W.b_output = true := by first | assumption | rfl) (w_b_fault : W.b_fault = true := by first | assumption | rfl) (w_b_amber : W.b_amber = true := by first | assumption | rfl) (w_b_redundancy : W.b_redundancy = true := by first | assumption | rfl) (w_b_power : W.b_power = true := by first | assumption | rfl) (w_b_perf : W.b_perf = true := by first | assumption | rfl) : Keep W s0 (State.noteLimiter s a1) := by
  unfold State.noteLimiter
  try dsimp only
  repeat' first
    | with_reducible assumption
    | with_reducible refine Keep.ite ?_ ?_
    | with_reducible apply State.setB_keep
    | with_reducible apply State.wr_keep
    | with_reducible apply State.event_keep
    | with_reducible apply State.causeEnds_keep
    | ((with_reducible refine Parts.blk_true ?_); first | exact w_b_power)
    | (split <;> try dsimp only)

theorem State.plan_keep (h : Keep W s0 s) (w_bbs : W.bbs = true := by first | assumption | rfl) (w_out : W.out = true := by first | assumption | rfl) (w_po : W.po = true := by first | assumption | rfl) (w_faults : W.faults = true := by first | assumption | rfl) (w_lease : W.lease = true := by first | assumption | rfl) (w_pages : W.pages = true := by first | assumption | rfl) (w_serve : W.serve = true := by first | assumption | rfl) (w_slots : W.slots = true := by first | assumption | rfl) (w_fabric : W.fabric = true := by first | assumption | rfl) (w_stk : W.stk = true := by first | assumption | rfl) (w_links : W.links = true := by first | assumption | rfl) (w_power : W.power = true := by first | assumption | rfl) (w_dbg : W.dbg = true := by first | assumption | rfl) (w_opc : W.opc = true := by first | assumption | rfl) (w_b_image : W.b_image = true := by first | assumption | rfl) (w_b_page : W.b_page = true := by first | assumption | rfl) (w_b_output : W.b_output = true := by first | assumption | rfl) (w_b_fault : W.b_fault = true := by first | assumption | rfl) (w_b_amber : W.b_amber = true := by first | assumption | rfl) (w_b_redundancy : W.b_redundancy = true := by first | assumption | rfl) (w_b_power : W.b_power = true := by first | assumption | rfl) (w_b_island : W.b_island = true := by first | assumption | rfl) (w_b_perf : W.b_perf = true := by first | assumption | rfl) : Keep W s0 (State.plan s) := by
  unfold State.plan
  try dsimp only
  repeat' first
    | with_reducible assumption
    | with_reducible refine Keep.ite ?_ ?_
    | with_reducible apply State.noteLimiter_keep
    | with_reducible apply State.wr_keep
    | with_reducible apply State.setPower_keep
    | with_reducible apply State.regrant_keep
    | with_reducible apply State.abortAllTests_keep
    | with_reducible apply State.retarget_keep
    | with_reducible apply State.setGates_keep
    | ((with_reducible refine Parts.blk_true ?_); first | exact w_b_power)
    | (split <;> try dsimp only)

theorem State.pairEvent_keep {a1 a2 a3} (h : Keep W s0 s) (w_bbs : W.bbs = true := by first | assumption | rfl) (w_out : W.out = true := by first | assumption | rfl) (w_po : W.po = true := by first | assumption | rfl) (w_faults : W.faults = true := by first | assumption | rfl) (w_lease : W.lease = true := by first | assumption | rfl) (w_pages : W.pages = true := by first | assumption | rfl) (w_serve : W.serve = true := by first | assumption | rfl) (w_slots : W.slots = true := by first | assumption | rfl) (w_fabric : W.fabric = true := by first | assumption | rfl) (w_stk : W.stk = true := by first | assumption | rfl) (w_links : W.links = true := by first | assumption | rfl) (w_dbg : W.dbg = true := by first | assumption | rfl) (w_opc : W.opc = true := by first | assumption | rfl) (w_b_image : W.b_image = true := by first | assumption | rfl) (w_b_page : W.b_page = true := by first | assumption | rfl) (w_b_output : W.b_output = true := by first | assumption | rfl) (w_b_fault : W.b_fault = true := by first | assumption | rfl) (w_b_amber : W.b_amber = true := by first | assumption | rfl) (w_b_redundancy : W.b_redundancy = true := by first | assumption | rfl) (w_b_perf : W.b_perf = true := by first | assumption | rfl) : Keep W s0 (State.pairEvent s a1 a2 a3) := by
  unfold State.pairEvent
  try dsimp only
  repeat' first
    | with_reducible assumption
    | with_reducible refine Keep.ite ?_ ?_
    | with_reducible apply State.event_keep
    | (split <;> try dsimp only)

theorem State.setIdle_keep {a1 a2} (h : Keep W s0 s) (w_power : W.power = true := by first | assumption | rfl) : Keep W s0 (State.setIdle s a1 a2) := by
  unfold State.setIdle
  try dsimp only
  repeat' first
    | with_reducible assumption
    | with_reducible refine Keep.ite ?_ ?_
    | with_reducible apply State.setPower_keep

theorem State.wakeS4_keep (h : Keep W s0 s) (w_power : W.power = true := by first | assumption | rfl) : Keep W s0 (State.wakeS4 s) := by
  unfold State.wakeS4
  try dsimp only
  repeat' first
    | with_reducible assumption
    | with_reducible refine Keep.ite ?_ ?_
    | with_reducible apply State.setPower_keep
    | (split <;> try dsimp only)

end Sys2Proof.Machine
end

