-- ==== Sys2Proof/Laws/KeepPower.lean ====
section
/-! SUPPORT. What the operations of Machine/Power.lean keep: one lemma per operation. -/

namespace Sys2Proof.Machine

-- One proof at a time: the package is compiled as one text under a memory limit.
set_option Elab.async false

set_option linter.all false

variable {W : Parts} {s0 s : State}

theorem execSagStart_keep {a1 a2} (h : Keep W s0 s) (w_bbs : W.bbs = true := by first | assumption | rfl) (w_clk : W.clk = true := by first | assumption | rfl) (w_modTime : W.modTime = true := by first | assumption | rfl) (w_out : W.out = true := by first | assumption | rfl) (w_po : W.po = true := by first | assumption | rfl) (w_ptp : W.ptp = true := by first | assumption | rfl) (w_faults : W.faults = true := by first | assumption | rfl) (w_lease : W.lease = true := by first | assumption | rfl) (w_pages : W.pages = true := by first | assumption | rfl) (w_serve : W.serve = true := by first | assumption | rfl) (w_slots : W.slots = true := by first | assumption | rfl) (w_fabric : W.fabric = true := by first | assumption | rfl) (w_stk : W.stk = true := by first | assumption | rfl) (w_links : W.links = true := by first | assumption | rfl) (w_power : W.power = true := by first | assumption | rfl) (w_dbg : W.dbg = true := by first | assumption | rfl) (w_opc : W.opc = true := by first | assumption | rfl) (w_b_image : W.b_image = true := by first | assumption | rfl) (w_b_page : W.b_page = true := by first | assumption | rfl) (w_b_output : W.b_output = true := by first | assumption | rfl) (w_b_fault : W.b_fault = true := by first | assumption | rfl) (w_b_amber : W.b_amber = true := by first | assumption | rfl) (w_b_redundancy : W.b_redundancy = true := by first | assumption | rfl) (w_b_power : W.b_power = true := by first | assumption | rfl) (w_b_island : W.b_island = true := by first | assumption | rfl) (w_b_perf : W.b_perf = true := by first | assumption | rfl) : KeepR W s0 (execSagStart a1 a2 s) := by
  unfold execSagStart
  try dsimp only
  repeat' first
    | with_reducible assumption
    | with_reducible refine Keep.ite ?_ ?_
    | with_reducible refine KeepR.ite ?_ ?_
    | with_reducible refine KeepR.next ?_
    | with_reducible apply State.wr_keep
    | with_reducible apply State.pass_keep
    | with_reducible apply State.setB_keep
    | with_reducible apply State.setPower_keep
    | with_reducible apply State.plan_keep
    | with_reducible apply State.event_keep
    | ((with_reducible refine Parts.blk_true ?_); first | exact w_b_power)
    | (split <;> try dsimp only)

theorem execSagEnd_keep {a1 a2} (h : Keep W s0 s) (w_bbs : W.bbs = true := by first | assumption | rfl) (w_clk : W.clk = true := by first | assumption | rfl) (w_modTime : W.modTime = true := by first | assumption | rfl) (w_out : W.out = true := by first | assumption | rfl) (w_po : W.po = true := by first | assumption | rfl) (w_ptp : W.ptp = true := by first | assumption | rfl) (w_faults : W.faults = true := by first | assumption | rfl) (w_lease : W.lease = true := by first | assumption | rfl) (w_pages : W.pages = true := by first | assumption | rfl) (w_serve : W.serve = true := by first | assumption | rfl) (w_slots : W.slots = true := by first | assumption | rfl) (w_fabric : W.fabric = true := by first | assumption | rfl) (w_stk : W.stk = true := by first | assumption | rfl) (w_links : W.links = true := by first | assumption | rfl) (w_power : W.power = true := by first | assumption | rfl) (w_dbg : W.dbg = true := by first | assumption | rfl) (w_opc : W.opc = true := by first | assumption | rfl) (w_b_image : W.b_image = true := by first | assumption | rfl) (w_b_page : W.b_page = true := by first | assumption | rfl) (w_b_output : W.b_output = true := by first | assumption | rfl) (w_b_fault : W.b_fault = true := by first | assumption | rfl) (w_b_amber : W.b_amber = true := by first | assumption | rfl) (w_b_redundancy : W.b_redundancy = true := by first | assumption | rfl) (w_b_power : W.b_power = true := by first | assumption | rfl) (w_b_island : W.b_island = true := by first | assumption | rfl) (w_b_perf : W.b_perf = true := by first | assumption | rfl) : KeepR W s0 (execSagEnd a1 a2 s) := by
  unfold execSagEnd
  try dsimp only
  repeat' first
    | with_reducible assumption
    | with_reducible refine Keep.ite ?_ ?_
    | with_reducible refine KeepR.ite ?_ ?_
    | with_reducible refine KeepR.next ?_
    | with_reducible apply State.advanceTo_keep
    | with_reducible apply State.wr_keep
    | with_reducible apply State.inc_keep
    | with_reducible apply State.plan_keep
    | with_reducible apply State.causeEnds_keep
    | with_reducible apply State.setPower_keep
    | ((with_reducible refine Parts.blk_true ?_); first | exact w_b_power)
    | (split <;> try dsimp only)

theorem execSupplyLoss_keep (h : Keep W s0 s) (w_mem : W.mem = true := by first | assumption | rfl) (w_bbs : W.bbs = true := by first | assumption | rfl) (w_clk : W.clk = true := by first | assumption | rfl) (w_modTime : W.modTime = true := by first | assumption | rfl) (w_resetAt : W.resetAt = true := by first | assumption | rfl) (w_out : W.out = true := by first | assumption | rfl) (w_lastRead : W.lastRead = true := by first | assumption | rfl) (w_struct : W.struct = true := by first | assumption | rfl) (w_wparts : W.wparts = true := by first | assumption | rfl) (w_rings : W.rings = true := by first | assumption | rfl) (w_irqs : W.irqs = true := by first | assumption | rfl) (w_badUnits : W.badUnits = true := by first | assumption | rfl) (w_badRecord : W.badRecord = true := by first | assumption | rfl) (w_reruns : W.reruns = true := by first | assumption | rfl) (w_po : W.po = true := by first | assumption | rfl) (w_cv : W.cv = true := by first | assumption | rfl) (w_ptp : W.ptp = true := by first | assumption | rfl) (w_faults : W.faults = true := by first | assumption | rfl) (w_lease : W.lease = true := by first | assumption | rfl) (w_linkSignal : W.linkSignal = true := by first | assumption | rfl) (w_sec : W.sec = true := by first | assumption | rfl) (w_pages : W.pages = true := by first | assumption | rfl) (w_serve : W.serve = true := by first | assumption | rfl) (w_slots : W.slots = true := by first | assumption | rfl) (w_fabric : W.fabric = true := by first | assumption | rfl) (w_stk : W.stk = true := by first | assumption | rfl) (w_links : W.links = true := by first | assumption | rfl) (w_video : W.video = true := by first | assumption | rfl) (w_power : W.power = true := by first | assumption | rfl) (w_fw : W.fw = true := by first | assumption | rfl) (w_sdio : W.sdio = true := by first | assumption | rfl) (w_mgmt : W.mgmt = true := by first | assumption | rfl) (w_cores : W.cores = true := by first | assumption | rfl) (w_dbg : W.dbg = true := by first | assumption | rfl) (w_perf : W.perf = true := by first | assumption | rfl) (w_opc : W.opc = true := by first | assumption | rfl) (w_opcShadow : W.opcShadow = true := by first | assumption | rfl) (w_bwStart : W.bwStart = true := by first | assumption | rfl) (w_b_nypra : W.b_nypra = true := by first | assumption | rfl) (w_b_part : W.b_part = true := by first | assumption | rfl) (w_b_tile : W.b_tile = true := by first | assumption | rfl) (w_b_vector : W.b_vector = true := by first | assumption | rfl) (w_b_image : W.b_image = true := by first | assumption | rfl) (w_b_stack : W.b_stack = true := by first | assumption | rfl) (w_b_page : W.b_page = true := by first | assumption | rfl) (w_b_request : W.b_request = true := by first | assumption | rfl) (w_b_ring : W.b_ring = true := by first | assumption | rfl) (w_b_ddr4 : W.b_ddr4 = true := by first | assumption | rfl) (w_b_link : W.b_link = true := by first | assumption | rfl) (w_b_plant : W.b_plant = true := by first | assumption | rfl) (w_b_ptp : W.b_ptp = true := by first | assumption | rfl) (w_b_output : W.b_output = true := by first | assumption | rfl) (w_b_checkValue : W.b_checkValue = true := by first | assumption | rfl) (w_b_video : W.b_video = true := by first | assumption | rfl) (w_b_security : W.b_security = true := by first | assumption | rfl) (w_b_lifecycle : W.b_lifecycle = true := by first | assumption | rfl) (w_b_firmware : W.b_firmware = true := by first | assumption | rfl) (w_b_fault : W.b_fault = true := by first | assumption | rfl) (w_b_amber : W.b_amber = true := by first | assumption | rfl) (w_b_redundancy : W.b_redundancy = true := by first | assumption | rfl) (w_b_power : W.b_power = true := by first | assumption | rfl) (w_b_island : W.b_island = true := by first | assumption | rfl) (w_b_battery : W.b_battery = true := by first | assumption | rfl) (w_b_core : W.b_core = true := by first | assumption | rfl) (w_b_perf : W.b_perf = true := by first | assumption | rfl) (w_b_opCount : W.b_opCount = true := by first | assumption | rfl) (w_b_bandwidth : W.b_bandwidth = true := by first | assumption | rfl) : KeepR W s0 (execSupplyLoss s) := by
  unfold execSupplyLoss
  try dsimp only
  repeat' first
    | with_reducible assumption
    | with_reducible refine Keep.ite ?_ ?_
    | with_reducible refine KeepR.ite ?_ ?_
    | with_reducible refine KeepR.next ?_
    | with_reducible apply State.removePower_keep
    | (split <;> try dsimp only)

theorem State.beginSurge_keep (h : Keep W s0 s) (w_bbs : W.bbs = true := by first | assumption | rfl) (w_out : W.out = true := by first | assumption | rfl) (w_po : W.po = true := by first | assumption | rfl) (w_faults : W.faults = true := by first | assumption | rfl) (w_lease : W.lease = true := by first | assumption | rfl) (w_pages : W.pages = true := by first | assumption | rfl) (w_serve : W.serve = true := by first | assumption | rfl) (w_slots : W.slots = true := by first | assumption | rfl) (w_fabric : W.fabric = true := by first | assumption | rfl) (w_stk : W.stk = true := by first | assumption | rfl) (w_links : W.links = true := by first | assumption | rfl) (w_power : W.power = true := by first | assumption | rfl) (w_dbg : W.dbg = true := by first | assumption | rfl) (w_opc : W.opc = true := by first | assumption | rfl) (w_b_image : W.b_image = true := by first | assumption | rfl) (w_b_page : W.b_page = true := by first | assumption | rfl) (w_b_output : W.b_output = true := by first | assumption | rfl) (w_b_fault : W.b_fault = true := by first | assumption | rfl) (w_b_amber : W.b_amber = true := by first | assumption | rfl) (w_b_redundancy : W.b_redundancy = true := by first | assumption | rfl) (w_b_power : W.b_power = true := by first | assumption | rfl) (w_b_perf : W.b_perf = true := by first | assumption | rfl) : Keep W s0 (State.beginSurge s) := by
  unfold State.beginSurge
  try dsimp only
  repeat' first
    | with_reducible assumption
    | with_reducible refine Keep.ite ?_ ?_
    | with_reducible apply State.event_keep
    | with_reducible apply State.setB_keep
    | with_reducible apply State.inc_keep
    | with_reducible apply State.setPower_keep
    | ((with_reducible refine Parts.blk_true ?_); first | exact w_b_power)
    | (split <;> try dsimp only)

theorem execSurge_keep {a1 a2} (h : Keep W s0 s) (w_bbs : W.bbs = true := by first | assumption | rfl) (w_clk : W.clk = true := by first | assumption | rfl) (w_modTime : W.modTime = true := by first | assumption | rfl) (w_out : W.out = true := by first | assumption | rfl) (w_po : W.po = true := by first | assumption | rfl) (w_ptp : W.ptp = true := by first | assumption | rfl) (w_faults : W.faults = true := by first | assumption | rfl) (w_lease : W.lease = true := by first | assumption | rfl) (w_pages : W.pages = true := by first | assumption | rfl) (w_serve : W.serve = true := by first | assumption | rfl) (w_slots : W.slots = true := by first | assumption | rfl) (w_fabric : W.fabric = true := by first | assumption | rfl) (w_stk : W.stk = true := by first | assumption | rfl) (w_links : W.links = true := by first | assumption | rfl) (w_power : W.power = true := by first | assumption | rfl) (w_dbg : W.dbg = true := by first | assumption | rfl) (w_opc : W.opc = true := by first | assumption | rfl) (w_b_image : W.b_image = true := by first | assumption | rfl) (w_b_page : W.b_page = true := by first | assumption | rfl) (w_b_output : W.b_output = true := by first | assumption | rfl) (w_b_fault : W.b_fault = true := by first | assumption | rfl) (w_b_amber : W.b_amber = true := by first | assumption | rfl) (w_b_redundancy : W.b_redundancy = true := by first | assumption | rfl) (w_b_power : W.b_power = true := by first | assumption | rfl) (w_b_perf : W.b_perf = true := by first | assumption | rfl) : KeepR W s0 (execSurge a1 a2 s) := by
  unfold execSurge
  try dsimp only
  repeat' first
    | with_reducible assumption
    | with_reducible refine Keep.ite ?_ ?_
    | with_reducible refine KeepR.ite ?_ ?_
    | with_reducible refine KeepR.next ?_
    | with_reducible apply State.beginSurge_keep
    | with_reducible apply State.wr_keep
    | with_reducible apply State.pass_keep
    | ((with_reducible refine Parts.blk_true ?_); first | exact w_b_power)
    | (split <;> try dsimp only)

theorem execSurgeOff_keep (h : Keep W s0 s) (w_mem : W.mem = true := by first | assumption | rfl) (w_bbs : W.bbs = true := by first | assumption | rfl) (w_clk : W.clk = true := by first | assumption | rfl) (w_modTime : W.modTime = true := by first | assumption | rfl) (w_resetAt : W.resetAt = true := by first | assumption | rfl) (w_out : W.out = true := by first | assumption | rfl) (w_lastRead : W.lastRead = true := by first | assumption | rfl) (w_struct : W.struct = true := by first | assumption | rfl) (w_wparts : W.wparts = true := by first | assumption | rfl) (w_rings : W.rings = true := by first | assumption | rfl) (w_irqs : W.irqs = true := by first | assumption | rfl) (w_badUnits : W.badUnits = true := by first | assumption | rfl) (w_badRecord : W.badRecord = true := by first | assumption | rfl) (w_reruns : W.reruns = true := by first | assumption | rfl) (w_po : W.po = true := by first | assumption | rfl) (w_cv : W.cv = true := by first | assumption | rfl) (w_ptp : W.ptp = true := by first | assumption | rfl) (w_faults : W.faults = true := by first | assumption | rfl) (w_lease : W.lease = true := by first | assumption | rfl) (w_linkSignal : W.linkSignal = true := by first | assumption | rfl) (w_sec : W.sec = true := by first | assumption | rfl) (w_pages : W.pages = true := by first | assumption | rfl) (w_serve : W.serve = true := by first | assumption | rfl) (w_slots : W.slots = true := by first | assumption | rfl) (w_fabric : W.fabric = true := by first | assumption | rfl) (w_stk : W.stk = true := by first | assumption | rfl) (w_links : W.links = true := by first | assumption | rfl) (w_video : W.video = true := by first | assumption | rfl) (w_power : W.power = true := by first | assumption | rfl) (w_fw : W.fw = true := by first | assumption | rfl) (w_sdio : W.sdio = true := by first | assumption | rfl) (w_mgmt : W.mgmt = true := by first | assumption | rfl) (w_cores : W.cores = true := by first | assumption | rfl) (w_dbg : W.dbg = true := by first | assumption | rfl) (w_perf : W.perf = true := by first | assumption | rfl) (w_opc : W.opc = true := by first | assumption | rfl) (w_opcShadow : W.opcShadow = true := by first | assumption | rfl) (w_bwStart : W.bwStart = true := by first | assumption | rfl) (w_b_nypra : W.b_nypra = true := by first | assumption | rfl) (w_b_part : W.b_part = true := by first | assumption | rfl) (w_b_tile : W.b_tile = true := by first | assumption | rfl) (w_b_vector : W.b_vector = true := by first | assumption | rfl) (w_b_image : W.b_image = true := by first | assumption | rfl) (w_b_stack : W.b_stack = true := by first | assumption | rfl) (w_b_page : W.b_page = true := by first | assumption | rfl) (w_b_request : W.b_request = true := by first | assumption | rfl) (w_b_ring : W.b_ring = true := by first | assumption | rfl) (w_b_ddr4 : W.b_ddr4 = true := by first | assumption | rfl) (w_b_link : W.b_link = true := by first | assumption | rfl) (w_b_plant : W.b_plant = true := by first | assumption | rfl) (w_b_ptp : W.b_ptp = true := by first | assumption | rfl) (w_b_output : W.b_output = true := by first | assumption | rfl) (w_b_checkValue : W.b_checkValue = true := by first | assumption | rfl) (w_b_video : W.b_video = true := by first | assumption | rfl) (w_b_security : W.b_security = true := by first | assumption | rfl) (w_b_lifecycle : W.b_lifecycle = true := by first | assumption | rfl) (w_b_firmware : W.b_firmware = true := by first | assumption | rfl) (w_b_fault : W.b_fault = true := by first | assumption | rfl) (w_b_amber : W.b_amber = true := by first | assumption | rfl) (w_b_redundancy : W.b_redundancy = true := by first | assumption | rfl) (w_b_power : W.b_power = true := by first | assumption | rfl) (w_b_island : W.b_island = true := by first | assumption | rfl) (w_b_battery : W.b_battery = true := by first | assumption | rfl) (w_b_core : W.b_core = true := by first | assumption | rfl) (w_b_perf : W.b_perf = true := by first | assumption | rfl) (w_b_opCount : W.b_opCount = true := by first | assumption | rfl) (w_b_bandwidth : W.b_bandwidth = true := by first | assumption | rfl) : KeepR W s0 (execSurgeOff s) := by
  unfold execSurgeOff
  try dsimp only
  repeat' first
    | with_reducible assumption
    | with_reducible refine Keep.ite ?_ ?_
    | with_reducible refine KeepR.ite ?_ ?_
    | with_reducible refine KeepR.next ?_
    | with_reducible apply State.removePower_keep
    | with_reducible apply State.beginSurge_keep

theorem execPowerWindow_keep {a1 a2 a3} (h : Keep W s0 s) (w_bbs : W.bbs = true := by first | assumption | rfl) (w_clk : W.clk = true := by first | assumption | rfl) (w_modTime : W.modTime = true := by first | assumption | rfl) (w_out : W.out = true := by first | assumption | rfl) (w_po : W.po = true := by first | assumption | rfl) (w_ptp : W.ptp = true := by first | assumption | rfl) (w_faults : W.faults = true := by first | assumption | rfl) (w_lease : W.lease = true := by first | assumption | rfl) (w_pages : W.pages = true := by first | assumption | rfl) (w_serve : W.serve = true := by first | assumption | rfl) (w_slots : W.slots = true := by first | assumption | rfl) (w_fabric : W.fabric = true := by first | assumption | rfl) (w_stk : W.stk = true := by first | assumption | rfl) (w_links : W.links = true := by first | assumption | rfl) (w_power : W.power = true := by first | assumption | rfl) (w_dbg : W.dbg = true := by first | assumption | rfl) (w_opc : W.opc = true := by first | assumption | rfl) (w_b_image : W.b_image = true := by first | assumption | rfl) (w_b_page : W.b_page = true := by first | assumption | rfl) (w_b_output : W.b_output = true := by first | assumption | rfl) (w_b_fault : W.b_fault = true := by first | assumption | rfl) (w_b_amber : W.b_amber = true := by first | assumption | rfl) (w_b_redundancy : W.b_redundancy = true := by first | assumption | rfl) (w_b_power : W.b_power = true := by first | assumption | rfl) (w_b_perf : W.b_perf = true := by first | assumption | rfl) : KeepR W s0 (execPowerWindow a1 a2 a3 s) := by
  unfold execPowerWindow
  try dsimp only
  repeat' first
    | with_reducible assumption
    | with_reducible refine Keep.ite ?_ ?_
    | with_reducible refine KeepR.ite ?_ ?_
    | with_reducible refine KeepR.next ?_
    | with_reducible apply State.advancePeriod_keep
    | with_reducible apply State.wr_keep
    | with_reducible apply State.causeEnds_keep
    | with_reducible apply State.setPower_keep
    | with_reducible apply State.draw_keep
    | with_reducible apply State.event_keep
    | with_reducible apply State.setB_keep
    | ((with_reducible refine Parts.blk_true ?_); first | exact w_b_power)
    | (intro _; intros; try dsimp only)
    | (split <;> try dsimp only)
    | with_reducible refine Keep.foldl ?_ ?_

theorem execCapLvlChange_keep {a1} (h : Keep W s0 s) (w_bbs : W.bbs = true := by first | assumption | rfl) (w_clk : W.clk = true := by first | assumption | rfl) (w_modTime : W.modTime = true := by first | assumption | rfl) (w_out : W.out = true := by first | assumption | rfl) (w_po : W.po = true := by first | assumption | rfl) (w_ptp : W.ptp = true := by first | assumption | rfl) (w_faults : W.faults = true := by first | assumption | rfl) (w_lease : W.lease = true := by first | assumption | rfl) (w_pages : W.pages = true := by first | assumption | rfl) (w_serve : W.serve = true := by first | assumption | rfl) (w_slots : W.slots = true := by first | assumption | rfl) (w_fabric : W.fabric = true := by first | assumption | rfl) (w_stk : W.stk = true := by first | assumption | rfl) (w_links : W.links = true := by first | assumption | rfl) (w_power : W.power = true := by first | assumption | rfl) (w_dbg : W.dbg = true := by first | assumption | rfl) (w_opc : W.opc = true := by first | assumption | rfl) (w_b_image : W.b_image = true := by first | assumption | rfl) (w_b_page : W.b_page = true := by first | assumption | rfl) (w_b_output : W.b_output = true := by first | assumption | rfl) (w_b_fault : W.b_fault = true := by first | assumption | rfl) (w_b_amber : W.b_amber = true := by first | assumption | rfl) (w_b_redundancy : W.b_redundancy = true := by first | assumption | rfl) (w_b_power : W.b_power = true := by first | assumption | rfl) (w_b_island : W.b_island = true := by first | assumption | rfl) (w_b_perf : W.b_perf = true := by first | assumption | rfl) : KeepR W s0 (execCapLvlChange a1 s) := by
  unfold execCapLvlChange
  try dsimp only
  repeat' first
    | with_reducible assumption
    | with_reducible refine Keep.ite ?_ ?_
    | with_reducible refine KeepR.ite ?_ ?_
    | with_reducible refine KeepR.next ?_
    | with_reducible apply State.plan_keep
    | with_reducible apply State.wr_keep
    | with_reducible apply State.pass_keep
    | ((with_reducible refine Parts.blk_true ?_); first | exact w_b_power)

theorem execMgmtCapWrite_keep {a1 a2} (h : Keep W s0 s) (w_bbs : W.bbs = true := by first | assumption | rfl) (w_out : W.out = true := by first | assumption | rfl) (w_po : W.po = true := by first | assumption | rfl) (w_faults : W.faults = true := by first | assumption | rfl) (w_lease : W.lease = true := by first | assumption | rfl) (w_pages : W.pages = true := by first | assumption | rfl) (w_serve : W.serve = true := by first | assumption | rfl) (w_slots : W.slots = true := by first | assumption | rfl) (w_fabric : W.fabric = true := by first | assumption | rfl) (w_stk : W.stk = true := by first | assumption | rfl) (w_links : W.links = true := by first | assumption | rfl) (w_power : W.power = true := by first | assumption | rfl) (w_dbg : W.dbg = true := by first | assumption | rfl) (w_opc : W.opc = true := by first | assumption | rfl) (w_b_image : W.b_image = true := by first | assumption | rfl) (w_b_page : W.b_page = true := by first | assumption | rfl) (w_b_output : W.b_output = true := by first | assumption | rfl) (w_b_fault : W.b_fault = true := by first | assumption | rfl) (w_b_amber : W.b_amber = true := by first | assumption | rfl) (w_b_redundancy : W.b_redundancy = true := by first | assumption | rfl) (w_b_power : W.b_power = true := by first | assumption | rfl) (w_b_island : W.b_island = true := by first | assumption | rfl) (w_b_perf : W.b_perf = true := by first | assumption | rfl) : KeepR W s0 (execMgmtCapWrite a1 a2 s) := by
  unfold execMgmtCapWrite
  try dsimp only
  repeat' first
    | with_reducible assumption
    | with_reducible refine Keep.ite ?_ ?_
    | with_reducible refine KeepR.ite ?_ ?_
    | with_reducible refine KeepR.next ?_
    | with_reducible apply guardHcs_keep
    | with_reducible apply State.plan_keep
    | with_reducible apply State.applyWrite_keep
    | ((with_reducible refine Parts.blk_true ?_); first | exact w_b_power)
    | (intro _; intros; try dsimp only)

theorem execPlannerTick_keep (h : Keep W s0 s) (w_bbs : W.bbs = true := by first | assumption | rfl) (w_clk : W.clk = true := by first | assumption | rfl) (w_modTime : W.modTime = true := by first | assumption | rfl) (w_out : W.out = true := by first | assumption | rfl) (w_po : W.po = true := by first | assumption | rfl) (w_ptp : W.ptp = true := by first | assumption | rfl) (w_faults : W.faults = true := by first | assumption | rfl) (w_lease : W.lease = true := by first | assumption | rfl) (w_pages : W.pages = true := by first | assumption | rfl) (w_serve : W.serve = true := by first | assumption | rfl) (w_slots : W.slots = true := by first | assumption | rfl) (w_fabric : W.fabric = true := by first | assumption | rfl) (w_stk : W.stk = true := by first | assumption | rfl) (w_links : W.links = true := by first | assumption | rfl) (w_power : W.power = true := by first | assumption | rfl) (w_dbg : W.dbg = true := by first | assumption | rfl) (w_opc : W.opc = true := by first | assumption | rfl) (w_b_image : W.b_image = true := by first | assumption | rfl) (w_b_page : W.b_page = true := by first | assumption | rfl) (w_b_output : W.b_output = true := by first | assumption | rfl) (w_b_fault : W.b_fault = true := by first | assumption | rfl) (w_b_amber : W.b_amber = true := by first | assumption | rfl) (w_b_redundancy : W.b_redundancy = true := by first | assumption | rfl) (w_b_power : W.b_power = true := by first | assumption | rfl) (w_b_island : W.b_island = true := by first | assumption | rfl) (w_b_perf : W.b_perf = true := by first | assumption | rfl) : KeepR W s0 (execPlannerTick s) := by
  unfold execPlannerTick
  try dsimp only
  repeat' first
    | with_reducible assumption
    | with_reducible refine Keep.ite ?_ ?_
    | with_reducible refine KeepR.ite ?_ ?_
    | with_reducible refine KeepR.next ?_
    | with_reducible apply State.plan_keep
    | with_reducible apply State.advancePeriod_keep

theorem execRecallDone_keep (h : Keep W s0 s) (w_power : W.power = true := by first | assumption | rfl) (w_b_power : W.b_power = true := by first | assumption | rfl) (w_b_island : W.b_island = true := by first | assumption | rfl) : KeepR W s0 (execRecallDone s) := by
  unfold execRecallDone
  try dsimp only
  repeat' first
    | with_reducible assumption
    | with_reducible refine Keep.ite ?_ ?_
    | with_reducible refine KeepR.ite ?_ ?_
    | with_reducible refine KeepR.next ?_
    | with_reducible apply State.regrant_keep
    | with_reducible apply State.retarget_keep
    | (split <;> try dsimp only)

theorem execLoweringSettled_keep (h : Keep W s0 s) (w_power : W.power = true := by first | assumption | rfl) (w_b_power : W.b_power = true := by first | assumption | rfl) (w_b_island : W.b_island = true := by first | assumption | rfl) : KeepR W s0 (execLoweringSettled s) := by
  unfold execLoweringSettled
  try dsimp only
  repeat' first
    | with_reducible assumption
    | with_reducible refine Keep.ite ?_ ?_
    | with_reducible refine KeepR.ite ?_ ?_
    | with_reducible refine KeepR.next ?_
    | with_reducible apply State.setGates_keep
    | with_reducible apply State.retarget_keep
    | with_reducible apply State.setB_keep
    | with_reducible apply State.setPower_keep
    | ((with_reducible refine Parts.blk_true ?_); first | exact w_b_power)
    | (split <;> try dsimp only)

theorem execPowerBooksAudit_keep (h : Keep W s0 s) (w_clk : W.clk = true := by first | assumption | rfl) (w_modTime : W.modTime = true := by first | assumption | rfl) (w_ptp : W.ptp = true := by first | assumption | rfl) (w_b_power : W.b_power = true := by first | assumption | rfl) (w_b_perf : W.b_perf = true := by first | assumption | rfl) : KeepR W s0 (execPowerBooksAudit s) := by
  unfold execPowerBooksAudit
  try dsimp only
  repeat' first
    | with_reducible assumption
    | with_reducible refine Keep.ite ?_ ?_
    | with_reducible refine KeepR.ite ?_ ?_
    | with_reducible refine KeepR.next ?_
    | with_reducible apply State.incWrap_keep
    | with_reducible apply State.advancePeriod_keep
    | with_reducible apply State.regrant_keep
    | with_reducible apply State.setB_keep
    | ((with_reducible refine Parts.blk_true ?_); first | exact w_b_power)
    | (split <;> try dsimp only)

theorem execFlowReport_keep {a1 a2} (h : Keep W s0 s) (w_bbs : W.bbs = true := by first | assumption | rfl) (w_out : W.out = true := by first | assumption | rfl) (w_po : W.po = true := by first | assumption | rfl) (w_faults : W.faults = true := by first | assumption | rfl) (w_lease : W.lease = true := by first | assumption | rfl) (w_pages : W.pages = true := by first | assumption | rfl) (w_serve : W.serve = true := by first | assumption | rfl) (w_slots : W.slots = true := by first | assumption | rfl) (w_fabric : W.fabric = true := by first | assumption | rfl) (w_stk : W.stk = true := by first | assumption | rfl) (w_links : W.links = true := by first | assumption | rfl) (w_power : W.power = true := by first | assumption | rfl) (w_sdio : W.sdio = true := by first | assumption | rfl) (w_dbg : W.dbg = true := by first | assumption | rfl) (w_opc : W.opc = true := by first | assumption | rfl) (w_b_image : W.b_image = true := by first | assumption | rfl) (w_b_page : W.b_page = true := by first | assumption | rfl) (w_b_output : W.b_output = true := by first | assumption | rfl) (w_b_fault : W.b_fault = true := by first | assumption | rfl) (w_b_amber : W.b_amber = true := by first | assumption | rfl) (w_b_redundancy : W.b_redundancy = true := by first | assumption | rfl) (w_b_power : W.b_power = true := by first | assumption | rfl) (w_b_island : W.b_island = true := by first | assumption | rfl) (w_b_perf : W.b_perf = true := by first | assumption | rfl) : KeepR W s0 (execFlowReport a1 a2 s) := by
  unfold execFlowReport
  try dsimp only
  repeat' first
    | with_reducible assumption
    | with_reducible refine Keep.ite ?_ ?_
    | with_reducible refine KeepR.ite ?_ ?_
    | with_reducible refine KeepR.next ?_
    | with_reducible apply State.wakeS4_keep
    | with_reducible apply State.setPower_keep
    | with_reducible apply State.wr_keep
    | with_reducible apply State.event_keep
    | with_reducible apply State.setB_keep
    | with_reducible apply State.causeEnds_keep
    | with_reducible apply State.plan_keep
    | ((with_reducible refine Parts.blk_true ?_); first | exact w_b_power)
    | (split <;> try dsimp only)
    | with_reducible refine Keep.upd_sdio (h := ?_)

theorem execFlowStale_keep (h : Keep W s0 s) (w_bbs : W.bbs = true := by first | assumption | rfl) (w_clk : W.clk = true := by first | assumption | rfl) (w_modTime : W.modTime = true := by first | assumption | rfl) (w_out : W.out = true := by first | assumption | rfl) (w_po : W.po = true := by first | assumption | rfl) (w_ptp : W.ptp = true := by first | assumption | rfl) (w_faults : W.faults = true := by first | assumption | rfl) (w_lease : W.lease = true := by first | assumption | rfl) (w_pages : W.pages = true := by first | assumption | rfl) (w_serve : W.serve = true := by first | assumption | rfl) (w_slots : W.slots = true := by first | assumption | rfl) (w_fabric : W.fabric = true := by first | assumption | rfl) (w_stk : W.stk = true := by first | assumption | rfl) (w_links : W.links = true := by first | assumption | rfl) (w_power : W.power = true := by first | assumption | rfl) (w_dbg : W.dbg = true := by first | assumption | rfl) (w_opc : W.opc = true := by first | assumption | rfl) (w_b_image : W.b_image = true := by first | assumption | rfl) (w_b_page : W.b_page = true := by first | assumption | rfl) (w_b_output : W.b_output = true := by first | assumption | rfl) (w_b_fault : W.b_fault = true := by first | assumption | rfl) (w_b_amber : W.b_amber = true := by first | assumption | rfl) (w_b_redundancy : W.b_redundancy = true := by first | assumption | rfl) (w_b_power : W.b_power = true := by first | assumption | rfl) (w_b_island : W.b_island = true := by first | assumption | rfl) (w_b_perf : W.b_perf = true := by first | assumption | rfl) : KeepR W s0 (execFlowStale s) := by
  unfold execFlowStale
  try dsimp only
  repeat' first
    | with_reducible assumption
    | with_reducible refine Keep.ite ?_ ?_
    | with_reducible refine KeepR.ite ?_ ?_
    | with_reducible refine KeepR.next ?_
    | with_reducible apply State.plan_keep
    | with_reducible apply State.setB_keep
    | with_reducible apply State.advanceTo_keep
    | ((with_reducible refine Parts.blk_true ?_); first | exact w_b_power)
    | (split <;> try dsimp only)

theorem execFlowOff_keep (h : Keep W s0 s) (w_mem : W.mem = true := by first | assumption | rfl) (w_bbs : W.bbs = true := by first | assumption | rfl) (w_clk : W.clk = true := by first | assumption | rfl) (w_modTime : W.modTime = true := by first | assumption | rfl) (w_resetAt : W.resetAt = true := by first | assumption | rfl) (w_out : W.out = true := by first | assumption | rfl) (w_lastRead : W.lastRead = true := by first | assumption | rfl) (w_struct : W.struct = true := by first | assumption | rfl) (w_wparts : W.wparts = true := by first | assumption | rfl) (w_rings : W.rings = true := by first | assumption | rfl) (w_irqs : W.irqs = true := by first | assumption | rfl) (w_badUnits : W.badUnits = true := by first | assumption | rfl) (w_badRecord : W.badRecord = true := by first | assumption | rfl) (w_reruns : W.reruns = true := by first | assumption | rfl) (w_po : W.po = true := by first | assumption | rfl) (w_cv : W.cv = true := by first | assumption | rfl) (w_ptp : W.ptp = true := by first | assumption | rfl) (w_faults : W.faults = true := by first | assumption | rfl) (w_lease : W.lease = true := by first | assumption | rfl) (w_linkSignal : W.linkSignal = true := by first | assumption | rfl) (w_sec : W.sec = true := by first | assumption | rfl) (w_pages : W.pages = true := by first | assumption | rfl) (w_serve : W.serve = true := by first | assumption | rfl) (w_slots : W.slots = true := by first | assumption | rfl) (w_fabric : W.fabric = true := by first | assumption | rfl) (w_stk : W.stk = true := by first | assumption | rfl) (w_links : W.links = true := by first | assumption | rfl) (w_video : W.video = true := by first | assumption | rfl) (w_power : W.power = true := by first | assumption | rfl) (w_fw : W.fw = true := by first | assumption | rfl) (w_sdio : W.sdio = true := by first | assumption | rfl) (w_mgmt : W.mgmt = true := by first | assumption | rfl) (w_cores : W.cores = true := by first | assumption | rfl) (w_dbg : W.dbg = true := by first | assumption | rfl) (w_perf : W.perf = true := by first | assumption | rfl) (w_opc : W.opc = true := by first | assumption | rfl) (w_opcShadow : W.opcShadow = true := by first | assumption | rfl) (w_bwStart : W.bwStart = true := by first | assumption | rfl) (w_b_nypra : W.b_nypra = true := by first | assumption | rfl) (w_b_part : W.b_part = true := by first | assumption | rfl) (w_b_tile : W.b_tile = true := by first | assumption | rfl) (w_b_vector : W.b_vector = true := by first | assumption | rfl) (w_b_image : W.b_image = true := by first | assumption | rfl) (w_b_stack : W.b_stack = true := by first | assumption | rfl) (w_b_page : W.b_page = true := by first | assumption | rfl) (w_b_request : W.b_request = true := by first | assumption | rfl) (w_b_ring : W.b_ring = true := by first | assumption | rfl) (w_b_ddr4 : W.b_ddr4 = true := by first | assumption | rfl) (w_b_link : W.b_link = true := by first | assumption | rfl) (w_b_plant : W.b_plant = true := by first | assumption | rfl) (w_b_ptp : W.b_ptp = true := by first | assumption | rfl) (w_b_output : W.b_output = true := by first | assumption | rfl) (w_b_checkValue : W.b_checkValue = true := by first | assumption | rfl) (w_b_video : W.b_video = true := by first | assumption | rfl) (w_b_security : W.b_security = true := by first | assumption | rfl) (w_b_lifecycle : W.b_lifecycle = true := by first | assumption | rfl) (w_b_firmware : W.b_firmware = true := by first | assumption | rfl) (w_b_fault : W.b_fault = true := by first | assumption | rfl) (w_b_amber : W.b_amber = true := by first | assumption | rfl) (w_b_redundancy : W.b_redundancy = true := by first | assumption | rfl) (w_b_power : W.b_power = true := by first | assumption | rfl) (w_b_island : W.b_island = true := by first | assumption | rfl) (w_b_battery : W.b_battery = true := by first | assumption | rfl) (w_b_core : W.b_core = true := by first | assumption | rfl) (w_b_perf : W.b_perf = true := by first | assumption | rfl) (w_b_opCount : W.b_opCount = true := by first | assumption | rfl) (w_b_bandwidth : W.b_bandwidth = true := by first | assumption | rfl) : KeepR W s0 (execFlowOff s) := by
  unfold execFlowOff
  try dsimp only
  repeat' first
    | with_reducible assumption
    | with_reducible refine Keep.ite ?_ ?_
    | with_reducible refine KeepR.ite ?_ ?_
    | with_reducible refine KeepR.next ?_
    | with_reducible apply State.removePower_keep
    | with_reducible apply State.advanceTo_keep
    | (split <;> try dsimp only)

theorem State.samplePairs_keep {a1 a2 a3 a4} (h : Keep W s0 s) (w_bbs : W.bbs = true := by first | assumption | rfl) (w_out : W.out = true := by first | assumption | rfl) (w_po : W.po = true := by first | assumption | rfl) (w_faults : W.faults = true := by first | assumption | rfl) (w_lease : W.lease = true := by first | assumption | rfl) (w_pages : W.pages = true := by first | assumption | rfl) (w_serve : W.serve = true := by first | assumption | rfl) (w_slots : W.slots = true := by first | assumption | rfl) (w_fabric : W.fabric = true := by first | assumption | rfl) (w_stk : W.stk = true := by first | assumption | rfl) (w_links : W.links = true := by first | assumption | rfl) (w_power : W.power = true := by first | assumption | rfl) (w_dbg : W.dbg = true := by first | assumption | rfl) (w_opc : W.opc = true := by first | assumption | rfl) (w_b_image : W.b_image = true := by first | assumption | rfl) (w_b_page : W.b_page = true := by first | assumption | rfl) (w_b_output : W.b_output = true := by first | assumption | rfl) (w_b_fault : W.b_fault = true := by first | assumption | rfl) (w_b_amber : W.b_amber = true := by first | assumption | rfl) (w_b_redundancy : W.b_redundancy = true := by first | assumption | rfl) (w_b_power : W.b_power = true := by first | assumption | rfl) (w_b_perf : W.b_perf = true := by first | assumption | rfl) : Keep W s0 (State.samplePairs s a1 a2 a3 a4) := by
  unfold State.samplePairs
  try dsimp only
  repeat' first
    | with_reducible assumption
    | with_reducible refine Keep.ite ?_ ?_
    | with_reducible apply State.pairEvent_keep
    | with_reducible apply State.setPower_keep
    | with_reducible apply State.wr_keep
    | ((with_reducible refine Parts.blk_true ?_); first | exact w_b_power)
    | (split <;> try dsimp only)

theorem State.sampleSpots_keep {a1} (h : Keep W s0 s) (w_bbs : W.bbs = true := by first | assumption | rfl) (w_out : W.out = true := by first | assumption | rfl) (w_po : W.po = true := by first | assumption | rfl) (w_faults : W.faults = true := by first | assumption | rfl) (w_lease : W.lease = true := by first | assumption | rfl) (w_pages : W.pages = true := by first | assumption | rfl) (w_serve : W.serve = true := by first | assumption | rfl) (w_slots : W.slots = true := by first | assumption | rfl) (w_fabric : W.fabric = true := by first | assumption | rfl) (w_stk : W.stk = true := by first | assumption | rfl) (w_links : W.links = true := by first | assumption | rfl) (w_power : W.power = true := by first | assumption | rfl) (w_dbg : W.dbg = true := by first | assumption | rfl) (w_opc : W.opc = true := by first | assumption | rfl) (w_b_image : W.b_image = true := by first | assumption | rfl) (w_b_page : W.b_page = true := by first | assumption | rfl) (w_b_output : W.b_output = true := by first | assumption | rfl) (w_b_fault : W.b_fault = true := by first | assumption | rfl) (w_b_amber : W.b_amber = true := by first | assumption | rfl) (w_b_redundancy : W.b_redundancy = true := by first | assumption | rfl) (w_b_power : W.b_power = true := by first | assumption | rfl) (w_b_perf : W.b_perf = true := by first | assumption | rfl) : Keep W s0 (State.sampleSpots s a1) := by
  unfold State.sampleSpots
  try dsimp only
  repeat' first
    | with_reducible assumption
    | with_reducible refine Keep.ite ?_ ?_
    | with_reducible apply State.pairEvent_keep
    | with_reducible apply State.setB_keep
    | with_reducible apply State.setPower_keep
    | with_reducible apply State.wr_keep
    | ((with_reducible refine Parts.blk_true ?_); first | exact w_b_power)
    | with_reducible refine Keep.foldlFst ?_ ?_
    | (intro _; intros; try dsimp only)
    | (split <;> try dsimp only)
    | with_reducible refine Keep.foldl ?_ ?_

theorem State.thermalCauses_keep (h : Keep W s0 s) (w_faults : W.faults = true := by first | assumption | rfl) (w_b_fault : W.b_fault = true := by first | assumption | rfl) : Keep W s0 (State.thermalCauses s) := by
  unfold State.thermalCauses
  try dsimp only
  repeat' first
    | with_reducible assumption
    | with_reducible refine Keep.ite ?_ ?_
    | with_reducible apply State.causeEnds_keep
    | (split <;> try dsimp only)

theorem execTemperatureSample_keep {a1 a2 a3 a4 a5} (h : Keep W s0 s) (w_mem : W.mem = true := by first | assumption | rfl) (w_bbs : W.bbs = true := by first | assumption | rfl) (w_clk : W.clk = true := by first | assumption | rfl) (w_modTime : W.modTime = true := by first | assumption | rfl) (w_resetAt : W.resetAt = true := by first | assumption | rfl) (w_out : W.out = true := by first | assumption | rfl) (w_lastRead : W.lastRead = true := by first | assumption | rfl) (w_struct : W.struct = true := by first | assumption | rfl) (w_wparts : W.wparts = true := by first | assumption | rfl) (w_rings : W.rings = true := by first | assumption | rfl) (w_irqs : W.irqs = true := by first | assumption | rfl) (w_badUnits : W.badUnits = true := by first | assumption | rfl) (w_badRecord : W.badRecord = true := by first | assumption | rfl) (w_reruns : W.reruns = true := by first | assumption | rfl) (w_po : W.po = true := by first | assumption | rfl) (w_cv : W.cv = true := by first | assumption | rfl) (w_ptp : W.ptp = true := by first | assumption | rfl) (w_faults : W.faults = true := by first | assumption | rfl) (w_lease : W.lease = true := by first | assumption | rfl) (w_linkSignal : W.linkSignal = true := by first | assumption | rfl) (w_sec : W.sec = true := by first | assumption | rfl) (w_pages : W.pages = true := by first | assumption | rfl) (w_serve : W.serve = true := by first | assumption | rfl) (w_slots : W.slots = true := by first | assumption | rfl) (w_fabric : W.fabric = true := by first | assumption | rfl) (w_stk : W.stk = true := by first | assumption | rfl) (w_links : W.links = true := by first | assumption | rfl) (w_video : W.video = true := by first | assumption | rfl) (w_power : W.power = true := by first | assumption | rfl) (w_fw : W.fw = true := by first | assumption | rfl) (w_sdio : W.sdio = true := by first | assumption | rfl) (w_mgmt : W.mgmt = true := by first | assumption | rfl) (w_cores : W.cores = true := by first | assumption | rfl) (w_dbg : W.dbg = true := by first | assumption | rfl) (w_perf : W.perf = true := by first | assumption | rfl) (w_opc : W.opc = true := by first | assumption | rfl) (w_opcShadow : W.opcShadow = true := by first | assumption | rfl) (w_bwStart : W.bwStart = true := by first | assumption | rfl) (w_b_nypra : W.b_nypra = true := by first | assumption | rfl) (w_b_part : W.b_part = true := by first | assumption | rfl) (w_b_tile : W.b_tile = true := by first | assumption | rfl) (w_b_vector : W.b_vector = true := by first | assumption | rfl) (w_b_image : W.b_image = true := by first | assumption | rfl) (w_b_stack : W.b_stack = true := by first | assumption | rfl) (w_b_page : W.b_page = true := by first | assumption | rfl) (w_b_request : W.b_request = true := by first | assumption | rfl) (w_b_ring : W.b_ring = true := by first | assumption | rfl) (w_b_ddr4 : W.b_ddr4 = true := by first | assumption | rfl) (w_b_link : W.b_link = true := by first | assumption | rfl) (w_b_plant : W.b_plant = true := by first | assumption | rfl) (w_b_ptp : W.b_ptp = true := by first | assumption | rfl) (w_b_output : W.b_output = true := by first | assumption | rfl) (w_b_checkValue : W.b_checkValue = true := by first | assumption | rfl) (w_b_video : W.b_video = true := by first | assumption | rfl) (w_b_security : W.b_security = true := by first | assumption | rfl) (w_b_lifecycle : W.b_lifecycle = true := by first | assumption | rfl) (w_b_firmware : W.b_firmware = true := by first | assumption | rfl) (w_b_fault : W.b_fault = true := by first | assumption | rfl) (w_b_amber : W.b_amber = true := by first | assumption | rfl) (w_b_redundancy : W.b_redundancy = true := by first | assumption | rfl) (w_b_power : W.b_power = true := by first | assumption | rfl) (w_b_island : W.b_island = true := by first | assumption | rfl) (w_b_battery : W.b_battery = true := by first | assumption | rfl) (w_b_core : W.b_core = true := by first | assumption | rfl) (w_b_perf : W.b_perf = true := by first | assumption | rfl) (w_b_opCount : W.b_opCount = true := by first | assumption | rfl) (w_b_bandwidth : W.b_bandwidth = true := by first | assumption | rfl) : KeepR W s0 (execTemperatureSample a1 a2 a3 a4 a5 s) := by
  unfold execTemperatureSample
  try dsimp only
  repeat' first
    | with_reducible assumption
    | with_reducible refine Keep.ite ?_ ?_
    | with_reducible refine KeepR.ite ?_ ?_
    | with_reducible refine KeepR.next ?_
    | with_reducible apply State.samplePairs_keep
    | with_reducible apply State.advancePeriod_keep
    | with_reducible apply State.sampleSpots_keep
    | with_reducible apply State.plan_keep
    | with_reducible apply State.thermalCauses_keep
    | with_reducible apply State.removePower_keep
    | with_reducible apply State.event_keep
    | (split <;> try dsimp only)

theorem execSoftLimitTick_keep (h : Keep W s0 s) (w_clk : W.clk = true := by first | assumption | rfl) (w_modTime : W.modTime = true := by first | assumption | rfl) (w_ptp : W.ptp = true := by first | assumption | rfl) (w_power : W.power = true := by first | assumption | rfl) (w_b_power : W.b_power = true := by first | assumption | rfl) (w_b_island : W.b_island = true := by first | assumption | rfl) (w_b_perf : W.b_perf = true := by first | assumption | rfl) : KeepR W s0 (execSoftLimitTick s) := by
  unfold execSoftLimitTick
  try dsimp only
  repeat' first
    | with_reducible assumption
    | with_reducible refine Keep.ite ?_ ?_
    | with_reducible refine KeepR.ite ?_ ?_
    | with_reducible refine KeepR.next ?_
    | with_reducible apply State.advancePeriod_keep
    | with_reducible apply State.setPower_keep
    | with_reducible apply State.wr_keep
    | with_reducible apply State.retarget_keep
    | ((with_reducible refine Parts.blk_true ?_); first | exact w_b_power)
    | (intro _; intros; try dsimp only)
    | (split <;> try dsimp only)
    | with_reducible refine Keep.foldl ?_ ?_

theorem execEoff_keep (h : Keep W s0 s) (w_mem : W.mem = true := by first | assumption | rfl) (w_bbs : W.bbs = true := by first | assumption | rfl) (w_clk : W.clk = true := by first | assumption | rfl) (w_modTime : W.modTime = true := by first | assumption | rfl) (w_resetAt : W.resetAt = true := by first | assumption | rfl) (w_out : W.out = true := by first | assumption | rfl) (w_lastRead : W.lastRead = true := by first | assumption | rfl) (w_struct : W.struct = true := by first | assumption | rfl) (w_wparts : W.wparts = true := by first | assumption | rfl) (w_rings : W.rings = true := by first | assumption | rfl) (w_irqs : W.irqs = true := by first | assumption | rfl) (w_badUnits : W.badUnits = true := by first | assumption | rfl) (w_badRecord : W.badRecord = true := by first | assumption | rfl) (w_reruns : W.reruns = true := by first | assumption | rfl) (w_po : W.po = true := by first | assumption | rfl) (w_cv : W.cv = true := by first | assumption | rfl) (w_ptp : W.ptp = true := by first | assumption | rfl) (w_faults : W.faults = true := by first | assumption | rfl) (w_lease : W.lease = true := by first | assumption | rfl) (w_linkSignal : W.linkSignal = true := by first | assumption | rfl) (w_sec : W.sec = true := by first | assumption | rfl) (w_pages : W.pages = true := by first | assumption | rfl) (w_serve : W.serve = true := by first | assumption | rfl) (w_slots : W.slots = true := by first | assumption | rfl) (w_fabric : W.fabric = true := by first | assumption | rfl) (w_stk : W.stk = true := by first | assumption | rfl) (w_links : W.links = true := by first | assumption | rfl) (w_video : W.video = true := by first | assumption | rfl) (w_power : W.power = true := by first | assumption | rfl) (w_fw : W.fw = true := by first | assumption | rfl) (w_sdio : W.sdio = true := by first | assumption | rfl) (w_mgmt : W.mgmt = true := by first | assumption | rfl) (w_cores : W.cores = true := by first | assumption | rfl) (w_dbg : W.dbg = true := by first | assumption | rfl) (w_perf : W.perf = true := by first | assumption | rfl) (w_opc : W.opc = true := by first | assumption | rfl) (w_opcShadow : W.opcShadow = true := by first | assumption | rfl) (w_bwStart : W.bwStart = true := by first | assumption | rfl) (w_b_nypra : W.b_nypra = true := by first | assumption | rfl) (w_b_part : W.b_part = true := by first | assumption | rfl) (w_b_tile : W.b_tile = true := by first | assumption | rfl) (w_b_vector : W.b_vector = true := by first | assumption | rfl) (w_b_image : W.b_image = true := by first | assumption | rfl) (w_b_stack : W.b_stack = true := by first | assumption | rfl) (w_b_page : W.b_page = true := by first | assumption | rfl) (w_b_request : W.b_request = true := by first | assumption | rfl) (w_b_ring : W.b_ring = true := by first | assumption | rfl) (w_b_ddr4 : W.b_ddr4 = true := by first | assumption | rfl) (w_b_link : W.b_link = true := by first | assumption | rfl) (w_b_plant : W.b_plant = true := by first | assumption | rfl) (w_b_ptp : W.b_ptp = true := by first | assumption | rfl) (w_b_output : W.b_output = true := by first | assumption | rfl) (w_b_checkValue : W.b_checkValue = true := by first | assumption | rfl) (w_b_video : W.b_video = true := by first | assumption | rfl) (w_b_security : W.b_security = true := by first | assumption | rfl) (w_b_lifecycle : W.b_lifecycle = true := by first | assumption | rfl) (w_b_firmware : W.b_firmware = true := by first | assumption | rfl) (w_b_fault : W.b_fault = true := by first | assumption | rfl) (w_b_amber : W.b_amber = true := by first | assumption | rfl) (w_b_redundancy : W.b_redundancy = true := by first | assumption | rfl) (w_b_power : W.b_power = true := by first | assumption | rfl) (w_b_island : W.b_island = true := by first | assumption | rfl) (w_b_battery : W.b_battery = true := by first | assumption | rfl) (w_b_core : W.b_core = true := by first | assumption | rfl) (w_b_perf : W.b_perf = true := by first | assumption | rfl) (w_b_opCount : W.b_opCount = true := by first | assumption | rfl) (w_b_bandwidth : W.b_bandwidth = true := by first | assumption | rfl) : KeepR W s0 (execEoff s) := by
  unfold execEoff
  try dsimp only
  repeat' first
    | with_reducible assumption
    | with_reducible refine Keep.ite ?_ ?_
    | with_reducible refine KeepR.ite ?_ ?_
    | with_reducible refine KeepR.next ?_
    | with_reducible apply State.setPower_keep
    | with_reducible apply State.pass_keep
    | with_reducible apply State.removePower_keep
    | with_reducible apply State.event_keep
    | (split <;> try dsimp only)

theorem execEoffRelease_keep (h : Keep W s0 s) (w_mem : W.mem = true := by first | assumption | rfl) (w_bbs : W.bbs = true := by first | assumption | rfl) (w_clk : W.clk = true := by first | assumption | rfl) (w_modTime : W.modTime = true := by first | assumption | rfl) (w_resetAt : W.resetAt = true := by first | assumption | rfl) (w_out : W.out = true := by first | assumption | rfl) (w_lastRead : W.lastRead = true := by first | assumption | rfl) (w_struct : W.struct = true := by first | assumption | rfl) (w_wparts : W.wparts = true := by first | assumption | rfl) (w_rings : W.rings = true := by first | assumption | rfl) (w_irqs : W.irqs = true := by first | assumption | rfl) (w_badUnits : W.badUnits = true := by first | assumption | rfl) (w_badRecord : W.badRecord = true := by first | assumption | rfl) (w_reruns : W.reruns = true := by first | assumption | rfl) (w_po : W.po = true := by first | assumption | rfl) (w_cv : W.cv = true := by first | assumption | rfl) (w_ptp : W.ptp = true := by first | assumption | rfl) (w_faults : W.faults = true := by first | assumption | rfl) (w_lease : W.lease = true := by first | assumption | rfl) (w_linkSignal : W.linkSignal = true := by first | assumption | rfl) (w_sec : W.sec = true := by first | assumption | rfl) (w_pages : W.pages = true := by first | assumption | rfl) (w_serve : W.serve = true := by first | assumption | rfl) (w_slots : W.slots = true := by first | assumption | rfl) (w_fabric : W.fabric = true := by first | assumption | rfl) (w_stk : W.stk = true := by first | assumption | rfl) (w_links : W.links = true := by first | assumption | rfl) (w_video : W.video = true := by first | assumption | rfl) (w_power : W.power = true := by first | assumption | rfl) (w_fw : W.fw = true := by first | assumption | rfl) (w_sdio : W.sdio = true := by first | assumption | rfl) (w_mgmt : W.mgmt = true := by first | assumption | rfl) (w_cores : W.cores = true := by first | assumption | rfl) (w_dbg : W.dbg = true := by first | assumption | rfl) (w_perf : W.perf = true := by first | assumption | rfl) (w_opc : W.opc = true := by first | assumption | rfl) (w_opcShadow : W.opcShadow = true := by first | assumption | rfl) (w_bwStart : W.bwStart = true := by first | assumption | rfl) (w_b_nypra : W.b_nypra = true := by first | assumption | rfl) (w_b_part : W.b_part = true := by first | assumption | rfl) (w_b_tile : W.b_tile = true := by first | assumption | rfl) (w_b_vector : W.b_vector = true := by first | assumption | rfl) (w_b_image : W.b_image = true := by first | assumption | rfl) (w_b_stack : W.b_stack = true := by first | assumption | rfl) (w_b_page : W.b_page = true := by first | assumption | rfl) (w_b_request : W.b_request = true := by first | assumption | rfl) (w_b_ring : W.b_ring = true := by first | assumption | rfl) (w_b_ddr4 : W.b_ddr4 = true := by first | assumption | rfl) (w_b_link : W.b_link = true := by first | assumption | rfl) (w_b_plant : W.b_plant = true := by first | assumption | rfl) (w_b_ptp : W.b_ptp = true := by first | assumption | rfl) (w_b_output : W.b_output = true := by first | assumption | rfl) (w_b_checkValue : W.b_checkValue = true := by first | assumption | rfl) (w_b_video : W.b_video = true := by first | assumption | rfl) (w_b_security : W.b_security = true := by first | assumption | rfl) (w_b_lifecycle : W.b_lifecycle = true := by first | assumption | rfl) (w_b_firmware : W.b_firmware = true := by first | assumption | rfl) (w_b_fault : W.b_fault = true := by first | assumption | rfl) (w_b_amber : W.b_amber = true := by first | assumption | rfl) (w_b_redundancy : W.b_redundancy = true := by first | assumption | rfl) (w_b_power : W.b_power = true := by first | assumption | rfl) (w_b_island : W.b_island = true := by first | assumption | rfl) (w_b_battery : W.b_battery = true := by first | assumption | rfl) (w_b_core : W.b_core = true := by first | assumption | rfl) (w_b_perf : W.b_perf = true := by first | assumption | rfl) (w_b_opCount : W.b_opCount = true := by first | assumption | rfl) (w_b_bandwidth : W.b_bandwidth = true := by first | assumption | rfl) : KeepR W s0 (execEoffRelease s) := by
  unfold execEoffRelease
  try dsimp only
  repeat' first
    | with_reducible assumption
    | with_reducible refine Keep.ite ?_ ?_
    | with_reducible refine KeepR.ite ?_ ?_
    | with_reducible refine KeepR.next ?_
    | with_reducible apply State.causeEnds_keep
    | with_reducible apply State.setPower_keep
    | with_reducible apply State.pass_keep
    | with_reducible apply State.bootFromReset_keep
    | with_reducible apply State.bringUp_keep
    | (split <;> try dsimp only)

theorem execSupplyRestored_keep (h : Keep W s0 s) (w_mem : W.mem = true := by first | assumption | rfl) (w_bbs : W.bbs = true := by first | assumption | rfl) (w_clk : W.clk = true := by first | assumption | rfl) (w_modTime : W.modTime = true := by first | assumption | rfl) (w_resetAt : W.resetAt = true := by first | assumption | rfl) (w_out : W.out = true := by first | assumption | rfl) (w_lastRead : W.lastRead = true := by first | assumption | rfl) (w_struct : W.struct = true := by first | assumption | rfl) (w_wparts : W.wparts = true := by first | assumption | rfl) (w_rings : W.rings = true := by first | assumption | rfl) (w_irqs : W.irqs = true := by first | assumption | rfl) (w_badUnits : W.badUnits = true := by first | assumption | rfl) (w_badRecord : W.badRecord = true := by first | assumption | rfl) (w_reruns : W.reruns = true := by first | assumption | rfl) (w_po : W.po = true := by first | assumption | rfl) (w_cv : W.cv = true := by first | assumption | rfl) (w_ptp : W.ptp = true := by first | assumption | rfl) (w_faults : W.faults = true := by first | assumption | rfl) (w_lease : W.lease = true := by first | assumption | rfl) (w_linkSignal : W.linkSignal = true := by first | assumption | rfl) (w_sec : W.sec = true := by first | assumption | rfl) (w_pages : W.pages = true := by first | assumption | rfl) (w_serve : W.serve = true := by first | assumption | rfl) (w_slots : W.slots = true := by first | assumption | rfl) (w_fabric : W.fabric = true := by first | assumption | rfl) (w_stk : W.stk = true := by first | assumption | rfl) (w_links : W.links = true := by first | assumption | rfl) (w_video : W.video = true := by first | assumption | rfl) (w_power : W.power = true := by first | assumption | rfl) (w_fw : W.fw = true := by first | assumption | rfl) (w_sdio : W.sdio = true := by first | assumption | rfl) (w_mgmt : W.mgmt = true := by first | assumption | rfl) (w_cores : W.cores = true := by first | assumption | rfl) (w_dbg : W.dbg = true := by first | assumption | rfl) (w_perf : W.perf = true := by first | assumption | rfl) (w_opc : W.opc = true := by first | assumption | rfl) (w_opcShadow : W.opcShadow = true := by first | assumption | rfl) (w_bwStart : W.bwStart = true := by first | assumption | rfl) (w_b_nypra : W.b_nypra = true := by first | assumption | rfl) (w_b_part : W.b_part = true := by first | assumption | rfl) (w_b_tile : W.b_tile = true := by first | assumption | rfl) (w_b_vector : W.b_vector = true := by first | assumption | rfl) (w_b_image : W.b_image = true := by first | assumption | rfl) (w_b_stack : W.b_stack = true := by first | assumption | rfl) (w_b_page : W.b_page = true := by first | assumption | rfl) (w_b_request : W.b_request = true := by first | assumption | rfl) (w_b_ring : W.b_ring = true := by first | assumption | rfl) (w_b_ddr4 : W.b_ddr4 = true := by first | assumption | rfl) (w_b_link : W.b_link = true := by first | assumption | rfl) (w_b_plant : W.b_plant = true := by first | assumption | rfl) (w_b_ptp : W.b_ptp = true := by first | assumption | rfl) (w_b_output : W.b_output = true := by first | assumption | rfl) (w_b_checkValue : W.b_checkValue = true := by first | assumption | rfl) (w_b_video : W.b_video = true := by first | assumption | rfl) (w_b_security : W.b_security = true := by first | assumption | rfl) (w_b_lifecycle : W.b_lifecycle = true := by first | assumption | rfl) (w_b_firmware : W.b_firmware = true := by first | assumption | rfl) (w_b_fault : W.b_fault = true := by first | assumption | rfl) (w_b_amber : W.b_amber = true := by first | assumption | rfl) (w_b_redundancy : W.b_redundancy = true := by first | assumption | rfl) (w_b_power : W.b_power = true := by first | assumption | rfl) (w_b_island : W.b_island = true := by first | assumption | rfl) (w_b_battery : W.b_battery = true := by first | assumption | rfl) (w_b_core : W.b_core = true := by first | assumption | rfl) (w_b_perf : W.b_perf = true := by first | assumption | rfl) (w_b_opCount : W.b_opCount = true := by first | assumption | rfl) (w_b_bandwidth : W.b_bandwidth = true := by first | assumption | rfl) : KeepR W s0 (execSupplyRestored s) := by
  unfold execSupplyRestored
  try dsimp only
  repeat' first
    | with_reducible assumption
    | with_reducible refine Keep.ite ?_ ?_
    | with_reducible refine KeepR.ite ?_ ?_
    | with_reducible refine KeepR.next ?_
    | with_reducible apply State.bootFromReset_keep
    | with_reducible apply State.pass_keep
    | (split <;> try dsimp only)

end Sys2Proof.Machine
end

