-- ==== Sys2Proof/Laws/KeepBoot.lean ====
section
/-! SUPPORT. What the operations of Machine/Boot.lean keep: one lemma per operation. -/

namespace Sys2Proof.Machine

-- One proof at a time: the package is compiled as one text under a memory limit.
set_option Elab.async false

set_option linter.all false

variable {W : Parts} {s0 s : State}

theorem execVinMate_keep {a1} (h : Keep W s0 s) (w_clk : W.clk = true := by first | assumption | rfl) (w_modTime : W.modTime = true := by first | assumption | rfl) (w_ptp : W.ptp = true := by first | assumption | rfl) (w_b_power : W.b_power = true := by first | assumption | rfl) (w_b_perf : W.b_perf = true := by first | assumption | rfl) : KeepR W s0 (execVinMate a1 s) := by
  unfold execVinMate
  try dsimp only
  repeat' first
    | with_reducible assumption
    | with_reducible refine Keep.ite ?_ ?_
    | with_reducible refine KeepR.ite ?_ ?_
    | with_reducible refine KeepR.next ?_
    | with_reducible apply State.wr_keep
    | with_reducible apply State.pass_keep
    | ((with_reducible refine Parts.blk_true ?_); first | exact w_b_power)
    | (split <;> try dsimp only)

theorem execPowerOnResetRelease_keep (h : Keep W s0 s) (w_mem : W.mem = true := by first | assumption | rfl) (w_bbs : W.bbs = true := by first | assumption | rfl) (w_clk : W.clk = true := by first | assumption | rfl) (w_modTime : W.modTime = true := by first | assumption | rfl) (w_resetAt : W.resetAt = true := by first | assumption | rfl) (w_out : W.out = true := by first | assumption | rfl) (w_lastRead : W.lastRead = true := by first | assumption | rfl) (w_struct : W.struct = true := by first | assumption | rfl) (w_wparts : W.wparts = true := by first | assumption | rfl) (w_rings : W.rings = true := by first | assumption | rfl) (w_irqs : W.irqs = true := by first | assumption | rfl) (w_badUnits : W.badUnits = true := by first | assumption | rfl) (w_badRecord : W.badRecord = true := by first | assumption | rfl) (w_reruns : W.reruns = true := by first | assumption | rfl) (w_po : W.po = true := by first | assumption | rfl) (w_cv : W.cv = true := by first | assumption | rfl) (w_ptp : W.ptp = true := by first | assumption | rfl) (w_faults : W.faults = true := by first | assumption | rfl) (w_lease : W.lease = true := by first | assumption | rfl) (w_linkSignal : W.linkSignal = true := by first | assumption | rfl) (w_sec : W.sec = true := by first | assumption | rfl) (w_pages : W.pages = true := by first | assumption | rfl) (w_serve : W.serve = true := by first | assumption | rfl) (w_slots : W.slots = true := by first | assumption | rfl) (w_fabric : W.fabric = true := by first | assumption | rfl) (w_stk : W.stk = true := by first | assumption | rfl) (w_links : W.links = true := by first | assumption | rfl) (w_video : W.video = true := by first | assumption | rfl) (w_power : W.power = true := by first | assumption | rfl) (w_fw : W.fw = true := by first | assumption | rfl) (w_sdio : W.sdio = true := by first | assumption | rfl) (w_mgmt : W.mgmt = true := by first | assumption | rfl) (w_cores : W.cores = true := by first | assumption | rfl) (w_dbg : W.dbg = true := by first | assumption | rfl) (w_perf : W.perf = true := by first | assumption | rfl) (w_opc : W.opc = true := by first | assumption | rfl) (w_opcShadow : W.opcShadow = true := by first | assumption | rfl) (w_bwStart : W.bwStart = true := by first | assumption | rfl) (w_b_nypra : W.b_nypra = true := by first | assumption | rfl) (w_b_part : W.b_part = true := by first | assumption | rfl) (w_b_tile : W.b_tile = true := by first | assumption | rfl) (w_b_vector : W.b_vector = true := by first | assumption | rfl) (w_b_image : W.b_image = true := by first | assumption | rfl) (w_b_stack : W.b_stack = true := by first | assumption | rfl) (w_b_page : W.b_page = true := by first | assumption | rfl) (w_b_request : W.b_request = true := by first | assumption | rfl) (w_b_ring : W.b_ring = true := by first | assumption | rfl) (w_b_ddr4 : W.b_ddr4 = true := by first | assumption | rfl) (w_b_link : W.b_link = true := by first | assumption | rfl) (w_b_plant : W.b_plant = true := by first | assumption | rfl) (w_b_ptp : W.b_ptp = true := by first | assumption | rfl) (w_b_output : W.b_output = true := by first | assumption | rfl) (w_b_checkValue : W.b_checkValue = true := by first | assumption | rfl) (w_b_video : W.b_video = true := by first | assumption | rfl) (w_b_security : W.b_security = true := by first | assumption | rfl) (w_b_lifecycle : W.b_lifecycle = true := by first | assumption | rfl) (w_b_firmware : W.b_firmware = true := by first | assumption | rfl) (w_b_fault : W.b_fault = true := by first | assumption | rfl) (w_b_amber : W.b_amber = true := by first | assumption | rfl) (w_b_redundancy : W.b_redundancy = true := by first | assumption | rfl) (w_b_power : W.b_power = true := by first | assumption | rfl) (w_b_island : W.b_island = true := by first | assumption | rfl) (w_b_battery : W.b_battery = true := by first | assumption | rfl) (w_b_core : W.b_core = true := by first | assumption | rfl) (w_b_perf : W.b_perf = true := by first | assumption | rfl) (w_b_opCount : W.b_opCount = true := by first | assumption | rfl) (w_b_bandwidth : W.b_bandwidth = true := by first | assumption | rfl) : KeepR W s0 (execPowerOnResetRelease s) := by
  unfold execPowerOnResetRelease
  try dsimp only
  repeat' first
    | with_reducible assumption
    | with_reducible refine Keep.ite ?_ ?_
    | with_reducible refine KeepR.ite ?_ ?_
    | with_reducible refine KeepR.next ?_
    | with_reducible apply State.bootFromReset_keep
    | with_reducible apply State.setPower_keep
    | with_reducible apply State.pass_keep
    | (split <;> try dsimp only)

theorem execModuleReset_keep (h : Keep W s0 s) (w_mem : W.mem = true := by first | assumption | rfl) (w_bbs : W.bbs = true := by first | assumption | rfl) (w_clk : W.clk = true := by first | assumption | rfl) (w_modTime : W.modTime = true := by first | assumption | rfl) (w_resetAt : W.resetAt = true := by first | assumption | rfl) (w_out : W.out = true := by first | assumption | rfl) (w_lastRead : W.lastRead = true := by first | assumption | rfl) (w_struct : W.struct = true := by first | assumption | rfl) (w_wparts : W.wparts = true := by first | assumption | rfl) (w_rings : W.rings = true := by first | assumption | rfl) (w_irqs : W.irqs = true := by first | assumption | rfl) (w_badUnits : W.badUnits = true := by first | assumption | rfl) (w_badRecord : W.badRecord = true := by first | assumption | rfl) (w_reruns : W.reruns = true := by first | assumption | rfl) (w_po : W.po = true := by first | assumption | rfl) (w_cv : W.cv = true := by first | assumption | rfl) (w_ptp : W.ptp = true := by first | assumption | rfl) (w_faults : W.faults = true := by first | assumption | rfl) (w_lease : W.lease = true := by first | assumption | rfl) (w_linkSignal : W.linkSignal = true := by first | assumption | rfl) (w_sec : W.sec = true := by first | assumption | rfl) (w_pages : W.pages = true := by first | assumption | rfl) (w_serve : W.serve = true := by first | assumption | rfl) (w_slots : W.slots = true := by first | assumption | rfl) (w_fabric : W.fabric = true := by first | assumption | rfl) (w_stk : W.stk = true := by first | assumption | rfl) (w_links : W.links = true := by first | assumption | rfl) (w_video : W.video = true := by first | assumption | rfl) (w_power : W.power = true := by first | assumption | rfl) (w_fw : W.fw = true := by first | assumption | rfl) (w_sdio : W.sdio = true := by first | assumption | rfl) (w_mgmt : W.mgmt = true := by first | assumption | rfl) (w_cores : W.cores = true := by first | assumption | rfl) (w_dbg : W.dbg = true := by first | assumption | rfl) (w_perf : W.perf = true := by first | assumption | rfl) (w_opc : W.opc = true := by first | assumption | rfl) (w_opcShadow : W.opcShadow = true := by first | assumption | rfl) (w_bwStart : W.bwStart = true := by first | assumption | rfl) (w_b_nypra : W.b_nypra = true := by first | assumption | rfl) (w_b_part : W.b_part = true := by first | assumption | rfl) (w_b_tile : W.b_tile = true := by first | assumption | rfl) (w_b_vector : W.b_vector = true := by first | assumption | rfl) (w_b_image : W.b_image = true := by first | assumption | rfl) (w_b_stack : W.b_stack = true := by first | assumption | rfl) (w_b_page : W.b_page = true := by first | assumption | rfl) (w_b_request : W.b_request = true := by first | assumption | rfl) (w_b_ring : W.b_ring = true := by first | assumption | rfl) (w_b_ddr4 : W.b_ddr4 = true := by first | assumption | rfl) (w_b_link : W.b_link = true := by first | assumption | rfl) (w_b_plant : W.b_plant = true := by first | assumption | rfl) (w_b_ptp : W.b_ptp = true := by first | assumption | rfl) (w_b_output : W.b_output = true := by first | assumption | rfl) (w_b_checkValue : W.b_checkValue = true := by first | assumption | rfl) (w_b_video : W.b_video = true := by first | assumption | rfl) (w_b_security : W.b_security = true := by first | assumption | rfl) (w_b_lifecycle : W.b_lifecycle = true := by first | assumption | rfl) (w_b_firmware : W.b_firmware = true := by first | assumption | rfl) (w_b_fault : W.b_fault = true := by first | assumption | rfl) (w_b_amber : W.b_amber = true := by first | assumption | rfl) (w_b_redundancy : W.b_redundancy = true := by first | assumption | rfl) (w_b_power : W.b_power = true := by first | assumption | rfl) (w_b_island : W.b_island = true := by first | assumption | rfl) (w_b_battery : W.b_battery = true := by first | assumption | rfl) (w_b_core : W.b_core = true := by first | assumption | rfl) (w_b_perf : W.b_perf = true := by first | assumption | rfl) (w_b_opCount : W.b_opCount = true := by first | assumption | rfl) (w_b_bandwidth : W.b_bandwidth = true := by first | assumption | rfl) : KeepR W s0 (execModuleReset s) := by
  unfold execModuleReset
  try dsimp only
  repeat' first
    | with_reducible assumption
    | with_reducible refine Keep.ite ?_ ?_
    | with_reducible refine KeepR.ite ?_ ?_
    | with_reducible refine KeepR.next ?_
    | with_reducible apply State.bootFromReset_keep

theorem execAlwaysOnSupplyFail_keep (h : Keep W s0 s) (w_mem : W.mem = true := by first | assumption | rfl) (w_bbs : W.bbs = true := by first | assumption | rfl) (w_clk : W.clk = true := by first | assumption | rfl) (w_modTime : W.modTime = true := by first | assumption | rfl) (w_resetAt : W.resetAt = true := by first | assumption | rfl) (w_out : W.out = true := by first | assumption | rfl) (w_lastRead : W.lastRead = true := by first | assumption | rfl) (w_struct : W.struct = true := by first | assumption | rfl) (w_wparts : W.wparts = true := by first | assumption | rfl) (w_rings : W.rings = true := by first | assumption | rfl) (w_irqs : W.irqs = true := by first | assumption | rfl) (w_badUnits : W.badUnits = true := by first | assumption | rfl) (w_badRecord : W.badRecord = true := by first | assumption | rfl) (w_reruns : W.reruns = true := by first | assumption | rfl) (w_po : W.po = true := by first | assumption | rfl) (w_cv : W.cv = true := by first | assumption | rfl) (w_ptp : W.ptp = true := by first | assumption | rfl) (w_faults : W.faults = true := by first | assumption | rfl) (w_lease : W.lease = true := by first | assumption | rfl) (w_linkSignal : W.linkSignal = true := by first | assumption | rfl) (w_sec : W.sec = true := by first | assumption | rfl) (w_pages : W.pages = true := by first | assumption | rfl) (w_serve : W.serve = true := by first | assumption | rfl) (w_slots : W.slots = true := by first | assumption | rfl) (w_fabric : W.fabric = true := by first | assumption | rfl) (w_stk : W.stk = true := by first | assumption | rfl) (w_links : W.links = true := by first | assumption | rfl) (w_video : W.video = true := by first | assumption | rfl) (w_power : W.power = true := by first | assumption | rfl) (w_fw : W.fw = true := by first | assumption | rfl) (w_sdio : W.sdio = true := by first | assumption | rfl) (w_mgmt : W.mgmt = true := by first | assumption | rfl) (w_cores : W.cores = true := by first | assumption | rfl) (w_dbg : W.dbg = true := by first | assumption | rfl) (w_perf : W.perf = true := by first | assumption | rfl) (w_opc : W.opc = true := by first | assumption | rfl) (w_opcShadow : W.opcShadow = true := by first | assumption | rfl) (w_bwStart : W.bwStart = true := by first | assumption | rfl) (w_b_nypra : W.b_nypra = true := by first | assumption | rfl) (w_b_part : W.b_part = true := by first | assumption | rfl) (w_b_tile : W.b_tile = true := by first | assumption | rfl) (w_b_vector : W.b_vector = true := by first | assumption | rfl) (w_b_image : W.b_image = true := by first | assumption | rfl) (w_b_stack : W.b_stack = true := by first | assumption | rfl) (w_b_page : W.b_page = true := by first | assumption | rfl) (w_b_request : W.b_request = true := by first | assumption | rfl) (w_b_ring : W.b_ring = true := by first | assumption | rfl) (w_b_ddr4 : W.b_ddr4 = true := by first | assumption | rfl) (w_b_link : W.b_link = true := by first | assumption | rfl) (w_b_plant : W.b_plant = true := by first | assumption | rfl) (w_b_ptp : W.b_ptp = true := by first | assumption | rfl) (w_b_output : W.b_output = true := by first | assumption | rfl) (w_b_checkValue : W.b_checkValue = true := by first | assumption | rfl) (w_b_video : W.b_video = true := by first | assumption | rfl) (w_b_security : W.b_security = true := by first | assumption | rfl) (w_b_lifecycle : W.b_lifecycle = true := by first | assumption | rfl) (w_b_firmware : W.b_firmware = true := by first | assumption | rfl) (w_b_fault : W.b_fault = true := by first | assumption | rfl) (w_b_amber : W.b_amber = true := by first | assumption | rfl) (w_b_redundancy : W.b_redundancy = true := by first | assumption | rfl) (w_b_power : W.b_power = true := by first | assumption | rfl) (w_b_island : W.b_island = true := by first | assumption | rfl) (w_b_battery : W.b_battery = true := by first | assumption | rfl) (w_b_core : W.b_core = true := by first | assumption | rfl) (w_b_perf : W.b_perf = true := by first | assumption | rfl) (w_b_opCount : W.b_opCount = true := by first | assumption | rfl) (w_b_bandwidth : W.b_bandwidth = true := by first | assumption | rfl) : KeepR W s0 (execAlwaysOnSupplyFail s) := by
  unfold execAlwaysOnSupplyFail
  extract_lets +onlyGivenNames t
  have g : Keep W s0 t := State.clearCore_keep h
  clear_value t
  exact KeepR.next (g.trans ⟨rfl, fun _ => rfl, id,
    fun h => Tab.sorted_keep (fun k => decide ((Nat.unpair (Nat.unpair k).1).1 = RegId.SEC_STATE.ctorIdx)) h, le_rfl, rfl,
    ⟨fun f i j e => absurd e (by cases hb : f.reg.block <;> simp [Parts.blk, *]), Parts.no w_mem, Parts.no w_bbs, Parts.no w_clk, Parts.no w_modTime, Parts.no w_resetAt, fun _ => rfl, fun _ => rfl, Parts.no w_struct, Parts.no w_wparts, Parts.no w_rings, Parts.no w_irqs, Parts.no w_badUnits, Parts.no w_badRecord, Parts.no w_reruns, Parts.no w_po, Parts.no w_cv, Parts.no w_ptp, Parts.no w_faults, Parts.no w_lease, Parts.no w_linkSignal, Parts.no w_sec, Parts.no w_pages, Parts.no w_serve, Parts.no w_slots, Parts.no w_fabric, Parts.no w_stk, Parts.no w_links, Parts.no w_video, Parts.no w_power, Parts.no w_fw, Parts.no w_sdio, Parts.no w_mgmt, Parts.no w_cores, Parts.no w_dbg, Parts.no w_perf, Parts.no w_opc, Parts.no w_opcShadow, Parts.no w_bwStart⟩⟩)

theorem State.failSlot_keep {a1 a2} (h : Keep W s0 s) (w_bbs : W.bbs = true := by first | assumption | rfl) (w_out : W.out = true := by first | assumption | rfl) (w_po : W.po = true := by first | assumption | rfl) (w_faults : W.faults = true := by first | assumption | rfl) (w_lease : W.lease = true := by first | assumption | rfl) (w_pages : W.pages = true := by first | assumption | rfl) (w_serve : W.serve = true := by first | assumption | rfl) (w_slots : W.slots = true := by first | assumption | rfl) (w_fabric : W.fabric = true := by first | assumption | rfl) (w_stk : W.stk = true := by first | assumption | rfl) (w_links : W.links = true := by first | assumption | rfl) (w_dbg : W.dbg = true := by first | assumption | rfl) (w_opc : W.opc = true := by first | assumption | rfl) (w_b_image : W.b_image = true := by first | assumption | rfl) (w_b_page : W.b_page = true := by first | assumption | rfl) (w_b_output : W.b_output = true := by first | assumption | rfl) (w_b_firmware : W.b_firmware = true := by first | assumption | rfl) (w_b_fault : W.b_fault = true := by first | assumption | rfl) (w_b_amber : W.b_amber = true := by first | assumption | rfl) (w_b_redundancy : W.b_redundancy = true := by first | assumption | rfl) (w_b_perf : W.b_perf = true := by first | assumption | rfl) : Keep W s0 (State.failSlot s a1 a2) := by
  unfold State.failSlot
  try dsimp only
  repeat' first
    | with_reducible assumption
    | with_reducible refine Keep.ite ?_ ?_
    | with_reducible apply State.event_keep
    | with_reducible apply State.wr_keep
    | with_reducible apply State.setSlotState_keep
    | ((with_reducible refine Parts.blk_true ?_); first | exact w_b_firmware)
    | (split <;> try dsimp only)

theorem State.takeSlot_keep {a1 a2} (h : Keep W s0 s) (w_fw : W.fw = true := by first | assumption | rfl) (w_b_firmware : W.b_firmware = true := by first | assumption | rfl) : Keep W s0 (State.takeSlot s a1 a2) := by
  unfold State.takeSlot
  try dsimp only
  repeat' first
    | with_reducible assumption
    | with_reducible refine Keep.ite ?_ ?_
    | with_reducible apply State.setStage_keep
    | with_reducible refine Keep.upd_fw (h := ?_)

theorem State.chooseActive_keep (h : Keep W s0 s) (w_bbs : W.bbs = true := by first | assumption | rfl) (w_out : W.out = true := by first | assumption | rfl) (w_po : W.po = true := by first | assumption | rfl) (w_faults : W.faults = true := by first | assumption | rfl) (w_lease : W.lease = true := by first | assumption | rfl) (w_pages : W.pages = true := by first | assumption | rfl) (w_serve : W.serve = true := by first | assumption | rfl) (w_slots : W.slots = true := by first | assumption | rfl) (w_fabric : W.fabric = true := by first | assumption | rfl) (w_stk : W.stk = true := by first | assumption | rfl) (w_links : W.links = true := by first | assumption | rfl) (w_fw : W.fw = true := by first | assumption | rfl) (w_dbg : W.dbg = true := by first | assumption | rfl) (w_opc : W.opc = true := by first | assumption | rfl) (w_b_image : W.b_image = true := by first | assumption | rfl) (w_b_page : W.b_page = true := by first | assumption | rfl) (w_b_output : W.b_output = true := by first | assumption | rfl) (w_b_firmware : W.b_firmware = true := by first | assumption | rfl) (w_b_fault : W.b_fault = true := by first | assumption | rfl) (w_b_amber : W.b_amber = true := by first | assumption | rfl) (w_b_redundancy : W.b_redundancy = true := by first | assumption | rfl) (w_b_perf : W.b_perf = true := by first | assumption | rfl) : Keep W s0 (State.chooseActive s) := by
  unfold State.chooseActive
  extract_lets +onlyGivenNames active r
  have hr : Keep W s0 r.1 := by
    clear_value active
    unfold r
    cases active with
    | none => exact h
    | some k =>
      dsimp only
      cases s.slotCheck k with
      | none => exact State.takeSlot_keep h
      | some c => exact State.failSlot_keep h
  clear_value r
  refine Keep.ite hr ?_
  extract_lets +onlyGivenNames step q
  have hq : Keep W s0 q.1 := by
    refine Keep.foldlFst (x := (_, _)) hr fun u k hu => ?_
    refine Keep.iteFst hu ?_
    cases u.1.slotCheck k with
    | none => exact State.takeSlot_keep hu
    | some c => exact State.failSlot_keep hu
  exact Keep.ite hq (State.setStage_keep hq)

theorem State.chooseSlot_keep (h : Keep W s0 s) (w_bbs : W.bbs = true := by first | assumption | rfl) (w_out : W.out = true := by first | assumption | rfl) (w_po : W.po = true := by first | assumption | rfl) (w_faults : W.faults = true := by first | assumption | rfl) (w_lease : W.lease = true := by first | assumption | rfl) (w_pages : W.pages = true := by first | assumption | rfl) (w_serve : W.serve = true := by first | assumption | rfl) (w_slots : W.slots = true := by first | assumption | rfl) (w_fabric : W.fabric = true := by first | assumption | rfl) (w_stk : W.stk = true := by first | assumption | rfl) (w_links : W.links = true := by first | assumption | rfl) (w_fw : W.fw = true := by first | assumption | rfl) (w_dbg : W.dbg = true := by first | assumption | rfl) (w_opc : W.opc = true := by first | assumption | rfl) (w_b_image : W.b_image = true := by first | assumption | rfl) (w_b_page : W.b_page = true := by first | assumption | rfl) (w_b_output : W.b_output = true := by first | assumption | rfl) (w_b_firmware : W.b_firmware = true := by first | assumption | rfl) (w_b_fault : W.b_fault = true := by first | assumption | rfl) (w_b_amber : W.b_amber = true := by first | assumption | rfl) (w_b_redundancy : W.b_redundancy = true := by first | assumption | rfl) (w_b_perf : W.b_perf = true := by first | assumption | rfl) : Keep W s0 (State.chooseSlot s) := by
  unfold State.chooseSlot
  try dsimp only
  repeat' first
    | with_reducible assumption
    | with_reducible refine Keep.ite ?_ ?_
    | with_reducible apply State.setSlotState_keep
    | with_reducible apply State.setB_keep
    | with_reducible apply State.chooseActive_keep
    | with_reducible apply State.takeSlot_keep
    | with_reducible apply State.failSlot_keep
    | ((with_reducible refine Parts.blk_true ?_); first | exact w_b_firmware)
    | (intro _; intros; try dsimp only)
    | (split <;> try dsimp only)
    | with_reducible refine Keep.foldl ?_ ?_

theorem execDdr4TrainingDone_keep {a1} (h : Keep W s0 s) (w_bbs : W.bbs = true := by first | assumption | rfl) (w_out : W.out = true := by first | assumption | rfl) (w_po : W.po = true := by first | assumption | rfl) (w_faults : W.faults = true := by first | assumption | rfl) (w_lease : W.lease = true := by first | assumption | rfl) (w_pages : W.pages = true := by first | assumption | rfl) (w_serve : W.serve = true := by first | assumption | rfl) (w_slots : W.slots = true := by first | assumption | rfl) (w_fabric : W.fabric = true := by first | assumption | rfl) (w_stk : W.stk = true := by first | assumption | rfl) (w_links : W.links = true := by first | assumption | rfl) (w_fw : W.fw = true := by first | assumption | rfl) (w_dbg : W.dbg = true := by first | assumption | rfl) (w_opc : W.opc = true := by first | assumption | rfl) (w_b_image : W.b_image = true := by first | assumption | rfl) (w_b_page : W.b_page = true := by first | assumption | rfl) (w_b_ddr4 : W.b_ddr4 = true := by first | assumption | rfl) (w_b_output : W.b_output = true := by first | assumption | rfl) (w_b_firmware : W.b_firmware = true := by first | assumption | rfl) (w_b_fault : W.b_fault = true := by first | assumption | rfl) (w_b_amber : W.b_amber = true := by first | assumption | rfl) (w_b_redundancy : W.b_redundancy = true := by first | assumption | rfl) (w_b_perf : W.b_perf = true := by first | assumption | rfl) : KeepR W s0 (execDdr4TrainingDone a1 s) := by
  unfold execDdr4TrainingDone
  try dsimp only
  repeat' first
    | with_reducible assumption
    | with_reducible refine Keep.ite ?_ ?_
    | with_reducible refine KeepR.ite ?_ ?_
    | with_reducible refine KeepR.next ?_
    | with_reducible apply State.wr_keep
    | with_reducible apply State.chooseSlot_keep
    | with_reducible apply State.setStage_keep
    | ((with_reducible refine Parts.blk_true ?_); first | exact w_b_ddr4)
    | (split <;> try dsimp only)
    | with_reducible refine Keep.upd_fw (h := ?_)

theorem State.copyRuntime_keep {a1} (h : Keep W s0 s) (w_mem : W.mem = true := by first | assumption | rfl) (w_badUnits : W.badUnits = true := by first | assumption | rfl) (w_badRecord : W.badRecord = true := by first | assumption | rfl) : Keep W s0 (State.copyRuntime s a1) := by
  unfold State.copyRuntime
  try dsimp only
  repeat' first
    | with_reducible assumption
    | with_reducible refine Keep.ite ?_ ?_
    | with_reducible apply State.ddrPut_keep
    | with_reducible refine Keep.foldlFst ?_ ?_
    | (intro _; intros; try dsimp only)
    | (split <;> try dsimp only)
    | with_reducible refine Keep.foldl ?_ ?_

theorem execRuntimeCopyDone_keep {a1} (h : Keep W s0 s) (w_mem : W.mem = true := by first | assumption | rfl) (w_bbs : W.bbs = true := by first | assumption | rfl) (w_out : W.out = true := by first | assumption | rfl) (w_struct : W.struct = true := by first | assumption | rfl) (w_badUnits : W.badUnits = true := by first | assumption | rfl) (w_badRecord : W.badRecord = true := by first | assumption | rfl) (w_po : W.po = true := by first | assumption | rfl) (w_faults : W.faults = true := by first | assumption | rfl) (w_lease : W.lease = true := by first | assumption | rfl) (w_sec : W.sec = true := by first | assumption | rfl) (w_pages : W.pages = true := by first | assumption | rfl) (w_serve : W.serve = true := by first | assumption | rfl) (w_slots : W.slots = true := by first | assumption | rfl) (w_fabric : W.fabric = true := by first | assumption | rfl) (w_stk : W.stk = true := by first | assumption | rfl) (w_links : W.links = true := by first | assumption | rfl) (w_fw : W.fw = true := by first | assumption | rfl) (w_cores : W.cores = true := by first | assumption | rfl) (w_dbg : W.dbg = true := by first | assumption | rfl) (w_opc : W.opc = true := by first | assumption | rfl) (w_b_image : W.b_image = true := by first | assumption | rfl) (w_b_page : W.b_page = true := by first | assumption | rfl) (w_b_output : W.b_output = true := by first | assumption | rfl) (w_b_firmware : W.b_firmware = true := by first | assumption | rfl) (w_b_fault : W.b_fault = true := by first | assumption | rfl) (w_b_amber : W.b_amber = true := by first | assumption | rfl) (w_b_redundancy : W.b_redundancy = true := by first | assumption | rfl) (w_b_core : W.b_core = true := by first | assumption | rfl) (w_b_perf : W.b_perf = true := by first | assumption | rfl) : KeepR W s0 (execRuntimeCopyDone a1 s) := by
  unfold execRuntimeCopyDone
  try dsimp only
  repeat' first
    | with_reducible assumption
    | with_reducible refine Keep.ite ?_ ?_
    | with_reducible refine KeepR.ite ?_ ?_
    | with_reducible refine KeepR.next ?_
    | with_reducible apply State.failSlot_keep
    | with_reducible apply State.chooseActive_keep
    | with_reducible apply State.setB_keep
    | with_reducible apply State.copyRuntime_keep
    | with_reducible apply State.bbsWr_keep
    | with_reducible apply State.setSlotState_keep
    | with_reducible apply State.setStage_keep
    | with_reducible apply State.wr_keep
    | with_reducible apply State.event_keep
    | with_reducible apply State.settleRegion_keep
    | ((with_reducible refine Parts.blk_true ?_); first | exact w_b_core | exact w_b_firmware)
    | (split <;> try dsimp only)
    | with_reducible refine Keep.upd_cores (h := ?_)
    | with_reducible refine Keep.upd_fw (h := ?_)
    | with_reducible refine Keep.upd_sec_fw (h := ?_)
    | with_reducible refine Keep.upd_struct (h := ?_)

theorem execTrialExpiry_keep (h : Keep W s0 s) (w_mem : W.mem = true := by first | assumption | rfl) (w_bbs : W.bbs = true := by first | assumption | rfl) (w_clk : W.clk = true := by first | assumption | rfl) (w_modTime : W.modTime = true := by first | assumption | rfl) (w_resetAt : W.resetAt = true := by first | assumption | rfl) (w_out : W.out = true := by first | assumption | rfl) (w_lastRead : W.lastRead = true := by first | assumption | rfl) (w_struct : W.struct = true := by first | assumption | rfl) (w_wparts : W.wparts = true := by first | assumption | rfl) (w_rings : W.rings = true := by first | assumption | rfl) (w_irqs : W.irqs = true := by first | assumption | rfl) (w_badUnits : W.badUnits = true := by first | assumption | rfl) (w_badRecord : W.badRecord = true := by first | assumption | rfl) (w_reruns : W.reruns = true := by first | assumption | rfl) (w_po : W.po = true := by first | assumption | rfl) (w_cv : W.cv = true := by first | assumption | rfl) (w_ptp : W.ptp = true := by first | assumption | rfl) (w_faults : W.faults = true := by first | assumption | rfl) (w_lease : W.lease = true := by first | assumption | rfl) (w_linkSignal : W.linkSignal = true := by first | assumption | rfl) (w_sec : W.sec = true := by first | assumption | rfl) (w_pages : W.pages = true := by first | assumption | rfl) (w_serve : W.serve = true := by first | assumption | rfl) (w_slots : W.slots = true := by first | assumption | rfl) (w_fabric : W.fabric = true := by first | assumption | rfl) (w_stk : W.stk = true := by first | assumption | rfl) (w_links : W.links = true := by first | assumption | rfl) (w_video : W.video = true := by first | assumption | rfl) (w_power : W.power = true := by first | assumption | rfl) (w_fw : W.fw = true := by first | assumption | rfl) (w_sdio : W.sdio = true := by first | assumption | rfl) (w_mgmt : W.mgmt = true := by first | assumption | rfl) (w_cores : W.cores = true := by first | assumption | rfl) (w_dbg : W.dbg = true := by first | assumption | rfl) (w_perf : W.perf = true := by first | assumption | rfl) (w_opc : W.opc = true := by first | assumption | rfl) (w_opcShadow : W.opcShadow = true := by first | assumption | rfl) (w_bwStart : W.bwStart = true := by first | assumption | rfl) (w_b_nypra : W.b_nypra = true := by first | assumption | rfl) (w_b_part : W.b_part = true := by first | assumption | rfl) (w_b_tile : W.b_tile = true := by first | assumption | rfl) (w_b_vector : W.b_vector = true := by first | assumption | rfl) (w_b_image : W.b_image = true := by first | assumption | rfl) (w_b_stack : W.b_stack = true := by first | assumption | rfl) (w_b_page : W.b_page = true := by first | assumption | rfl) (w_b_request : W.b_request = true := by first | assumption | rfl) (w_b_ring : W.b_ring = true := by first | assumption | rfl) (w_b_ddr4 : W.b_ddr4 = true := by first | assumption | rfl) (w_b_link : W.b_link = true := by first | assumption | rfl) (w_b_plant : W.b_plant = true := by first | assumption | rfl) (w_b_ptp : W.b_ptp = true := by first | assumption | rfl) (w_b_output : W.b_output = true := by first | assumption | rfl) (w_b_checkValue : W.b_checkValue = true := by first | assumption | rfl) (w_b_video : W.b_video = true := by first | assumption | rfl) (w_b_security : W.b_security = true := by first | assumption | rfl) (w_b_lifecycle : W.b_lifecycle = true := by first | assumption | rfl) (w_b_firmware : W.b_firmware = true := by first | assumption | rfl) (w_b_fault : W.b_fault = true := by first | assumption | rfl) (w_b_amber : W.b_amber = true := by first | assumption | rfl) (w_b_redundancy : W.b_redundancy = true := by first | assumption | rfl) (w_b_power : W.b_power = true := by first | assumption | rfl) (w_b_island : W.b_island = true := by first | assumption | rfl) (w_b_battery : W.b_battery = true := by first | assumption | rfl) (w_b_core : W.b_core = true := by first | assumption | rfl) (w_b_perf : W.b_perf = true := by first | assumption | rfl) (w_b_opCount : W.b_opCount = true := by first | assumption | rfl) (w_b_bandwidth : W.b_bandwidth = true := by first | assumption | rfl) : KeepR W s0 (execTrialExpiry s) := by
  unfold execTrialExpiry
  try dsimp only
  repeat' first
    | with_reducible assumption
    | with_reducible refine Keep.ite ?_ ?_
    | with_reducible refine KeepR.ite ?_ ?_
    | with_reducible refine KeepR.next ?_
    | with_reducible apply State.bootFromReset_keep
    | with_reducible apply State.setB_keep
    | with_reducible apply State.event_keep
    | with_reducible apply State.advanceTo_keep
    | ((with_reducible refine Parts.blk_true ?_); first | exact w_b_firmware)
    | (split <;> try dsimp only)

theorem State.beginWrite_keep {a1} (h : Keep W s0 s) (w_bbs : W.bbs = true := by first | assumption | rfl) (w_fw : W.fw = true := by first | assumption | rfl) : Keep W s0 (State.beginWrite s a1) := by
  unfold State.beginWrite
  try dsimp only
  repeat' first
    | with_reducible assumption
    | with_reducible refine Keep.ite ?_ ?_
    | with_reducible apply State.setSlotState_keep
    | (split <;> try dsimp only)
    | with_reducible refine Keep.upd_fw (h := ?_)

theorem State.programmed_keep {a1 a2} (h : Keep W s0 s) (w_bbs : W.bbs = true := by first | assumption | rfl) (w_fw : W.fw = true := by first | assumption | rfl) : Keep W s0 (State.programmed s a1 a2) := by
  unfold State.programmed
  try dsimp only
  repeat' first
    | with_reducible assumption
    | with_reducible refine Keep.ite ?_ ?_
    | with_reducible apply State.setSlotState_keep
    | (split <;> try dsimp only)
    | with_reducible refine Keep.upd_fw (h := ?_)

theorem State.writeFails_keep {a1} (h : Keep W s0 s) (w_bbs : W.bbs = true := by first | assumption | rfl) (w_fw : W.fw = true := by first | assumption | rfl) : Keep W s0 (State.writeFails s a1) := by
  unfold State.writeFails
  try dsimp only
  repeat' first
    | with_reducible assumption
    | with_reducible refine Keep.ite ?_ ?_
    | with_reducible apply State.setSlotState_keep
    | (split <;> try dsimp only)
    | with_reducible refine Keep.upd_fw (h := ?_)

theorem State.fwOp_keep {a1 a2} (h : Keep W s0 s) (w_bbs : W.bbs = true := by first | assumption | rfl) (w_fw : W.fw = true := by first | assumption | rfl) (w_b_firmware : W.b_firmware = true := by first | assumption | rfl) : Keep W s0 (State.fwOp s a1 a2).1 := by
  unfold State.fwOp
  try dsimp only
  repeat' first
    | with_reducible assumption
    | with_reducible refine Keep.ite ?_ ?_
    | with_reducible apply State.setSlotState_keep
    | with_reducible apply State.setStage_keep
    | with_reducible apply State.setCounter_keep
    | with_reducible refine Keep.iteFst ?_ ?_
    | (split <;> try dsimp only)
    | with_reducible refine Keep.upd_fw (h := ?_)

theorem State.fwResult_keep {a1 a2} (h : Keep W s0 s) (w_b_firmware : W.b_firmware = true := by first | assumption | rfl) : Keep W s0 (State.fwResult s a1 a2) := by
  unfold State.fwResult
  try dsimp only
  repeat' first
    | with_reducible assumption
    | with_reducible refine Keep.ite ?_ ?_
    | with_reducible apply State.wr_keep
    | ((with_reducible refine Parts.blk_true ?_); first | exact w_b_firmware)

theorem State.fwCommand_keep {b f} (h : Keep W s0 s) (hf : ∀ u, Keep W s0 u → Keep W s0 (f u)) (w_bbs : W.bbs = true := by first | assumption | rfl) (w_out : W.out = true := by first | assumption | rfl) (w_po : W.po = true := by first | assumption | rfl) (w_faults : W.faults = true := by first | assumption | rfl) (w_lease : W.lease = true := by first | assumption | rfl) (w_pages : W.pages = true := by first | assumption | rfl) (w_serve : W.serve = true := by first | assumption | rfl) (w_slots : W.slots = true := by first | assumption | rfl) (w_fabric : W.fabric = true := by first | assumption | rfl) (w_stk : W.stk = true := by first | assumption | rfl) (w_links : W.links = true := by first | assumption | rfl) (w_dbg : W.dbg = true := by first | assumption | rfl) (w_opc : W.opc = true := by first | assumption | rfl) (w_b_image : W.b_image = true := by first | assumption | rfl) (w_b_page : W.b_page = true := by first | assumption | rfl) (w_b_output : W.b_output = true := by first | assumption | rfl) (w_b_firmware : W.b_firmware = true := by first | assumption | rfl) (w_b_fault : W.b_fault = true := by first | assumption | rfl) (w_b_amber : W.b_amber = true := by first | assumption | rfl) (w_b_redundancy : W.b_redundancy = true := by first | assumption | rfl) (w_b_perf : W.b_perf = true := by first | assumption | rfl) : KeepR W s0 (State.fwCommand s b f) :=
  guardHcs_keep h fun u hu => Keep.ite (State.fwResult_keep hu) (hf u hu)

theorem State.fwCopy_keep {a1} (h : Keep W s0 s) (w_bbs : W.bbs = true := by first | assumption | rfl) (w_out : W.out = true := by first | assumption | rfl) (w_badRecord : W.badRecord = true := by first | assumption | rfl) (w_po : W.po = true := by first | assumption | rfl) (w_faults : W.faults = true := by first | assumption | rfl) (w_lease : W.lease = true := by first | assumption | rfl) (w_pages : W.pages = true := by first | assumption | rfl) (w_serve : W.serve = true := by first | assumption | rfl) (w_slots : W.slots = true := by first | assumption | rfl) (w_fabric : W.fabric = true := by first | assumption | rfl) (w_stk : W.stk = true := by first | assumption | rfl) (w_links : W.links = true := by first | assumption | rfl) (w_fw : W.fw = true := by first | assumption | rfl) (w_dbg : W.dbg = true := by first | assumption | rfl) (w_opc : W.opc = true := by first | assumption | rfl) (w_b_image : W.b_image = true := by first | assumption | rfl) (w_b_page : W.b_page = true := by first | assumption | rfl) (w_b_ddr4 : W.b_ddr4 = true := by first | assumption | rfl) (w_b_output : W.b_output = true := by first | assumption | rfl) (w_b_firmware : W.b_firmware = true := by first | assumption | rfl) (w_b_fault : W.b_fault = true := by first | assumption | rfl) (w_b_amber : W.b_amber = true := by first | assumption | rfl) (w_b_redundancy : W.b_redundancy = true := by first | assumption | rfl) (w_b_perf : W.b_perf = true := by first | assumption | rfl) : Keep W s0 (State.fwCopy s a1) := by
  unfold State.fwCopy
  try dsimp only
  repeat' first
    | with_reducible assumption
    | with_reducible refine Keep.ite ?_ ?_
    | with_reducible apply State.fwResult_keep
    | with_reducible apply State.meetUnit_keep
    | with_reducible apply State.beginWrite_keep
    | with_reducible apply State.wr_keep
    | with_reducible apply State.setB_keep
    | ((with_reducible refine Parts.blk_true ?_); first | exact w_b_firmware)
    | (split <;> try dsimp only)

theorem execWriteMgmt_keep {a1} (h : Keep W s0 s) (w_bbs : W.bbs = true := by first | assumption | rfl) (w_out : W.out = true := by first | assumption | rfl) (w_badRecord : W.badRecord = true := by first | assumption | rfl) (w_po : W.po = true := by first | assumption | rfl) (w_faults : W.faults = true := by first | assumption | rfl) (w_lease : W.lease = true := by first | assumption | rfl) (w_pages : W.pages = true := by first | assumption | rfl) (w_serve : W.serve = true := by first | assumption | rfl) (w_slots : W.slots = true := by first | assumption | rfl) (w_fabric : W.fabric = true := by first | assumption | rfl) (w_stk : W.stk = true := by first | assumption | rfl) (w_links : W.links = true := by first | assumption | rfl) (w_fw : W.fw = true := by first | assumption | rfl) (w_dbg : W.dbg = true := by first | assumption | rfl) (w_opc : W.opc = true := by first | assumption | rfl) (w_b_image : W.b_image = true := by first | assumption | rfl) (w_b_page : W.b_page = true := by first | assumption | rfl) (w_b_ddr4 : W.b_ddr4 = true := by first | assumption | rfl) (w_b_output : W.b_output = true := by first | assumption | rfl) (w_b_firmware : W.b_firmware = true := by first | assumption | rfl) (w_b_fault : W.b_fault = true := by first | assumption | rfl) (w_b_amber : W.b_amber = true := by first | assumption | rfl) (w_b_redundancy : W.b_redundancy = true := by first | assumption | rfl) (w_b_perf : W.b_perf = true := by first | assumption | rfl) : KeepR W s0 (execWriteMgmt a1 s) := by
  unfold execWriteMgmt
  try dsimp only
  repeat' first
    | with_reducible assumption
    | with_reducible refine Keep.ite ?_ ?_
    | with_reducible refine KeepR.ite ?_ ?_
    | with_reducible refine KeepR.next ?_
    | with_reducible apply State.fwCommand_keep
    | with_reducible apply State.fwCopy_keep
    | (intro _; intros; try dsimp only)

theorem execWriteSlot_keep {a1 a2} (h : Keep W s0 s) (w_bbs : W.bbs = true := by first | assumption | rfl) (w_out : W.out = true := by first | assumption | rfl) (w_badRecord : W.badRecord = true := by first | assumption | rfl) (w_po : W.po = true := by first | assumption | rfl) (w_faults : W.faults = true := by first | assumption | rfl) (w_lease : W.lease = true := by first | assumption | rfl) (w_pages : W.pages = true := by first | assumption | rfl) (w_serve : W.serve = true := by first | assumption | rfl) (w_slots : W.slots = true := by first | assumption | rfl) (w_fabric : W.fabric = true := by first | assumption | rfl) (w_stk : W.stk = true := by first | assumption | rfl) (w_links : W.links = true := by first | assumption | rfl) (w_fw : W.fw = true := by first | assumption | rfl) (w_dbg : W.dbg = true := by first | assumption | rfl) (w_opc : W.opc = true := by first | assumption | rfl) (w_b_image : W.b_image = true := by first | assumption | rfl) (w_b_page : W.b_page = true := by first | assumption | rfl) (w_b_ddr4 : W.b_ddr4 = true := by first | assumption | rfl) (w_b_output : W.b_output = true := by first | assumption | rfl) (w_b_firmware : W.b_firmware = true := by first | assumption | rfl) (w_b_fault : W.b_fault = true := by first | assumption | rfl) (w_b_amber : W.b_amber = true := by first | assumption | rfl) (w_b_redundancy : W.b_redundancy = true := by first | assumption | rfl) (w_b_perf : W.b_perf = true := by first | assumption | rfl) : KeepR W s0 (execWriteSlot a1 a2 s) := by
  unfold execWriteSlot
  try dsimp only
  repeat' first
    | with_reducible assumption
    | with_reducible refine Keep.ite ?_ ?_
    | with_reducible refine KeepR.ite ?_ ?_
    | with_reducible refine KeepR.next ?_
    | with_reducible apply State.fwCommand_keep
    | with_reducible apply State.fwCopy_keep
    | (intro _; intros; try dsimp only)

theorem execFlashWriteDone_keep {a1} (h : Keep W s0 s) (w_bbs : W.bbs = true := by first | assumption | rfl) (w_fw : W.fw = true := by first | assumption | rfl) (w_sdio : W.sdio = true := by first | assumption | rfl) (w_b_firmware : W.b_firmware = true := by first | assumption | rfl) : KeepR W s0 (execFlashWriteDone a1 s) := by
  unfold execFlashWriteDone
  try dsimp only
  repeat' first
    | with_reducible assumption
    | with_reducible refine Keep.ite ?_ ?_
    | with_reducible refine KeepR.ite ?_ ?_
    | with_reducible refine KeepR.next ?_
    | with_reducible apply State.writeFails_keep
    | with_reducible apply State.wr_keep
    | with_reducible apply State.fwResult_keep
    | with_reducible apply State.programmed_keep
    | ((with_reducible refine Parts.blk_true ?_); first | exact w_b_firmware)
    | (split <;> try dsimp only)
    | with_reducible refine Keep.upd_sdio (h := ?_)

theorem State.fwPlain_keep {a1 a2} (h : Keep W s0 s) (w_bbs : W.bbs = true := by first | assumption | rfl) (w_fw : W.fw = true := by first | assumption | rfl) (w_b_firmware : W.b_firmware = true := by first | assumption | rfl) : Keep W s0 (State.fwPlain s a1 a2) := by
  unfold State.fwPlain
  try dsimp only
  repeat' first
    | with_reducible assumption
    | with_reducible refine Keep.ite ?_ ?_
    | with_reducible apply State.fwOp_keep
    | with_reducible apply State.fwResult_keep

theorem execArm_keep {a1 a2} (h : Keep W s0 s) (w_bbs : W.bbs = true := by first | assumption | rfl) (w_out : W.out = true := by first | assumption | rfl) (w_po : W.po = true := by first | assumption | rfl) (w_faults : W.faults = true := by first | assumption | rfl) (w_lease : W.lease = true := by first | assumption | rfl) (w_pages : W.pages = true := by first | assumption | rfl) (w_serve : W.serve = true := by first | assumption | rfl) (w_slots : W.slots = true := by first | assumption | rfl) (w_fabric : W.fabric = true := by first | assumption | rfl) (w_stk : W.stk = true := by first | assumption | rfl) (w_links : W.links = true := by first | assumption | rfl) (w_fw : W.fw = true := by first | assumption | rfl) (w_dbg : W.dbg = true := by first | assumption | rfl) (w_opc : W.opc = true := by first | assumption | rfl) (w_b_image : W.b_image = true := by first | assumption | rfl) (w_b_page : W.b_page = true := by first | assumption | rfl) (w_b_output : W.b_output = true := by first | assumption | rfl) (w_b_firmware : W.b_firmware = true := by first | assumption | rfl) (w_b_fault : W.b_fault = true := by first | assumption | rfl) (w_b_amber : W.b_amber = true := by first | assumption | rfl) (w_b_redundancy : W.b_redundancy = true := by first | assumption | rfl) (w_b_perf : W.b_perf = true := by first | assumption | rfl) : KeepR W s0 (execArm a1 a2 s) := by
  unfold execArm
  try dsimp only
  repeat' first
    | with_reducible assumption
    | with_reducible refine Keep.ite ?_ ?_
    | with_reducible refine KeepR.ite ?_ ?_
    | with_reducible refine KeepR.next ?_
    | with_reducible apply State.fwCommand_keep
    | with_reducible apply State.fwPlain_keep
    | (intro _; intros; try dsimp only)

theorem execDisarm_keep {a1 a2} (h : Keep W s0 s) (w_bbs : W.bbs = true := by first | assumption | rfl) (w_out : W.out = true := by first | assumption | rfl) (w_po : W.po = true := by first | assumption | rfl) (w_faults : W.faults = true := by first | assumption | rfl) (w_lease : W.lease = true := by first | assumption | rfl) (w_pages : W.pages = true := by first | assumption | rfl) (w_serve : W.serve = true := by first | assumption | rfl) (w_slots : W.slots = true := by first | assumption | rfl) (w_fabric : W.fabric = true := by first | assumption | rfl) (w_stk : W.stk = true := by first | assumption | rfl) (w_links : W.links = true := by first | assumption | rfl) (w_fw : W.fw = true := by first | assumption | rfl) (w_dbg : W.dbg = true := by first | assumption | rfl) (w_opc : W.opc = true := by first | assumption | rfl) (w_b_image : W.b_image = true := by first | assumption | rfl) (w_b_page : W.b_page = true := by first | assumption | rfl) (w_b_output : W.b_output = true := by first | assumption | rfl) (w_b_firmware : W.b_firmware = true := by first | assumption | rfl) (w_b_fault : W.b_fault = true := by first | assumption | rfl) (w_b_amber : W.b_amber = true := by first | assumption | rfl) (w_b_redundancy : W.b_redundancy = true := by first | assumption | rfl) (w_b_perf : W.b_perf = true := by first | assumption | rfl) : KeepR W s0 (execDisarm a1 a2 s) := by
  unfold execDisarm
  try dsimp only
  repeat' first
    | with_reducible assumption
    | with_reducible refine Keep.ite ?_ ?_
    | with_reducible refine KeepR.ite ?_ ?_
    | with_reducible refine KeepR.next ?_
    | with_reducible apply State.fwCommand_keep
    | with_reducible apply State.fwPlain_keep
    | (intro _; intros; try dsimp only)

theorem execConfirm_keep {a1} (h : Keep W s0 s) (w_bbs : W.bbs = true := by first | assumption | rfl) (w_out : W.out = true := by first | assumption | rfl) (w_po : W.po = true := by first | assumption | rfl) (w_faults : W.faults = true := by first | assumption | rfl) (w_lease : W.lease = true := by first | assumption | rfl) (w_pages : W.pages = true := by first | assumption | rfl) (w_serve : W.serve = true := by first | assumption | rfl) (w_slots : W.slots = true := by first | assumption | rfl) (w_fabric : W.fabric = true := by first | assumption | rfl) (w_stk : W.stk = true := by first | assumption | rfl) (w_links : W.links = true := by first | assumption | rfl) (w_fw : W.fw = true := by first | assumption | rfl) (w_dbg : W.dbg = true := by first | assumption | rfl) (w_opc : W.opc = true := by first | assumption | rfl) (w_b_image : W.b_image = true := by first | assumption | rfl) (w_b_page : W.b_page = true := by first | assumption | rfl) (w_b_output : W.b_output = true := by first | assumption | rfl) (w_b_firmware : W.b_firmware = true := by first | assumption | rfl) (w_b_fault : W.b_fault = true := by first | assumption | rfl) (w_b_amber : W.b_amber = true := by first | assumption | rfl) (w_b_redundancy : W.b_redundancy = true := by first | assumption | rfl) (w_b_perf : W.b_perf = true := by first | assumption | rfl) : KeepR W s0 (execConfirm a1 s) := by
  unfold execConfirm
  try dsimp only
  repeat' first
    | with_reducible assumption
    | with_reducible refine Keep.ite ?_ ?_
    | with_reducible refine KeepR.ite ?_ ?_
    | with_reducible refine KeepR.next ?_
    | with_reducible apply State.fwCommand_keep
    | with_reducible apply State.fwPlain_keep
    | (intro _; intros; try dsimp only)

theorem execCommitMgmt_keep {a1} (h : Keep W s0 s) (w_bbs : W.bbs = true := by first | assumption | rfl) (w_out : W.out = true := by first | assumption | rfl) (w_po : W.po = true := by first | assumption | rfl) (w_faults : W.faults = true := by first | assumption | rfl) (w_lease : W.lease = true := by first | assumption | rfl) (w_pages : W.pages = true := by first | assumption | rfl) (w_serve : W.serve = true := by first | assumption | rfl) (w_slots : W.slots = true := by first | assumption | rfl) (w_fabric : W.fabric = true := by first | assumption | rfl) (w_stk : W.stk = true := by first | assumption | rfl) (w_links : W.links = true := by first | assumption | rfl) (w_fw : W.fw = true := by first | assumption | rfl) (w_dbg : W.dbg = true := by first | assumption | rfl) (w_opc : W.opc = true := by first | assumption | rfl) (w_b_image : W.b_image = true := by first | assumption | rfl) (w_b_page : W.b_page = true := by first | assumption | rfl) (w_b_output : W.b_output = true := by first | assumption | rfl) (w_b_firmware : W.b_firmware = true := by first | assumption | rfl) (w_b_fault : W.b_fault = true := by first | assumption | rfl) (w_b_amber : W.b_amber = true := by first | assumption | rfl) (w_b_redundancy : W.b_redundancy = true := by first | assumption | rfl) (w_b_perf : W.b_perf = true := by first | assumption | rfl) : KeepR W s0 (execCommitMgmt a1 s) := by
  unfold execCommitMgmt
  try dsimp only
  repeat' first
    | with_reducible assumption
    | with_reducible refine Keep.ite ?_ ?_
    | with_reducible refine KeepR.ite ?_ ?_
    | with_reducible refine KeepR.next ?_
    | with_reducible apply State.fwCommand_keep
    | with_reducible apply State.fwPlain_keep
    | (intro _; intros; try dsimp only)

theorem execCommitRuntime_keep {a1} (h : Keep W s0 s) (w_bbs : W.bbs = true := by first | assumption | rfl) (w_out : W.out = true := by first | assumption | rfl) (w_po : W.po = true := by first | assumption | rfl) (w_faults : W.faults = true := by first | assumption | rfl) (w_lease : W.lease = true := by first | assumption | rfl) (w_pages : W.pages = true := by first | assumption | rfl) (w_serve : W.serve = true := by first | assumption | rfl) (w_slots : W.slots = true := by first | assumption | rfl) (w_fabric : W.fabric = true := by first | assumption | rfl) (w_stk : W.stk = true := by first | assumption | rfl) (w_links : W.links = true := by first | assumption | rfl) (w_fw : W.fw = true := by first | assumption | rfl) (w_dbg : W.dbg = true := by first | assumption | rfl) (w_opc : W.opc = true := by first | assumption | rfl) (w_b_image : W.b_image = true := by first | assumption | rfl) (w_b_page : W.b_page = true := by first | assumption | rfl) (w_b_output : W.b_output = true := by first | assumption | rfl) (w_b_firmware : W.b_firmware = true := by first | assumption | rfl) (w_b_fault : W.b_fault = true := by first | assumption | rfl) (w_b_amber : W.b_amber = true := by first | assumption | rfl) (w_b_redundancy : W.b_redundancy = true := by first | assumption | rfl) (w_b_perf : W.b_perf = true := by first | assumption | rfl) : KeepR W s0 (execCommitRuntime a1 s) := by
  unfold execCommitRuntime
  try dsimp only
  repeat' first
    | with_reducible assumption
    | with_reducible refine Keep.ite ?_ ?_
    | with_reducible refine KeepR.ite ?_ ?_
    | with_reducible refine KeepR.next ?_
    | with_reducible apply State.fwCommand_keep
    | with_reducible apply State.fwPlain_keep
    | (intro _; intros; try dsimp only)

theorem State.setSdio_keep {a1} (h : Keep W s0 s) (w_sdio : W.sdio = true := by first | assumption | rfl) : Keep W s0 (State.setSdio s a1) := by
  unfold State.setSdio
  try dsimp only
  repeat' first
    | with_reducible assumption
    | with_reducible refine Keep.ite ?_ ?_
    | with_reducible refine Keep.upd_sdio (h := ?_)

theorem execRecoveryStart_keep {a1} (h : Keep W s0 s) (w_bbs : W.bbs = true := by first | assumption | rfl) (w_power : W.power = true := by first | assumption | rfl) (w_fw : W.fw = true := by first | assumption | rfl) (w_sdio : W.sdio = true := by first | assumption | rfl) : KeepR W s0 (execRecoveryStart a1 s) := by
  unfold execRecoveryStart
  try dsimp only
  repeat' first
    | with_reducible assumption
    | with_reducible refine Keep.ite ?_ ?_
    | with_reducible refine KeepR.ite ?_ ?_
    | with_reducible refine KeepR.next ?_
    | with_reducible apply State.setSdio_keep
    | with_reducible apply State.wakeS4_keep
    | with_reducible apply State.beginWrite_keep
    | (split <;> try dsimp only)

theorem execRecoveryAbort_keep (h : Keep W s0 s) (w_bbs : W.bbs = true := by first | assumption | rfl) (w_power : W.power = true := by first | assumption | rfl) (w_fw : W.fw = true := by first | assumption | rfl) (w_sdio : W.sdio = true := by first | assumption | rfl) : KeepR W s0 (execRecoveryAbort s) := by
  unfold execRecoveryAbort
  try dsimp only
  repeat' first
    | with_reducible assumption
    | with_reducible refine Keep.ite ?_ ?_
    | with_reducible refine KeepR.ite ?_ ?_
    | with_reducible refine KeepR.next ?_
    | with_reducible apply State.setSdio_keep
    | with_reducible apply State.wakeS4_keep
    | with_reducible apply State.writeFails_keep
    | (split <;> try dsimp only)

theorem execRecoveryData_keep {a1} (h : Keep W s0 s) (w_bbs : W.bbs = true := by first | assumption | rfl) (w_fw : W.fw = true := by first | assumption | rfl) (w_sdio : W.sdio = true := by first | assumption | rfl) : KeepR W s0 (execRecoveryData a1 s) := by
  unfold execRecoveryData
  try dsimp only
  repeat' first
    | with_reducible assumption
    | with_reducible refine Keep.ite ?_ ?_
    | with_reducible refine KeepR.ite ?_ ?_
    | with_reducible refine KeepR.next ?_
    | with_reducible apply State.setSdio_keep
    | with_reducible apply State.setSlotState_keep
    | with_reducible apply State.programmed_keep
    | (split <;> try dsimp only)
    | with_reducible refine Keep.upd_fw (h := ?_)

end Sys2Proof.Machine
end

