-- ==== Sys2Proof/Laws/KeepReadReg.lean ====
section
/-! SUPPORT. What the operations of Machine/ReadReg.lean keep: one lemma per operation. -/

namespace Sys2Proof.Machine

-- One proof at a time: the package is compiled as one text under a memory limit.
set_option Elab.async false

set_option linter.all false

variable {W : Parts} {s0 s : State}

theorem State.takeRead_keep {a1 a2 a3 a4} (h : Keep W s0 s) (w_lastRead : W.lastRead = true := by first | assumption | rfl) (w_irqs : W.irqs = true := by first | assumption | rfl) (w_sdio : W.sdio = true := by first | assumption | rfl) : Keep W s0 (State.takeRead s a1 a2 a3 a4) := by
  unfold State.takeRead
  try dsimp only
  repeat' first
    | with_reducible assumption
    | with_reducible refine Keep.ite ?_ ?_
    | with_reducible apply State.setSdio_keep
    | (split <;> try dsimp only)
    | with_reducible refine Keep.upd_irqs (h := ?_)
    | with_reducible refine Keep.upd_lastRead (h := ?_)
    | with_reducible refine Keep.upd_lastRead_irqs (h := ?_)

end Sys2Proof.Machine
end

