-- ==== Sys2Proof/Laws/Lanes.lean ====
section
/-! SUPPORT. Laws of lane instructions: registers of a group, the run of a tile, what issuing an instruction leaves. -/

namespace Sys2Proof.Machine

-- One proof at a time: the package is compiled as one text under a memory limit.
set_option Elab.async false

variable {s u : State} {t g : Nat} {w : W64} {cls : Nat} {ops : Nat → Bool} {x y : Group}

/-! ## Registers of a group -/

theorem Group.vreg_setV (x : Group) (r l a b : Nat) (v : W32) (hl : l < 64) (hb : b < 64) :
    (x.setV r l v).vreg a b = if a = r ∧ b = l then v else x.vreg a b := by
  unfold Group.setV Group.vreg
  simp only
  rw [Tab.get_set]
  by_cases h : a = r ∧ b = l
  · rw [if_pos h, if_pos (by rw [h.1, h.2])]
  · rw [if_neg h, if_neg (by omega)]

@[simp] theorem Group.setV_pc (x : Group) (r l : Nat) (v : W32) : (x.setV r l v).pc = x.pc := rfl
@[simp] theorem Group.setV_wait (x : Group) (r l : Nat) (v : W32) : (x.setV r l v).wait = x.wait := rfl
@[simp] theorem Group.setV_p (x : Group) (r l : Nat) (v : W32) : (x.setV r l v).p = x.p := rfl
@[simp] theorem Group.setV_s (x : Group) (r l : Nat) (v : W32) : (x.setV r l v).s = x.s := rfl

theorem Group.sreg_setS (x : Group) (r a : Nat) (v : W64) : (x.setS r v).sreg a = if a = r then v else x.sreg a := by
  unfold Group.setS Group.sreg; exact Tab.get_set ..

theorem Group.mem_lanes (x : Group) (w : W64) (l : Nat) : l ∈ x.lanes w ↔ l < 64 ∧ x.enabled w l = true := by
  unfold Group.lanes; simp

/-- What a fold of register writes over a list of lanes keeps and gives. -/
theorem Group.foldl_setV (f : Nat → W32) (r : Nat) (ls : List Nat) (x : Group) :
    (ls.foldl (fun x l => x.setV r l (f l)) x).pc = x.pc ∧ (ls.foldl (fun x l => x.setV r l (f l)) x).wait = x.wait ∧
    (ls.foldl (fun x l => x.setV r l (f l)) x).p = x.p ∧ (ls.foldl (fun x l => x.setV r l (f l)) x).s = x.s ∧
    ((∀ l ∈ ls, l < 64) → ∀ a b, b < 64 →
      (ls.foldl (fun x l => x.setV r l (f l)) x).vreg a b = if a = r ∧ b ∈ ls then f b else x.vreg a b) := by
  induction ls generalizing x with
  | nil => exact ⟨rfl, rfl, rfl, rfl, fun _ _ _ _ => by simp⟩
  | cons l ls ih =>
    obtain ⟨h1, h2, h3, h4, h5⟩ := ih (x.setV r l (f l))
    refine ⟨h1, h2, h3, h4, fun hl a b hb => ?_⟩
    rw [List.foldl_cons, h5 (fun k hk => hl k (List.mem_cons_of_mem _ hk)) a b hb, Group.vreg_setV _ _ _ _ _ _ (hl l (List.mem_cons_self ..)) hb]
    by_cases ha : a = r
    · by_cases hbl : b = l
      · subst hbl; by_cases hm : b ∈ ls <;> simp [ha, hm]
      · by_cases hm : b ∈ ls <;> simp [ha, hm, hbl]
    · simp [ha]

/-- A result in every enabled lane of dst and nowhere else (R120). -/
theorem Group.vreg_mapDst (x : Group) (w : W64) (f : Nat → W32) (r l : Nat) (hl : l < 64) :
    (x.mapDst w f).vreg r l = if r = lDst w ∧ x.enabled w l = true then f l else x.vreg r l := by
  unfold Group.mapDst
  rw [(Group.foldl_setV f (lDst w) (x.lanes w) x).2.2.2.2 (fun k hk => ((Group.mem_lanes ..).mp hk).1) r l hl]
  simp [Group.mem_lanes, hl]

theorem Group.mapDst_rest (x : Group) (w : W64) (f : Nat → W32) :
    (x.mapDst w f).pc = x.pc ∧ (x.mapDst w f).wait = x.wait ∧ (x.mapDst w f).p = x.p ∧ (x.mapDst w f).s = x.s :=
  let h := Group.foldl_setV f (lDst w) (x.lanes w) x
  ⟨h.1, h.2.1, h.2.2.1, h.2.2.2.1⟩

/-! ## Runs -/

theorem State.run_setRun (s : State) (t k : Nat) (r : TileRun) : (s.setRun t r).run k = if k = t then r else s.run k := by
  unfold State.setRun State.setFabric State.run; exact Tab.get_set ..

theorem State.run_setGroup (s : State) (t g k : Nat) (x : Group) :
    (s.setGroup t g x).run k = if k = t then { s.run t with groups := (s.run t).groups.set g x } else s.run k := by
  unfold State.setGroup; exact State.run_setRun ..

theorem State.run_of_fabric (h : u.fabric = s.fabric) (t : Nat) : u.run t = s.run t := by unfold State.run; rw [h]

theorem State.vecIssued_fabric (s : State) (t : Nat) : (s.vecIssued t).fabric = s.fabric :=
  (State.vecIssued_keep (W := { opc := true, b_perf := true }) (a1 := t) (Keep.refl s)).parts.fabric rfl

theorem State.vecIssued_mem (s : State) (t : Nat) : (s.vecIssued t).mem = s.mem :=
  (State.vecIssued_keep (W := { opc := true, b_perf := true }) (a1 := t) (Keep.refl s)).parts.mem rfl

theorem State.laneDone_keep' (s u : State) (t : Nat) : Unchanged { dbg := true } u (State.laneDone s u t) :=
  (State.laneDone_keep (Keep.refl u)).parts

theorem State.laneDone_fabric (s u : State) (t : Nat) : (State.laneDone s u t).fabric = u.fabric := (State.laneDone_keep' s u t).fabric rfl

/-- What an instruction leaves that changes its group alone. -/
theorem State.laneReg_next {t : TileId} {g : Fin 32} (h : s.issue t g w cls ops = some x) (f : Group → Group) :
    ∃ u, s.laneReg t g w cls ops f = .next u ∧ LaneNext s u t g (f x).next := by
  refine ⟨_, by unfold State.laneReg; rw [h], ?_, fun k hk => ?_⟩
  · rw [State.run_of_fabric (State.laneDone_fabric ..), State.run_setGroup, if_pos rfl, State.run_of_fabric (State.vecIssued_fabric ..)]
  · rw [State.run_of_fabric (State.laneDone_fabric ..), State.run_setGroup, if_neg hk, State.run_of_fabric (State.vecIssued_fabric ..)]

/-- What an instruction leaves whose action makes its group y and no other. -/
theorem State.laneAct_next {t : TileId} {g : Fin 32} (h : s.issue t g w cls ops = some x) (f : State → Group → State) (y : Group)
    (hf : LaneNext (s.vecIssued t) (f (s.vecIssued t) x) t g y) :
    ∃ u, s.laneAct t g w cls ops f = .next u ∧ LaneNext s u t g y := by
  refine ⟨_, by unfold State.laneAct; rw [h], ?_, fun k hk => ?_⟩
  · rw [State.run_of_fabric (State.laneDone_fabric ..), hf.1, State.run_of_fabric (State.vecIssued_fabric ..)]
  · rw [State.run_of_fabric (State.laneDone_fabric ..), hf.2 k hk, State.run_of_fabric (State.vecIssued_fabric ..)]

theorem LaneNext.setGroup {t : TileId} {g : Fin 32} (s : State) (y : Group) : LaneNext s (s.setGroup t g y) t g y :=
  ⟨by rw [State.run_setGroup, if_pos rfl], fun k hk => by rw [State.run_setGroup, if_neg hk]⟩

/-- Sums of distinct bits. -/
theorem foldl_bits (f : Nat → Bool) (n k : Nat) :
    ((List.range n).foldl (fun m l => m + ofBool (f l) * 2 ^ l) 0).testBit k = (decide (k < n) && f k) ∧
    (List.range n).foldl (fun m l => m + ofBool (f l) * 2 ^ l) 0 < 2 ^ n := by
  induction n with
  | zero => simp
  | succ n ih =>
    obtain ⟨h1, h2⟩ := ih
    rw [List.range_succ, List.foldl_append]
    simp only [List.foldl_cons, List.foldl_nil]
    generalize (List.range n).foldl (fun m l => m + ofBool (f l) * 2 ^ l) 0 = a at h1 h2
    cases hf : f n
    · simp only [ofBool, Bool.false_eq_true, if_false, Nat.zero_mul, Nat.add_zero]
      refine ⟨?_, by rw [pow_succ]; omega⟩
      rw [h1]
      by_cases hk : k = n
      · subst hk; simp [hf]
      · have : (k < n + 1) ↔ k < n := by omega
        simp [this]
    · simp only [ofBool, if_true, Nat.one_mul]
      refine ⟨?_, by rw [pow_succ]; omega⟩
      have e : a + 2 ^ n = 2 ^ n ||| a := by rw [Nat.add_comm]; simpa using Nat.two_pow_add_eq_or_of_lt h2 1
      rw [e, Nat.testBit_or, Nat.testBit_two_pow, h1]
      by_cases hk : k = n
      · subst hk; simp [hf]
      · have hk' : n ≠ k := fun h => hk h.symm
        have : (k < n + 1) ↔ k < n := by omega
        simp [this, hk']

/-- The bits of a comparison's mask (R123). -/
theorem cmpMask_spec (x : Group) (w : W64) (f : Nat → Bool) (l : Nat) :
    (cmpMask x w f).testBit l = (decide (l < 64) &&
      (if x.enabled w l = true then
        (if lAux w 17 16 = 1 then (x.pred (lDst w)).testBit l && f l
         else if lAux w 17 16 = 2 then (x.pred (lDst w)).testBit l || f l else f l)
      else (x.pred (lDst w)).testBit l)) ∧ cmpMask x w f < 2 ^ 64 := by
  unfold cmpMask
  refine ⟨(foldl_bits _ 64 l).1.trans ?_, (foldl_bits _ 64 l).2⟩
  simp only [bit]
  congr 1
  split
  · split
    · next h => simp [h]
    · next h => simp [h]
    · next h1 h2 => rw [if_neg h1, if_neg h2]
  · rfl

/-! ## Memory of lanes -/

/-- Four registers of each lane of a list. -/
theorem Group.foldl_setV4 (f : Nat → Nat → W32) (r : Nat) (ls : List Nat) (x : Group) :
    (ls.foldl (fun x l => (List.range 4).foldl (fun y k => y.setV (r + k) l (f l k)) x) x).pc = x.pc ∧
    (ls.foldl (fun x l => (List.range 4).foldl (fun y k => y.setV (r + k) l (f l k)) x) x).wait = x.wait ∧
    (ls.foldl (fun x l => (List.range 4).foldl (fun y k => y.setV (r + k) l (f l k)) x) x).p = x.p ∧
    (ls.foldl (fun x l => (List.range 4).foldl (fun y k => y.setV (r + k) l (f l k)) x) x).s = x.s ∧
    ((∀ l ∈ ls, l < 64) → ∀ a b, b < 64 →
      (ls.foldl (fun x l => (List.range 4).foldl (fun y k => y.setV (r + k) l (f l k)) x) x).vreg a b =
        if (r ≤ a ∧ a < r + 4) ∧ b ∈ ls then f b (a - r) else x.vreg a b) := by
  induction ls generalizing x with
  | nil => exact ⟨rfl, rfl, rfl, rfl, fun _ _ _ _ => by simp⟩
  | cons l ls ih =>
    obtain ⟨h1, h2, h3, h4, h5⟩ := ih ((List.range 4).foldl (fun y k => y.setV (r + k) l (f l k)) x)
    refine ⟨h1, h2, h3, h4, fun hl a b hb => ?_⟩
    have hl0 := hl l (List.mem_cons_self ..)
    rw [List.foldl_cons, h5 (fun k hk => hl k (List.mem_cons_of_mem _ hk)) a b hb]
    have e : ((List.range 4).foldl (fun y k => y.setV (r + k) l (f l k)) x).vreg a b =
        if (r ≤ a ∧ a < r + 4) ∧ b = l then f l (a - r) else x.vreg a b := by
      show ((((x.setV (r + 0) l (f l 0)).setV (r + 1) l (f l 1)).setV (r + 2) l (f l 2)).setV (r + 3) l (f l 3)).vreg a b = _
      simp only [Group.vreg_setV _ _ _ _ _ _ hl0 hb]
      by_cases hbl : b = l
      · by_cases ha : r ≤ a ∧ a < r + 4
        · have : a = r + 0 ∨ a = r + 1 ∨ a = r + 2 ∨ a = r + 3 := by omega
          rcases this with h | h | h | h <;> subst h <;> simp [hbl]
        · have n0 : a ≠ r + 0 := by omega
          have n1 : a ≠ r + 1 := by omega
          have n2 : a ≠ r + 2 := by omega
          have n3 : a ≠ r + 3 := by omega
          rw [if_neg (fun h => n3 h.1), if_neg (fun h => n2 h.1), if_neg (fun h => n1 h.1), if_neg (fun h => n0 h.1), if_neg (fun h => ha h.1)]
      · simp [hbl]
    rw [e]
    by_cases ha : r ≤ a ∧ a < r + 4
    · by_cases hm : b ∈ ls
      · simp [ha, hm]
      · by_cases hbl : b = l <;> simp [ha, hm, hbl]
    · simp [ha]

/-- A fold over lanes that changes the group alone. -/
theorem State.laneFold_group (s : State) (x : Group) (f : State → Group → Nat → Group) (ls : List Nat) :
    ls.foldl (fun (p : State × Group) l => (p.1, f p.1 p.2 l)) (s, x) = (s, ls.foldl (fun y l => f s y l) x) := by
  induction ls generalizing x with
  | nil => rfl
  | cons l ls ih => rw [List.foldl_cons, List.foldl_cons]; exact ih _

/-- A MEM instruction whose enabled lanes stay in their window: the lanes act in ascending order (R133). -/
theorem State.laneMem_next {t : TileId} {g : Fin 32} {quad : Bool} {size : Nat} {f : State → Group → Group → Nat → Nat → State × Group}
    (h : s.issue t g w 7 ops = some x) (hc : s.laneClear t x w quad size)
    (hf : ∀ s x y l a, (f s x y l a).1.fabric = s.fabric := by intros; rfl) :
    ∃ u y, s.laneMem t g w ops quad size f = .next u ∧ LaneNext s u t g y ∧
      u.mem = ((x.lanes w).foldl (fun (p : State × Group) l => f p.1 x p.2 l (x.memAddr w l)) ((s.vecIssued t).draw, x)).1.mem ∧
      y = ((x.lanes w).foldl (fun (p : State × Group) l => f p.1 x p.2 l (x.memAddr w l)) ((s.vecIssued t).draw, x)).2.next := by
  have e0 : (x.lanes w).filterMap (fun l =>
      let c := accessFault (((s.vecIssued t).run t).window quad).1 (((s.vecIssued t).run t).window quad).2 (x.memAddr w l) size
      if c = 0 then none else some c) = [] := by
    rw [List.filterMap_eq_nil_iff]
    intro l hl
    obtain ⟨h1, h2⟩ := (Group.mem_lanes ..).mp hl
    rw [State.run_of_fabric (State.vecIssued_fabric ..)]
    simp [hc l h1 h2]
  have hfab : ∀ (ls : List Nat) (p : State × Group),
      (ls.foldl (fun (p : State × Group) l => f p.1 x p.2 l (x.memAddr w l)) p).1.fabric = p.1.fabric := by
    intro ls
    induction ls with
    | nil => intro p; rfl
    | cons l ls ih => intro p; rw [List.foldl_cons, ih, hf]
  have hr := hfab (x.lanes w) ((s.vecIssued t).draw, x)
  generalize hR : (x.lanes w).foldl (fun (p : State × Group) l => f p.1 x p.2 l (x.memAddr w l)) ((s.vecIssued t).draw, x) = R at hr
  have hfab2 : R.1.fabric = s.fabric := hr.trans (State.vecIssued_fabric s t)
  refine ⟨State.laneDone s (R.1.setGroup t g R.2.next) t, _, ?_, ⟨?_, fun k hk => ?_⟩, ?_, rfl⟩
  · unfold State.laneMem State.laneAct
    rw [h]
    simp only [e0, List.head?_nil, hR]
  · rw [State.run_of_fabric (State.laneDone_fabric ..), State.run_setGroup, if_pos rfl, State.run_of_fabric hfab2]
  · rw [State.run_of_fabric (State.laneDone_fabric ..), State.run_setGroup, if_neg hk, State.run_of_fabric hfab2]
  · exact (State.laneDone_keep' s _ t).mem rfl

/-- A list of bytes stored cell by cell: a byte that none names stays; the last one named at a cell is found there. -/
theorem get_foldl_cells (cell : Nat → Nat) (b : List Byte) (n : Nat) (m : Tab Byte) :
    (∀ a, (∀ k, k < b.length → cell (n + k) ≠ a) →
      Tab.get 0#8 ((b.zipIdx n).foldl (fun t p => Tab.set 0#8 t (cell p.2) p.1) m) a = Tab.get 0#8 m a) ∧
    (∀ k, (hk : k < b.length) → (∀ j, k < j → j < b.length → cell (n + j) ≠ cell (n + k)) →
      Tab.get 0#8 ((b.zipIdx n).foldl (fun t p => Tab.set 0#8 t (cell p.2) p.1) m) (cell (n + k)) = b[k]) := by
  induction b generalizing n m with
  | nil => exact ⟨fun _ _ => rfl, fun k hk => absurd hk (Nat.not_lt_zero _)⟩
  | cons c b ih =>
    rw [List.zipIdx_cons, List.foldl_cons]
    obtain ⟨h1, h2⟩ := ih (n + 1) (Tab.set 0#8 m (cell n) c)
    constructor
    · intro a ha
      rw [h1 a (fun k hk => by
        have := ha (k + 1) (by simp; omega)
        rwa [show n + 1 + k = n + (k + 1) from by omega])]
      exact Tab.get_set_other _ _ _ _ (fun e => ha 0 (by simp) e.symm)
    · intro k hk hj
      cases k with
      | zero =>
        rw [h1 (cell (n + 0)) (fun k hk => by
          have := hj (k + 1) (by omega) (by simp; omega)
          rwa [show n + 1 + k = n + (k + 1) from by omega])]
        exact Tab.get_set_same _ _ _ _
      | succ k =>
        have := h2 k (by simpa using hk) (fun j h3 h4 => by
          have := hj (j + 1) (by omega) (by simp; omega)
          rwa [show n + 1 + j = n + (j + 1) from by omega, show n + 1 + k = n + (k + 1) from by omega])
        rw [show n + 1 + k = n + (k + 1) from by omega] at this
        simpa using this

theorem quadAddr_kind (t : TileId) (off : Nat) (h : off < 2 ^ 48) : addrKind (quadAddr (quadOfTile t) off) = 1 := by
  have := t.isLt
  unfold addrKind quadAddr quadOfTile
  omega

theorem State.laneStore_mem (s : State) (t : TileId) (quad : Bool) (off : Nat) (b : List Byte) (h : quad = true → off < 2 ^ 48) :
    s.laneStore t quad off b = { s with mem := b.zipIdx.foldl (fun m p => Tab.set 0#8 m (s.laneCell t quad (off + p.2)) p.1) s.mem } := by
  unfold State.laneStore State.laneCell
  cases quad
  · simp only [Bool.false_eq_true, if_false]
    unfold State.putBytes tileAddr
    simp only [Nat.add_assoc]
  · simp only [if_true]
    unfold State.store
    rw [quadAddr_kind t off (h rfl), if_neg (by decide)]
    unfold quadAddr
    simp only [Nat.add_assoc]

/-- Where a lane access lies depends on the launch, the owners and the retired clusters alone. -/
theorem State.laneCell_congr {s u : State} (h1 : u.fabric = s.fabric) (h2 : u.struct = s.struct) (h3 : u.bbs = s.bbs) (t : TileId) (quad : Bool)
    (off : Nat) : u.laneCell t quad off = s.laneCell t quad off := by
  unfold State.laneCell State.phys State.banksOf State.clusterOwner State.bbsGet State.run
  rw [h1, h2, h3]

/-- What a store of bytes at a lane address leaves: the bytes in their cells, and every other byte. -/
theorem State.laneStore_byte (s : State) (t : TileId) (quad : Bool) (off : Nat) (b : List Byte) (h : quad = true → off < 2 ^ 48) :
    (∀ a, (∀ k, k < b.length → s.laneCell t quad (off + k) ≠ a) → (s.laneStore t quad off b).byte a = s.byte a) ∧
    (∀ k, (hk : k < b.length) → (∀ j, k < j → j < b.length → s.laneCell t quad (off + j) ≠ s.laneCell t quad (off + k)) →
      (s.laneStore t quad off b).byte (s.laneCell t quad (off + k)) = b[k]) := by
  rw [State.laneStore_mem s t quad off b h]
  have := get_foldl_cells (fun k => s.laneCell t quad (off + k)) b 0 s.mem
  simp only [Nat.zero_add] at this
  exact this

theorem foldl_filter_succ {α : Type} (p : Nat → Bool) (f : α → Nat → α) (a : α) (n : Nat) :
    ((List.range (n + 1)).filter p).foldl f a =
      if p n = true then f (((List.range n).filter p).foldl f a) n else ((List.range n).filter p).foldl f a := by
  rw [List.range_succ, List.filter_append, List.foldl_append]
  by_cases h : p n = true <;> simp [h]

/-- Lanes that store in ascending order, each reading what the lanes before it left: the memory before lane l, and what dst takes. `data` and
`val` give the stored bytes and dst's value from the state that lane l meets; `writes` says whether dst is written. -/
theorem State.laneChain {t : TileId} {quad : Bool} (s0 : State) (x : Group) (w : W64) (data : State → Nat → List Byte) (val : State → Nat → W32)
    (writes : Bool) (hq : quad = true → ∀ l, l < 64 → x.enabled w l = true → x.memAddr w l < 2 ^ 48) :
    ∃ S : Nat → State × Group, S 0 = (s0, x) ∧
      S 64 = (x.lanes w).foldl (fun (p : State × Group) l =>
        (p.1.laneStore t quad (x.memAddr w l) (data p.1 l), if writes then p.2.setV (lDst w) l (val p.1 l) else p.2)) (s0, x) ∧
      (∀ l, l < 64 → ∃ m, (S l).1 = { s0 with mem := m }) ∧
      (∀ l, l < 64 → x.enabled w l = false → S (l + 1) = S l) ∧
      (∀ l, l < 64 → x.enabled w l = true →
        (∀ a, (∀ k, k < (data (S l).1 l).length → s0.laneCell t quad (x.memAddr w l + k) ≠ a) → (S (l + 1)).1.byte a = (S l).1.byte a) ∧
        (∀ k, (hk : k < (data (S l).1 l).length) →
          (∀ j, k < j → j < (data (S l).1 l).length → s0.laneCell t quad (x.memAddr w l + j) ≠ s0.laneCell t quad (x.memAddr w l + k)) →
          (S (l + 1)).1.byte (s0.laneCell t quad (x.memAddr w l + k)) = (data (S l).1 l)[k])) ∧
      (S 64).2.pc = x.pc ∧ (S 64).2.wait = x.wait ∧ (S 64).2.p = x.p ∧ (S 64).2.s = x.s ∧
      (∀ r l, l < 64 → (S 64).2.vreg r l =
        if writes = true ∧ r = lDst w ∧ x.enabled w l = true then val (S l).1 l else x.vreg r l) := by
  let F : State × Group → Nat → State × Group := fun p l =>
        (p.1.laneStore t quad (x.memAddr w l) (data p.1 l), if writes then p.2.setV (lDst w) l (val p.1 l) else p.2)
  let S : Nat → State × Group := fun n => ((List.range n).filter (fun l => x.enabled w l)).foldl F (s0, x)
  have succ : ∀ n, S (n + 1) = if x.enabled w n = true then F (S n) n else S n := fun n => foldl_filter_succ _ F _ n
  have cong : ∀ n, n ≤ 64 → ∃ m, (S n).1 = { s0 with mem := m } := by
    intro n
    induction n with
    | zero => intro _; exact ⟨s0.mem, rfl⟩
    | succ n ih =>
      intro hn
      obtain ⟨m, hm⟩ := ih (by omega)
      rw [succ]
      split
      · next he =>
        obtain ⟨X, e⟩ : ∃ X, (S n).1.laneStore t quad (x.memAddr w n) (data (S n).1 n) = { (S n).1 with mem := X } :=
          ⟨_, State.laneStore_mem (S n).1 t quad _ _ (fun h => hq h n (by omega) he)⟩
        exact ⟨X, e.trans (by rw [hm])⟩
      · exact ⟨m, hm⟩
  have cell : ∀ n, n ≤ 64 → ∀ off, (S n).1.laneCell t quad off = s0.laneCell t quad off := fun n hn off => by
    obtain ⟨m, hm⟩ := cong n hn
    exact State.laneCell_congr (by rw [hm]) (by rw [hm]) (by rw [hm]) t quad off
  have grp : ∀ n, n ≤ 64 → (S n).2.pc = x.pc ∧ (S n).2.wait = x.wait ∧ (S n).2.p = x.p ∧ (S n).2.s = x.s ∧
      ∀ r l, l < 64 → (S n).2.vreg r l =
        if writes = true ∧ r = lDst w ∧ l < n ∧ x.enabled w l = true then val (S l).1 l else x.vreg r l := by
    intro n
    induction n with
    | zero => intro _; exact ⟨rfl, rfl, rfl, rfl, fun r l hl => by simp [S]⟩
    | succ n ih =>
      intro hn
      obtain ⟨h1, h2, h3, h4, h5⟩ := ih (by omega)
      rw [succ]
      by_cases he : x.enabled w n = true
      · rw [if_pos he]
        cases hw : writes
        · simp only [F, hw, Bool.false_eq_true, if_false, false_and]
          refine ⟨h1, h2, h3, h4, fun r l hl => ?_⟩
          rw [h5 r l hl]; simp [hw]
        · simp only [F, hw, if_true, true_and]
          refine ⟨h1, h2, h3, h4, fun r l hl => ?_⟩
          rw [Group.vreg_setV _ _ _ _ _ _ (by omega) hl, h5 r l hl]
          by_cases hln : l = n
          · subst hln
            by_cases hr : r = lDst w <;> simp [hr, he]
          · have : l < n + 1 ↔ l < n := by omega
            simp [hln, this, hw]
      · rw [if_neg he]
        refine ⟨h1, h2, h3, h4, fun r l hl => ?_⟩
        rw [h5 r l hl]
        by_cases hln : l = n
        · subst hln; simp [he]
        · have : l < n + 1 ↔ l < n := by omega
          simp [this]
  refine ⟨S, rfl, rfl, fun l hl => cong l (by omega), fun l hl he => ?_, fun l hl he => ?_, (grp 64 le_rfl).1, (grp 64 le_rfl).2.1,
    (grp 64 le_rfl).2.2.1, (grp 64 le_rfl).2.2.2.1, fun r l hl => ?_⟩
  · rw [succ, if_neg (by rw [he]; decide)]
  · have h := State.laneStore_byte (S l).1 t quad (x.memAddr w l) (data (S l).1 l) (fun h => hq h l hl he)
    simp only [cell l (by omega)] at h
    rw [succ, if_pos he]
    exact h
  · rw [(grp 64 le_rfl).2.2.2.2 r l hl]
    simp [hl]

end Sys2Proof.Machine
end

