-- ==== Sys2Proof/Laws/Resets.lean ====
section
/-! SUPPORT. What a module reset leaves (R32, R450). -/

namespace Sys2Proof.Machine

-- One proof at a time: the package is compiled as one text under a memory limit.
set_option Elab.async false

set_option linter.all false

variable {s : State}

/-- What boot may change after the reset. -/
def Parts.boot : Parts :=
  { Parts.event with sec := true, power := true, fw := true, b_security := true, b_ddr4 := true, b_lifecycle := true, b_firmware := true, b_power := true }

theorem Parts.boot_block {b : Block} (h : b ∈ resetBlocks) : Parts.boot.blk b = false := by
  revert h; cases b <;> decide

/-- A block of `resetBlocks` is no block of faults or power. -/
theorem resetBlocks_fault {b : Block} (h : b ∈ resetBlocks) : b ≠ .fault := by
  revert h; cases b <;> decide

theorem State.clearCore_parts (r : Bool) : ∃ u : State, u.clk = s.clk ∧ u.resetAt = s.clk ∧ u.modTime = (if r then 0 else s.modTime) ∧ u.mem = [] ∧ u.struct = {} ∧
    u.wparts = [] ∧ u.rings = [] ∧ u.irqs = [] ∧ u.badUnits = [] ∧ u.badRecord = [] ∧ u.reruns = [] ∧ u.cv = [] ∧ u.ptp = {} ∧ u.video = [] ∧
    u.sdio = (if r then {} else { s.sdio with recvState := if s.fw.write.any (fun w => w.origin = 2) then 0 else s.sdio.recvState }) ∧
    u.mgmt = (if r then {} else s.mgmt) ∧ u.cores = [] ∧ u.power = { s.power with idle := [], exits := [], closed := [], target := [], inS4 := false, nextTest := [], rails := false } ∧
    (∀ f i j, u.rd f i j = if heldKey r (f.key i j) then s.rd f i j else f.reset i) ∧
    Unchanged { bbs := true, faults := true, b_fault := true } u (s.clearCore r) := by
  have key : ∀ (t : State) (b : Bool) (slot : Nat) (g : State → Nat → Nat → Bool), Unchanged { bbs := true, faults := true, b_fault := true } t
      ((List.range 106).foldl (fun t i => t.setCauses i ((t.causes i).filter (g t i))) (if b then t.bbsWr (0x6F + slot) 1 6 else t)) := by
    intro t b slot g
    refine (Keep.foldl ?_ fun u a hu => State.setCauses_keep hu).parts
    split
    · exact State.bbsWr_keep (Keep.refl _)
    · exact Keep.refl _
  unfold State.clearCore
  dsimp only
  refine ⟨_, ?_, ?_, ?_, ?_, ?_, ?_, ?_, ?_, ?_, ?_, ?_, ?_, ?_, ?_, ?_, ?_, ?_, ?_, ?_, key _ _ _ (fun _ i c => if c = 0 then !r else heldSources.contains i)⟩
  all_goals first | rfl | skip
  intro f i j
  exact Tab.get_keep ..

/-- Parts that boot may change before the core rails come up. -/
def Parts.preBoot : Parts := { Parts.boot with power := false }

theorem State.startMgmt_power : (s.startMgmt).power.off = s.power.off ∧ (s.startMgmt).power.held = s.power.held := by
  have hb : ∀ z : State, z.bringUp.power.off = z.power.off ∧ z.bringUp.power.held = z.power.held := by
    intro z; unfold State.bringUp; split <;> exact ⟨rfl, rfl⟩
  have hp : ∀ z : State, Unchanged Parts.preBoot s z → z.bringUp.power.off = s.power.off ∧ z.bringUp.power.held = s.power.held := by
    intro z hz; rw [(hb z).1, (hb z).2, hz.power rfl]; exact ⟨rfl, rfl⟩
  unfold State.startMgmt
  dsimp only
  split
  · exact ⟨rfl, rfl⟩
  · apply hp
    refine (State.settleRegion_keep (W := Parts.preBoot) (s0 := s) ?_ (w := rfl)).parts
    refine Keep.ite ?_ (State.event_keep (State.setB_keep ?_ rfl)) <;>
    exact Keep.upd_sec (h := State.wr_keep (State.wr_keep (State.setStage_keep (State.draw_keep (Keep.refl s))) rfl) rfl)

/-- After a reset the module is as R32 says, at the time of the reset; a command that leaves OFF clears it. -/
theorem State.bootFromReset_reset (leave : Bool) : ResetOf s (s.bootFromReset leave) s.clk ∧ (s.bootFromReset leave).power.off = (s.power.off && !leave) ∧
    (s.bootFromReset leave).power.held = s.power.held := by
  have kb : ∀ z : State, Unchanged Parts.boot z z.startMgmt := fun z => (State.startMgmt_keep (Keep.refl z)).parts
  obtain ⟨u, h1, h2, h3, h4, h5, h6, h7, h8, h9, h10, h11, h12, h13, h14, h15, h16, h17, h18, h19, h20⟩ := State.clearCore_parts (s := s) true
  have tail : ∃ z : State, z.power = { (s.clearCore true).power with off := (s.clearCore true).power.off && !leave } ∧ Unchanged Parts.boot (s.clearCore true) z ∧ s.bootFromReset leave = z.startMgmt := by
    unfold State.bootFromReset
    dsimp only
    generalize hc : s.clearCore true = c
    generalize hd : (if (s.power.off && leave) = true then c.setB F.PWR_EVENT_off else c) = d
    have kd : Keep Parts.preBoot c d := by rw [← hd]; exact Keep.ite (State.setB_keep (Keep.refl c) rfl) (Keep.refl c)
    have ke : Keep Parts.boot c d := by rw [← hd]; exact Keep.ite (State.setB_keep (Keep.refl c) rfl) (Keep.refl c)
    refine ⟨_, ?_, ?_, rfl⟩
    · refine ((State.retireClusters_keep (W := Parts.preBoot) (State.checkStore_keep (Keep.foldl (State.faultPin_keep (Keep.ite (State.setB_keep (Keep.refl _) rfl) (Keep.refl _))) fun u a hu => State.newNonce_keep hu))).parts.power rfl).trans ?_
      dsimp only
      rw [kd.parts.power rfl]
    · exact (State.retireClusters_keep (State.checkStore_keep (Keep.foldl (State.faultPin_keep (Keep.ite (State.setB_keep (Keep.upd_power_fw (h := ke)) rfl) (Keep.upd_power_fw (h := ke)))) fun u a hu => State.newNonce_keep hu))).parts
  obtain ⟨z, z1, z2, z3⟩ := tail
  have k : Unchanged Parts.boot (s.clearCore true) (s.bootFromReset leave) := by
    rw [z3]; exact z2.trans (kb z)
  have kp := State.startMgmt_power (s := z)
  rw [← z3, z1, h20.power rfl, h18] at kp
  refine ⟨⟨(k.clk rfl).trans ((h20.clk rfl).trans h1), (k.resetAt rfl).trans ((h20.resetAt rfl).trans h2), (k.modTime rfl).trans ((h20.modTime rfl).trans h3),
    (k.mem rfl).trans ((h20.mem rfl).trans h4), (k.struct rfl).trans ((h20.struct rfl).trans h5), (k.wparts rfl).trans ((h20.wparts rfl).trans h6),
    (k.rings rfl).trans ((h20.rings rfl).trans h7), (k.irqs rfl).trans ((h20.irqs rfl).trans h8), (k.badUnits rfl).trans ((h20.badUnits rfl).trans h9),
    (k.badRecord rfl).trans ((h20.badRecord rfl).trans h10), (k.reruns rfl).trans ((h20.reruns rfl).trans h11), (k.cv rfl).trans ((h20.cv rfl).trans h12),
    (k.ptp rfl).trans ((h20.ptp rfl).trans h13), (k.video rfl).trans ((h20.video rfl).trans h14), (k.sdio rfl).trans ((h20.sdio rfl).trans h15),
    (k.mgmt rfl).trans ((h20.mgmt rfl).trans h16), (k.cores rfl).trans ((h20.cores rfl).trans h17), fun f i j hf => ?_⟩, kp.1, kp.2⟩
  rw [k.regs f i j (Parts.boot_block hf), h20.regs f i j, h19]
  revert hf; cases f.reg.block <;> decide

end Sys2Proof.Machine
end

