-- ==== Sys2Proof/Laws/Store.lean ====
section
/-! SUPPORT. Reads of the battery-backed store after writes: bytes, the slots' states, the counters. -/

namespace Sys2Proof.Machine

-- One proof at a time: the package is compiled as one text under a memory limit.
set_option Elab.async false

set_option linter.all false

variable {s : State}

theorem leBytes_length (n v : Nat) : (leBytes n v).length = n := by
  induction n generalizing v with
  | zero => rfl
  | succ n ih => simp [leBytes, ih]

theorem leVal_leBytes (n v : Nat) : leVal (leBytes n v) = v % 2 ^ (8 * n) := by
  induction n generalizing v with
  | zero => simp [leBytes, leVal, Nat.mod_one]
  | succ n ih =>
    rw [leBytes, leVal, ih, BitVec.toNat_ofNat, show 8 * (n + 1) = 8 + 8 * n by omega, Nat.pow_add, Nat.mod_mul]

theorem State.bbsRaw_get (a k : Nat) (bs : List Byte) :
    (s.bbsRaw a bs).bbsGet k = if h : a ≤ k ∧ k < a + bs.length then bs[k - a]'(by omega) else s.bbsGet k := by
  obtain ⟨h1, h2⟩ := get_foldl_cells (fun k => a + k) bs 0 s.bbs
  simp only [Nat.zero_add] at h1 h2
  split
  · rename_i h
    have := h2 (k - a) (by omega) (fun j h3 h4 => by omega)
    rw [show a + (k - a) = k by omega] at this
    exact this
  · rename_i h
    exact h1 k (fun j hj e => h (by omega))

/-- Beside the header's CRC a write changes the bytes that it covers, and no others. -/
theorem State.bbsPut_get (a k : Nat) (bs : List Byte) (hk : k < 0xC ∨ 0x10 ≤ k) :
    (s.bbsPut a bs).bbsGet k = if h : a ≤ k ∧ k < a + bs.length then bs[k - a]'(by omega) else s.bbsGet k := by
  unfold State.bbsPut
  dsimp only
  split
  · rw [State.bbsRaw_get, dif_neg (by rw [leBytes_length]; omega), State.bbsRaw_get]
  · exact State.bbsRaw_get ..

theorem State.bbsRd_other (a n b v m : Nat) (h : a + n ≤ b ∨ b + m ≤ a) (hk : a + n ≤ 0xC ∨ 0x10 ≤ a) :
    (s.bbsWr b m v).bbsRd a n = s.bbsRd a n := by
  unfold State.bbsRd State.bbsWr
  refine congrArg leVal (List.map_congr_left fun k hk' => ?_)
  have := List.mem_range.mp hk'
  rw [State.bbsPut_get _ _ _ (by omega), dif_neg (by rw [leBytes_length]; omega)]

theorem State.bbsRd_same (a n v : Nat) (hk : a + n ≤ 0xC ∨ 0x10 ≤ a) : (s.bbsWr a n v).bbsRd a n = v % 2 ^ (8 * n) := by
  unfold State.bbsRd State.bbsWr
  rw [← leVal_leBytes n v]
  congr 1
  apply List.ext_getElem
  · simp [leBytes_length]
  · intro k h1 h2
    have : k < n := by simpa using h1
    rw [List.getElem_map, List.getElem_range, State.bbsPut_get _ _ _ (by omega), dif_pos (by rw [leBytes_length]; omega)]
    congr 1; omega

theorem State.bbsRd_congr {t : State} (h : t.bbs = s.bbs) (a n : Nat) : t.bbsRd a n = s.bbsRd a n := by
  unfold State.bbsRd State.bbsGet; rw [h]

/-- The state of a slot after a slot's state was set. -/
theorem State.slotState_set (k j v : Nat) (hk : k < 2) (hj : j < 2) :
    (s.setSlotState k v).slotState j = if j = k then v % 256 else s.slotState j := by
  unfold State.setSlotState State.slotState
  split
  · rename_i h; subst h; exact State.bbsRd_same _ _ _ (by omega)
  · exact State.bbsRd_other _ _ _ _ _ (by omega) (by omega)

theorem State.slotState_congr {t : State} (h : t.bbs = s.bbs) (j : Nat) : t.slotState j = s.slotState j := State.bbsRd_congr h ..

/-- A counter after a counter was set. -/
theorem State.counter_set (i j v : Nat) (hi : i < 4) (hj : j < 4) :
    (s.setCounter i v).bbsRd (0x20 + 4 * j) 4 = if j = i then v % 2 ^ 32 else s.bbsRd (0x20 + 4 * j) 4 := by
  have e : (s.setCounter i v).bbsRd (0x20 + 4 * j) 4 = (s.bbsWr (0x20 + 4 * i) 4 v).bbsRd (0x20 + 4 * j) 4 := State.bbsRd_congr rfl ..
  rw [e]
  split
  · rename_i h; subst h; exact State.bbsRd_same _ _ _ (by omega)
  · exact State.bbsRd_other _ _ _ _ _ (by omega) (by omega)

theorem State.slotState_counter (i j v : Nat) (hi : i < 4) (hj : j < 2) : (s.setCounter i v).slotState j = s.slotState j := by
  have e : (s.setCounter i v).slotState j = (s.bbsWr (0x20 + 4 * i) 4 v).slotState j := State.bbsRd_congr rfl ..
  rw [e]
  exact State.bbsRd_other _ _ _ _ _ (by omega) (by omega)

end Sys2Proof.Machine
end

