-- ==== Sys2Proof/Laws/Writes.lean ====
section
/-! SUPPORT. Laws of a register write: what each access code makes of its field, and that nothing else changes. -/

namespace Sys2Proof.Machine

-- One proof at a time: the package is compiled as one text under a memory limit.
set_option Elab.async false

theorem bits_lt (v hi lo : Nat) : bits v hi lo < 2 ^ (hi + 1 - lo) := Nat.mod_lt _ (Nat.two_pow_pos _)

theorem State.rd_applyField (s : State) (r : RegId) (d : FieldDef) (v i j : Nat) :
    (s.applyField r d v i j).rd ⟨r, d.hi, d.lo⟩ i j = d.after (s.rd ⟨r, d.hi, d.lo⟩ i j) v := by
  have h := bits_lt v d.hi d.lo
  unfold State.applyField FieldDef.after
  cases d.acc <;> dsimp only
  · split
    · rw [State.rd_wr_same]; exact Nat.mod_eq_of_lt h
    · rfl
  · exact State.rd_wr_same ..
  · exact State.rd_wr_same ..
  · split
    · rfl
    · rw [State.rd_wr_same]; exact Nat.zero_mod _

theorem State.rd_applyField_other (s : State) (r : RegId) (d : FieldDef) (v i j : Nat) {g : Fld} {k l : Nat}
    (h : g.key k l ≠ (Fld.mk r d.hi d.lo).key i j) : (s.applyField r d v i j).rd g k l = s.rd g k l := by
  unfold State.applyField
  cases d.acc <;> dsimp only
  · split
    · exact State.rd_wr_other _ _ h
    · rfl
  · exact State.rd_wr_other _ _ h
  · exact State.rd_wr_other _ _ h
  · split
    · rfl
    · exact State.rd_wr_other _ _ h

theorem State.applyField_regs (s : State) (r : RegId) (d : FieldDef) (v i j : Nat) :
    s.applyField r d v i j = { s with regs := (s.applyField r d v i j).regs } := by
  unfold State.applyField
  cases d.acc <;> dsimp only <;> (try split) <;> rfl

theorem State.foldl_applyField_other (l : List FieldDef) (s : State) (r : RegId) (v i j : Nat) {g : Fld} {k m : Nat}
    (h : ∀ d ∈ l, g.key k m ≠ (Fld.mk r d.hi d.lo).key i j) :
    (l.foldl (fun s d => s.applyField r d v i j) s).rd g k m = s.rd g k m := by
  induction l generalizing s with
  | nil => rfl
  | cons d l ih =>
    rw [List.foldl_cons, ih _ (fun e he => h e (List.mem_cons_of_mem _ he))]
    exact State.rd_applyField_other _ _ _ _ _ _ (h d (List.mem_cons_self ..))

theorem State.foldl_applyField_same (l : List FieldDef) (s : State) (r : RegId) (v i j : Nat) (nd : (l.map FieldDef.lo).Nodup)
    {d : FieldDef} (hd : d ∈ l) :
    (l.foldl (fun s d => s.applyField r d v i j) s).rd ⟨r, d.hi, d.lo⟩ i j = d.after (s.rd ⟨r, d.hi, d.lo⟩ i j) v := by
  induction l generalizing s with
  | nil => cases hd
  | cons e l ih =>
    simp only [List.map_cons, List.nodup_cons, List.mem_map, not_exists, not_and] at nd
    rw [List.foldl_cons]
    rcases List.mem_cons.mp hd with rfl | hd
    · rw [State.foldl_applyField_other l _ r v i j (fun x hx hk => nd.1 x hx (Fld.key_eq.mp hk).2.1.symm)]
      exact State.rd_applyField ..
    · rw [ih _ nd.2 hd]
      rw [State.rd_applyField_other _ _ _ _ _ _ (fun hk => nd.1 d hd (Fld.key_eq.mp hk).2.1)]

/-- No register lists two fields with one low bit. -/
theorem RegId.fields_nodup (r : RegId) : (r.fields.map FieldDef.lo).Nodup := by cases r <;> decide

theorem State.rd_applyWrite (s : State) (r : RegId) (v i j : Nat) {d : FieldDef} (hd : d ∈ r.fields) :
    (s.applyWrite r v i j).rd ⟨r, d.hi, d.lo⟩ i j = d.after (s.rd ⟨r, d.hi, d.lo⟩ i j) v :=
  State.foldl_applyField_same _ _ _ _ _ _ r.fields_nodup hd

theorem State.rd_applyWrite_other (s : State) (r : RegId) (v i j : Nat) {g : Fld} {k l : Nat}
    (h : ¬ (g.reg = r ∧ k = i ∧ l = j)) : (s.applyWrite r v i j).rd g k l = s.rd g k l :=
  State.foldl_applyField_other _ _ _ _ _ _ fun _ _ hk => h ⟨(Fld.key_eq.mp hk).1, (Fld.key_eq.mp hk).2.2⟩

/-- A plain read-write field takes the written bits. -/
theorem State.rd_applyWrite_rw (s : State) (r : RegId) (v i j : Nat) {hi lo z : Nat} (hd : fd hi lo .rw z ∈ r.fields) :
    (s.applyWrite r v i j).rd ⟨r, hi, lo⟩ i j = bits v hi lo := by
  refine (State.rd_applyWrite s r v i j hd).trans ?_
  have h := bits_lt v hi lo
  show (if 0 ≤ bits v hi lo ∧ bits v hi lo ≤ 2 ^ (hi + 1 - lo) - 1 then bits v hi lo else _) = _
  rw [if_pos ⟨Nat.zero_le _, by omega⟩]

/-- A register write changes the register file alone. -/
theorem State.applyWrite_regs (s : State) (r : RegId) (v i j : Nat) : ∃ R, s.applyWrite r v i j = { s with regs := R } := by
  unfold State.applyWrite
  generalize r.fields = l
  induction l generalizing s with
  | nil => exact ⟨s.regs, rfl⟩
  | cons d l ih =>
    obtain ⟨R, h⟩ := ih (s.applyField r d v i j)
    refine ⟨R, ?_⟩
    rw [List.foldl_cons, h, State.applyField_regs s]

end Sys2Proof.Machine
end

