-- ==== Sys2Proof/Laws/Tensors.lean ====
section
/-! SUPPORT. Laws of the operators' memory: which bytes a store and the writing of a tensor may change (R96, R141, R598). -/

namespace Sys2Proof.Machine

-- One proof at a time: the package is compiled as one text under a memory limit.
set_option Elab.async false

variable {s t : State} {n : Nat}

/-- The byte that an address names depends on the structure and on the retired clusters alone. -/
theorem State.phys_congr (h1 : t.struct = s.struct) (h2 : t.bbs = s.bbs) (n a : Nat) : t.phys n a = s.phys n a := by
  unfold State.phys State.banksOf State.clusterOwner State.bbsGet
  rw [h1, h2]

/-- Memory, structure and store after a sequence of byte writes: what a writer of Pn keeps but for the bytes of P. -/
structure WritesIn (s : State) (n : Nat) (P : Nat → Prop) (t : State) : Prop where
  struct : t.struct = s.struct
  bbs : t.bbs = s.bbs
  byte : ∀ a, ¬ P a → t.byte a = s.byte a

theorem WritesIn.refl (P : Nat → Prop) : WritesIn s n P s := ⟨rfl, rfl, fun _ _ => rfl⟩

theorem WritesIn.trans {P : Nat → Prop} {u : State} (h : WritesIn s n P t) (k : WritesIn t n P u) : WritesIn s n P u :=
  ⟨k.struct.trans h.struct, k.bbs.trans h.bbs, fun a ha => (k.byte a ha).trans (h.byte a ha)⟩

theorem addrKind_high {p k : Nat} (h : addrKind p = 4) : addrKind (p + k) ≠ 1 := by
  unfold addrKind at *
  have : p / 2 ^ 60 ≤ (p + k) / 2 ^ 60 := Nat.div_le_div_right (Nat.le_add_right ..)
  omega

theorem ddr_self {p : Nat} (h : addrKind p = 4) : ddr (p % 2 ^ 60) = p := by
  unfold ddr; unfold addrKind at h
  rw [← h, Nat.mul_comm]; exact Nat.div_add_mod p (2 ^ 60)

/-- A store changes the bytes that its range names and no other. -/
theorem State.store_writes (p : Nat) (b : List Byte) : WritesIn s n (fun a => ∃ k, k < b.length ∧ s.phys n (p + k) = a) (s.store n p b) := by
  unfold State.store
  split
  · rename_i h
    refine ⟨rfl, rfl, fun a ha => ?_⟩
    show (s.putBytes (ddr (p % 2 ^ 60)) b).byte a = _
    rw [ddr_self h]
    obtain ⟨h1, -⟩ := get_foldl_cells (fun k => p + k) b 0 s.mem
    simp only [Nat.zero_add] at h1
    refine h1 a (fun k hk e => ha ⟨k, hk, ?_⟩)
    unfold State.phys
    rw [if_neg (addrKind_high h)]
    exact e
  · refine ⟨rfl, rfl, fun a ha => ?_⟩
    obtain ⟨h1, -⟩ := get_foldl_cells (fun k => s.phys n (p + k)) b 0 s.mem
    simp only [Nat.zero_add] at h1
    exact h1 a (fun k hk e => ha ⟨k, hk, e⟩)

theorem leBytes_len (n v : Nat) : (leBytes n v).length = n := by
  induction n generalizing v with
  | zero => rfl
  | succ n ih => simp [leBytes, ih]

/-- A fold of writers that each write in P writes in P. -/
theorem WritesIn.foldl {α : Type} {P : Nat → Prop} (f : State → α → State) (l : List α) (h : WritesIn s n P t)
    (hf : ∀ u a, a ∈ l → WritesIn s n P u → WritesIn s n P (f u a)) : WritesIn s n P (l.foldl f t) := by
  induction l generalizing t with
  | nil => exact h
  | cons a l ih => exact ih (hf t a (by simp) h) (fun u b hb => hf u b (List.mem_cons_of_mem _ hb))

/-- The codes of a tensor change the bytes of its rows alone. -/
theorem State.putCodes_writes (x : TRef) (axis : Nat) (code : List Nat → Nat) (h : WritesIn s n (s.tensorByte n x axis) t) :
    WritesIn s n (s.tensorByte n x axis) (t.putCodes n x code) := by
  unfold State.putCodes
  refine WritesIn.foldl _ _ h (fun u r hr hu => ?_)
  dsimp only
  have k := State.store_writes (s := u) (n := n) (x.addr + r * x.rowBytes) (leBytes x.rowBytes (packCodes (fmtBits x.fmt)
    ((List.range x.rowLen).map (fun k => match x.unplace r k with | some i => code i | none => 0))))
  refine ⟨k.struct.trans hu.struct, k.bbs.trans hu.bbs, fun a ha => (k.byte a ?_).trans (hu.byte a ha)⟩
  rintro ⟨j, hj, e⟩
  rw [leBytes_len] at hj
  exact ha (.inl ⟨r, j, List.mem_range.mp hr, hj, (State.phys_congr hu.struct hu.bbs n _).symm.trans e⟩)

/-- A scale byte of a tensor. -/
theorem State.scale_writes (x : TRef) (axis : Nat) (idx : List Nat) (b : Byte) (hm : fmtMx x.fmt = true) (hi : idx ∈ allIdx x.ext)
    (h : WritesIn s n (s.tensorByte n x axis) t) : WritesIn s n (s.tensorByte n x axis) (t.store n (x.scaleAt axis idx) [b]) := by
  have k := State.store_writes (s := t) (n := n) (x.scaleAt axis idx) [b]
  refine ⟨k.struct.trans h.struct, k.bbs.trans h.bbs, fun a ha => (k.byte a ?_).trans (h.byte a ha)⟩
  rintro ⟨j, hj, e⟩
  have hj0 : j = 0 := by simpa using hj
  subst hj0
  exact ha (.inr ⟨hm, idx, hi, (State.phys_congr h.struct h.bbs n _).symm.trans e⟩)

/-- The values of a tensor change its bytes alone. -/
theorem State.putValues_writes (x : TRef) (axis rm : Nat) (sat : Option Bool) (f : List Nat → FV) (h : WritesIn s n (s.tensorByte n x axis) t) :
    WritesIn s n (s.tensorByte n x axis) (t.putValues n x axis rm sat f).1 := by
  unfold State.putValues
  dsimp only
  split
  · rename_i hm
    refine WritesIn.foldl _ _ (State.putCodes_writes x axis _ h) (fun u i hi hu => ?_)
    split
    · exact State.scale_writes x axis i _ hm hi hu
    · exact hu
  · exact State.putCodes_writes x axis _ h

/-- Commands that leave memory, structure and store write nothing. -/
theorem WritesIn.keep {P : Nat → Prop} {W : Parts} {u : State} (h : WritesIn s n P t) (k : Unchanged W t u) (hm : W.mem = false := by rfl)
    (hs : W.struct = false := by rfl) (hb : W.bbs = false := by rfl) : WritesIn s n P u :=
  ⟨(k.struct hs).trans h.struct, (k.bbs hb).trans h.bbs, fun a ha => by
    have : u.byte a = t.byte a := by unfold State.byte; rw [k.mem hm]
    rw [this, h.byte a ha]⟩

/-- An operator that may run runs. -/
theorem State.operator_run {refs : List (TRef × Nat)} {valid : Bool} {run : State → Nat → State} (h : s.operatorReady n refs) (hv : valid = true) :
    s.operator n refs valid run = .next ((run s.draw s.fresh).countFree n 0x05 s.fresh) := by
  obtain ⟨h1, h2, h3, h4⟩ := h
  have e1 : refs.all (fun r => r.1.ok) = true := List.all_eq_true.mpr (fun r hr => (h4 r hr).1)
  have e2 : refs.any (fun r => r.1.ext.contains 0) = false := List.any_eq_false.mpr (fun r hr => by rw [(h4 r hr).2.1]; decide)
  have e3 : (refs.flatMap (fun r => r.1.ranges r.2)).all (fun r => addrOk r.1 && s.addrIn n r.1 r.2) = true :=
    List.all_eq_true.mpr (fun q hq => by
      obtain ⟨r, hr, hq⟩ := List.mem_flatMap.mp hq
      have := (h4 r hr).2.2 q hq
      simp [this.1, this.2])
  unfold State.operator
  rw [h1, h2, h3, hv, e1, e2, e3]
  simp

end Sys2Proof.Machine
end

