-- ==== Sys2Proof/Tests/Slice0.lean ====
section
/-! SUPPORT. Tests of single steps on small states, ill-formed commands, and for every statement with hypotheses a state that meets them. -/

section

open Sys2Proof Sys2Proof.Machine

/-! ## Ill-formed commands are refused (one for each check of WellFormed.lean) -/

def tTensor : TRef := ⟨0, 0, 0, 1, 0, [4], false⟩
def tNoExtent : TRef := ⟨0, 0, 0, 1, 0, [], false⟩
def tChain : Chain := ⟨[], [⟨1, 0, 0, 0⟩], 0, none⟩
def tNoSteps : Chain := ⟨[], [], 0, none⟩
def tConv : ConvParam := ⟨1, 1, 1, 1, 1, 1, 0, 0, 0, 0, 1, 0, 0, true⟩
def tHead : CellHead := ⟨0, 1, 0, true, true, 0, 0, 0, 0, false, 0, 0⟩
def tCell : DataCell := ⟨tHead, 0, 0, 0, 192, 0, 0, 0, 0, 0, 0, List.replicate 192 0, List.replicate 16 0⟩
def tLease : LeaseMsg := ⟨1, 0, true, false, false, 0, 0, 0⟩
def tPicture : Picture := ⟨2, 2, false, false, 1, [0, 0, 0, 0], [0], [0], true, 0, [], false, false, 0, 0⟩
def tReq : Req := ⟨.mgmt, 0, false, 7, false⟩
def tBadReq : Req := ⟨.mgmt, 0, false, 2 ^ 32, false⟩
def tKey : PubKey := ⟨1, 0, List.replicate 133 0, []⟩

theorem test_wf_access : (Instr.wellFormed (.registerWrite .mgc .hcs 8 0)) ∧ ¬ (Instr.wellFormed (.registerWrite .mgc .hcs 4 0))
    ∧ ¬ (Instr.wellFormed (.accessError .hcs 0x1000000 true)) ∧ ¬ (Instr.wellFormed (.undefinedOffsetAccess .mgc .hcs 1 true))
    ∧ ¬ (Instr.wellFormed (.forbiddenMasterAccess .other .hcs 2 false)) := by decide
theorem test_wf_supply : ¬ (Instr.wellFormed (.vinMate 100000)) ∧ ¬ (Instr.wellFormed (.sagStart 100000 0)) ∧ ¬ (Instr.wellFormed (.surge 0 100000))
    ∧ ¬ (Instr.wellFormed (.powerWindow 4096 0 0)) ∧ ¬ (Instr.wellFormed (.temperatureSample 0 0 0 0 [])) := by decide
theorem test_wf_store : (Instr.wellFormed (.tileStoreUncorrectable true 15 0)) ∧ ¬ (Instr.wellFormed (.tileStoreUncorrectable true 16 0))
    ∧ ¬ (Instr.wellFormed (.tileStoreUncorrectable false 0 65536)) ∧ ¬ (Instr.wellFormed (.tilePatrolPass 0 0 [(true, 16, 0)])) := by decide
theorem test_wf_kernel : ¬ (Instr.wellFormed (.kernel 0 0 [] [] [] [] 0)) ∧ ¬ (Instr.wellFormed (.kernel 0 0 [0] [] [] [] (2 ^ 20))) := by decide
set_option maxRecDepth 4096 in
theorem test_wf_operators : (Instr.wellFormed (.matmul 0 tTensor tTensor none tTensor false false 0 none))
    ∧ ¬ (Instr.wellFormed (.matmul 0 tTensor tNoExtent none tTensor false false 0 none))
    ∧ ¬ (Instr.wellFormed (.conv 0 tTensor tTensor none tTensor { tConv with groups := 0 } 0 none))
    ∧ ¬ (Instr.wellFormed (.pool 0 tNoExtent tTensor tConv true true)) ∧ (Instr.wellFormed (.chain 0 tTensor tTensor tChain))
    ∧ ¬ (Instr.wellFormed (.chain 0 tTensor tTensor tNoSteps)) ∧ ¬ (Instr.wellFormed (.reduce 0 tNoExtent tTensor 0 0))
    ∧ ¬ (Instr.wellFormed (.softmax 0 tNoExtent tTensor 0)) ∧ ¬ (Instr.wellFormed (.norm 0 tTensor tTensor 0 0 1 (some tNoExtent) none))
    ∧ ¬ (Instr.wellFormed (.gather 0 tTensor tNoExtent tTensor)) ∧ ¬ (Instr.wellFormed (.scatter 0 tTensor tTensor tNoExtent 0))
    ∧ ¬ (Instr.wellFormed (.fft 0 tNoExtent tTensor 1 false false)) ∧ ¬ (Instr.wellFormed (.convert 0 tTensor tNoExtent 0 0 none 0))
    ∧ ¬ (Instr.wellFormed (.attnPrefill 0 0 1 0 tNoExtent tTensor tTensor tTensor))
    ∧ ¬ (Instr.wellFormed (.attnDecode 0 0 1 0 0 tTensor tTensor tTensor tTensor [tNoExtent] tTensor)) := by decide
theorem test_wf_pages : ¬ (Instr.wellFormed (.kvWrite 0 (2 ^ 21) 0 0 true [])) ∧ ¬ (Instr.wellFormed (.expandedRead 0 0 0 0 0 0 true 0))
    ∧ ¬ (Instr.wellFormed (.vetiverQuery 0 0 [])) ∧ ¬ (Instr.wellFormed (.engineWalk 0 [2 ^ 21])) ∧ ¬ (Instr.wellFormed (.zeroAndCheck (2 ^ 21)))
    ∧ ¬ (Instr.wellFormed (.zeroAndCheckDone 0 [2 ^ 21])) ∧ ¬ (Instr.wellFormed (.pagePatrolPass 0 [2 ^ 21] [] []))
    ∧ ¬ (Instr.wellFormed (.quarantine .mgc (2 ^ 21))) ∧ ¬ (Instr.wellFormed (.pageRelease .mgc (2 ^ 21)))
    ∧ ¬ (Instr.wellFormed (.reqResume .mgc 0 (2 ^ 21))) := by decide
theorem test_wf_memory : ¬ (Instr.wellFormed (.stackUncorrectable 0 0x6000000 true)) ∧ ¬ (Instr.wellFormed (.stackPatrolPass 0 0 [(0, 0x6000000)]))
    ∧ ¬ (Instr.wellFormed (.ddr4Uncorrectable (2 ^ 38) true)) ∧ ¬ (Instr.wellFormed (.weightsUnitRestored (2 ^ 38) true))
    ∧ ¬ (Instr.wellFormed (.ddr4PatrolPass 0 [2 ^ 38])) := by decide
set_option maxRecDepth 4096 in
theorem test_wf_cells : (Instr.wellFormed (.dataCell 0 tCell)) ∧ ¬ (Instr.wellFormed (.dataCell 0 { tCell with payloadLen := 0 }))
    ∧ ¬ (Instr.wellFormed (.leaseCell 0 { tCell with tag := [] })) ∧ ¬ (Instr.wellFormed (.credit 0 [] 0 0)) ∧ ¬ (Instr.wellFormed (.audit 0 []))
    ∧ ¬ (Instr.wellFormed (.auditReply 0 [])) ∧ ¬ (Instr.wellFormed (.ack 0 tHead 0 0 4 0)) ∧ ¬ (Instr.wellFormed (.nack 0 tHead 0 0 0 256 0)) := by decide
theorem test_wf_lease : (Instr.wellFormed (.renew .mgmt tLease)) ∧ ¬ (Instr.wellFormed (.renew .mgmt { tLease with level := 256 }))
    ∧ ¬ (Instr.wellFormed (.grant .mgmt { tLease with state := 256 })) ∧ ¬ (Instr.wellFormed (.deny .mgmt { tLease with pairId := 65536 }))
    ∧ ¬ (Instr.wellFormed (.release .mgmt { tLease with seq := 2 ^ 32 })) := by decide
theorem test_wf_video : (Instr.wellFormed (.pictureDecoded 0 tPicture)) ∧ ¬ (Instr.wellFormed (.pictureDecoded 0 { tPicture with luma := [] }))
    ∧ ¬ (Instr.wellFormed (.plantFrame 0 ⟨[], true, 0⟩)) := by decide
theorem test_wf_cores : ¬ (Instr.wellFormed (.scInstruction 0 0 (.load 0 3))) ∧ ¬ (Instr.wellFormed (.scInstruction 0 0 (.store 0 16 0)))
    ∧ ¬ (Instr.wellFormed (.scInstruction 0 0 (.amo 0 2 0))) ∧ ¬ (Instr.wellFormed (.mailboxDoorbell 1 []))
    ∧ ¬ (Instr.wellFormed (.recoveryData [])) := by decide
theorem test_wf_requests : (Instr.wellFormed (.status tReq)) ∧ ¬ (Instr.wellFormed (.status tBadReq)) ∧ ¬ (Instr.wellFormed (.amberRead tBadReq 0))
    ∧ ¬ (Instr.wellFormed (.amberClear tBadReq)) ∧ ¬ (Instr.wellFormed (.fault tBadReq 0)) ∧ ¬ (Instr.wellFormed (.powerOn tBadReq))
    ∧ ¬ (Instr.wellFormed (.powerOff tBadReq)) ∧ ¬ (Instr.wellFormed (.reset tBadReq)) ∧ ¬ (Instr.wellFormed (.setCap tBadReq 0))
    ∧ ¬ (Instr.wellFormed (.mgmtHandover tBadReq)) ∧ ¬ (Instr.wellFormed (.unlock tBadReq 0 [])) ∧ ¬ (Instr.wellFormed (.lifecycle tBadReq 0 0 []))
    ∧ ¬ (Instr.wellFormed (.linkKeyDelete tBadReq 0 0)) ∧ ¬ (Instr.wellFormed (.mgmtConsentRevoke tBadReq 0)) ∧ ¬ (Instr.wellFormed (.fwCtrl tBadReq 0)) := by decide
set_option maxRecDepth 4096 in
theorem test_wf_request_bodies : ¬ (Instr.wellFormed (.mgmtAttest tReq [])) ∧ (Instr.wellFormed (.claim tReq tKey)) ∧ ¬ (Instr.wellFormed (.claim tReq { tKey with role := 6 }))
    ∧ ¬ (Instr.wellFormed (.keyEnrol tReq { tKey with key := [] })) ∧ ¬ (Instr.wellFormed (.keyRemove tReq [] 1 0)) ∧ ¬ (Instr.wellFormed (.linkKeyImport tReq []))
    ∧ ¬ (Instr.wellFormed (.mgmtConsentSubmit tReq [])) ∧ ¬ (Instr.wellFormed (.setNetwork tReq [])) ∧ ¬ (Instr.wellFormed (.nypra tBadReq 0 []))
    ∧ ¬ (Instr.wellFormed (.fwWrite tBadReq 0 0 true [])) := by decide
theorem test_wf_bandwidth : ¬ (Instr.wellFormed (.bwWindow [] (List.replicate 46 0))) := by decide

/-! ## Worked examples and tables of the spec -/

set_option maxRecDepth 8192 in
/-- Table 15.7, column Check. -/
theorem test_check_value_crc32c : checkValue 0 0xFFFFFFFF 0xFFFFFFFF [0x31, 0x32, 0x33, 0x34, 0x35, 0x36, 0x37, 0x38, 0x39] = 0xE3069283 := by decide
set_option maxRecDepth 8192 in
/-- Table 15.7, column Check. -/
theorem test_check_value_crc64 : checkValue 1 0 0 [0x31, 0x32, 0x33, 0x34, 0x35, 0x36, 0x37, 0x38, 0x39] = 0x6C40DF5F0B497347 := by decide
/-- R32: after a reset P0 is present and owns every cluster. -/
theorem test_reset_owner : (State.reset.struct.image.clusters.getD 159 1) = 0 := by decide
/-- An IEEE 754 sum that wraps its significand: 1.5 + 2.5 = 4, in FP32 (R69). -/
theorem test_fadd : fAdd 0 0x3FC00000 0x40200000 = 0x40800000 := by decide
/-- 1.875 × 1.5 = 2.8125 (the example of chapter 08). -/
theorem test_fmul : fMul 0 0x3FF00000 0x3FC00000 = 0x40340000 := by decide
/-- FMAX of +0 and a negative number, and of a number and its negation (R123, R81). -/
theorem test_fmax : fMax 0x80000001 0x3F800000 = 0x3F800000 := by decide
/-- R9: an access of another width reads zero and leaves a note on the access-error source of its space. -/
theorem test_access_error : ∃ t : State, exec (.accessError .hcs 0x20004 false) State.reset = .next t ∧ t.lastRead = 0 := ⟨_, rfl, by decide⟩
/-- R550: bytes from the tray wait for SC_CONSOLE in order. -/
theorem test_tray_console : ∃ t : State, exec (.trayConsoleData [1, 2]) State.reset = .next t ∧ t.sdio.down = [1, 2] := ⟨_, rfl, by decide⟩
/-- R470: an ACK of a reserved source is refused with RANGE (Table 19.11). -/
theorem test_ack_reserved : ∃ t : State, exec (.faultAck .mgc 127) State.reset = .next t ∧ t.rd F.FAULT_CMD_STATUS_reason = 3 := ⟨_, rfl, by decide⟩

/-! ## Witnesses -/

def wLaneWord (cls op : Nat) : W64 := BitVec.ofNat 64 (cls * 2 ^ 60 + op * 2 ^ 54 + 7 * 2 ^ 51 + 3 * 2 ^ 40)
def wLane (ws : List Nat) : State :=
  { State.reset with fabric := { State.reset.fabric with runs := [(0, { id := 1, code := ws, groups := [{}], tiles := [0], tileLen := 1024, quadLen := 1024 })] } }
def wConsent (n scopes : Nat) : State := (State.reset.wr F.CONSENT_STATE_active 1 n).wr F.CONSENT_STATE_scopes scopes n
def wReq : Req := { path := .mgmt, session := 0, force := false, id := 7, malformed := false }
/-- MGC runs and session 0 is open with a client that OPERATOR_CA vouches for. -/
def wMgc : State := { (State.reset.wr F.FW_BOOT_stage 4).wr F.SEC_STATE_table_locked 0 with mgmt := { sessions := [(0, 1)], trusted := [0] } }

theorem witness_EmptyQueueTicks : State.reset.pending = [] ∧ State.reset.ptp.slew = 0 := by decide

theorem witness_StepKeepsOrder : State.reset.ok = true ∧ ∃ t, step State.reset = .next t := ⟨by decide, _, rfl⟩

theorem witness_RunsNeverStop : State.reset.ok = true := by decide

theorem witness_RegisterWriteByAccessCode :
    ∃ off r i j, off % 8 = 0 ∧ regAt .hcs off = some (r, i, j) ∧ r ∉ RegId.ownWrite ∧ State.reset.reaches .mgc r i true = true :=
  ⟨0x20000, .NYPRA_SRC_ADDR, 0, 0, by decide, by decide, by decide, by decide⟩

theorem witness_CommandRegisterWrites :
    ∃ off r i j, off % 8 = 0 ∧ regAt .hcs off = some (r, i, j) ∧ State.reset.reaches .mgc r i true = true ∧ CommandOf .mgc r i j 1 (.verify .mgc) :=
  ⟨0x20010, .NYPRA_CMD, 0, 0, by decide, by decide, by decide, rfl⟩

theorem witness_AccessErrorsAreNotes :
    (∃ off, off % 8 = 0 ∧ regAt .hcs off = none) ∧
    (∃ off r i j, off % 8 = 0 ∧ regAt .hcs off = some (r, i, j) ∧ State.reset.reaches .other r i true = false) :=
  ⟨⟨0x0, by decide, by decide⟩, 0x20000, .NYPRA_SRC_ADDR, 0, 0, by decide, by decide, by decide⟩

theorem witness_LaneFloatInstructions :
    ∀ p ∈ [(1, 0), (1, 1), (1, 2), (1, 3), (1, 4), (1, 5), (1, 6), (1, 7), (1, 8), (1, 9), (1, 10), (1, 11), (2, 0), (2, 1), (2, 2), (2, 3), (2, 4), (2, 5), (2, 6), (2, 7)],
      ((wLane [(wLaneWord p.1 p.2).toNat]).issue 0 0 (wLaneWord p.1 p.2) p.1 (· == p.2)).isSome = true := by
  decide

theorem witness_LaneIntegerInstructions :
    (∀ op ∈ List.range 15, ((wLane [(wLaneWord 3 op).toNat]).issue 0 0 (wLaneWord 3 op) 3 (· == op)).isSome = true) ∧
    ∀ op ∈ List.range 3, ((wLane [(wLaneWord 4 op).toNat]).issue 0 0 (wLaneWord 4 op) 4 (· == op)).isSome = true := by
  decide

theorem witness_LaneMovesAndConversions :
    ∀ p ∈ [(5, 0), (5, 8), (5, 9), (5, 10), (5, 0x10), (5, 0x18), (5, 0x19), (5, 0x1A), (5, 0x20), (6, 0), (6, 1), (6, 2), (6, 3), (6, 4), (6, 5), (6, 6), (6, 7), (6, 8), (6, 9)],
      ((wLane [(wLaneWord p.1 p.2).toNat]).issue 0 0 (wLaneWord p.1 p.2) p.1 (· == p.2)).isSome = true := by
  decide

theorem witness_LaneLoads :
    (∀ p ∈ [(0, false, 1), (1, false, 1), (2, false, 2), (3, false, 2), (4, false, 4), (0x10, true, 4), (5, false, 16), (0x11, true, 16), (8, false, 1), (9, false, 2), (0xA, false, 4), (0xB, false, 16), (0x12, true, 4), (0x13, true, 16), (0x20, false, 4), (0x35, true, 4)],
      let s := wLane [(wLaneWord 7 p.1).toNat]
      (s.issue 0 0 (wLaneWord 7 p.1) 7 (· == p.1)).isSome = true ∧
      (List.range 64).all (fun l => accessFault ((s.run 0).window p.2.1).1 ((s.run 0).window p.2.1).2 (Group.memAddr {} (wLaneWord 7 p.1) l) p.2.2 = 0) = true) ∧
    ∀ k, k < 32 → (wLane []).queue (8 * (0 / 8) + k / 4) (k % 4) = [] := by
  decide

theorem witness_LaneStores :
    (∀ p ∈ ([(8, false, 1), (9, false, 2), (0xA, false, 4), (0xB, false, 16), (0x12, true, 4), (0x13, true, 16)] : List (Nat × Bool × Nat)),
      let s := wLane [(wLaneWord 7 p.1).toNat]
      (s.issue 0 0 (wLaneWord 7 p.1) 7 (· == p.1)).isSome = true ∧
      (List.range 64).all (fun l => Group.memAddr {} (wLaneWord 7 p.1) l < 2 ^ 48 ∧
        accessFault ((s.run 0).window p.2.1).1 ((s.run 0).window p.2.1).2 (Group.memAddr {} (wLaneWord 7 p.1) l) p.2.2 = 0) = true)  := by
  decide

theorem witness_LaneAtomics :
    (∀ p ∈ ([(0x20, false, 4), (0x21, false, 4), (0x22, false, 4), (0x23, false, 4), (0x24, false, 4), (0x25, false, 4), (0x30, true, 4), (0x35, true, 4)] : List (Nat × Bool × Nat)),
      let s := wLane [(wLaneWord 7 p.1).toNat]
      (s.issue 0 0 (wLaneWord 7 p.1) 7 (· == p.1)).isSome = true ∧
      (List.range 64).all (fun l => Group.memAddr {} (wLaneWord 7 p.1) l < 2 ^ 48 ∧
        accessFault ((s.run 0).window p.2.1).1 ((s.run 0).window p.2.1).2 (Group.memAddr {} (wLaneWord 7 p.1) l) p.2.2 = 0) = true) ∧ ∀ k, k < 32 → (wLane []).queue (8 * (0 / 8) + k / 4) (k % 4) = [] := by
  decide

theorem witness_LaneScalarInstructions :
    (∀ op ∈ List.range 13, ((wLane [(wLaneWord 9 op).toNat]).issue 0 0 (wLaneWord 9 op) 9 (· == op)).isSome = true) ∧
    accessFault ((wLane []).run 0).tileBase ((wLane []).run 0).tileLen ((Group.sreg {} 0 + (lImm (wLaneWord 9 12)).signExtend 64).toNat) 8 = 0 := by
  decide

theorem witness_LaneControlInstructions :
    (∀ op ∈ [0, 1, 2, 3, 4, 5, 8], ((wLane [(wLaneWord 0 op).toNat]).issue 0 0 (wLaneWord 0 op) 0 (· == op)).isSome = true) ∧
    ((wLane []).run 0).tiles.all (fun k => (if k = 0 then [{ wait := 1 }] else ((wLane []).run k).groups).all (fun y => decide (y.wait = 1))) = true := by
  decide

def wStream (out : Bool) : StreamCmd := { out := out, remote := 64, off := 0, len := 64, mask := 3, token := 7, part := 0 }
def wStreams (out : Bool) (n : Nat) : State := { State.reset with fabric := { State.reset.fabric with queues := [(0, List.replicate n (wStream out))] } }
def wSin (len n : Nat) : State :=
  { wStreams false n with fabric := { (wStreams false n).fabric with runs := [(0, { id := 1, code := [(wLaneWord 8 0).toNat + 2 * 2 ^ 34 + 2 ^ 28 + 3 * 2 ^ 22], groups := [{ s := [(3, BitVec.ofNat 64 len)] }], tiles := [0] })] } }
theorem witness_StreamCommands :
    (∀ len ∈ [0, 64], ((wSin len 16).issue 0 0 (wLaneWord 8 0 + 2 * 2 ^ 34 + 2 ^ 28 + 3 * 2 ^ 22) 8 (· == 0)).isSome = true) ∧
    (wSin 64 0).addrIn 0 0 64 = true ∧ addrOk 0 = true ∧ addrKind 0 < 3 ∧ (16 ≤ ((wSin 64 16).queue 0 0).length) ∧ (((wSin 64 0).queue 0 0).length < 16) ∧
    (∀ out, ((wStreams out 1).unitDbg 0 0).state ≠ 2 ∧ (wStreams out 1).queue 0 0 = [wStream out] ∧ (wStream out).off + (wStream out).len ≤ 2 ^ 20 ∧
      addrKind (wStream out).remote ≠ 4) := by
  decide +kernel

def wBlob : List Byte := leBytes 4 0x4259454B ++ leBytes 2 1 ++ leBytes 2 7 ++ leBytes 2 9 ++ List.replicate 246 0#8
def wToken : List Byte :=
  leBytes 4 0x534E4F43 ++ leBytes 2 1 ++ leBytes 2 15 ++ List.replicate 32 0#8 ++ leBytes 8 5 ++ List.replicate 464 0#8
def wSecBuf (b : List Byte) : State := ((State.reset.wr F.SEC_ADDR_addr (ddr 64)).wr F.PTP_STATE_state 2).wr (F.PART_STATE_state 0) 1 |>.putBytes (ddr 64) b
theorem witness_SecurityWindowCommands :
    State.reset.isTenant 0 .mgc = true ∧ State.reset.isOperator .mgc = true ∧ State.reset.rd F.SEC_STATUS_busy 0 = 0 ∧
    ((wSecBuf []).secBuffer .mgc 0 2816 true = some 64 ∧ (wSecBuf []).badUnit (64 + 0x20) 64 = none ∧ (wSecBuf []).blockedUnit 64 2816 = false) ∧
    ((wSecBuf wBlob).secBuffer .mgc 0 256 false = some 64 ∧ (wSecBuf wBlob).badUnit 64 256 = none ∧ (wSecBuf wBlob).bytesAt (ddr 64) 256 = wBlob) ∧
    ((wSecBuf wToken).secBuffer .mgc 0 512 false = some 64 ∧ (wSecBuf wToken).badUnit 64 512 = none ∧ (wSecBuf wToken).bytesAt (ddr 64) 512 = wToken) ∧
    ((State.reset.wr F.SEC_STATUS_busy 1 0).rd F.SEC_STATUS_busy 0 ≠ 0 ∧ (wConsent 0 3).rd F.CONSENT_STATE_active 0 ≠ 0 ∧ State.reset.ptp.slew = 0) ∧
    (({ State.reset with struct := { image := { Image.epoch0 with cores := List.replicate 16 1 } } } : State).isTenant 1 (.sc 3) = true ∧
      ({ State.reset with struct := { image := { Image.epoch0 with cores := List.replicate 16 1 } } } : State).isOperator (.sc 3) = false) ∧
    ((wSecBuf []).pstate 0 = 1 ∧ State.reset.pstate 1 = 0) := by
  decide +kernel
theorem witness_import : (wSecBuf wBlob).importOk 0 wBlob := by
  refine ⟨by decide +kernel, by decide +kernel, by decide +kernel, by decide +kernel, ⟨by decide +kernel, fun k h => ?_⟩, by decide +kernel⟩
  have e : (wSecBuf wBlob).sec.linkKeys.find? (fun k => k.id = leAt wBlob 6 2) = none := by decide +kernel
  rw [e] at h; cases h
theorem witness_consent : (wSecBuf wToken).consentOk 0 wToken := by
  unfold State.consentOk; decide +kernel

def wFlow : State :=
  { (wMgc.wr F.PWR_COOLANT_flow 100).wr F.PWR_INPUT_volts 4800 with power := { off := true, everFlow := true, inlet := { eff := 200 }, outlet := { eff := 200 } } }
theorem witness_ModuleResets :
    (State.reset.power.held = true ∧ (State.reset.wr F.PWR_INPUT_volts 4800).rd F.PWR_INPUT_volts = 4800) ∧
    (wMgc.before wReq = true ∧ wMgc.permits wReq { sdio := true } = true ∧ wReq.malformed = false ∧ wMgc.powerOnOk = false ∧ wMgc.mgmtWriting wReq = false) ∧
    (wFlow.before wReq = true ∧ wFlow.powerOnOk = true) ∧
    ({ wMgc with fw := { write := some { target := 0, origin := 0 } } } : State).mgmtWriting wReq = true ∧
    (State.reset.wr F.FW_BOOT_stage 5).rd F.FW_BOOT_stage = 5 ∧
    (({ State.reset with power := { off := true, cause := 5 } } : State).power.off = true) := by
  decide

/-- Slot A holds `a`, slot B holds `b`, the stage is `st`. -/
def wSlots (a b st : Nat) : State := { wMgc.wr F.FW_BOOT_stage st with bbs := [(0x70, BitVec.ofNat 8 a), (0x71, BitVec.ofNat 8 b)] }
theorem witness_FirmwareSlots :
    ((wSlots 2 3 4).fwBusy = false ∧ (wSlots 2 3 4).slotState 0 = 2 ∧ (wSlots 2 3 4).slotState 1 = 3) ∧
    ((wSlots 4 5 5).rd F.FW_BOOT_stage = 5 ∧ (wSlots 4 5 5).runningSlot < 2 ∧ (wSlots 4 5 5).isOperator .mgc = true) ∧
    ((wSlots 1 1 6).rd F.FW_BOOT_stage = 6 ∧ (wSlots 1 1 6).slotState 1 ≠ 2) ∧
    (((wSlots 2 2 4).wr F.FW_VERSIONS_mgmt 4294967295).rd F.FW_VERSIONS_mgmt = 4294967295) ∧
    ((wMgc.wr F.FW_STATUS_busy 1).fwBusy = true ∧ ((wMgc.wr F.FW_STATUS_busy 1).taken wReq).fwBusy = true) ∧
    (wMgc.permits wReq { locked := true } = true ∧ wMgc.permits wReq {} = true ∧ (wMgc.taken wReq).fwBusy = false) ∧
    CommandOf .mgc .FW_CMD 0 0 6 (.commitMgmt .mgc) ∧ (List.replicate 16 7#8 ++ List.replicate 16 0#8 : List Byte).length = 32 := by
  refine ⟨by decide, by decide, by decide, by decide, by decide, by decide, rfl, rfl⟩

/-- P0 owns the first granule, FW_SRC_LEN is 16, the slots hold `a` and `b`. -/
def wFlash (a b st : Nat) : State :=
  { (wSlots a b st).wr F.FW_SRC_LEN_len 16 with struct := { State.reset.struct with image := { State.reset.struct.image with ddr4 := [0] } } }
/-- A write is under way. -/
def wWriting (w : FlashWrite) (st : Nat) : State := { wSlots 2 3 st with fw := { State.reset.fw with write := some w } }
theorem witness_FirmwareWrites :
    ((wFlash 2 5 4).fwBusy = false ∧ (wFlash 2 5 4).ddrOwned 0 ((wFlash 2 5 4).rd F.FW_SRC_ADDR_addr * 4096) ((wFlash 2 5 4).rd F.FW_SRC_LEN_len) = true ∧ (wFlash 2 5 4).badUnit 0 16 = none ∧
      (wFlash 2 5 4).slotState 0 ≠ 5 ∧ (wFlash 2 5 4).slotState 0 ≠ 4 ∧ (wFlash 2 5 4).slotState 1 = 5) ∧
    ((wSlots 2 5 4).ddrOwned 0 (2 ^ 38) 16 = false ∧ ({ wFlash 2 5 4 with badUnits := [0] } : State).badUnit 0 16 = some 0) ∧
    ((wWriting { target := 1, origin := 0, bytes := [1#8], len := 1 } 4).fw.write = some { target := 1, origin := 0, bytes := [1#8], len := 1 }) ∧
    (wMgc.permits wReq { locked := true } = true ∧ wReq.malformed = false ∧ (wMgc.taken wReq).fw.write = none ∧ (wMgc.taken wReq).rd F.FW_STATUS_busy = 0 ∧ (wMgc.taken wReq).writeReason 2 4 = 0) ∧
    (((wWriting { target := 1, origin := 1, bytes := [1#8], len := 2 } 4).taken wReq).fw.write = some { target := 1, origin := 1, bytes := [1#8], len := 2 } ∧ (wWriting { target := 1, origin := 1, bytes := [1#8], len := 2 } 4).permits wReq { locked := true } = true) ∧
    ((wSlots 5 3 6).rd F.FW_BOOT_stage = 6 ∧ (wSlots 5 3 6).fwBusy = false) := by
  refine ⟨by decide, by decide, rfl, by decide, by decide, by decide⟩

/-- Slot A holds an image of 8 bytes and the slots' states are `a` and `b`; training went as `m`. -/
def wBoot (a b st m : Nat) : State := { (wSlots a b st).wr F.DDR4_STATE_trained m with fw := { State.reset.fw with chosen := some 0, cold := false } }
/-- Partition 1 is present. -/
def wPart1 (held : Bool) : State :=
  { State.reset with struct := { State.reset.struct with bootScrubbed := !held, image := { State.reset.struct.image with parts := [{ present := true }, { present := true }] } } }
theorem witness_BootEvents :
    ((wBoot 0 0 2 7).rd F.FW_BOOT_stage = 2 ∧ (wBoot 0 0 2 7).rd F.DDR4_STATE_trained = 7 ∧ (wBoot 0 0 2 7).fw.cold = false) ∧
    ((wBoot 0 6 2 255).rd F.DDR4_STATE_trained = 255 ∧ ∀ k : Fin 2, (wBoot 0 6 2 255).slotState k.val ≠ 1 ∧ (wBoot 0 6 2 255).slotState k.val ≠ 4 ∧ (wBoot 0 6 2 255).slotState k.val ≠ 3 ∧
      (wBoot 0 6 2 255).slotState k.val ≠ 5 ∧ (wBoot 0 6 2 255).slotState k.val ≠ 2) ∧
    ((wBoot 5 3 2 255).slotState 1 = 3 ∧ (wBoot 5 3 2 255).slotState 0 = 5 ∧ (wBoot 5 3 2 255).slotCheck 1 = some 1) ∧
    ((wBoot 0 6 3 255).rd F.FW_BOOT_stage = 3 ∧ (wBoot 0 6 3 255).fw.chosen = some 0 ∧ fwLayout ((wBoot 0 6 3 255).slotBytes 0) = 0 ∧ (wBoot 0 6 3 255).fw.limited = false) ∧
    (((wPart1 false).part 1).present = true ∧ (wPart1 false).pstate 1 = 0 ∧ (wPart1 false).heldBack = false ∧ (wPart1 true).heldBack = true ∧ (wPart1 true).struct.scrubbing.contains 1 = false) := by
  refine ⟨by decide, by decide, by decide, by decide, by decide⟩

theorem witness_FaultCommands :
    State.reset.isOperator .mgc = true ∧ State.reset.rd F.FAULT_SRC_STATUS_pending 105 = 0 ∧ State.reset.rd F.FAULT_SRC_STATUS_cause_active 105 = 0 ∧
    ((State.reset.wr F.FAULT_SRC_STATUS_pending 1 0).isOperator .mgc = true ∧ (State.reset.wr F.FAULT_SRC_STATUS_pending 1 0).rd F.FAULT_SRC_STATUS_pending 0 ≠ 0) := by
  decide

theorem witness_FaultInjection :
    State.reset.isOperator .mgc = true ∧ State.reset.rd F.SEC_STATE_lifecycle = 0 ∧ (State.reset.wr F.SEC_STATE_lifecycle 1).rd F.SEC_STATE_lifecycle ≠ 0 ∧
    (let s : State := { State.reset with faults := { inject := [⟨105, 4, 8191, 65535, 0⟩] } }
     s.faults.inject = [⟨105, 4, 8191, 65535, 0⟩] ∧ 0 ≤ s.clk ∧ (s.eventLevel 105 4).2 = 4) := by
  decide

theorem witness_FaultPinAndAmberClear :
    (State.reset.wr F.FAULT_CTRL_pulse 1).rd F.FAULT_CTRL_pulse ≠ 0 ∧ State.reset.isOperator .mgc = true ∧
    (0x8000000000000000 : W64).toNat.testBit 63 = true ∧ (0xFF : W64).toNat.testBit 63 = false := by
  decide

theorem witness_ManagementStatusAndPower :
    (mgmtOp (.setCap wReq 250) = some (wReq, 0x13, {}) ∧ State.reset.before wReq = false) ∧
    (wMgc.before wReq = true ∧ wMgc.permits wReq {} = true ∧ wMgc.permits { wReq with path := .sdio } {} = false ∧ wReq.malformed = false) ∧
    (({ wMgc with sdio := { mbx := 1 } } : State).before { wReq with path := .sdio, malformed := true } = true) ∧
    (wMgc.permits wReq { sdio := true, locked := true } = true ∧ wMgc.permits wReq { sdio := true } = true) ∧
    (({ wMgc with power := { rails := true } } : State).power.rails = true ∧ ({ wMgc with power := { rails := true } } : State).mgmtWriting wReq = false) ∧
    ({ wMgc with fw := { write := some { target := 0, origin := 0 } } } : State).mgmtWriting wReq = true ∧
    CommandOf .mgc .FAULT_CMD 0 0 0x3 (.ackAll .mgc) := by
  refine ⟨⟨rfl, by decide⟩, by decide, by decide, by decide, by decide, by decide, rfl⟩

def wLife (l n : Nat) : State := (wMgc.wr F.SEC_STATE_lifecycle l).wr F.SEC_STATE_depot_returns n
def wKey : PubKey := { role := 5, part := 15, key := [], digest := [] }
theorem witness_ManagementKeys :
    (wMgc.before wReq = true ∧ wMgc.permits wReq { claim := true } = true ∧ wMgc.permits wReq {} = true ∧ wMgc.permits wReq { locked := false } = true ∧
      wReq.malformed = false) ∧
    ((wMgc.taken wReq).rd F.SEC_STATE_claimed = 0 ∧ (wMgc.taken wReq).sec.keys.length < 64 ∧ (wMgc.taken wReq).sec.keys.contains (tableEntry wKey) = false ∧
      ((wMgc.wr F.SEC_STATE_claimed 1).taken wReq).rd F.SEC_STATE_claimed ≠ 0) ∧
    ((wMgc.wr F.SEC_STATE_table_locked 1).permits wReq { locked := true } = true) ∧
    (((wLife 0 0).taken wReq).rd F.SEC_STATE_lifecycle = 0 ∧ ((wLife 1 6).taken wReq).rd F.SEC_STATE_depot_returns < 7 ∧
      7 ≤ ((wLife 1 7).taken wReq).rd F.SEC_STATE_depot_returns ∧ ((wLife 2 7).taken wReq).rd F.SEC_STATE_lifecycle = 2) ∧
    (let s : State := { wMgc with sec := { linkKeys := [{ part := 0, id := 65534 }] } }
     (s.taken wReq).pstate 0 = 1 ∧ (s.taken wReq).sec.linkKeys = [{ part := 0, id := 65534 }]) := by
  decide

theorem witness_CounterCommands :
    State.reset.isTenant 15 .mgc = true ∧ State.reset.isOperator .mgc = true ∧ State.reset.isTenant 1 (.sc 1) = true ∧ State.reset.ptp.slew = 0 ∧
    ((State.reset.scope 1 2 = false) ∧ ({ State.reset with struct := { image := { Image.epoch0 with cores := List.replicate 16 1 } } } : State).isOperator (.sc 1) = false ∧
      ({ State.reset with struct := { image := { Image.epoch0 with cores := List.replicate 16 1 } } } : State).isTenant 1 (.sc 1) = true) := by
  decide

def wHart (st : Nat) : State := (wConsent 0 3).wr F.SC_STATE_state st 5
theorem witness_DebugPortInstructions :
    (State.reset.rd F.SEC_STATE_lifecycle = 0 ∧ ({ State.reset with power := { off := true } } : State).power.off = true) ∧
    (¬ (State.reset.power.off = true)) ∧
    (∀ st, st < 4 → (wHart st).hartOpen 5 0 = true ∧ (wHart st).rd F.SC_STATE_state 5 = st) ∧ State.reset.hartOpen 5 0 = false ∧
    (let v : W32 := 0xC0050001; v.toNat.testBit 0 = true ∧ v.toNat.testBit 31 = true ∧ bits v.toNat 25 16 + bits v.toNat 15 6 * 1024 = 5) ∧
    (let v : W32 := 0x40050001; v.toNat.testBit 31 = false ∧ v.toNat.testBit 30 = true) := by
  decide

def wUnit (st : Nat) : State :=
  let s := wConsent 0 3
  { s with dbg := { sel := 9, addr := 9 * 2 ^ 48 + 8, units := [(9, { state := st })] } }
theorem witness_UnitDebugCommands :
    (∀ st ∈ [1, 2], (wUnit st).unitDbg (wUnit st).dbgKind (wUnit st).dbgUnit = { state := st } ∧ (wUnit st).selOpen = true) ∧
    ((wUnit 1).dbg.units.find? (fun e => e.2.state = 1) = some (9, { state := 1 })) ∧
    (({ wConsent 0 3 with dbg := { sel := 9 } } : State).selOpen = true ∧ ({ wConsent 0 3 with dbg := { sel := 9 } } : State).unitDbg 0 9 = {}) ∧
    State.reset.selOpen = false ∧
    ((wUnit 2).unitPart (wUnit 2).dbgKind (wUnit 2).dbgUnit = 0 ∧ (wUnit 2).scope 0 1 = true ∧ addrOk (9 * 2 ^ 48 + 8) = true ∧
      (wUnit 2).addrIn 0 (9 * 2 ^ 48 + 8) 4 = true ∧ (wUnit 2).storeHalted 0 (9 * 2 ^ 48 + 8) = true ∧ (wUnit 2).unreadable (9 * 2 ^ 48 + 8) 4 = none) := by
  decide +kernel

/-- An image of no bytes. -/
def wImg : StagedImage := { bytes := [], len := 0, readOk := true }
/-- The loader is in state `st` with an image staged. -/
def wNypra (st : Nat) (g : StagedImage) : State :=
  { (wFlash 0 0 4).setNypra st false with struct := { (wFlash 0 0 4).struct with staged := some g, scrubbed := true, scrubbing := [1], bootScrubbed := true } }
theorem witness_NypraVerifyAndApply :
    ((wNypra 2 { wImg with image := State.reset.struct.image }).isOperator .mgc = true ∧ ((wNypra 2 wImg).setB F.NYPRA_STATUS_busy).rd F.NYPRA_STATUS_busy ≠ 0 ∧ (wNypra 2 wImg).rd F.NYPRA_STATUS_busy = 0) ∧
    ((wNypra 0 wImg).ddrOwned 0 0 16 = true ∧ (wNypra 0 wImg).badUnit 0 16 = none ∧ (wNypra 0 wImg).ddrOwned 0 (2 ^ 38) 16 = false) ∧
    ((wNypra 1 wImg).nypraState = nypraVerifying ∧ (wNypra 1 wImg).nypraCheck [] true 0 = some (1, 0)) ∧
    ((wNypra 2 { wImg with image := (wFlash 0 0 4).struct.image }).nypraState = nypraStaged ∧ (wNypra 2 { wImg with image := (wFlash 0 0 4).struct.image }).applyCheck (wFlash 0 0 4).struct.image = none) ∧
    ((wNypra 3 wImg).nypraState = nypraApplying ∧ (wNypra 3 wImg).heldBack = false ∧ (wNypra 3 wImg).struct.scrubbed = true ∧
      (({ wNypra 3 wImg with struct := { (wNypra 3 wImg).struct with limited := true } } : State)).heldBack = true) := by
  refine ⟨by decide, by decide, by decide, by decide, by decide⟩

/-- P1 is in state `st`; a removal of it may be under way. -/
def wRemoval (st : Nat) (x : Option Removal) : State :=
  { ((wMgc.setPstate 1 st).wr F.PART_REMOVE_inflight 3) with struct := { State.reset.struct with removal := x } }
theorem witness_NypraRemoval :
    ((wRemoval 1 none).isOperator .mgc = true ∧ (wRemoval 1 none).rd F.NYPRA_STATUS_busy = 0 ∧ (wRemoval 1 none).pstate 1 ≠ 0 ∧ (wRemoval 1 none).pstate 2 = 0) ∧
    ((wRemoval 3 (some { part := 1, back := 2, deadline := 9 })).struct.removal = some { part := 1, back := 2, deadline := 9 } ∧ (wRemoval 3 none).rd F.PART_REMOVE_inflight ≠ 0) ∧
    (({ wMgc with struct := { State.reset.struct with removal := some { part := 1, back := 2, deadline := 9 } } } : State).rd F.PART_REMOVE_inflight = 0) ∧
    ((wRemoval 4 (some { part := 1, back := 2, deadline := 9, scrubbing := true })).struct.removal = some { part := 1, back := 2, deadline := 9, scrubbing := true }) := by
  refine ⟨by decide, by decide, by decide, by decide⟩

/-- P1 is LOADED with an image of one kernel and owns cluster 0. -/
def wKern : State :=
  { (State.reset.setPstate 1 2) with
    wparts := [(1, { image := some { kernels := [{ groups := 1, code := [1] }] } })]
    struct := { State.reset.struct with image := { State.reset.struct.image with clusters := [1], parts := [{ present := true }, { present := true }] } } }
theorem witness_TileStoresAndLaunches :
    (wKern.pstate 1 = 2 ∧ wKern.stopped 1 = false ∧ wKern.clusterOwner 0 = 1 ∧ (wKern.run 7).id = 0 ∧ ((wKern.wpart 1).image.getD {}).kernels[0]? = some { groups := 1, code := [1] }) ∧
    (((wLane [1]).run 0).id ≠ 0 ∧ ((wLane [1]).unitDbg 0 0).state = 0 ∧ ((wLane [1]).run 0).groups[0]? = some ({} : Group) ∧ (wLane [1]).rd F.VEC_FAULT_cause 0 = 0) ∧
    ((wKern.noteStore false 0 5).pstate 1 = 2 ∧ (wKern.noteStore false 0 5).stopped 1 = false ∧ wKern.storeUnit false 0 5 = (1, 0, 0)) ∧
    (({ wKern.noteStore false 0 5 with reruns := [(1, { active := true, units := [0] })] } : State).stopped 1 = false) ∧
    ((State.reset.noteStore false 0 5).pstate 255 ≠ 2 ∧ (State.reset.noteStore false 0 5).stepInFlight 255 = false) := by
  refine ⟨by decide, by decide, by decide, by decide, by decide⟩

/-- Cluster 3 is in a test, cluster 4 in an aborted one. -/
def wTest : State := { State.reset with fabric := { State.reset.fabric with testing := [3], aborting := [4] } }
theorem witness_SelfTests :
    (3 ∈ wTest.fabric.testing ∧ 3 ∉ wTest.fabric.aborting ∧ 4 ∈ wTest.fabric.aborting ∧ wTest.isOperator .mgc = true) ∧
    (bit (256 : W64).toNat 8 = true ∧ (((wKern.wr F.PWR_LIMIT_allowed_w 2000).applyWrite .TILE_SELFTEST (256 : W64).toNat 2 0).testable (40 * 2 + bits (256 : W64).toNat 5 0) = true)) ∧
    (((List.range 40).map (fun k => 40 * 0 + (Tab.get 0 ((wKern.wr F.PWR_LIMIT_allowed_w 2000).wr F.TILE_SELFTEST_auto_enable 1).power.nextTest 0 + k) % 40)).find? (fun k => ((wKern.wr F.PWR_LIMIT_allowed_w 2000).wr F.TILE_SELFTEST_auto_enable 1).plannerTests k) = some 0) ∧
    (((List.range 40).map (fun k => 40 * 0 + (Tab.get 0 State.reset.power.nextTest 0 + k) % 40)).find? (fun k => State.reset.plannerTests k) ≠ some 5) := by
  refine ⟨by decide, by decide +kernel, by decide +kernel, by decide +kernel⟩

/-- P0 is LOADED and owns every cluster: a tensor of 16 FP32 words in a tile store. -/
def wOps : State := State.reset.setPstate 0 2
def wTensor (at_ fmt : Nat) (ext : List Nat) : TRef := { addr := at_, scales := 0, nibs := 0, fmt := fmt, layout := 0, ext := ext, sparse := false }
theorem witness_OperatorsWriteTheirOutput :
    wOps.operatorReady 0 [(wTensor 0 0 [16]).ax, (wTensor 4096 0 [16]).ax] ∧
    wOps.operatorReady 0 ([(wTensor 0 1 [2, 2], 1), (wTensor 64 1 [2, 2], 0), (wTensor 4096 0 [2, 2]).ax] ++ optRef none ++ epiRefs none) ∧
    wOps.operatorReady 0 ([(wTensor 0 1 [1, 1, 2, 2]).ax, (filterRef (wTensor 64 1 [1, 1, 1, 1])).ax, (wTensor 4096 0 [1, 1, 2, 2]).ax] ++ optRef none ++ epiRefs none) ∧
    wOps.operatorReady 0 [(wTensor 0 0 [4, 2]).ax, (wTensor 64 13 [3]).ax, (wTensor 4096 0 [3, 2]).ax] ∧
    wOps.operatorReady 0 [(wTensor 0 0 [16]).ax, (wTensor 4096 14 [16]).ax] ∧
    wOps.operatorReady 0 [(wTensor 0 6 [4, 32]).ax, (wTensor 8192 13 [3]).ax, (wTensor 4096 6 [3, 32]).ax] ∧
    chainOk { inputs := [], steps := [{ op := 0x13, src := 0, b := 0, c := 0 }], rm := 0, sat := none } [16] = true ∧ State.reset.pstate 0 ≠ 2 := by
  have h : ∀ l : List (TRef × Nat), ((wOps.pstate 0 = 2 ∧ wOps.stopped 0 = false ∧ wOps.haltedUnits 0 = false) ∧ (l.all fun r => r.1.ok && !r.1.ext.contains 0 && (r.1.ranges r.2).all fun q => addrOk q.1 && wOps.addrIn 0 q.1 q.2) = true) → wOps.operatorReady 0 l := by
    rintro l ⟨⟨a, b, c⟩, d⟩
    refine ⟨a, b, c, fun r hr => ?_⟩
    have := List.all_eq_true.mp d r hr
    simp only [Bool.and_eq_true, Bool.not_eq_true'] at this
    refine ⟨this.1.1, this.1.2, fun q hq => ?_⟩
    have := List.all_eq_true.mp this.2 q hq
    simpa using this
  exact ⟨h _ (by decide +kernel), h _ (by decide +kernel), h _ (by decide +kernel), h _ (by decide +kernel), h _ (by decide +kernel), h _ (by decide +kernel), by decide, by decide⟩

end
end

section
/-! Control-space accesses (00_scope R9, R11 to R14, R44, R595): a write by access code, and the note that a failed access leaves. -/

namespace Sys2Proof.Machine

/-! ## A write without an effect of its own -/

theorem exec_registerWrite (m : Master) (sp : Space) (off : Nat) (v : W64) (s : State) :
    exec (.registerWrite m sp off v) s = .next (s.writeAt m sp off v.toNat) := rfl

/-- Outside `RegId.ownWrite` a register write is the write of its fields. -/
theorem State.writeReg_eq_applyWrite {r : RegId} (h : r ∉ RegId.ownWrite) (s : State) (m : Master) (i j v : Nat) :
    s.writeReg m r i j v = s.applyWrite r v i j := by
  unfold State.writeReg
  split
  case h_41 => rfl
  all_goals exact absurd (by decide) h

theorem State.writeAt_eq_writeReg {sp : Space} {off i j : Nat} {r : RegId} {s : State} {m : Master} (v : Nat)
    (ha : off % 8 = 0) (hr : regAt sp off = some (r, i, j)) (hm : s.reaches m r i true = true) :
    s.writeAt m sp off v = s.writeReg m r i j v := by
  simp only [State.writeAt, ha, hr, hm, if_true]

/-- Settles O8: the write is `State.applyWrite`, which the laws of register writes describe field by field. -/
theorem registerWriteByAccessCode : Obligations.RegisterWriteByAccessCode := by
  unfold Obligations.RegisterWriteByAccessCode
  intro m sp off v s r i j ha hr ho hm
  refine ⟨s.applyWrite r v.toNat i j, ?_, fun d hd => State.rd_applyWrite s r _ i j hd,
    fun g k l hg => State.rd_applyWrite_other s r _ i j hg, State.applyWrite_regs s r _ i j⟩
  rw [exec_registerWrite, State.writeAt_eq_writeReg _ ha hr hm, State.writeReg_eq_applyWrite ho]

/-! ## Failed accesses -/

theorem State.accessNote_eq_event (s : State) (sp : Space) : s.accessNote sp = s.event (accessSource sp) 1 := by
  cases sp <;> rfl

/-- Table 19.2: the one event of an access-error source is a NOTE. -/
theorem baseLevel_accessSource (sp : Space) : baseLevel (accessSource sp) 1 = 1 := by
  cases sp with
  | hcs => decide
  | dcs d => revert d; decide
  | bcs m => revert m; decide

/-- A note keeps its frame when the value last read is set with it. -/
theorem Unchanged.setLastRead {s t : State} (h : Unchanged { bbs := true, b_fault := true, b_amber := true } s t) (x : Nat) :
    Unchanged { bbs := true, lastRead := true, b_fault := true, b_amber := true } s { t with lastRead := x } :=
  { h with lastRead := nofun }

/-- A failed access is the event of its source, with the value last read zeroed by a read. -/
theorem State.accessFails_eq (s : State) (sp : Space) (write : Bool) :
    s.accessFails sp write = { s.event (accessSource sp) 1 with lastRead := if write then s.lastRead else 0 } := by
  have hk : (s.event (accessSource sp) 1).lastRead = s.lastRead :=
    (State.event_note (baseLevel_accessSource sp)).1.lastRead rfl
  unfold State.accessFails
  rw [State.accessNote_eq_event]
  cases write with
  | false => rfl
  | true => rw [if_pos rfl, if_pos rfl, ← hk]

/-- R9: what a failed access leaves. -/
theorem State.accessFails_note (s : State) (sp : Space) (write : Bool) :
    (s.accessFails sp write).rd F.FAULT_SRC_STATUS_events (accessSource sp) =
      min (s.rd F.FAULT_SRC_STATUS_events (accessSource sp) + 1) 65535 ∧
    (s.accessFails sp write).rd F.FAULT_SRC_STATUS_level (accessSource sp) = max (s.level (accessSource sp)) 1 % 8 ∧
    (s.accessFails sp write).lastRead = (if write then s.lastRead else 0) ∧
    Unchanged { bbs := true, lastRead := true, b_fault := true, b_amber := true } s (s.accessFails sp write) := by
  obtain ⟨hu, he, hl⟩ := State.event_note (s := s) (baseLevel_accessSource sp)
  rw [State.accessFails_eq]
  exact ⟨he, hl, rfl, hu.setLastRead _⟩

theorem exec_accessError (sp : Space) (off : Nat) (write : Bool) (s : State) :
    exec (.accessError sp off write) s = .next (s.accessFails sp write) := rfl

theorem exec_undefinedOffsetAccess (m : Master) {sp : Space} {off : Nat} (write : Bool) (s : State)
    (ha : off % 8 = 0) (hr : regAt sp off = none) :
    exec (.undefinedOffsetAccess m sp off write) s = .next (s.accessFails sp write) := by
  show execUndefinedOffsetAccess m sp off write s = _
  simp only [execUndefinedOffsetAccess, ha, hr, if_true]

theorem exec_forbiddenMasterAccess {m : Master} {sp : Space} {off i j : Nat} {r : RegId} {write : Bool} {s : State}
    (ha : off % 8 = 0) (hr : regAt sp off = some (r, i, j)) (hm : s.reaches m r i write = false) :
    exec (.forbiddenMasterAccess m sp off write) s = .next (s.accessFails sp write) := by
  show execForbiddenMasterAccess m sp off write s = _
  simp only [execForbiddenMasterAccess, ha, hr, hm, if_true, Bool.false_eq_true, if_false]

/-- Settles O10: each of the three accesses is `State.accessFails`, whose event is a NOTE. -/
theorem accessErrorsAreNotes : Obligations.AccessErrorsAreNotes := by
  unfold Obligations.AccessErrorsAreNotes
  intro c m sp off write s h
  refine ⟨s.accessFails sp write, ?_, State.accessFails_note s sp write⟩
  rcases h with rfl | ⟨rfl, ha, hr⟩ | ⟨rfl, ha, r, i, j, hr, hm⟩
  · exact exec_accessError sp off write s
  · exact exec_undefinedOffsetAccess m write s ha hr
  · exact exec_forbiddenMasterAccess ha hr hm

end Sys2Proof.Machine
end

section
/-! Module resets (00_scope R12, R32; R450, R517, R576): every way into boot reaches `State.bootFromReset`, and the failure of the
always-on supply. -/

namespace Sys2Proof.Machine

variable {s : State}

/-! ## Time and requests before the reset -/

/-- Time passes by what was asked. -/
theorem State.pass_clk (s : State) (dt : Nat) : (s.pass dt).clk = s.clk + dt := by
  have hc : (s.countCycles dt).clk = s.clk :=
    (State.countCycles_keep (W := { b_perf := true }) (Keep.refl s)).parts.clk rfl
  unfold State.pass
  simp only
  split <;> rw [hc]

theorem State.pass_unchanged (s : State) (dt : Nat) : Unchanged Parts.pass s (s.pass dt) :=
  (State.pass_keep (Keep.refl s)).parts

theorem State.advanceTo_clk (s : State) (t : Nat) : (s.advanceTo t).clk = max s.clk t := by
  unfold State.advanceTo
  split
  · rw [State.pass_clk]; omega
  · omega

/-- What taking and answering a request may change. -/
def Parts.answer : Parts := { power := true, mgmt := true, out := true, sdio := true }

theorem State.taken_unchanged (s : State) (r : Req) : Unchanged Parts.answer s (s.taken r) :=
  (State.taken_keep (Keep.refl s)).parts

theorem State.wakeS4_off (s : State) : s.wakeS4.power.off = s.power.off := by
  unfold State.wakeS4; split <;> rfl

theorem State.taken_off (s : State) (r : Req) : (s.taken r).power.off = s.power.off := by
  rw [← State.wakeS4_off s]
  unfold State.taken
  cases r.path <;> rfl

theorem State.reply_power (s : State) (r : Req) (op status reason : Nat) (body : List Byte) :
    (s.reply r op status reason body).power = s.power := by
  unfold State.reply
  cases r.path <;> rfl

/-- Taking a request leaves who may send it. -/
theorem State.taken_permits (s : State) (r : Req) (g : Gate) : (s.taken r).permits r g = s.permits r g := by
  have hl : (s.taken r).rdB F.SEC_STATE_table_locked = s.rdB F.SEC_STATE_table_locked :=
    congrArg (· != 0) ((State.taken_unchanged s r).regs F.SEC_STATE_table_locked 0 0 rfl)
  have ht : (s.taken r).mgmt.trusted = s.mgmt.trusted := by
    unfold State.taken State.wakeS4
    cases r.path <;> split <;> rfl
  unfold State.permits
  rw [hl, ht]

/-- A request that the path admits is answered by its block. -/
theorem State.serveReq_of_admits {r : Req} {g : Gate} (h : s.admits r g) (op : Nat) (f : State → State × Nat × Nat × List Byte) :
    s.serveReq r op g true f = .next ((f (s.taken r)).1.reply r op (f (s.taken r)).2.1 (f (s.taken r)).2.2.1 (f (s.taken r)).2.2.2) := by
  obtain ⟨hb, hp, hm⟩ := h
  simp only [State.serveReq, State.taken_permits, hb, hp, hm, Bool.not_true, Bool.or_false, Bool.false_eq_true, if_false]

/-! ## The reset -/

/-- The registers that a reset keeps, and the time, may be taken from a state before the request or the delay. -/
theorem ResetOf.of_unchanged {W : Parts} {u t : State} {now : Nat} (h : ResetOf u t now) (hu : Unchanged W s u)
    (hW : ∀ b ∈ resetBlocks, W.blk b = false) : ResetOf s t now :=
  { h with regs := fun f i j hf => by rw [h.regs f i j hf, hu.regs f i j (hW _ hf)] }

/-- Boot after a request was taken or answered is the reset of the state before it. -/
theorem State.bootFromReset_of_answer {u : State} (hu : Unchanged Parts.answer s u) (leave : Bool) :
    ResetOf s (u.bootFromReset leave) s.clk := by
  have h := (State.bootFromReset_reset (s := u) leave).1
  rw [hu.clk rfl] at h
  exact h.of_unchanged hu (by decide)

/-! ## The commands -/

theorem exec_moduleReset (s : State) : exec .moduleReset s = .next (s.bootFromReset false) := rfl

theorem exec_vinMate (mv : Nat) (h : s.power.held = true) :
    exec (.vinMate mv) s = .next ((s.pass 300000000).wr F.PWR_INPUT_volts (mv / 10)) := if_pos h

theorem exec_powerOnResetRelease (hh : s.power.held = true) (hl : 4400 ≤ s.rd F.PWR_INPUT_volts) (hu : s.rd F.PWR_INPUT_volts ≤ 6000) :
    exec .powerOnResetRelease s = .next (((s.pass 100000000).setPower (fun p => { p with held := false })).bootFromReset true) :=
  if_pos ⟨hh, hl, hu⟩

theorem exec_powerOn_of_ok {r : Req} (h : s.admits r { sdio := true }) (ho : s.powerOnOk = true) :
    exec (.powerOn r) s = .next (((s.taken r).reply r 0x10 stOk 0 []).bootFromReset true) := by
  obtain ⟨hb, hp, hm⟩ := h
  exact if_pos (by rw [hb, hp, hm, ho]; rfl)

theorem exec_powerOn_of_not_ok {r : Req} (h : s.admits r { sdio := true }) (ho : s.powerOnOk = false) :
    exec (.powerOn r) s = .next ((s.taken r).reply r 0x10 stInvalid 0 []) :=
  (if_neg (by rw [ho, Bool.and_false]; exact Bool.false_ne_true)).trans (State.serveReq_of_admits h 0x10 _)

theorem exec_reset_of_free {r : Req} (h : s.admits r { sdio := true }) (hw : s.mgmtWriting r = false) :
    exec (.reset r) s = .next ((s.taken r).bootFromReset false) := by
  obtain ⟨hb, hp, hm⟩ := h
  exact if_pos (by rw [hb, hp, hm, hw]; rfl)

theorem exec_reset_of_writing {r : Req} (h : s.admits r { sdio := true }) (hw : s.mgmtWriting r = true) :
    exec (.reset r) s = .next ((s.taken r).reply r 0x12 stBusy 0 []) :=
  (if_neg (by rw [hw, Bool.not_true, Bool.and_false]; exact Bool.false_ne_true)).trans (State.serveReq_of_admits h 0x12 _)

theorem exec_trialExpiry (h : s.rd F.FW_BOOT_stage = 5) :
    exec .trialExpiry s = .next ((((s.advanceTo s.fw.trialEnd).event Src.boot 2).setB F.FW_BOOT_fallback).bootFromReset false) := if_pos h

theorem exec_supplyRestored (ho : s.power.off = true) (hc : s.power.cause = 5) :
    exec .supplyRestored s = .next ((s.pass 100000000).bootFromReset true) := if_pos ⟨ho, hc⟩

/-! ## The failure of the always-on supply -/

/-- The causes that a reset ends lie in the fault registers. -/
theorem State.filterCauses_unchanged {W : Parts} {t : State} (h : Keep W s t) (p : Nat → Nat → Bool)
    (hf : W.faults = true) (hb : W.b_fault = true) :
    Unchanged W s ((List.range 106).foldl (fun t i => t.setCauses i ((t.causes i).filter (p i))) t) :=
  (Keep.foldl h fun _ _ hu => State.setCauses_keep hu).parts

/-- Flashes and keys outlast a reset. -/
theorem State.clearCore_flashes (s : State) (r : Bool) :
    (s.clearCore r).fw.slotA = s.fw.slotA ∧ (s.clearCore r).fw.slotB = s.fw.slotB ∧ (s.clearCore r).fw.mgmt = s.fw.mgmt ∧
    (s.clearCore r).sec.keys = s.sec.keys := by
  have h : ∃ t : State, (t.fw.slotA = s.fw.slotA ∧ t.fw.slotB = s.fw.slotB ∧ t.fw.mgmt = s.fw.mgmt ∧ t.sec.keys = s.sec.keys) ∧
      Unchanged { bbs := true, faults := true, b_fault := true } t (s.clearCore r) := by
    unfold State.clearCore
    dsimp only
    refine ⟨_, ?_, State.filterCauses_unchanged (Keep.ite (State.bbsWr_keep (Keep.refl _)) (Keep.refl _))
      (fun i c => if c = 0 then !r else heldSources.contains i) rfl rfl⟩
    exact ⟨rfl, rfl, rfl, rfl⟩
  obtain ⟨t, ht, hu⟩ := h
  rw [hu.fw rfl, hu.sec rfl]
  exact ht

/-- Without a flash write under way a reset leaves the store. -/
theorem State.clearCore_bbs (h : s.fw.write = none) (r : Bool) : (s.clearCore r).bbs = s.bbs := by
  unfold State.clearCore
  dsimp only
  rw [h]
  exact (State.filterCauses_unchanged (W := { faults := true, b_fault := true }) (Keep.refl _)
    (fun i c => if c = 0 then !r else heldSources.contains i) rfl rfl).bbs rfl

/-- After a failure of the always-on supply SEC_STATE alone keeps fields. -/
theorem State.rd_keep_lifecycle (s : State) {f : Fld} (i j : Nat) (h : f.reg ≠ .SEC_STATE) :
    Tab.get (f.reset i) (Tab.keep s.regs (fun k => decide ((Nat.unpair (Nat.unpair k).1).1 = RegId.SEC_STATE.ctorIdx))) (f.key i j) = f.reset i := by
  have hk : (Nat.unpair (Nat.unpair (f.key i j)).1).1 = f.reg.ctorIdx := by simp only [Fld.key, Nat.unpair_pair]
  have hne : f.reg.ctorIdx ≠ RegId.SEC_STATE.ctorIdx := fun e => h (RegId.ctorIdx_inj e)
  rw [Tab.get_keep, hk, decide_eq_false hne]
  rfl

/-- R471, R582: a failure of the always-on supply loses everything but the store, the flashes, the keys and SEC_STATE. -/
theorem alwaysOnSupplyFail_keeps_flashes (s : State) : ∃ t, exec .alwaysOnSupplyFail s = .next t ∧
    t.mem = [] ∧ t.struct = {} ∧ t.power = {} ∧ t.faults = {} ∧ t.clk = 0 ∧
    (s.fw.write = none → t.bbs = s.bbs) ∧ t.fw.slotA = s.fw.slotA ∧ t.fw.slotB = s.fw.slotB ∧ t.fw.mgmt = s.fw.mgmt ∧
    t.sec.keys = s.sec.keys ∧ (∀ f i j, f.reg ≠ .SEC_STATE → t.rd f i j = f.reset i) := by
  obtain ⟨hA, hB, hm, hk⟩ := State.clearCore_flashes s true
  have hb := fun h => State.clearCore_bbs (s := s) h true
  show ∃ t, execAlwaysOnSupplyFail s = .next t ∧ _
  simp only [execAlwaysOnSupplyFail]
  generalize s.clearCore true = u at hA hB hm hk hb ⊢
  exact ⟨_, rfl, rfl, rfl, rfl, rfl, rfl, hb, hA, hB, hm, hk, fun f i j hf => State.rd_keep_lifecycle u i j hf⟩

/-! ## Each way into boot -/

/-- R576 step 3: the power-on reset ends after 100 ms, and the module boots. -/
theorem powerOnResetRelease_boots (hh : s.power.held = true) (hl : 4400 ≤ s.rd F.PWR_INPUT_volts) (hu : s.rd F.PWR_INPUT_volts ≤ 6000) :
    ∃ t, exec .powerOnResetRelease s = .next t ∧ t.power.held = false ∧ t.power.off = false ∧ t.clk = s.clk + 100000000 ∧
      t.resetAt = t.clk ∧ t.modTime = 0 ∧ t.struct = {} ∧ t.mem = [] ∧ t.sdio = {} ∧ t.mgmt = {} := by
  obtain ⟨hr, ho, hd⟩ := State.bootFromReset_reset (s := (s.pass 100000000).setPower fun p => { p with held := false }) true
  exact ⟨_, exec_powerOnResetRelease hh hl hu, hd, ho.trans (Bool.and_false _), hr.clk.trans (State.pass_clk s _),
    hr.resetAt.trans hr.clk.symm, hr.modTime, hr.struct, hr.mem, hr.sdio, hr.mgmt⟩

/-- R517: an accepted POWER_ON resets the module out of OFF. -/
theorem powerOn_resets {r : Req} (h : s.admits r { sdio := true }) (ho : s.powerOnOk = true) :
    ∃ t, exec (.powerOn r) s = .next t ∧ ResetOf s t s.clk ∧ t.power.off = false := by
  have hu : Unchanged Parts.answer s ((s.taken r).reply r 0x10 stOk 0 []) :=
    (State.reply_keep (State.taken_keep (Keep.refl s))).parts
  exact ⟨_, exec_powerOn_of_ok h ho, State.bootFromReset_of_answer hu true,
    (State.bootFromReset_reset true).2.1.trans (Bool.and_false _)⟩

/-- R554: RESET resets the module and leaves OFF as it is. -/
theorem reset_resets {r : Req} (h : s.admits r { sdio := true }) (hw : s.mgmtWriting r = false) :
    ∃ t, exec (.reset r) s = .next t ∧ ResetOf s t s.clk ∧ t.power.off = s.power.off :=
  ⟨_, exec_reset_of_free h hw, State.bootFromReset_of_answer (State.taken_unchanged s r) false,
    (State.bootFromReset_reset false).2.1.trans ((Bool.and_true _).trans (State.taken_off s r))⟩

/-- R454: a trial that ends without CONFIRM resets the module at its end. -/
theorem trialExpiry_boots (h : s.rd F.FW_BOOT_stage = 5) :
    ∃ t, exec .trialExpiry s = .next t ∧ t.clk = max s.clk s.fw.trialEnd ∧ t.resetAt = t.clk ∧ t.modTime = 0 ∧ t.struct = {} ∧ t.mem = [] ∧
      t.sdio = {} ∧ t.mgmt = {} := by
  have hc : (((s.advanceTo s.fw.trialEnd).event Src.boot 2).setB F.FW_BOOT_fallback).clk = max s.clk s.fw.trialEnd :=
    ((State.event_keep (W := Parts.event) (Keep.refl _)).parts.clk rfl).trans (State.advanceTo_clk s _)
  obtain ⟨hr, -, -⟩ := State.bootFromReset_reset (s := ((s.advanceTo s.fw.trialEnd).event Src.boot 2).setB F.FW_BOOT_fallback) false
  exact ⟨_, exec_trialExpiry h, hr.clk.trans hc, hr.resetAt.trans hr.clk.symm, hr.modTime, hr.struct, hr.mem, hr.sdio, hr.mgmt⟩

/-- Table 20.6: the return of the supply boots the module out of OFF. -/
theorem supplyRestored_boots (ho : s.power.off = true) (hc : s.power.cause = 5) :
    ∃ t, exec .supplyRestored s = .next t ∧ t.power.off = false ∧ t.clk = s.clk + 100000000 ∧ t.resetAt = t.clk ∧ t.modTime = 0 ∧
      t.struct = {} ∧ t.mem = [] ∧ t.sdio = {} ∧ t.mgmt = {} := by
  obtain ⟨hr, hf, -⟩ := State.bootFromReset_reset (s := s.pass 100000000) true
  exact ⟨_, exec_supplyRestored ho hc, hf.trans (Bool.and_false _), hr.clk.trans (State.pass_clk s _), hr.resetAt.trans hr.clk.symm,
    hr.modTime, hr.struct, hr.mem, hr.sdio, hr.mgmt⟩

/-- Mating the VIN blades takes 300 ms and sets the input voltage. -/
theorem vinMate_sets_volts (mv : Nat) (h : s.power.held = true) :
    ∃ t, exec (.vinMate mv) s = .next t ∧ t.rd F.PWR_INPUT_volts = mv / 10 % 2 ^ F.PWR_INPUT_volts.width ∧ t.clk = s.clk + 300000000 ∧
      Unchanged { Parts.pass with b_power := true } s t :=
  ⟨_, exec_vinMate mv h, State.rd_wr_same .., State.pass_clk s _, (State.wr_keep (State.pass_keep (Keep.refl s)) rfl).parts⟩

/-- Settles O21: the lemmas of the commands above, each of which ends in `State.bootFromReset` but for the failure of the supply. -/
theorem moduleResets : Obligations.ModuleResets := by
  unfold Obligations.ModuleResets
  refine ⟨fun s => ?_, fun mv _ => vinMate_sets_volts mv, fun _ => powerOnResetRelease_boots, fun r s h => ?_, fun _ => trialExpiry_boots,
    fun _ => supplyRestored_boots, alwaysOnSupplyFail_keeps_flashes⟩
  · obtain ⟨hr, ho, -⟩ := State.bootFromReset_reset (s := s) false
    exact ⟨_, exec_moduleReset s, hr, ho.trans (Bool.and_true _)⟩
  · exact ⟨powerOn_resets h, fun ho => ⟨_, exec_powerOn_of_not_ok h ho, rfl⟩, reset_resets h, exec_reset_of_writing h⟩

end Sys2Proof.Machine
end

section
/-! Reads of registers, partition states and memory through the operations that the structure's commands are made of (02). -/

namespace Sys2Proof.Machine

-- One proof at a time: the package is compiled as one text under a memory limit.
set_option Elab.async false

variable {s t : State}

/-! ## Registers -/

/-- A write leaves every field of another register or with another low bit. -/
@[simp] theorem State.rd_wr_ne (s : State) {f g : Fld} (v i j k l : Nat) (h : g.reg ≠ f.reg ∨ g.lo ≠ f.lo) :
    (s.wr f v i j).rd g k l = s.rd g k l :=
  State.rd_wr_other s v fun e => h.elim (· (Fld.key_eq.mp e).1) (· (Fld.key_eq.mp e).2.1)

/-- The loader's state is cut to its four bits. -/
theorem State.nypraState_setNypra (s : State) (st : Nat) (busy : Bool) : (s.setNypra st busy).nypraState = st % 16 :=
  (State.rd_wr_ne _ _ _ _ _ _ (by decide)).trans (State.rd_wr_same ..)

theorem State.busy_setNypra (s : State) (st : Nat) (busy : Bool) : (s.setNypra st busy).rd F.NYPRA_STATUS_busy = ofBool busy := by
  refine (State.rd_wr_same ..).trans ?_
  cases busy <;> rfl

theorem State.rd_setNypra_other (s : State) (st : Nat) (busy : Bool) {g : Fld} (k l : Nat)
    (h : g.reg ≠ .NYPRA_STATUS ∨ (g.lo ≠ 0 ∧ g.lo ≠ 4)) : (s.setNypra st busy).rd g k l = s.rd g k l :=
  (State.rd_wr_ne _ _ _ _ _ _ (h.imp_right (·.2))).trans (State.rd_wr_ne _ _ _ _ _ _ (h.imp_right (·.1)))

/-! ## Partition states -/

/-- Each field of PART_STATE has four bits. -/
theorem PART_STATE_range (n : Nat) : 2 ^ (F.PART_STATE_state n).width = 16 := by
  show 2 ^ (4 * n + 3 + 1 - 4 * n) = 16
  rw [show 4 * n + 3 + 1 - 4 * n = 4 by omega]
  rfl

theorem State.pstate_setPstate (s : State) (n v k : Nat) : (s.setPstate n v).pstate k = if k = n then v % 16 else s.pstate k := by
  unfold State.pstate State.setPstate
  split
  · next h => subst h; rw [State.rd_wr_same, PART_STATE_range]
  · next h => exact State.rd_wr_ne _ _ _ _ _ _ (.inr fun (e : 4 * k = 4 * n) => h (by omega))

theorem State.pstate_wr (s : State) {f : Fld} (v i j k : Nat) (h : f.reg ≠ .PART_STATE) : (s.wr f v i j).pstate k = s.pstate k :=
  State.rd_wr_ne _ _ _ _ _ _ (.inl h.symm)

theorem State.pstate_setNypra (s : State) (st : Nat) (busy : Bool) (k : Nat) : (s.setNypra st busy).pstate k = s.pstate k :=
  State.rd_setNypra_other s st busy 0 0 (.inl nofun)

theorem State.rd_setPstate (s : State) (n v : Nat) {g : Fld} (k l : Nat) (h : g.reg ≠ .PART_STATE) :
    (s.setPstate n v).rd g k l = s.rd g k l := State.rd_wr_ne _ _ _ _ _ _ (.inl h)

/-- A fold that gives each partition of a list the state `v`. -/
theorem State.pstate_foldl {f : State → Nat → State} {v : Nat} (hf : ∀ u n k, (f u n).pstate k = if k = n then v else u.pstate k)
    (l : List Nat) (s : State) (k : Nat) : (l.foldl f s).pstate k = if k ∈ l then v else s.pstate k := by
  induction l generalizing s with
  | nil => simp
  | cons n l ih => rw [List.foldl_cons, ih, hf]; by_cases h : k = n <;> simp [h]

theorem Unchanged.pstate {W : Parts} (h : Unchanged W s t) (hW : W.b_part = false) (k : Nat) : t.pstate k = s.pstate k := h.regs _ _ _ hW

/-! ## Memory -/

theorem State.byte_zeroWhere (s : State) (p : Nat → Bool) (a : Nat) : (s.zeroWhere p).byte a = if p a then 0#8 else s.byte a := by
  refine (Tab.get_keep _ s.mem (fun a => ! p a) a).trans ?_
  cases p a <;> rfl

theorem State.byte_congr (h : t.mem = s.mem) (a : Nat) : t.byte a = s.byte a := by unfold State.byte; rw [h]

end Sys2Proof.Machine
end

section
/-! Reset (R10, R32): structure epoch 0. -/

namespace Sys2Proof.Machine

-- One proof at a time: the package is compiled as one text under a memory limit.
set_option Elab.async false

/-- An owner map that gives every resource to P0. -/
theorem getD_replicate_zero {k n : Nat} (h : k < n) : (List.replicate n 0).getD k 0xFF = 0 := by
  rw [List.getD_eq_getElem _ _ (by simpa using h), List.getElem_replicate]

/-- PART_STATE resets to EMPTY in P0's field and to ABSENT in the others. -/
theorem State.pstate_reset (n : PartId) : State.reset.pstate n = if n = 0 then 1 else 0 := by
  revert n; decide

/-- P0's ring range is every ring. -/
theorem State.ringOwner_reset (r : RingId) : State.reset.ringOwner r = 0 := by
  have h : decide (0 ≤ r.val ∧ r.val < 0 + 4096) = true := decide_eq_true ⟨Nat.zero_le _, by omega⟩
  simp only [State.ringOwner, State.reset, Image.epoch0, List.zipIdx_cons, List.find?_cons, h, Bool.true_and]

/-- Settles O3: each owner map of `Image.epoch0` gives its resources to P0, and what nothing has written reads its reset value. -/
theorem resetIsEpochZero : Obligations.ResetIsEpochZero := by
  unfold Obligations.ResetIsEpochZero
  refine ⟨rfl, by decide, rfl, rfl, State.pstate_reset, fun c => getD_replicate_zero c.isLt, fun e => getD_replicate_zero e.isLt,
    fun _ hg => getD_replicate_zero hg, fun c => getD_replicate_zero c.isLt, State.ringOwner_reset,
    fun p v _ _ => getD_replicate_zero (by omega), fun k => ⟨getD_replicate_zero k.isLt, getD_replicate_zero k.isLt⟩,
    fun k => getD_replicate_zero k.isLt, ⟨rfl, rfl, rfl, rfl, rfl, rfl, rfl⟩, fun _ => rfl⟩

end Sys2Proof.Machine
end

section
/-! The loader of Nypra images (R39, R45 to R48, R596). APPLY is the composition of the stages named here, each with its frame. -/

namespace Sys2Proof.Machine

-- One proof at a time: the package is compiled as one text under a memory limit.
set_option Elab.async false

variable {s : State} {m : Master}

/-! ## Who may command, and when -/

theorem exec_verify (m : Master) (s : State) : exec (.verify m) s = execVerify m s := rfl

theorem exec_apply (m : Master) (s : State) : exec (.apply m) s = execApply m s := rfl

theorem exec_discard (m : Master) (s : State) : exec (.discard m) s = execDiscard m s := rfl

theorem exec_remove (m : Master) (n : PartId) (s : State) : exec (.remove m n) s = execRemove m n s := rfl

theorem exec_commitVersion (m : Master) (s : State) : exec (.commitVersion m) s = execCommitVersion m s := rfl

/-- R45: while the loader is busy a command is rejected. -/
theorem State.nypraCommand_of_busy (ho : s.isOperator m = true) (hb : s.rd F.NYPRA_STATUS_busy ≠ 0) (f : State → State) :
    s.nypraCommand m f = .next (s.setB F.NYPRA_EVENT_cmd_rejected) := by
  simp only [State.nypraCommand, guardHcs, ho, if_true, State.rdB, bne_iff_ne, hb, ne_eq, not_false_eq_true]

theorem State.nypraCommand_of_free (ho : s.isOperator m = true) (hb : s.rd F.NYPRA_STATUS_busy = 0) (f : State → State) :
    s.nypraCommand m f = .next (f s) := by
  simp only [State.nypraCommand, guardHcs, ho, if_true, State.rdB, hb, bne_self_eq_false, Bool.false_eq_true, if_false]

theorem exec_loader_of_busy (n : PartId) (ho : s.isOperator m = true) (hb : s.rd F.NYPRA_STATUS_busy ≠ 0) :
    ∀ c ∈ [Instr.verify m, .apply m, .discard m, .remove m n, .commitVersion m], exec c s = .next (s.setB F.NYPRA_EVENT_cmd_rejected) := by
  intro c hc
  simp only [List.mem_cons, List.not_mem_nil, or_false] at hc
  have hr := State.nypraCommand_of_busy ho hb
  rcases hc with rfl | rfl | rfl | rfl | rfl
  · rw [exec_verify, execVerify, hr]
  · rw [exec_apply, execApply, hr]
  · rw [exec_discard, execDiscard, hr]
  · rw [exec_remove, execRemove, hr]
  · rw [exec_commitVersion, execCommitVersion, hr]

/-! ## VERIFY -/

/-- R46 step 1: an image is staged for the checks. -/
def State.verifying (s : State) (g : StagedImage) : State :=
  (((s.setStruct fun x => { x with staged := some g }).wr F.NYPRA_STATUS_failed_check 0).wr F.NYPRA_STATUS_failed_section 0).setNypra
    nypraVerifying true

theorem State.verifying_spec (s : State) (g : StagedImage) :
    (s.verifying g).nypraState = nypraVerifying ∧ (s.verifying g).rd F.NYPRA_STATUS_busy = 1 ∧
    (s.verifying g).rd F.NYPRA_STATUS_failed_check = 0 ∧ (s.verifying g).struct = { s.struct with staged := some g } := by
  refine ⟨State.nypraState_setNypra .., State.busy_setNypra .., (State.rd_setNypra_other _ _ _ _ _ (.inr (by decide))).trans ?_, rfl⟩
  exact (State.rd_wr_ne _ _ _ _ _ _ (by decide)).trans (State.rd_wr_same ..)

theorem exec_verify_of_readable (ho : s.isOperator m = true) (hb : s.rd F.NYPRA_STATUS_busy = 0) {a len : Nat}
    (ha : s.rd F.NYPRA_SRC_ADDR_addr * 4096 = a) (hl : s.rd F.NYPRA_SRC_LEN_len = len)
    (hd : s.ddrOwned 0 a len = true) (hu : s.badUnit a len = none) :
    exec (.verify m) s = .next (s.verifying { bytes := s.bytesAt (ddr a) len, len := len, readOk := true }) := by
  subst ha hl
  rw [exec_verify, execVerify, State.nypraCommand_of_free ho hb]
  simp only [hd, hu, if_true, Option.isNone_none, Bool.and_true]
  rfl

theorem exec_verify_of_not_owned (ho : s.isOperator m = true) (hb : s.rd F.NYPRA_STATUS_busy = 0) {a len : Nat}
    (ha : s.rd F.NYPRA_SRC_ADDR_addr * 4096 = a) (hl : s.rd F.NYPRA_SRC_LEN_len = len) (hd : s.ddrOwned 0 a len = false) :
    exec (.verify m) s = .next (s.verifying { bytes := [], len := len, readOk := false }) := by
  subst ha hl
  rw [exec_verify, execVerify, State.nypraCommand_of_free ho hb]
  simp only [hd, Bool.false_eq_true, if_false, Bool.false_and]
  rfl

theorem State.nypraRefuse_spec (s : State) (c t : Nat) :
    (s.nypraRefuse c t).nypraState = nypraRefused ∧ (s.nypraRefuse c t).rd F.NYPRA_STATUS_busy = 0 ∧
    (s.nypraRefuse c t).rd F.NYPRA_STATUS_failed_check = c % 256 ∧ (s.nypraRefuse c t).rd F.NYPRA_STATUS_failed_section = t % 256 ∧
    (s.nypraRefuse c t).rd F.NYPRA_EVENT_refused = 1 ∧ (s.nypraRefuse c t).struct = s.struct := by
  have hset : ∀ {g : Fld}, g.reg = .NYPRA_STATUS → (s.nypraRefuse c t).rd g =
      (((s.wr F.NYPRA_STATUS_failed_check c).wr F.NYPRA_STATUS_failed_section t).setNypra nypraRefused false).rd g :=
    fun h => State.rd_wr_ne _ _ _ _ _ _ (.inl (by rw [h]; decide))
  refine ⟨(hset rfl).trans (State.nypraState_setNypra ..), (hset rfl).trans (State.busy_setNypra ..), (hset rfl).trans ?_, (hset rfl).trans ?_,
    State.rd_wr_same .., rfl⟩
  · rw [State.rd_setNypra_other _ _ _ _ _ (.inr (by decide)), State.rd_wr_ne _ _ _ _ _ _ (by decide)]
    exact State.rd_wr_same ..
  · rw [State.rd_setNypra_other _ _ _ _ _ (.inr (by decide))]
    exact State.rd_wr_same ..

variable {g : StagedImage}

theorem exec_verifyDone_of_check (hg : s.struct.staged = some g) (hv : s.nypraState = nypraVerifying) {c t : Nat}
    (hc : s.nypraCheck g.bytes g.readOk g.len = some (c, t)) : exec .verifyDone s = .next (s.nypraRefuse c t) := by
  show execVerifyDone s = _
  simp only [execVerifyDone, hg, hv, hc, ne_eq, not_true, if_false]

theorem exec_verifyDone_of_pass (hg : s.struct.staged = some g) (hv : s.nypraState = nypraVerifying)
    (hc : s.nypraCheck g.bytes g.readOk g.len = none) :
    exec .verifyDone s = .next (((s.setStruct fun x => { x with staged := some { g with image := nypraImage g.bytes } }).setNypra
      nypraStaged false).setB F.NYPRA_EVENT_verify_done) := by
  show execVerifyDone s = _
  simp only [execVerifyDone, hg, hv, hc, ne_eq, not_true, if_false]

/-- The loader ends a command: its state, no longer busy, and the command's event. -/
theorem State.setNypra_event_spec (s : State) (st : Nat) {f : Fld} (hr : f.reg = .NYPRA_EVENT) (hw : f.width = 1) :
    ((s.setNypra st false).setB f).nypraState = st % 16 ∧ ((s.setNypra st false).setB f).rd F.NYPRA_STATUS_busy = 0 ∧
    ((s.setNypra st false).setB f).rd f = 1 := by
  have hne : RegId.NYPRA_STATUS ≠ f.reg := by rw [hr]; decide
  refine ⟨(State.rd_wr_ne _ _ _ _ _ _ (.inl hne)).trans (State.nypraState_setNypra ..),
    (State.rd_wr_ne _ _ _ _ _ _ (.inl hne)).trans (State.busy_setNypra ..), (State.rd_wr_same ..).trans ?_⟩
  rw [hw]
  rfl

/-! ## DISCARD and COMMIT_VERSION -/

theorem exec_discard_of_free (ho : s.isOperator m = true) (hb : s.rd F.NYPRA_STATUS_busy = 0) :
    exec (.discard m) s = .next ((s.setStruct fun x => { x with staged := none }).setNypra nypraIdle false) := by
  rw [exec_discard, execDiscard, State.nypraCommand_of_free ho hb]

theorem exec_commitVersion_of_free (ho : s.isOperator m = true) (hb : s.rd F.NYPRA_STATUS_busy = 0) :
    exec (.commitVersion m) s =
      .next (if s.bbsRd 0x28 4 < s.struct.image.version then s.setCounter 2 s.struct.image.version else s) := by
  rw [exec_commitVersion, execCommitVersion, State.nypraCommand_of_free ho hb]

/-- R48: the floor never falls, and the other counters stay. -/
theorem commitVersion_raises_floor (ho : s.isOperator m = true) (hb : s.rd F.NYPRA_STATUS_busy = 0) :
    ∃ t, exec (.commitVersion m) s = .next t ∧
      (s.struct.image.version < 2 ^ 32 → t.bbsRd 0x28 4 = max (s.bbsRd 0x28 4) s.struct.image.version) ∧
      (∀ j, j ≠ 2 → j < 4 → t.bbsRd (0x20 + 4 * j) 4 = s.bbsRd (0x20 + 4 * j) 4) := by
  refine ⟨_, exec_commitVersion_of_free ho hb, ?_⟩
  split
  · next h =>
    refine ⟨fun hv => ?_, fun j hj hj4 => ?_⟩
    · rw [max_eq_right h.le]
      exact (State.counter_set 2 2 _ (by decide) (by decide)).trans (Nat.mod_eq_of_lt hv)
    · rw [State.counter_set 2 j _ (by decide) hj4, if_neg hj]
  · next h => exact ⟨fun _ => (max_eq_left (Nat.le_of_not_lt h)).symm, fun _ _ _ => rfl⟩

/-! ## The stages of APPLY -/

/-- The loader commands that the change reaches end. -/
def State.endLoads (s : State) (old new : Image) : State :=
  (List.range 16).foldl (fun s n => if partDiffers old new n false = [] then s else s.loadEnds n 0 0x0602) s

/-- The image from APPLY to APPLY_DONE: LOADED partitions keep cap and budget; role, version and id are the old ones. -/
def State.midImage (s : State) (old new : Image) : Image :=
  { new with
    parts := new.parts.zipIdx.map (fun p => if s.pstate p.2 = 2 then
      { p.1 with clockCap := (old.parts.getD p.2 {}).clockCap, power := (old.parts.getD p.2 {}).power } else p.1)
    redun := old.redun, version := old.version, imageId := old.imageId }

/-- The partitions that an image makes newly present. -/
def State.freshParts (s : State) (img : Image) : List Nat := (List.range 16).filter (fun n => s.pstate n = 0 && (img.parts.getD n {}).present)

/-- The EMPTY partitions that an image no longer has. -/
def State.goneParts (s : State) (img : Image) : List Nat := (List.range 16).filter (fun n => s.pstate n = 1 && ! (img.parts.getD n {}).present)

/-- The image takes effect. -/
def State.enterImage (s : State) (img : Image) (fresh : List Nat) : State :=
  s.setStruct (fun x => { x with image := img, scrubbing := fresh, scrubbed := false })

/-- Partitions that are gone become ABSENT. -/
def State.dropParts (s : State) (l : List Nat) : State := l.foldl (fun s n => (s.setPstate n 0).advanceEpoch n false) s

/-- Rings, channels, pages, sessions and cores follow their new owners. -/
def State.moveResources (s : State) (old new : Image) : State :=
  ((((s.applyRings old).applyChannels old new).applyPages old new).applyVideo old new).applyCores old new

/-- R46 step 5 with the owner maps of `img`, from the state after its step 4. -/
def State.applying (s : State) (old img : Image) : State :=
  ((((s.enterImage img (s.freshParts img)).dropParts (s.goneParts img)).scrubChanged old img).moveResources old img).setNypra nypraApplying true

theorem State.endLoads_unchanged (s : State) (old new : Image) :
    Unchanged { wparts := true, b_image := true } s (s.endLoads old new) :=
  (Keep.foldl (Keep.refl s) fun _ _ hu => Keep.ite hu (State.loadEnds_keep hu)).parts

theorem State.dropParts_unchanged (s : State) (l : List Nat) :
    Unchanged { sec := true, b_security := true, b_part := true } s (s.dropParts l) :=
  (Keep.foldl (Keep.refl s) fun _ _ hu => State.advanceEpoch_keep (State.setPstate_keep hu)).parts

theorem State.pstate_dropParts (s : State) (l : List Nat) (k : Nat) : (s.dropParts l).pstate k = if k ∈ l then 0 else s.pstate k :=
  State.pstate_foldl (f := fun u n => (u.setPstate n 0).advanceEpoch n false)
    (fun u n k => (State.pstate_wr (u.setPstate n 0) (f := F.KEY_EPOCH_epoch) _ _ _ k nofun).trans (State.pstate_setPstate u n 0 k)) l s k

theorem State.scrubChanged_unchanged (s : State) (old new : Image) :
    Unchanged { mem := true, badUnits := true, badRecord := true } s (s.scrubChanged old new) :=
  (State.scrubChanged_keep (Keep.refl s)).parts

theorem State.byte_scrubChanged (s : State) (old new : Image) (a : Nat) :
    (s.scrubChanged old new).byte a = if byteOwner old a = byteOwner new a then s.byte a else 0#8 := by
  refine (State.byte_zeroWhere s (fun a => decide (byteOwner old a ≠ byteOwner new a)) a).trans ?_
  by_cases h : byteOwner old a = byteOwner new a <;> simp [h]

/-- What following the new owners may change. -/
def Parts.resources : Parts :=
  { rings := true, links := true, po := true, cv := true, pages := true, video := true, irqs := true, cores := true, b_ring := true,
    b_output := true, b_checkValue := true, b_page := true, b_video := true, b_core := true }

theorem State.moveResources_unchanged (s : State) (old new : Image) : Unchanged Parts.resources s (s.moveResources old new) :=
  (State.applyCores_keep (State.applyVideo_keep (State.applyPages_keep (State.applyChannels_keep (State.applyRings_keep (Keep.refl s)))))).parts

theorem State.mem_goneParts {img : Image} {n : Nat} (hn : n < 16) :
    n ∈ s.goneParts img ↔ s.pstate n = 1 ∧ (img.parts.getD n {}).present = false := by
  simp [State.goneParts, hn]

/-- R46 step 5: what it leaves. -/
theorem State.applying_spec (s : State) (old img : Image) :
    (s.applying old img).nypraState = nypraApplying ∧ (s.applying old img).rd F.NYPRA_STATUS_busy = 1 ∧
    (s.applying old img).struct = { s.struct with image := img, scrubbing := s.freshParts img, scrubbed := false } ∧
    (∀ a, (s.applying old img).byte a = if byteOwner old a = byteOwner img a then s.byte a else 0#8) ∧
    (∀ n, n < 16 → (s.applying old img).pstate n = if s.pstate n = 1 ∧ (img.parts.getD n {}).present = false then 0 else s.pstate n) := by
  have hd := State.dropParts_unchanged (s.enterImage img (s.freshParts img)) (s.goneParts img)
  have hc := State.scrubChanged_unchanged ((s.enterImage img (s.freshParts img)).dropParts (s.goneParts img)) old img
  have hm := State.moveResources_unchanged
    (((s.enterImage img (s.freshParts img)).dropParts (s.goneParts img)).scrubChanged old img) old img
  refine ⟨State.nypraState_setNypra .., State.busy_setNypra .., (hm.struct rfl).trans ((hc.struct rfl).trans (hd.struct rfl)), fun a => ?_,
    fun n hn => ?_⟩
  · refine (State.byte_congr (hm.mem rfl) a).trans ?_
    rw [State.byte_scrubChanged, State.byte_congr (hd.mem rfl)]
    rfl
  · refine (State.pstate_setNypra ..).trans ?_
    rw [hm.pstate rfl, hc.pstate rfl, State.pstate_dropParts]
    exact if_congr (State.mem_goneParts hn) rfl rfl

/-! ## APPLY and its completions -/

theorem exec_apply_of_not_staged (ho : s.isOperator m = true) (hb : s.rd F.NYPRA_STATUS_busy = 0)
    (h : s.struct.staged = none ∨ s.nypraState ≠ nypraStaged) : exec (.apply m) s = .next (s.setB F.NYPRA_EVENT_cmd_rejected) := by
  rw [exec_apply, execApply, State.nypraCommand_of_free ho hb]
  refine congrArg _ ?_
  cases hg : s.struct.staged with
  | none => rfl
  | some g => exact if_pos (h.resolve_left (by rw [hg]; nofun))

theorem exec_apply_of_check (ho : s.isOperator m = true) (hb : s.rd F.NYPRA_STATUS_busy = 0) (hg : s.struct.staged = some g)
    (hs : s.nypraState = nypraStaged) {c t : Nat} (hc : s.applyCheck g.image = some (c, t)) :
    exec (.apply m) s = .next (s.nypraRefuse c t) := by
  rw [exec_apply, execApply, State.nypraCommand_of_free ho hb]
  simp only [hg, hs, hc, ne_eq, not_true, if_false]

theorem exec_apply_of_pass (ho : s.isOperator m = true) (hb : s.rd F.NYPRA_STATUS_busy = 0) (hg : s.struct.staged = some g)
    (hs : s.nypraState = nypraStaged) (hc : s.applyCheck g.image = none) :
    exec (.apply m) s = .next ((s.endLoads s.struct.image g.image).applying s.struct.image
      ((s.endLoads s.struct.image g.image).midImage s.struct.image g.image)) := by
  rw [exec_apply, execApply, State.nypraCommand_of_free ho hb]
  simp only [hg, hs, hc, ne_eq, not_true, if_false]
  rfl

/-- R46 steps 4 and 5. -/
theorem apply_enters_image (ho : s.isOperator m = true) (hb : s.rd F.NYPRA_STATUS_busy = 0) (hg : s.struct.staged = some g)
    (hs : s.nypraState = nypraStaged) (hc : s.applyCheck g.image = none) :
    ∃ t, exec (.apply m) s = .next t ∧ t.nypraState = nypraApplying ∧ t.rd F.NYPRA_STATUS_busy = 1 ∧
      t.struct.staged = some g ∧ t.struct.image.clusters = g.image.clusters ∧ t.struct.image.engines = g.image.engines ∧
      t.struct.image.ddr4 = g.image.ddr4 ∧ t.struct.image.cores = g.image.cores ∧ t.struct.image.vcs = g.image.vcs ∧
      (∀ a, t.byte a = if byteOwner s.struct.image a = byteOwner t.struct.image a then s.byte a else 0#8) ∧
      (∀ n, n < 16 → t.pstate n = if s.pstate n = 1 ∧ (t.part n).present = false then 0 else s.pstate n) := by
  have hu := State.endLoads_unchanged s s.struct.image g.image
  refine ⟨_, exec_apply_of_pass ho hb hg hs hc, ?_⟩
  generalize s.endLoads s.struct.image g.image = u at hu ⊢
  obtain ⟨hst, hbusy, hstruct, hbyte, hpart⟩ := u.applying_spec s.struct.image (u.midImage s.struct.image g.image)
  simp only [State.part, hstruct]
  refine ⟨hst, hbusy, (congrArg Struct.staged (hu.struct rfl)).trans hg, rfl, rfl, rfl, rfl, rfl, fun a => ?_, fun n hn => ?_⟩
  · rw [hbyte, State.byte_congr (hu.mem rfl)]
  · rw [hpart n hn, hu.pstate rfl]

/-- The scrub's end: no partition is left to scrub. -/
def State.scrubEnds (s : State) : State := s.setStruct (fun x => { x with scrubbing := [], scrubbed := true })

theorem exec_applyScrubDone (hs : s.nypraState = nypraApplying) :
    exec .applyScrubDone s = .next (if s.heldBack then s.scrubEnds else s.struct.scrubbing.foldl (fun s n => s.setPstate n 1) s.scrubEnds) :=
  if_neg (not_not_intro hs)

/-- R46 step 5 ends without a hold (R596): partitions newly present are EMPTY. -/
theorem applyScrubDone_empties (hs : s.nypraState = nypraApplying) (hh : s.heldBack = false) :
    ∃ t, exec .applyScrubDone s = .next t ∧ t.struct = { s.struct with scrubbing := [], scrubbed := true } ∧
      ∀ n, n < 16 → t.pstate n = if n ∈ s.struct.scrubbing then 1 else s.pstate n := by
  refine ⟨_, (exec_applyScrubDone hs).trans (by rw [hh]; rfl), ?_,
    fun n _ => State.pstate_foldl (fun u n k => State.pstate_setPstate u n 1 k) _ s.scrubEnds n⟩
  exact (Keep.foldl (W := { b_part := true }) (Keep.refl s.scrubEnds) fun _ _ hu => State.setPstate_keep hu).parts.struct rfl

theorem applyScrubDone_held (hs : s.nypraState = nypraApplying) (hh : s.heldBack = true) :
    exec .applyScrubDone s = .next { s with struct := { s.struct with scrubbing := [], scrubbed := true } } :=
  (exec_applyScrubDone hs).trans (by rw [hh]; rfl)

/-- R46 step 7 in the registers: epoch, id and version. -/
def State.showImage (s : State) (g : StagedImage) : State :=
  let s := s.setStruct (fun x => { x with image := g.image, staged := none, scrubbed := false })
  let s := { s with sec := { s.sec with nypraDigest := sha g.bytes } }
  ((s.incWrap F.NYPRA_STATUS_structure_epoch).wr F.NYPRA_ACTIVE_ID_image_id g.image.imageId).wr F.NYPRA_VERSION_active g.image.version

theorem State.showImage_spec (s : State) (g : StagedImage) :
    (s.showImage g).struct.image = g.image ∧ (s.showImage g).struct.staged = none ∧
    (s.showImage g).rd F.NYPRA_STATUS_structure_epoch = (s.rd F.NYPRA_STATUS_structure_epoch + 1) % 2 ^ 32 ∧
    (s.showImage g).rd F.NYPRA_ACTIVE_ID_image_id = g.image.imageId % 2 ^ 64 ∧
    (s.showImage g).rd F.NYPRA_VERSION_active = g.image.version % 2 ^ 32 ∧ (s.showImage g).sec.nypraDigest = sha g.bytes := by
  refine ⟨rfl, rfl, ?_, (State.rd_wr_ne _ _ _ _ _ _ (by decide)).trans (State.rd_wr_same ..), State.rd_wr_same .., rfl⟩
  exact (State.rd_wr_ne _ _ _ _ _ _ (by decide)).trans ((State.rd_wr_ne _ _ _ _ _ _ (by decide)).trans (State.rd_wr_same ..))

/-- What a change of role and the list of retired clusters may change. -/
def Parts.role : Parts :=
  { bbs := true, fabric := true, out := true, po := true, lease := true, links := true, opc := true, b_output := true, b_redundancy := true,
    b_perf := true }

/-- A holder gives the lease up when the role changes (R43). -/
def State.leaveRole (s : State) (g : StagedImage) : State := if s.struct.image.redun.role ≠ g.image.redun.role then s.giveUpLease else s

/-- The retired list is brought up to date, and the new role sets the lease state afresh (R42, R43). -/
def State.enterRole (s : State) (change : Prop) [Decidable change] : State :=
  if change then s.retireClusters.initLease else s.retireClusters

theorem State.leaveRole_unchanged (s : State) (g : StagedImage) : Unchanged Parts.role s (s.leaveRole g) :=
  (Keep.ite (State.giveUpLease_keep (Keep.refl s)) (Keep.refl s)).parts

theorem State.enterRole_unchanged (s : State) (change : Prop) [Decidable change] : Unchanged Parts.role s (s.enterRole change) :=
  (Keep.ite (State.initLease_keep (State.retireClusters_keep (Keep.refl s))) (State.retireClusters_keep (Keep.refl s))).parts

theorem exec_applyDone (hg : s.struct.staged = some g) (hs : s.nypraState = nypraApplying) (hd : s.struct.scrubbed = true) :
    exec .applyDone s = .next (((((s.leaveRole g).showImage g).enterRole (s.struct.image.redun.role ≠ g.image.redun.role)).setNypra
      nypraIdle false).setB F.NYPRA_EVENT_apply_done) := by
  show execApplyDone s = _
  simp only [execApplyDone, hg, hs, hd, ne_eq, not_true, Bool.not_true, Bool.false_eq_true, or_self, if_false]
  rfl

/-- R46 steps 6 and 7. -/
theorem applyDone_shows_image (hg : s.struct.staged = some g) (hs : s.nypraState = nypraApplying) (hd : s.struct.scrubbed = true) :
    ∃ t, exec .applyDone s = .next t ∧ t.struct.image = g.image ∧ t.struct.staged = none ∧ t.nypraState = nypraIdle ∧
      t.rd F.NYPRA_STATUS_busy = 0 ∧ t.rd F.NYPRA_STATUS_structure_epoch = (s.rd F.NYPRA_STATUS_structure_epoch + 1) % 2 ^ 32 ∧
      t.rd F.NYPRA_ACTIVE_ID_image_id = g.image.imageId % 2 ^ 64 ∧ t.rd F.NYPRA_VERSION_active = g.image.version % 2 ^ 32 ∧
      t.rd F.NYPRA_EVENT_apply_done = 1 ∧ t.sec.nypraDigest = sha g.bytes := by
  refine ⟨_, exec_applyDone hg hs hd, ?_⟩
  have hl := State.leaveRole_unchanged s g
  have hr := State.enterRole_unchanged ((s.leaveRole g).showImage g) (s.struct.image.redun.role ≠ g.image.redun.role)
  obtain ⟨himg, hstaged, hepoch, hid, hver, hdig⟩ := (s.leaveRole g).showImage_spec g
  rw [hl.regs _ _ _ rfl] at hepoch
  generalize ((s.leaveRole g).showImage g).enterRole (s.struct.image.redun.role ≠ g.image.redun.role) = u at hr ⊢
  obtain ⟨hidle, hbusy, hdone⟩ := u.setNypra_event_spec nypraIdle (f := F.NYPRA_EVENT_apply_done) rfl rfl
  have hreg : ∀ {f : Fld}, f.reg.block = .nypra → (f.reg ≠ .NYPRA_EVENT ∧ (f.reg ≠ .NYPRA_STATUS ∨ (f.lo ≠ 0 ∧ f.lo ≠ 4))) →
      ((u.setNypra nypraIdle false).setB F.NYPRA_EVENT_apply_done).rd f = ((s.leaveRole g).showImage g).rd f := fun hb ⟨he, hf⟩ =>
    (State.rd_wr_ne _ _ _ _ _ _ (.inl he)).trans ((State.rd_setNypra_other _ _ _ _ _ hf).trans (hr.regs _ _ _ (by rw [hb]; rfl)))
  exact ⟨(congrArg Struct.image (hr.struct rfl)).trans himg, (congrArg Struct.staged (hr.struct rfl)).trans hstaged, hidle, hbusy,
    (hreg rfl (by decide)).trans hepoch, (hreg rfl (by decide)).trans hid, (hreg rfl (by decide)).trans hver, hdone,
    (congrArg Security.nypraDigest (hr.sec rfl)).trans hdig⟩

/-- Settles O33: the lemmas of the loader's commands and of their completions, one for each clause. -/
theorem nypraVerifyAndApply : Obligations.NypraVerifyAndApply := by
  unfold Obligations.NypraVerifyAndApply
  refine ⟨fun m n s ho hb => exec_loader_of_busy n ho hb, fun m a len s ho hb ha hl => ⟨fun hd hu => ?_, fun hd => ?_⟩,
    fun g s hg hv => ⟨fun c t hc => ?_, fun hc => ?_⟩,
    fun m s ho hb => ⟨?_, exec_apply_of_not_staged ho hb,
      fun g hg hs => ⟨fun c t => exec_apply_of_check ho hb hg hs, apply_enters_image ho hb hg hs⟩, commitVersion_raises_floor ho hb⟩,
    fun s hs => ⟨applyScrubDone_empties hs, applyScrubDone_held hs⟩, fun g s => applyDone_shows_image⟩
  · exact ⟨_, exec_verify_of_readable ho hb ha hl hd hu, s.verifying_spec _⟩
  · obtain ⟨hst, hbusy, -, hstruct⟩ := s.verifying_spec { bytes := [], len := len, readOk := false }
    exact ⟨_, exec_verify_of_not_owned ho hb ha hl hd, hst, hbusy, hstruct⟩
  · exact ⟨_, exec_verifyDone_of_check hg hv hc, s.nypraRefuse_spec c t⟩
  · obtain ⟨hst, hbusy, hdone⟩ := State.setNypra_event_spec
      (s.setStruct fun x => { x with staged := some { g with image := nypraImage g.bytes } }) nypraStaged (f := F.NYPRA_EVENT_verify_done) rfl rfl
    exact ⟨_, exec_verifyDone_of_pass hg hv hc, hst, hbusy, hdone, rfl⟩
  · exact ⟨_, exec_discard_of_free ho hb, State.nypraState_setNypra .., rfl⟩

end Sys2Proof.Machine
end

section
/-! The removal of a partition (R49): fence, drain, scrub. Each command is the composition of the stages named here, each with its frame. -/

namespace Sys2Proof.Machine

-- One proof at a time: the package is compiled as one text under a memory limit.
set_option Elab.async false

variable {s : State} {x : Removal}

/-! ## The stages of REMOVE -/

/-- R49 step 1: loader commands, the step, the launches and the tests of Pn end. -/
def State.endWork (s : State) (n : Nat) : State := (((s.loadEnds n 0 0x0602).discardStep n).stopClusters n).abortTests n

/-- Pn is REMOVING, in the loader and in its own status. -/
def State.fence (s : State) (n : Nat) : State := (s.setPstate n 3).wr F.WIMG_STATUS_run_state 3 n

/-- R49 step 1: rings, service cores, sessions and check-value scans of Pn stop. -/
def State.fenceUnits (s : State) (n : Nat) : State :=
  (List.range 64).foldl (fun s k =>
    if s.cvOwner k = n && ((s.cvChan k).scan).isSome then
      (s.wr F.CV_STAT_scan_busy 0 k).setCv k { s.cvChan k with scan := none } else s) (((s.fenceRings n).resetCores n).fenceVideo n)

/-- R49 step 2: the consent of Pn ends, its key epoch advances and its link keys become tombstones. -/
def State.revoke (s : State) (n : Nat) : State := (s.endConsent n).advanceEpoch n true

/-- R49 step 3: entries in flight on the rings of Pn are dropped. -/
def State.flush (s : State) (n : Nat) : State := (s.liveRings n).foldl (fun s r => s.dropFlights r) s

/-- The work of Pn in flight: transfers of its rings, and link cells not yet acknowledged. -/
def State.inflightOf (s : State) (n : Nat) : Nat :=
  ((s.liveRings n).map (fun r => ((s.ring r).flights.filter (fun f => f.stage = .moving)).length)).sum + s.otherInflight n

/-- The loader shows the removal and sets its deadline. -/
def State.showRemoval (s : State) (n inflight back : Nat) : State :=
  let s := (((s.wr F.PART_REMOVE_channels_reset 0).wr F.PART_REMOVE_auth_discards 0).wr F.PART_REMOVE_inflight inflight).wr
    F.PART_REMOVE_partition n
  (s.setStruct (fun y => { y with removal := some { part := n, back := back, deadline := s.clk + 2000000 } })).setNypra nypraRemoving true

/-- What ending Pn's work may change. -/
def Parts.work : Parts :=
  { wparts := true, bbs := true, out := true, po := true, faults := true, pages := true, serve := true, slots := true, fabric := true,
    stk := true, dbg := true, opc := true, b_image := true, b_page := true, b_output := true, b_fault := true, b_amber := true,
    b_perf := true }

theorem State.endWork_unchanged (s : State) (n : Nat) : Unchanged Parts.work s (s.endWork n) :=
  (State.abortTests_keep (State.stopClusters_keep (State.discardStep_keep (State.loadEnds_keep (Keep.refl s))))).parts

theorem State.stopClusters_runs (s : State) (n : Nat) : ∀ e ∈ (s.stopClusters n).fabric.runs, e.2.part ≠ n :=
  fun _ he => of_decide_eq_true (List.mem_filter.mp he).2

/-- No launch of Pn outlasts its work. -/
theorem State.endWork_runs (s : State) (n : Nat) : ∀ e ∈ (s.endWork n).fabric.runs, e.2.part ≠ n :=
  State.stopClusters_runs ((s.loadEnds n 0 0x0602).discardStep n) n

theorem State.pstate_fence (s : State) (n k : Nat) : (s.fence n).pstate k = if k = n then 3 else s.pstate k :=
  (State.pstate_wr _ _ _ _ _ (by decide)).trans (State.pstate_setPstate s n 3 k)

theorem State.fenceUnits_unchanged (s : State) (n : Nat) :
    Unchanged { rings := true, irqs := true, cores := true, video := true, cv := true, b_ring := true, b_core := true, b_video := true,
                b_checkValue := true } s (s.fenceUnits n) :=
  (Keep.foldl (State.fenceVideo_keep (State.resetCores_keep (State.fenceRings_keep (Keep.refl s)))) fun _ _ hu =>
    Keep.ite (State.setCv_keep (State.wr_keep hu rfl)) hu).parts

theorem State.revoke_unchanged (s : State) (n : Nat) :
    Unchanged { sec := true, dbg := true, b_security := true, b_core := true } s (s.revoke n) :=
  (State.advanceEpoch_keep (State.endConsent_keep (Keep.refl s))).parts

/-- R438: the end of a consent leaves the key epochs. -/
theorem State.rd_endConsent_epoch (s : State) (n i : Nat) :
    (s.endConsent n).rd F.KEY_EPOCH_epoch i = s.rd F.KEY_EPOCH_epoch i := by
  have hd : Keep { dbg := true, b_core := true } s (if s.rdB F.CONSENT_STATE_active n then s.debugDetach n else s) :=
    Keep.ite (State.debugDetach_keep (Keep.refl s)) (Keep.refl s)
  refine Eq.trans ?_ (hd.parts.regs _ _ _ rfl)
  simp (disch := decide) only [State.endConsent, State.newNonce, State.random, State.rd_wr_ne, State.rd_mk]

/-- R429: the epoch is one more. -/
theorem State.rd_revoke_epoch (s : State) (n : Nat) :
    (s.revoke n).rd F.KEY_EPOCH_epoch n = (s.rd F.KEY_EPOCH_epoch n + 1) % 2 ^ 32 := by
  rw [← State.rd_endConsent_epoch s n n]
  exact State.rd_wr_same ..

/-- R432: the link keys of Pn are tombstones. -/
theorem State.revoke_linkKeys (s : State) (n : Nat) : ∀ k ∈ (s.revoke n).sec.linkKeys, k.part = n → k.tomb = true ∧ k.secret = [] := by
  intro k hk hp
  obtain ⟨j, -, rfl⟩ := List.mem_map.mp hk
  by_cases hj : j.part = n
  · simp only [hj, if_true, and_self]
  · simp only [hj, if_false] at hp

theorem State.flush_unchanged (s : State) (n : Nat) :
    Unchanged { rings := true, links := true, b_ring := true } s (s.flush n) :=
  (Keep.foldl (Keep.refl s) fun _ _ hu => State.dropFlights_keep hu).parts

theorem State.pstate_showRemoval (s : State) (n i b k : Nat) : (s.showRemoval n i b).pstate k = s.pstate k := by
  refine (State.pstate_setNypra ..).trans ?_
  exact (State.pstate_wr _ _ _ _ _ (by decide)).trans ((State.pstate_wr _ _ _ _ _ (by decide)).trans
    ((State.pstate_wr _ _ _ _ _ (by decide)).trans (State.pstate_wr _ _ _ _ _ (by decide))))

theorem State.showRemoval_unchanged (s : State) (n i b : Nat) :
    Unchanged { struct := true, b_nypra := true, b_part := true } s (s.showRemoval n i b) :=
  (State.setNypra_keep (State.setStruct_keep (State.wr_keep (State.wr_keep (State.wr_keep (State.wr_keep (Keep.refl s) rfl) rfl) rfl) rfl))).parts

theorem State.showRemoval_spec (s : State) (n i b : Nat) :
    (s.showRemoval n i b).nypraState = nypraRemoving ∧ (s.showRemoval n i b).rd F.NYPRA_STATUS_busy = 1 ∧
    (s.showRemoval n i b).rd F.PART_REMOVE_partition = n % 16 ∧ (s.showRemoval n i b).rd F.PART_REMOVE_channels_reset = 0 ∧
    (s.showRemoval n i b).rd F.PART_REMOVE_auth_discards = 0 ∧
    (s.showRemoval n i b).struct = { s.struct with removal := some { part := n, back := b, deadline := s.clk + 2000000 } } := by
  refine ⟨State.nypraState_setNypra .., State.busy_setNypra .., ?_, ?_, ?_, rfl⟩
  all_goals refine (State.rd_setNypra_other _ _ _ _ _ (by decide)).trans ?_
  · exact State.rd_wr_same ..
  · exact (State.rd_wr_ne _ _ _ _ _ _ (by decide)).trans ((State.rd_wr_ne _ _ _ _ _ _ (by decide)).trans
      ((State.rd_wr_ne _ _ _ _ _ _ (by decide)).trans (State.rd_wr_same ..)))
  · exact (State.rd_wr_ne _ _ _ _ _ _ (by decide)).trans ((State.rd_wr_ne _ _ _ _ _ _ (by decide)).trans (State.rd_wr_same ..))

/-! ## REMOVE -/

theorem exec_remove_of_absent {m : Master} {n : PartId} (ho : s.isOperator m = true) (hb : s.rd F.NYPRA_STATUS_busy = 0)
    (h : n.val = 0 ∨ s.pstate n.val = 0) : exec (.remove m n) s = .next (s.setB F.NYPRA_EVENT_cmd_rejected) := by
  rw [exec_remove, execRemove, State.nypraCommand_of_free ho hb]
  exact congrArg _ (if_pos h)

theorem exec_remove_of_present {m : Master} {n : PartId} (ho : s.isOperator m = true) (hb : s.rd F.NYPRA_STATUS_busy = 0)
    (h0 : n.val ≠ 0) (h : s.pstate n.val ≠ 0) :
    exec (.remove m n) s = .next ((((((s.endWork n).fence n).fenceUnits n).revoke n).flush n).showRemoval n
      ((s.loadEnds n 0 0x0602).inflightOf n) s.nypraState) := by
  rw [exec_remove, execRemove, State.nypraCommand_of_free ho hb]
  exact congrArg Host.Outcome.next (if_neg (not_or.mpr ⟨h0, h⟩))

/-- R49 steps 1 to 3. -/
theorem remove_fences {m : Master} {n : PartId} (ho : s.isOperator m = true) (hb : s.rd F.NYPRA_STATUS_busy = 0)
    (h0 : n.val ≠ 0) (h : s.pstate n.val ≠ 0) :
    ∃ t, exec (.remove m n) s = .next t ∧ t.nypraState = nypraRemoving ∧ t.rd F.NYPRA_STATUS_busy = 1 ∧
      (∀ k, t.pstate k = if k = n.val then 3 else s.pstate k) ∧ t.rd F.WIMG_STATUS_run_state n.val = 3 ∧
      t.rd F.PART_REMOVE_partition = n.val ∧ t.rd F.PART_REMOVE_channels_reset = 0 ∧ t.rd F.PART_REMOVE_auth_discards = 0 ∧
      t.struct = { s.struct with removal := some { part := n.val, back := s.nypraState, deadline := s.clk + 2000000 } } ∧
      t.rd F.KEY_EPOCH_epoch n.val = (s.rd F.KEY_EPOCH_epoch n.val + 1) % 2 ^ 32 ∧
      (∀ k ∈ t.sec.linkKeys, k.part = n.val → k.tomb = true ∧ k.secret = []) ∧ (∀ e ∈ t.fabric.runs, e.2.part ≠ n.val) ∧
      t.mem = s.mem := by
  refine ⟨_, exec_remove_of_present ho hb h0 h, ?_⟩
  have hw := State.endWork_unchanged s n
  have hu := State.fenceUnits_unchanged ((s.endWork n).fence n) n
  have hr := State.revoke_unchanged (((s.endWork n).fence n).fenceUnits n) n
  have hf := State.flush_unchanged ((((s.endWork n).fence n).fenceUnits n).revoke n) n
  have hs := (((((s.endWork n).fence n).fenceUnits n).revoke n).flush n).showRemoval_unchanged n
    ((s.loadEnds n 0 0x0602).inflightOf n) s.nypraState
  obtain ⟨hst, hbusy, hpart, hreset, hauth, hstruct⟩ := (((((s.endWork n).fence n).fenceUnits n).revoke n).flush n).showRemoval_spec n
    ((s.loadEnds n 0 0x0602).inflightOf n) s.nypraState
  refine ⟨hst, hbusy, fun k => ?_, ?_, hpart.trans (Nat.mod_eq_of_lt n.isLt), hreset, hauth, hstruct.trans ?_, ?_, fun k hk => ?_,
    fun e he => ?_, ?_⟩
  · rw [State.pstate_showRemoval, hf.pstate rfl, hr.pstate rfl, hu.pstate rfl, State.pstate_fence, hw.pstate rfl]
  · rw [hs.regs _ _ _ rfl, hf.regs _ _ _ rfl, hr.regs _ _ _ rfl, hu.regs _ _ _ rfl]
    exact State.rd_wr_same ..
  · have hclk : ((s.endWork n).fence n).clk = s.clk := hw.clk rfl
    have hstr : ((s.endWork n).fence n).struct = s.struct := hw.struct rfl
    rw [hf.clk rfl, hr.clk rfl, hu.clk rfl, hclk, hf.struct rfl, hr.struct rfl, hu.struct rfl, hstr]
  · have hfence : ((s.endWork n).fence n).rd F.KEY_EPOCH_epoch n = (s.endWork n).rd F.KEY_EPOCH_epoch n :=
      (State.rd_wr_ne _ _ _ _ _ _ (by decide)).trans (State.rd_setPstate _ _ _ _ _ (by decide))
    rw [hs.regs _ _ _ rfl, hf.regs _ _ _ rfl, State.rd_revoke_epoch, hu.regs _ _ _ rfl, hfence, hw.regs _ _ _ rfl]
  · rw [hs.sec rfl, hf.sec rfl] at hk
    exact State.revoke_linkKeys _ _ k hk
  · have hfence : ((s.endWork n).fence n).fabric = (s.endWork n).fabric := rfl
    rw [hs.fabric rfl, hf.fabric rfl, hr.fabric rfl, hu.fabric rfl, hfence] at he
    exact State.endWork_runs s n e he
  · have hfence : ((s.endWork n).fence n).mem = (s.endWork n).mem := rfl
    rw [hs.mem rfl, hf.mem rfl, hr.mem rfl, hu.mem rfl, hfence, hw.mem rfl]

/-! ## The drain -/

/-- The drain ends: nothing of the partition is in flight, and it is SCRUBBING. -/
theorem State.beginScrub_spec (s : State) (x : Removal) :
    (∀ k, (s.beginScrub x).pstate k = if k = x.part then 4 else s.pstate k) ∧
    (∀ g : Fld, g.reg ≠ .PART_STATE → (s.beginScrub x).rd g = s.rd g) ∧
    (s.beginScrub x).struct = { s.struct with removal := some { x with scrubbing := true } } ∧ (s.beginScrub x).clk = s.clk :=
  ⟨State.pstate_setPstate s x.part 4, fun _ hg => State.rd_setPstate s x.part 4 0 0 hg, rfl, rfl⟩

theorem exec_removalDrainDone (hx : s.struct.removal = some x) (hs : x.scrubbing = false) :
    exec .removalDrainDone s = .next ((s.wr F.PART_REMOVE_inflight 0).beginScrub x) := by
  show execRemovalDrainDone s = _
  simp only [execRemovalDrainDone, hx, hs, Bool.false_eq_true, if_false]

/-- R49 step 4. -/
theorem removalDrainDone_scrubs (hx : s.struct.removal = some x) (hs : x.scrubbing = false) :
    ∃ t, exec .removalDrainDone s = .next t ∧ (∀ k, t.pstate k = if k = x.part then 4 else s.pstate k) ∧
      t.rd F.PART_REMOVE_inflight = 0 ∧ t.struct = { s.struct with removal := some { x with scrubbing := true } } := by
  obtain ⟨hp, hrd, hstruct, -⟩ := (s.wr F.PART_REMOVE_inflight 0).beginScrub_spec x
  refine ⟨_, exec_removalDrainDone hx hs, fun k => (hp k).trans ?_, (hrd _ (by decide)).trans (State.rd_wr_same ..), hstruct⟩
  rw [State.pstate_wr _ _ _ _ _ (by decide)]

/-- The link VCs of the partition are reset at the deadline. -/
def State.cutLinks (s : State) (x : Removal) : State := ((s.advanceTo x.deadline).retireInflight x.part).1

/-- The resets are counted, nothing is in flight any more, and the timeout is shown. -/
def State.showTimeout (s : State) (resets : Nat) : State :=
  ((s.wr F.PART_REMOVE_channels_reset resets).wr F.PART_REMOVE_inflight 0).setB F.NYPRA_EVENT_removal_timeout

theorem State.cutLinks_unchanged (s : State) (x : Removal) :
    Unchanged { Parts.pass with out := true, links := true } s (s.cutLinks x) :=
  (State.retireInflight_keep (State.advanceTo_keep (Keep.refl s))).parts

theorem State.cutLinks_clk (s : State) (x : Removal) : (s.cutLinks x).clk = max s.clk x.deadline :=
  ((State.retireInflight_keep (W := { out := true, links := true }) (Keep.refl _)).parts.clk rfl).trans (State.advanceTo_clk s x.deadline)

theorem exec_removalTimeout_of_inflight (hx : s.struct.removal = some x) (hs : x.scrubbing = false) (hi : s.rd F.PART_REMOVE_inflight ≠ 0) :
    ∃ resets, exec .removalTimeout s = .next ((((s.cutLinks x).showTimeout resets).event Src.removal 1).beginScrub x) := by
  refine ⟨min 255 (min 48 ((s.advanceTo x.deadline).rd F.PART_REMOVE_inflight - (s.advanceTo x.deadline).otherInflight x.part) +
    ((s.advanceTo x.deadline).retireInflight x.part).2), ?_⟩
  show execRemovalTimeout s = _
  simp only [execRemovalTimeout, hx, hs, hi, Bool.false_eq_true, or_self, if_false]
  rfl

theorem exec_removalTimeout_of_drained (hx : s.struct.removal = some x) (hi : s.rd F.PART_REMOVE_inflight = 0) :
    exec .removalTimeout s = .next s := by
  show execRemovalTimeout s = _
  simp only [execRemovalTimeout, hx, hi, or_true, if_true]

/-- R49 step 5. -/
theorem removalTimeout_scrubs (hx : s.struct.removal = some x) (hs : x.scrubbing = false) (hi : s.rd F.PART_REMOVE_inflight ≠ 0) :
    ∃ t, exec .removalTimeout s = .next t ∧ (∀ k, t.pstate k = if k = x.part then 4 else s.pstate k) ∧ t.rd F.PART_REMOVE_inflight = 0 ∧
      t.struct = { s.struct with removal := some { x with scrubbing := true } } ∧ t.rd F.NYPRA_EVENT_removal_timeout = 1 ∧
      t.clk = max s.clk x.deadline := by
  obtain ⟨resets, hexec⟩ := exec_removalTimeout_of_inflight hx hs hi
  have hc := s.cutLinks_unchanged x
  have he : Unchanged Parts.event ((s.cutLinks x).showTimeout resets) (((s.cutLinks x).showTimeout resets).event Src.removal 1) :=
    (State.event_keep (Keep.refl _)).parts
  obtain ⟨hp, hrd, hstruct, hclk⟩ := (((s.cutLinks x).showTimeout resets).event Src.removal 1).beginScrub_spec x
  refine ⟨_, hexec, fun k => (hp k).trans ?_, ?_, hstruct.trans ?_, ?_, hclk.trans ((he.clk rfl).trans (s.cutLinks_clk x))⟩
  · have hshow : ((s.cutLinks x).showTimeout resets).pstate k = (s.cutLinks x).pstate k :=
      (State.pstate_wr _ _ _ _ _ (by decide)).trans ((State.pstate_wr _ _ _ _ _ (by decide)).trans (State.pstate_wr _ _ _ _ _ (by decide)))
    rw [he.pstate rfl, hshow, hc.pstate rfl]
  · rw [hrd _ (by decide), he.regs _ _ _ rfl]
    exact (State.rd_wr_ne _ _ _ _ _ _ (by decide)).trans (State.rd_wr_same ..)
  · have hshow : ((s.cutLinks x).showTimeout resets).struct = (s.cutLinks x).struct := rfl
    rw [he.struct rfl, hshow, hc.struct rfl]
  · rw [hrd _ (by decide), he.regs _ _ _ rfl]
    exact State.rd_wr_same ..

/-! ## The scrub -/

/-- R49 step 6: every byte of Pn is zero, and no unit of it stays uncorrectable. -/
def State.zeroPart (s : State) (n : Nat) : State :=
  let img := s.struct.image
  let mine := fun a => byteOwner img a = n
  let s := s.zeroWhere mine
  let other := fun u => ! mine (ddr (u * 256))
  { s with badUnits := s.badUnits.filter other, badRecord := s.badRecord.filter other }

/-- R49 step 6: pages, slots, sessions and rings of Pn are free. -/
def State.freeBlocks (s : State) (n : Nat) : State :=
  let s := (s.clearServing n).clearVideo n
  (s.ringsOf n).foldl (fun s r => if s.ring r = {} then s.wr F.RING_STATE_state 0 r else (s.disableRing r).setRing r {}) s

/-- R49 step 7: the tombstones and the image of Pn are gone. -/
def State.forgetImage (s : State) (n : Nat) : State :=
  (((s.dropTombs n).setWpart n {}).wr F.WIMG_STATUS_run_state 0 n).wr F.WIMG_ACTIVE_ID_image_id 0 n

/-- The stop causes, reruns and counters of Pn are cleared. -/
def State.clearCounts (s : State) (n : Nat) : State :=
  let s := s.setCauses (Src.stop n) []
  { s with reruns := Tab.set {} s.reruns n {} }.clearPerf n

/-- R49 step 7: Pn is EMPTY and the loader is back in the state before the removal. -/
def State.endRemoval (s : State) (x : Removal) : State :=
  (((s.setPstate x.part 1).setStruct (fun y => { y with removal := none })).setNypra x.back false).setB F.NYPRA_EVENT_removal_done

theorem State.byte_zeroPart (s : State) (n a : Nat) :
    (s.zeroPart n).byte a = if byteOwner s.struct.image a = n then 0#8 else s.byte a := by
  refine (State.byte_zeroWhere s (fun a => decide (byteOwner s.struct.image a = n)) a).trans ?_
  simp only [decide_eq_true_eq]

theorem State.zeroPart_unchanged (s : State) (n : Nat) : Unchanged { mem := true, badUnits := true, badRecord := true } s (s.zeroPart n) :=
  (Keep.upd_badUnits_badRecord (h := State.zeroWhere_keep (Keep.refl s))).parts

theorem State.freeBlocks_unchanged (s : State) (n : Nat) :
    Unchanged { pages := true, serve := true, slots := true, video := true, rings := true, links := true, b_page := true, b_video := true,
                b_ring := true } s (s.freeBlocks n) :=
  (Keep.foldl (State.clearVideo_keep (State.clearServing_keep (Keep.refl s))) fun _ _ hu =>
    Keep.ite (State.wr_keep hu rfl) (State.setRing_keep (State.disableRing_keep hu))).parts

theorem State.forgetImage_unchanged (s : State) (n : Nat) : Unchanged { sec := true, wparts := true, b_image := true } s (s.forgetImage n) :=
  (State.wr_keep (State.wr_keep (State.setWpart_keep (State.dropTombs_keep (Keep.refl s))) rfl) rfl).parts

/-- R432: no tombstone of Pn is left. -/
theorem State.forgetImage_linkKeys (s : State) (n : Nat) : ∀ k ∈ (s.forgetImage n).sec.linkKeys, ¬ (k.part = n ∧ k.tomb = true) := by
  intro k hk ⟨hp, ht⟩
  have hkept := (List.mem_filter.mp hk).2
  simp [hp, ht] at hkept

theorem State.clearCounts_unchanged (s : State) (n : Nat) :
    Unchanged { faults := true, reruns := true, perf := true, b_fault := true, b_perf := true } s (s.clearCounts n) :=
  (State.clearPerf_keep (Keep.upd_reruns (h := State.setCauses_keep (Keep.refl s)))).parts

theorem State.endRemoval_unchanged (s : State) (x : Removal) :
    Unchanged { struct := true, b_nypra := true, b_part := true } s (s.endRemoval x) :=
  (State.setB_keep (State.setNypra_keep (State.setStruct_keep (State.setPstate_keep (Keep.refl s)))) rfl).parts

theorem State.endRemoval_spec (s : State) (x : Removal) :
    (s.endRemoval x).nypraState = x.back % 16 ∧ (s.endRemoval x).rd F.NYPRA_STATUS_busy = 0 ∧
    (s.endRemoval x).rd F.NYPRA_EVENT_removal_done = 1 ∧ (s.endRemoval x).struct = { s.struct with removal := none } := by
  obtain ⟨hst, hbusy, hdone⟩ := State.setNypra_event_spec ((s.setPstate x.part 1).setStruct (fun y => { y with removal := none })) x.back
    (f := F.NYPRA_EVENT_removal_done) rfl rfl
  exact ⟨hst, hbusy, hdone, rfl⟩

theorem State.pstate_endRemoval (s : State) (x : Removal) (k : Nat) :
    (s.endRemoval x).pstate k = if k = x.part then 1 else s.pstate k :=
  (State.pstate_wr _ _ _ _ _ (by decide)).trans ((State.pstate_setNypra ..).trans (State.pstate_setPstate s x.part 1 k))

theorem exec_removalScrubDone (hx : s.struct.removal = some x) (hs : x.scrubbing = true) :
    exec .removalScrubDone s = .next (((((s.zeroPart x.part).freeBlocks x.part).forgetImage x.part).clearCounts x.part).endRemoval x) := by
  show execRemovalScrubDone s = _
  simp only [execRemovalScrubDone, hx, hs, Bool.not_true, Bool.false_eq_true, if_false]
  rfl

/-- R49 steps 6 and 7. -/
theorem removalScrubDone_empties (hx : s.struct.removal = some x) (hs : x.scrubbing = true) (hb : x.back < 16) :
    ∃ t, exec .removalScrubDone s = .next t ∧ (∀ k, t.pstate k = if k = x.part then 1 else s.pstate k) ∧
      t.struct = { s.struct with removal := none } ∧ t.nypraState = x.back ∧ t.rd F.NYPRA_STATUS_busy = 0 ∧
      t.rd F.NYPRA_EVENT_removal_done = 1 ∧ (∀ a, t.byte a = if byteOwner s.struct.image a = x.part then 0#8 else s.byte a) ∧
      (∀ k ∈ t.sec.linkKeys, ¬ (k.part = x.part ∧ k.tomb = true)) ∧ t.rd F.WIMG_ACTIVE_ID_image_id x.part = 0 ∧
      t.rd F.WIMG_STATUS_run_state x.part = 0 := by
  refine ⟨_, exec_removalScrubDone hx hs, ?_⟩
  have hz := s.zeroPart_unchanged x.part
  have hf := (s.zeroPart x.part).freeBlocks_unchanged x.part
  have hi := ((s.zeroPart x.part).freeBlocks x.part).forgetImage_unchanged x.part
  have hc := (((s.zeroPart x.part).freeBlocks x.part).forgetImage x.part).clearCounts_unchanged x.part
  have he := ((((s.zeroPart x.part).freeBlocks x.part).forgetImage x.part).clearCounts x.part).endRemoval_unchanged x
  obtain ⟨hst, hbusy, hdone, hstruct⟩ := ((((s.zeroPart x.part).freeBlocks x.part).forgetImage x.part).clearCounts x.part).endRemoval_spec x
  refine ⟨fun k => ?_, hstruct.trans ?_, hst.trans (Nat.mod_eq_of_lt hb), hbusy, hdone, fun a => ?_, fun k hk => ?_, ?_, ?_⟩
  · rw [State.pstate_endRemoval, hc.pstate rfl, hi.pstate rfl, hf.pstate rfl, hz.pstate rfl]
  · rw [hc.struct rfl, hi.struct rfl, hf.struct rfl, hz.struct rfl]
  · rw [← State.byte_zeroPart]
    exact State.byte_congr ((he.mem rfl).trans ((hc.mem rfl).trans ((hi.mem rfl).trans (hf.mem rfl)))) a
  · rw [he.sec rfl, hc.sec rfl] at hk
    exact State.forgetImage_linkKeys _ _ k hk
  · rw [he.regs _ _ _ rfl, hc.regs _ _ _ rfl]
    exact State.rd_wr_same ..
  · rw [he.regs _ _ _ rfl, hc.regs _ _ _ rfl]
    exact (State.rd_wr_ne _ _ _ _ _ _ (by decide)).trans (State.rd_wr_same ..)

/-- Settles O34: REMOVE, the end of its drain, its timeout and the end of its scrub, one lemma each. -/
theorem nypraRemoval : Obligations.NypraRemoval := by
  unfold Obligations.NypraRemoval
  exact ⟨fun m n s ho hb => ⟨exec_remove_of_absent ho hb, remove_fences ho hb⟩,
    fun x s hx hs => ⟨removalDrainDone_scrubs hx hs, removalTimeout_scrubs hx hs, exec_removalTimeout_of_drained hx⟩,
    fun x s => removalScrubDone_empties⟩

end Sys2Proof.Machine
end

section
/-! Reads of launches, stream queues, session state and bytes through the operations that the commands of tiles are made of (04). -/

namespace Sys2Proof.Machine

-- One proof at a time: the package is compiled as one text under a memory limit.
set_option Elab.async false

variable {W : Parts} {s t : State}

/-! ## Registers, launches, queues and sessions -/

/-- A saturating counter reads its raised value. -/
theorem State.rd_inc_same (s : State) (f : Fld) (i j n : Nat) : (s.inc f i j n).rd f i j = min (s.rd f i j + n) (2 ^ f.width - 1) :=
  (State.rd_inc ..).trans (if_pos ⟨rfl, rfl, rfl, rfl⟩)

theorem Unchanged.run (h : Unchanged W s t) (hW : W.fabric = false) (k : Nat) : t.run k = s.run k := State.run_of_fabric (h.fabric hW) k

theorem State.queue_of_fabric (h : t.fabric = s.fabric) (k q : Nat) : t.queue k q = s.queue k q := by unfold State.queue; rw [h]

theorem State.queue_setQueue (s : State) (t : Nat) {q k j : Nat} (l : List StreamCmd) (hq : q < 4) (hj : j < 4) :
    (s.setQueue t q l).queue k j = if k = t ∧ j = q then l else s.queue k j :=
  (Tab.get_set [] s.fabric.queues (4 * t + q) (4 * k + j) l).trans (if_congr (by omega) rfl rfl)

theorem State.srv_updSrv (s : State) (n m : Nat) (f : Serve → Serve) : (s.updSrv n f).srv m = if m = n then f (s.srv n) else s.srv m :=
  Tab.get_set ..

/-- An element is in a list to which it was added unless it was there. -/
theorem mem_append_unless {α : Type} [BEq α] [LawfulBEq α] (l : List α) (x : α) : x ∈ if l.contains x then l else l ++ [x] := by
  split
  · next h => exact List.contains_iff_mem.mp h
  · exact List.mem_append_right _ (List.mem_singleton_self x)

/-- A cluster that failed in service. -/
def State.markFailed (s : State) (c : Nat) : State :=
  s.setFabric (fun f => { f with failed := if f.failed.contains c then f.failed else f.failed ++ [c] })

theorem State.mem_markFailed (s : State) (c : Nat) : c ∈ (s.markFailed c).fabric.failed := mem_append_unless s.fabric.failed c

/-! ## Bytes of a tile store -/

/-- Bytes stored from an address on, and every other byte. -/
theorem State.byte_putBytes (s : State) (p : Nat) (b : List Byte) :
    (∀ a, (∀ k, k < b.length → p + k ≠ a) → (s.putBytes p b).byte a = s.byte a) ∧
    (∀ k, (hk : k < b.length) → (s.putBytes p b).byte (p + k) = b[k]) := by
  obtain ⟨hother, hsame⟩ := get_foldl_cells (fun k => p + k) b 0 s.mem
  simp only [Nat.zero_add] at hother hsame
  exact ⟨hother, fun k hk => hsame k hk fun j hj _ => by omega⟩

theorem tileAddr_add (v off k : Nat) : tileAddr v (off + k) = tileAddr v off + k := (Nat.add_assoc ..).symm

/-- The stores of two tiles do not meet. -/
theorem tileAddr_inj {v w off a b : Nat} (ha : off + a < 2 ^ 48) (hb : off + b < 2 ^ 48) (h : tileAddr v off + a = tileAddr w off + b) :
    v = w := by
  unfold tileAddr at h; omega

/-- The same bytes written at one offset of each tile store of a list. -/
theorem State.byte_foldl_tiles {f : State → Nat → State} {off : Nat} {b : List Byte} (hb : off + b.length ≤ 2 ^ 48)
    (hf : ∀ u v, (f u v).mem = (u.putBytes (tileAddr v off) b).mem) (l : List Nat) (s : State) :
    (∀ v ∈ l, ∀ k, (hk : k < b.length) → (l.foldl f s).byte (tileAddr v off + k) = b[k]) ∧
    (∀ a, (∀ v ∈ l, ∀ k, k < b.length → tileAddr v off + k ≠ a) → (l.foldl f s).byte a = s.byte a) := by
  induction l generalizing s with
  | nil => exact ⟨nofun, fun _ _ => rfl⟩
  | cons w l ih =>
    obtain ⟨hsame, hother⟩ := ih (f s w)
    obtain ⟨hkeep, hput⟩ := State.byte_putBytes s (tileAddr w off) b
    refine ⟨fun v hv k hk => ?_, fun a ha => ?_⟩
    · by_cases hl : v ∈ l
      · exact hsame v hl k hk
      · obtain rfl : v = w := (List.mem_cons.mp hv).resolve_right hl
        refine (hother _ fun u hu j hj e => hl ?_).trans ((State.byte_congr (hf s v) _).trans (hput k hk))
        have huv : u = v := tileAddr_inj (by omega) (by omega) e
        exact huv ▸ hu
    · refine (hother a fun v hv => ha v (List.mem_cons_of_mem _ hv)).trans ((State.byte_congr (hf s w) a).trans ?_)
      exact hkeep a (ha w List.mem_cons_self)

end Sys2Proof.Machine
end

section
/-! Self-tests of clusters (R107, R108): their starts, their ends and the end of an aborted one. -/

namespace Sys2Proof.Machine

-- One proof at a time: the package is compiled as one text under a memory limit.
set_option Elab.async false

variable {s u : State} {c : ClusterId}

/-! ## Starts -/

/-- A test of the cluster runs, and result reads RUNNING. -/
theorem State.startTest_spec (s : State) (c : Nat) :
    (s.startTest c).fabric.testing = s.fabric.testing ++ [c] ∧ (s.startTest c).rd F.TILE_SELFTEST_result (c / 40) = 4 :=
  ⟨rfl, State.rd_wr_same ..⟩

/-- The clusters of a die in the order in which the planner looks at them. -/
def State.testOrder (s : State) (d : Nat) : List Nat := (List.range 40).map fun k => 40 * d + (Tab.get 0 s.power.nextTest d + k) % 40

/-- R107: the planner starts the test, and its next round begins after the cluster. -/
theorem selftestStart_starts (h : (s.testOrder (c.val / 40)).find? (fun k => s.plannerTests k) = some c.val) :
    ∃ t, exec (.selftestStart c) s = .next t ∧ t.fabric.testing = s.fabric.testing ++ [c.val] ∧
      t.rd F.TILE_SELFTEST_result (c.val / 40) = 4 ∧ Tab.get 0 t.power.nextTest (c.val / 40) = (c.val + 1) % 40 :=
  ⟨_, if_pos h, (s.startTest_spec c.val).1, (s.startTest_spec c.val).2, Tab.get_set_same ..⟩

theorem exec_selftestStart_of_other (h : (s.testOrder (c.val / 40)).find? (fun k => s.plannerTests k) ≠ some c.val) :
    exec (.selftestStart c) s = .next s := if_neg h

theorem exec_tileSelftestStart {m : Master} {d : DieId} {v : W64} (ho : s.isOperator m = true)
    (hu : s.applyWrite .TILE_SELFTEST v.toNat d.val 0 = u) :
    exec (.tileSelftestStart m d v) s =
      if bit v.toNat 8 && decide (bits v.toNat 5 0 < 40) && u.testable (40 * d.val + bits v.toNat 5 0) then
        .next (u.startTest (40 * d.val + bits v.toNat 5 0)) else .next u := by
  subst hu
  show execTileSelftestStart m d v s = _
  simp only [execTileSelftestStart, ho, Bool.not_true, Bool.false_eq_true, if_false]

/-- Table 4.13: start with a cluster of the die that may be tested. -/
theorem tileSelftestStart_starts {m : Master} {d : DieId} {v : W64} (ho : s.isOperator m = true)
    (hu : s.applyWrite .TILE_SELFTEST v.toNat d.val 0 = u) (hstart : bit v.toNat 8 = true) (hc : bits v.toNat 5 0 < 40)
    (ht : u.testable (40 * d.val + bits v.toNat 5 0) = true) :
    ∃ t, exec (.tileSelftestStart m d v) s = .next t ∧ t.fabric.testing = s.fabric.testing ++ [40 * d.val + bits v.toNat 5 0] ∧
      t.rd F.TILE_SELFTEST_result d.val = 4 := by
  obtain ⟨htest, hres⟩ := u.startTest_spec (40 * d.val + bits v.toNat 5 0)
  have hd : (40 * d.val + bits v.toNat 5 0) / 40 = d.val := by omega
  have hfab : u.fabric = s.fabric := by
    obtain ⟨R, hR⟩ := State.applyWrite_regs s .TILE_SELFTEST v.toNat d.val 0
    rw [← hu, hR]
  rw [hd] at hres
  rw [hfab] at htest
  refine ⟨_, (exec_tileSelftestStart ho hu).trans (if_pos ?_), htest, hres⟩
  rw [hstart, ht, decide_eq_true hc]; rfl

theorem exec_tileSelftestStart_of_not_testable {m : Master} {d : DieId} {v : W64} (ho : s.isOperator m = true)
    (hu : s.applyWrite .TILE_SELFTEST v.toNat d.val 0 = u)
    (h : bit v.toNat 8 = false ∨ 40 ≤ bits v.toNat 5 0 ∨ u.testable (40 * d.val + bits v.toNat 5 0) = false) :
    exec (.tileSelftestStart m d v) s = .next u := by
  refine (exec_tileSelftestStart ho hu).trans (if_neg ?_)
  simp only [Bool.and_eq_true, decide_eq_true_eq]
  rintro ⟨⟨hstart, hc⟩, ht⟩
  rcases h with h | h | h
  · exact Bool.false_ne_true (h.symm.trans hstart)
  · omega
  · exact Bool.false_ne_true (h.symm.trans ht)

/-! ## Ends -/

/-- A test ends with a result and is counted. -/
def State.endTest (s : State) (c result : Nat) : State :=
  ((s.setFabric fun f => { f with testing := f.testing.filter (fun k => k ≠ c) }).inc F.TILE_SELFTEST_tests_done (c / 40)).wr
    F.TILE_SELFTEST_result result (c / 40)

theorem State.endTest_spec (s : State) (c result : Nat) :
    (s.endTest c result).fabric = { s.fabric with testing := s.fabric.testing.filter (fun k => k ≠ c) } ∧
    (s.endTest c result).rd F.TILE_SELFTEST_result (c / 40) = result % 16 ∧
    (s.endTest c result).rd F.TILE_SELFTEST_tests_done (c / 40) = min (s.rd F.TILE_SELFTEST_tests_done (c / 40) + 1) 65535 :=
  ⟨rfl, State.rd_wr_same .., (State.rd_wr_ne _ _ _ _ _ _ (by decide)).trans (State.rd_inc_same ..)⟩

theorem exec_selftestDone_of_pass (h : c.val ∈ s.fabric.testing) : exec (.selftestDone c true) s = .next (s.endTest c.val 1) := by
  show execSelftestDone c true s = _
  simp only [execSelftestDone, List.contains_iff_mem.mpr h, Bool.not_true, Bool.false_eq_true, if_false, if_true]
  rfl

theorem exec_selftestDone_of_fail (h : c.val ∈ s.fabric.testing) :
    exec (.selftestDone c false) s =
      .next ((((s.endTest c.val 2).markFailed c.val).event (Src.cluster (c.val / 40)) 2).stopPartition (s.clusterOwner c.val) 3) := by
  show execSelftestDone c false s = _
  simp only [execSelftestDone, List.contains_iff_mem.mpr h, Bool.not_true, Bool.false_eq_true, if_false]
  rfl

/-- R108: a cluster that fails its test is failed, and its partition stops after the event. -/
theorem selftestDone_fails (h : c.val ∈ s.fabric.testing) :
    ∃ t u : State, exec (.selftestDone c false) s = .next t ∧
      t = (u.event (Src.cluster (c.val / 40)) 2).stopPartition (s.clusterOwner c.val) 3 ∧ c.val ∈ u.fabric.failed ∧
      c.val ∉ u.fabric.testing ∧ t.rd F.TILE_SELFTEST_result (c.val / 40) = 2 ∧
      t.rd F.TILE_SELFTEST_tests_done (c.val / 40) = min (s.rd F.TILE_SELFTEST_tests_done (c.val / 40) + 1) 65535 := by
  obtain ⟨-, hres, hdone⟩ := s.endTest_spec c.val 2
  have hu : Unchanged Parts.event ((s.endTest c.val 2).markFailed c.val) _ :=
    (State.stopPartition_keep (a1 := s.clusterOwner c.val) (a2 := 3)
      (State.event_keep (a1 := Src.cluster (c.val / 40)) (a2 := 2) (a3 := false) (Keep.refl _))).parts
  refine ⟨_, _, exec_selftestDone_of_fail h, rfl, State.mem_markFailed _ _, fun ht => ?_, (hu.regs _ _ _ rfl).trans hres,
    (hu.regs _ _ _ rfl).trans hdone⟩
  exact of_decide_eq_true (List.mem_filter.mp ht).2 rfl

theorem exec_selftestDone_of_idle (ok : Bool) (h : c.val ∉ s.fabric.testing) : exec (.selftestDone c ok) s = .next s :=
  if_pos (by simpa using h)

theorem exec_selftestAbortDone_of_idle (h : c.val ∉ s.fabric.aborting) : exec (.selftestAbortDone c) s = .next s :=
  if_pos (by simpa using h)

/-! ## The end of an aborted test -/

/-- The aborted cluster is free, the abort is counted and noted. -/
def State.endAbort (s : State) (c : Nat) : State :=
  (((s.setFabric fun f => { f with aborting := f.aborting.filter (fun k => k ≠ c) }).inc F.TILE_SELFTEST_tests_aborted (c / 40)).wr
    F.TILE_SELFTEST_result 3 (c / 40)).event (Src.cluster (c / 40)) 1

/-- The step of Pn that waited for its clusters begins. -/
def State.beginStep (s : State) (n : Nat) : State :=
  s.updSrv n fun x => { x with step := x.step.map fun st => if st.begun then st else { st with begun := true, start := s.clk } }

theorem State.endAbort_spec (s : State) (c : Nat) :
    (s.endAbort c).rd F.TILE_SELFTEST_result (c / 40) = 3 ∧
    (s.endAbort c).rd F.TILE_SELFTEST_tests_aborted (c / 40) = min (s.rd F.TILE_SELFTEST_tests_aborted (c / 40) + 1) 65535 := by
  have hu : Unchanged Parts.event _ (s.endAbort c) := (State.event_keep (Keep.refl _)).parts
  exact ⟨(hu.regs _ _ _ rfl).trans (State.rd_wr_same ..),
    (hu.regs _ _ _ rfl).trans ((State.rd_wr_ne _ _ _ _ _ _ (by decide)).trans (State.rd_inc_same ..))⟩

theorem exec_selftestAbortDone (h : c.val ∈ s.fabric.aborting) :
    exec (.selftestAbortDone c) s =
      if ((s.endAbort c.val).clustersBusy (s.clusterOwner c.val)).isEmpty then .next ((s.endAbort c.val).beginStep (s.clusterOwner c.val))
      else .next (s.endAbort c.val) := by
  show execSelftestAbortDone c s = _
  simp only [execSelftestAbortDone, List.contains_iff_mem.mpr h, Bool.not_true, Bool.false_eq_true, if_false]
  rfl

/-- R108: the step of the cluster's partition begins once none of its clusters is in a test. -/
theorem selftestAbortDone_frees (h : c.val ∈ s.fabric.aborting) :
    ∃ t, exec (.selftestAbortDone c) s = .next t ∧ t.rd F.TILE_SELFTEST_result (c.val / 40) = 3 ∧
      t.rd F.TILE_SELFTEST_tests_aborted (c.val / 40) = min (s.rd F.TILE_SELFTEST_tests_aborted (c.val / 40) + 1) 65535 ∧
      (∀ m, m ≠ s.clusterOwner c.val → t.srv m = (s.endAbort c.val).srv m) ∧
      ((s.endAbort c.val).clustersBusy (s.clusterOwner c.val) = [] → (t.srv (s.clusterOwner c.val)).step =
        ((s.endAbort c.val).srv (s.clusterOwner c.val)).step.map
          fun x => if x.begun then x else { x with begun := true, start := (s.endAbort c.val).clk }) ∧
      ((s.endAbort c.val).clustersBusy (s.clusterOwner c.val) ≠ [] → t = s.endAbort c.val) := by
  obtain ⟨hres, hcount⟩ := s.endAbort_spec c.val
  rw [exec_selftestAbortDone h]
  generalize s.endAbort c.val = u at hres hcount ⊢
  by_cases hb : u.clustersBusy (s.clusterOwner c.val) = []
  · refine ⟨_, if_pos (by rw [hb]; rfl), hres, hcount, fun m hm => ?_, fun _ => ?_, fun hne => absurd hb hne⟩
    · exact (State.srv_updSrv ..).trans (if_neg hm)
    · exact congrArg Serve.step ((State.srv_updSrv ..).trans (if_pos rfl))
  · exact ⟨_, if_neg (by simpa using hb), hres, hcount, fun _ _ => rfl, fun he => absurd he hb, fun _ => rfl⟩

/-- Settles O36: the two starts, the two ends of a test and the end of an aborted one, one lemma each. -/
theorem selfTests : Obligations.SelfTests := by
  unfold Obligations.SelfTests
  refine ⟨fun c from_ s hf => ?_, fun m d v c s u ho hu hc => ?_, fun c s h => ⟨?_, selftestDone_fails h⟩,
    fun c ok s => ⟨exec_selftestDone_of_idle ok, exec_selftestAbortDone_of_idle⟩, fun c n s u h hn hu => ?_⟩
  · subst hf
    exact ⟨selftestStart_starts, exec_selftestStart_of_other⟩
  · subst hc
    exact ⟨tileSelftestStart_starts ho hu, exec_tileSelftestStart_of_not_testable ho hu⟩
  · exact ⟨_, exec_selftestDone_of_pass h, s.endTest_spec c.val 1⟩
  · subst hn hu
    exact selftestAbortDone_frees h

end Sys2Proof.Machine
end

section
/-! Launches, their budget, register parity (R112 to R115, R137, R179), and the uncorrectable words of tile and quadrant stores (R104 to R106). -/

namespace Sys2Proof.Machine

-- One proof at a time: the package is compiled as one text under a memory limit.
set_option Elab.async false

variable {s u : State}

/-! ## KERNEL -/

/-- R112 to R114: the launch `run` begins on the tiles `ts`, with the argument block in the store of each. -/
def State.launch (s : State) (ts : List Nat) (block : List Byte) (run : TileRun) : State :=
  ts.foldl (fun s t => (s.putBytes (tileAddr t run.args) block).setRun t run) (s.setFabric fun f => { f with launches := run.id })

/-- R568: tiles whose first instruction meets a breakpoint halt. -/
def State.breakAtStart (s : State) (ts : List Nat) (kernel : Nat) : State :=
  (ts.filter fun t => s.bpHits t kernel 0).foldl (fun s t => s.bpHalt t) s

theorem State.breakAtStart_unchanged (s : State) (ts : List Nat) (kernel : Nat) :
    Unchanged { dbg := true } s (s.breakAtStart ts kernel) :=
  (Keep.foldl (Keep.refl s) fun _ _ hu => State.bpHalt_keep hu).parts

/-- The launches after a fold that gives each tile of a list the run. -/
theorem State.fabric_foldl_setRun {f : State → Nat → State} {run : TileRun} (hf : ∀ u t, (f u t).fabric = (u.setRun t run).fabric)
    (l : List Nat) (s : State) :
    (l.foldl f s).fabric.launches = s.fabric.launches ∧ ∀ k, (l.foldl f s).run k = if k ∈ l then run else s.run k := by
  induction l generalizing s with
  | nil => simp
  | cons t l ih =>
    obtain ⟨hn, hr⟩ := ih (f s t)
    refine ⟨hn.trans (by rw [hf]; rfl), fun k => ?_⟩
    rw [List.foldl_cons, hr, State.run_of_fabric (hf s t), State.run_setRun]
    by_cases h : k = t <;> simp [h]

/-- What a launch leaves: its number, its run on its tiles, the argument block in their stores. -/
theorem State.launch_spec (s : State) (ts : List Nat) (block : List Byte) (run : TileRun) (h : run.args + block.length ≤ 2 ^ 48) :
    (s.launch ts block run).fabric.launches = run.id ∧ (∀ k, (s.launch ts block run).run k = if k ∈ ts then run else s.run k) ∧
    (∀ t ∈ ts, ∀ j, (hj : j < block.length) → (s.launch ts block run).byte (tileAddr t run.args + j) = block[j]) ∧
    (∀ a, (∀ t ∈ ts, ∀ j, j < block.length → tileAddr t run.args + j ≠ a) → (s.launch ts block run).byte a = s.byte a) := by
  obtain ⟨hn, hr⟩ := State.fabric_foldl_setRun (f := fun s t => (s.putBytes (tileAddr t run.args) block).setRun t run)
    (fun _ _ => rfl) ts (s.setFabric fun f => { f with launches := run.id })
  obtain ⟨hsame, hother⟩ := State.byte_foldl_tiles (f := fun s t => (s.putBytes (tileAddr t run.args) block).setRun t run) h
    (fun _ _ => rfl) ts (s.setFabric fun f => { f with launches := run.id })
  exact ⟨hn, hr, hsame, hother⟩

section
variable {n : PartId} {k : Nat} {tiles : List TileId} {ins outs : List BufRef} {consts : List W64} {args : Nat} {im : WImage} {kn : Kernel}
  {ts : List Nat} {run : TileRun}

/-- The launch that KERNEL makes. -/
def State.newRun (s : State) (n k : Nat) (kn : Kernel) (args : Nat) (ts : List Nat) : TileRun :=
  { id := s.fabric.launches + 1, part := n, kernel := k, code := kn.code, args := args, tileBase := kn.tileBase, tileLen := kn.tileLen,
    quadBase := kn.quadBase, quadLen := kn.quadLen, budget := kn.budget, tiles := ts, groups := List.replicate kn.groups (startGroup args) }

/-- The tiles are Pn's and run no launch. -/
theorem State.all_free_iff (s : State) (n : Nat) (ts : List Nat) :
    ts.all (fun t => s.clusterOwner (t / 8) = n && (s.run t).id = 0) = true ↔ ∀ t ∈ ts, s.clusterOwner (t / 8) = n ∧ (s.run t).id = 0 := by
  simp only [List.all_eq_true, Bool.and_eq_true, decide_eq_true_eq]

theorem exec_kernel (him : (s.wpart n.val).image = some im) (hk : im.kernels[k]? = some kn) (hts : (tiles.map (·.val)).dedup = ts) :
    exec (.kernel n k tiles ins outs consts args) s =
      if s.pstate n.val ≠ 2 ∨ s.stopped n.val ∨ ts = [] ∨ !(ts.all fun t => s.clusterOwner (t / 8) = n.val && (s.run t).id = 0) then .next s
      else .next ((s.launch ts (argBlock ins outs consts) (s.newRun n.val k kn args ts)).breakAtStart ts k) := by
  subst hts
  show execKernel n k tiles ins outs consts args s = _
  simp only [execKernel, him, hk]
  rfl

/-- R112 to R114, R179. -/
theorem kernel_launches (him : (s.wpart n.val).image = some im) (hk : im.kernels[k]? = some kn) (hts : (tiles.map (·.val)).dedup = ts)
    (hp : s.pstate n.val = 2) (hs : s.stopped n.val = false) (hne : ts ≠ []) (hfree : ∀ u ∈ ts, s.clusterOwner (u / 8) = n.val ∧ (s.run u).id = 0)
    (hargs : args + (argBlock ins outs consts).length ≤ 2 ^ 48) :
    ∃ t, exec (.kernel n k tiles ins outs consts args) s = .next t ∧ t.fabric.launches = s.fabric.launches + 1 ∧
      (∀ u, t.run u = if u ∈ ts then s.newRun n.val k kn args ts else s.run u) ∧
      (∀ u ∈ ts, ∀ j, (hj : j < (argBlock ins outs consts).length) → t.byte (tileAddr u args + j) = (argBlock ins outs consts)[j]) ∧
      (∀ a, (∀ u ∈ ts, ∀ j, j < (argBlock ins outs consts).length → tileAddr u args + j ≠ a) → t.byte a = s.byte a) := by
  have hguard : ¬ (s.pstate n.val ≠ 2 ∨ s.stopped n.val = true ∨ ts = [] ∨
      (!(ts.all fun t => s.clusterOwner (t / 8) = n.val && (s.run t).id = 0)) = true) := by
    rw [(s.all_free_iff n.val ts).mpr hfree, hs]
    simp [hp, hne]
  have hb := (s.launch ts (argBlock ins outs consts) (s.newRun n.val k kn args ts)).breakAtStart_unchanged ts k
  obtain ⟨hn, hr, hsame, hother⟩ := s.launch_spec ts (argBlock ins outs consts) (s.newRun n.val k kn args ts) hargs
  refine ⟨_, (exec_kernel him hk hts).trans (if_neg hguard), (congrArg Fabric.launches (hb.fabric rfl)).trans hn,
    fun u => (hb.run rfl u).trans (hr u), fun u hu j hj => ?_, fun a ha => ?_⟩
  · exact (State.byte_congr (hb.mem rfl) _).trans (hsame u hu j hj)
  · exact (State.byte_congr (hb.mem rfl) a).trans (hother a ha)

theorem exec_kernel_of_refused (him : (s.wpart n.val).image = some im) (hk : im.kernels[k]? = some kn) (hts : (tiles.map (·.val)).dedup = ts)
    (h : s.pstate n.val ≠ 2 ∨ s.stopped n.val = true ∨ ts = [] ∨ ∃ u ∈ ts, s.clusterOwner (u / 8) ≠ n.val ∨ (s.run u).id ≠ 0) :
    exec (.kernel n k tiles ins outs consts args) s = .next s := by
  refine (exec_kernel him hk hts).trans (if_pos (h.imp_right (.imp_right (.imp_right ?_))))
  rintro ⟨u, hu, hx⟩
  rw [Bool.not_eq_true', Bool.eq_false_iff, ne_eq, State.all_free_iff]
  exact fun hall => hx.elim (· (hall u hu).1) (· (hall u hu).2)

end

/-! ## Kernel faults -/

theorem State.vecFault_unchanged (s : State) (t g pc cause : Nat) : Unchanged { b_vector := true } s (s.vecFault t g pc cause) :=
  (State.vecFault_keep (Keep.refl s)).parts

/-- Table 5.18: the first fault of a die since cause was cleared. -/
theorem State.vecFault_spec (s : State) (t g pc cause : Nat) (h : s.rd F.VEC_FAULT_cause (t / 320) = 0) :
    (s.vecFault t g pc cause).rd F.VEC_FAULT_cause (t / 320) = cause % 16 ∧
    (s.vecFault t g pc cause).rd F.VEC_FAULT_tile (t / 320) = t % 320 ∧
    (s.vecFault t g pc cause).rd F.VEC_FAULT_group (t / 320) = g % 32 ∧ (s.vecFault t g pc cause).rd F.VEC_FAULT_pc (t / 320) = pc % 8192 ∧
    (s.vecFault t g pc cause).rd F.VEC_FAULT_partition (t / 320) = (s.run t).part % 16 := by
  have e : s.vecFault t g pc cause = ((((s.wr F.VEC_FAULT_cause cause (t / 320)).wr F.VEC_FAULT_partition (s.run t).part (t / 320)).wr
      F.VEC_FAULT_tile (t % 320) (t / 320)).wr F.VEC_FAULT_group g (t / 320)).wr F.VEC_FAULT_pc pc (t / 320) := if_neg (not_not_intro h)
  have htile : t % 320 % 2 ^ F.VEC_FAULT_tile.width = t % 320 := Nat.mod_eq_of_lt (by show t % 320 < 512; omega)
  rw [e]
  simp (disch := decide) only [State.rd_wr_ne, State.rd_wr_same, htile]
  exact ⟨rfl, trivial, rfl, rfl, rfl⟩

/-- R137: the launch ends on every tile, and the event and the stop follow. -/
theorem State.kernelFault_eq (s : State) (t g pc cause : Nat) :
    s.kernelFault t g pc cause = (((s.vecFault t g pc cause).endLaunch (s.run t).id).event (Src.isolation (s.run t).part)
      (if cause = 4 then 1 else 3)).stopPartition (s.run t).part 1 := by
  unfold State.kernelFault
  dsimp only
  rw [(s.vecFault_unchanged t g pc cause).run rfl]

theorem exec_budget (t : TileId) (hid : (s.run t.val).id ≠ 0) (hd : (s.unitDbg 0 t.val).state = 0) :
    exec (.budget t) s = .next (s.draw.kernelFault t.val (Config.choice s.draw.fresh 0 % 32) (Config.choice s.draw.fresh 1 % 8192) 5) :=
  if_neg (not_or.mpr ⟨hid, not_not_intro hd⟩)

/-- R115: the budget's end is kernel fault BUDGET at a free group and instruction. -/
theorem budget_faults (t : TileId) (hid : (s.run t.val).id ≠ 0) (hd : (s.unitDbg 0 t.val).state = 0) :
    ∃ (g pc : Nat) (u : State), g < 32 ∧ pc < 8192 ∧
      exec (.budget t) s = .next ((u.event (Src.isolation (s.run t.val).part) 3).stopPartition (s.run t.val).part 1) ∧
      (∀ e ∈ u.fabric.runs, e.2.id ≠ (s.run t.val).id) ∧ u.mem = s.mem ∧
      (s.rd F.VEC_FAULT_cause (t.val / 320) = 0 → u.rd F.VEC_FAULT_cause (t.val / 320) = 5 ∧
        u.rd F.VEC_FAULT_tile (t.val / 320) = t.val % 320 ∧ u.rd F.VEC_FAULT_group (t.val / 320) = g ∧
        u.rd F.VEC_FAULT_pc (t.val / 320) = pc ∧ u.rd F.VEC_FAULT_partition (t.val / 320) = (s.run t.val).part % 16) := by
  obtain ⟨g, hg, hexec⟩ : ∃ g, g < 32 ∧ exec (.budget t) s = .next (s.draw.kernelFault t.val g (Config.choice s.draw.fresh 1 % 8192) 5) :=
    ⟨_, Nat.mod_lt _ (by decide), exec_budget t hid hd⟩
  have hpc : Config.choice s.draw.fresh 1 % 8192 < 8192 := Nat.mod_lt _ (by decide)
  generalize Config.choice s.draw.fresh 1 % 8192 = pc at hpc hexec
  have hv := s.draw.vecFault_unchanged t.val g pc 5
  refine ⟨g, pc, (s.draw.vecFault t.val g pc 5).endLaunch (s.run t.val).id, hg, hpc, ?_, ?_, hv.mem rfl, fun hc => ?_⟩
  · rw [hexec, State.kernelFault_eq, if_neg (by decide), show s.draw.run t.val = s.run t.val from rfl]
  · exact fun e he => of_decide_eq_true (List.mem_filter.mp he).2
  · obtain ⟨hcause, htile, hgroup, hinst, hpart⟩ := s.draw.vecFault_spec t.val g pc 5 hc
    exact ⟨hcause, htile, hgroup.trans (Nat.mod_eq_of_lt hg), hinst.trans (Nat.mod_eq_of_lt hpc), hpart⟩

theorem exec_regParity {t : TileId} {g : Fin 32} {x : Group} (hid : (s.run t.val).id ≠ 0) (hx : (s.run t.val).groups[g.val]? = some x) :
    exec (.regParity t g) s = .next (((s.vecFault t.val g.val x.pc 6).event (Src.store (t.val / 320)) 3).storeBad
      (s.run t.val).part t.val (t.val / 8)) := by
  obtain ⟨hlt, rfl⟩ := List.getElem?_eq_some_iff.mp hx
  rw [← List.getD_eq_getElem _ {} hlt]
  exact if_neg (not_or.mpr ⟨hid, Nat.not_le.mpr hlt⟩)

/-- R137: REG_PARITY, handled as an uncorrectable word of the tile's store. -/
theorem regParity_faults {t : TileId} {g : Fin 32} {x : Group} (hid : (s.run t.val).id ≠ 0) (hx : (s.run t.val).groups[g.val]? = some x) :
    ∃ u : State, exec (.regParity t g) s =
        .next ((u.event (Src.store (t.val / 320)) 3).storeBad (s.run t.val).part t.val (t.val / 8)) ∧ u.fabric = s.fabric ∧ u.mem = s.mem ∧
      (s.rd F.VEC_FAULT_cause (t.val / 320) = 0 → u.rd F.VEC_FAULT_cause (t.val / 320) = 6 ∧
        u.rd F.VEC_FAULT_tile (t.val / 320) = t.val % 320 ∧ u.rd F.VEC_FAULT_group (t.val / 320) = g.val ∧
        u.rd F.VEC_FAULT_pc (t.val / 320) = x.pc % 8192) := by
  have hv := s.vecFault_unchanged t.val g.val x.pc 6
  refine ⟨_, exec_regParity hid hx, hv.fabric rfl, hv.mem rfl, fun hc => ?_⟩
  obtain ⟨hcause, htile, hgroup, hinst, -⟩ := s.vecFault_spec t.val g.val x.pc 6 hc
  exact ⟨hcause, htile, hgroup.trans (Nat.mod_eq_of_lt g.isLt), hinst⟩

/-! ## Uncorrectable words -/

/-- What the handling of an uncorrectable word met by work may change. -/
def Parts.storeBad : Parts :=
  { Parts.event with mem := true, rings := true, irqs := true, badUnits := true, badRecord := true, reruns := true, b_request := true,
                     b_ring := true, b_core := true }

theorem State.storeBad_unchanged (s : State) (n key c : Nat) : Unchanged Parts.storeBad s (s.storeBad n key c) :=
  (State.storeBad_keep (Keep.refl s)).parts

theorem State.noteStore_unchanged (s : State) (quad : Bool) (unit word : Nat) :
    Unchanged { Parts.event with b_tile := true } s (s.noteStore quad unit word) :=
  (State.noteStore_keep (Keep.refl s)).parts

/-- The die whose registers record a word of a store. -/
def storeDie (quad : Bool) (unit : Nat) : Nat := if quad then unit % 16 / 4 else unit / 320

/-- TILE_STORE_ERR of the die names the word (R104); the count of corrected words stays. -/
theorem State.noteStore_spec (s : State) (quad : Bool) (unit word : Nat) :
    (s.noteStore quad unit word).rd F.TILE_STORE_ERR_uncorrectable (storeDie quad unit) =
      min (s.rd F.TILE_STORE_ERR_uncorrectable (storeDie quad unit) + 1) 65535 ∧
    (s.noteStore quad unit word).rd F.TILE_STORE_ERR_store (storeDie quad unit) = (if quad then 2 else 1) ∧
    (s.noteStore quad unit word).rd F.TILE_STORE_ERR_unit (storeDie quad unit) = (if quad then unit % 4 else unit % 320) ∧
    (s.noteStore quad unit word).rd F.TILE_STORE_ERR_word (storeDie quad unit) = word % 2 ^ 21 ∧
    ∀ d, (s.noteStore quad unit word).rd F.TILE_STORE_ERR_corrected d = s.rd F.TILE_STORE_ERR_corrected d := by
  have hu : Unchanged Parts.event _ (s.noteStore quad unit word) := (State.event_keep (Keep.refl _)).parts
  have hstore : (if quad then 2 else 1) % 2 ^ F.TILE_STORE_ERR_store.width = if quad then 2 else 1 := by cases quad <;> rfl
  have hunit : (if quad then unit % 4 else unit % 320) % 2 ^ F.TILE_STORE_ERR_unit.width = if quad then unit % 4 else unit % 320 :=
    Nat.mod_eq_of_lt (by show _ < 512; split <;> omega)
  refine ⟨(hu.regs _ _ _ rfl).trans ?_, (hu.regs _ _ _ rfl).trans ?_, (hu.regs _ _ _ rfl).trans ?_, (hu.regs _ _ _ rfl).trans ?_,
    fun d => (hu.regs _ _ _ rfl).trans ?_⟩
  · simp (disch := decide) only [State.rd_wr_ne]
    exact State.rd_inc_same ..
  · simp (disch := decide) only [State.rd_wr_ne]
    exact (State.rd_wr_same ..).trans hstore
  · simp (disch := decide) only [State.rd_wr_ne]
    exact (State.rd_wr_same ..).trans hunit
  · exact State.rd_wr_same ..
  · simp (disch := decide) only [State.inc, State.rd_wr_ne]

/-- R105: a second word of one store within the repeated run. -/
theorem State.storeBad_of_again {n key c : Nat} (hp : s.pstate n = 2) (hs : s.stopped n = false)
    (h : ((Tab.get ({} : Rerun) s.reruns n).active && (Tab.get ({} : Rerun) s.reruns n).units.contains key) = true) :
    s.storeBad n key c = (s.markFailed c).stopPartition n 2 := by
  simp only [State.storeBad, hp, hs, h, ne_eq, not_true, Bool.false_eq_true, or_self, if_false, if_true]
  rfl

/-- Pn runs again after a reload, with the stores whose words it met. -/
def State.markRerun (s : State) (n : Nat) (units : List Nat) : State :=
  { s with reruns := Tab.set {} s.reruns n { active := true, units := units } }.setFabric fun f =>
    { f with reloads := if f.reloads.contains n then f.reloads else f.reloads ++ [n] }

theorem State.markRerun_spec (s : State) (n : Nat) (units : List Nat) :
    Tab.get ({} : Rerun) (s.markRerun n units).reruns n = { active := true, units := units } ∧ n ∈ (s.markRerun n units).fabric.reloads :=
  ⟨Tab.get_set_same ({} : Rerun) s.reruns n { active := true, units := units }, mem_append_unless s.fabric.reloads n⟩

/-- R104: the first word of a store marks the run for a repeat, and the partition for a reload. -/
theorem State.storeBad_of_first {n key c : Nat} (hp : s.pstate n = 2) (hs : s.stopped n = false)
    (h : ((Tab.get ({} : Rerun) s.reruns n).active && (Tab.get ({} : Rerun) s.reruns n).units.contains key) = false) :
    s.storeBad n key c = (s.discardBoundary n).markRerun n ((Tab.get ({} : Rerun) s.reruns n).units ++ [key]) := by
  simp only [State.storeBad, hp, hs, h, ne_eq, not_true, Bool.false_eq_true, or_self, if_false]
  rfl

theorem exec_tileStoreUncorrectable {quad : Bool} {unit : TileId} {word n key c : Nat} (hk : s.storeUnit quad unit.val word = (n, key, c)) :
    exec (.tileStoreUncorrectable quad unit word) s = .next ((s.noteStore quad unit.val word).storeBad n key c) := by
  show Host.Outcome.next ((s.noteStore quad unit.val word).storeBad (s.storeUnit quad unit.val word).1
    (s.storeUnit quad unit.val word).2.1 (s.storeUnit quad unit.val word).2.2) = _
  rw [hk]

/-! ## The patrol -/

/-- The address of a word of a tile store or quadrant store. -/
def wordAddr (quad : Bool) (unit word : Nat) : Nat := (if quad then quadAddr (unit % 16) 0 else tileAddr unit 0) + 16 * word

/-- Whether the image that Pn has loaded keeps resident data at an address. -/
def State.wordResident (s : State) (n a : Nat) : Bool :=
  s.pstate n = 2 && Config.residentWord (match (s.wpart n).image with | some im => im.digest | none => []) a

/-- R106: what a pass of the patrol does with an uncorrectable word, of the store `o` (owner, key, cluster), once it is recorded. -/
def State.patrolNoted (s : State) (o : Nat × Nat × Nat) (a : Nat) : State :=
  if s.wordResident o.1 a then s
  else if s.stepInFlight o.1 then s.storeBad o.1 o.2.1 o.2.2
  else s.zeroWhere (fun b => decide (a ≤ b ∧ b < a + 16))

/-- R106: an uncorrectable word that the patrol meets. -/
def State.patrolWord (s : State) (b : Bool × TileId × Nat) : State :=
  (s.noteStore b.1 b.2.1.val b.2.2).patrolNoted (s.storeUnit b.1 b.2.1.val b.2.2) (wordAddr b.1 b.2.1.val b.2.2)

/-- The state in which a pass has counted its corrected words. -/
def State.patrolled (s : State) (d corrected : Nat) : State :=
  ((s.advancePeriod (s.rd F.TILE_PATROL_period_s d * 1000000000)).inc F.TILE_STORE_ERR_corrected d 0 corrected).events (Src.store d) 1 corrected

theorem exec_tilePatrolPass (d : DieId) (corrected : Nat) (bad : List (Bool × TileId × Nat)) (s : State) :
    exec (.tilePatrolPass d corrected bad) s = .next (bad.foldl State.patrolWord (s.patrolled d.val corrected)) := rfl

theorem State.patrolled_unchanged (s : State) (d corrected : Nat) :
    Unchanged { Parts.eventPass with b_tile := true } s (s.patrolled d corrected) :=
  (State.events_keep (State.inc_keep (State.advancePeriod_keep (Keep.refl s)) rfl)).parts

theorem State.rd_patrolled (s : State) (d corrected : Nat) :
    (s.patrolled d corrected).rd F.TILE_STORE_ERR_corrected d = min (s.rd F.TILE_STORE_ERR_corrected d + corrected) 65535 := by
  have ha : Unchanged Parts.pass s (s.advancePeriod (s.rd F.TILE_PATROL_period_s d * 1000000000)) :=
    (State.advancePeriod_keep (Keep.refl s)).parts
  have he : Unchanged Parts.event _ (s.patrolled d corrected) := (State.events_keep (Keep.refl _)).parts
  rw [he.regs _ _ _ rfl, State.rd_inc_same, ha.regs _ _ _ rfl]
  rfl

/-- Beside the record of the word the patrol leaves the registers of the tiles. -/
theorem State.rd_patrolNoted (s : State) (o : Nat × Nat × Nat) (a : Nat) {f : Fld} (hf : f.reg.block = .tile) (d : Nat) :
    (s.patrolNoted o a).rd f d = s.rd f d := by
  unfold State.patrolNoted
  split
  · rfl
  · split
    · exact (State.storeBad_unchanged ..).regs _ _ _ (by rw [hf]; rfl)
    · rfl

/-- An uncorrectable word is not counted as corrected. -/
theorem State.rd_patrolWord (s : State) (b : Bool × TileId × Nat) (d : Nat) :
    (s.patrolWord b).rd F.TILE_STORE_ERR_corrected d = s.rd F.TILE_STORE_ERR_corrected d := by
  obtain ⟨-, -, -, -, hc⟩ := s.noteStore_spec b.1 b.2.1.val b.2.2
  exact (State.rd_patrolNoted _ _ _ rfl d).trans (hc d)

theorem State.rd_foldl_patrolWord (bad : List (Bool × TileId × Nat)) (s : State) (d : Nat) :
    (bad.foldl State.patrolWord s).rd F.TILE_STORE_ERR_corrected d = s.rd F.TILE_STORE_ERR_corrected d := by
  induction bad generalizing s with
  | nil => rfl
  | cons b bad ih => exact (ih _).trans (s.rd_patrolWord b d)

/-- R106: a pass adds the corrected words to the count. -/
theorem tilePatrolPass_counts (d : DieId) (corrected : Nat) (bad : List (Bool × TileId × Nat)) (s : State) :
    ∃ t, exec (.tilePatrolPass d corrected bad) s = .next t ∧
      t.rd F.TILE_STORE_ERR_corrected d.val = min (s.rd F.TILE_STORE_ERR_corrected d.val + corrected) 65535 ∧ (bad = [] → t.mem = s.mem) := by
  refine ⟨_, exec_tilePatrolPass d corrected bad s, (State.rd_foldl_patrolWord ..).trans (s.rd_patrolled d.val corrected), ?_⟩
  rintro rfl
  exact (s.patrolled_unchanged d.val corrected).mem rfl

/-- Whose a word is depends on the structure alone. -/
theorem State.storeUnit_congr {t : State} (h : t.struct = s.struct) (quad : Bool) (unit word : Nat) :
    t.storeUnit quad unit word = s.storeUnit quad unit word := by
  unfold State.storeUnit State.clusterOfBank State.clusterOwner
  rw [h]

/-- R106: a bad word that no image and no step holds is written to zero. -/
theorem State.byte_patrolWord {quad : Bool} {unit : TileId} {word : Nat} (hu : s.noteStore quad unit.val word = u)
    (hp : u.pstate (u.storeUnit quad unit.val word).1 ≠ 2) (hs : u.stepInFlight (u.storeUnit quad unit.val word).1 = false) (a : Nat) :
    (s.patrolWord (quad, unit, word)).byte a =
      if wordAddr quad unit.val word ≤ a ∧ a < wordAddr quad unit.val word + 16 then 0#8 else s.byte a := by
  subst hu
  have hn := s.noteStore_unchanged quad unit.val word
  rw [State.storeUnit_congr (hn.struct rfl)] at hp hs
  have e : s.patrolWord (quad, unit, word) = (s.noteStore quad unit.val word).zeroWhere
      (fun a => decide (wordAddr quad unit.val word ≤ a ∧ a < wordAddr quad unit.val word + 16)) := by
    simp only [State.patrolWord, State.patrolNoted, State.wordResident, hp, hs, decide_false, Bool.false_and, Bool.false_eq_true, if_false]
  rw [e, State.byte_zeroWhere, State.byte_congr (hn.mem rfl)]
  simp only [decide_eq_true_eq]

/-- R106: a pass without corrected words that meets such a word. -/
theorem tilePatrolPass_zeroes {d : DieId} {quad : Bool} {unit : TileId} {word : Nat}
    (hu : (s.patrolled d.val 0).noteStore quad unit.val word = u) (hp : u.pstate (u.storeUnit quad unit.val word).1 ≠ 2)
    (hs : u.stepInFlight (u.storeUnit quad unit.val word).1 = false) :
    ∃ t, exec (.tilePatrolPass d 0 [(quad, unit, word)]) s = .next t ∧
      ∀ a, t.byte a = if wordAddr quad unit.val word ≤ a ∧ a < wordAddr quad unit.val word + 16 then 0#8 else s.byte a := by
  refine ⟨_, exec_tilePatrolPass d 0 [(quad, unit, word)] s, fun a => (State.byte_patrolWord hu hp hs a).trans ?_⟩
  rw [State.byte_congr ((s.patrolled_unchanged d.val 0).mem rfl)]

/-- Settles O35: the launch, its two faults, the uncorrectable word, the reload's end and the patrol, a lemma or two each. -/
theorem tileStoresAndLaunches : Obligations.TileStoresAndLaunches := by
  unfold Obligations.TileStoresAndLaunches
  refine ⟨fun n k tiles ins outs consts args im kn ts run s him hk hts hrun => ?_, fun t s hid hd => budget_faults t hid hd,
    fun t g x s hid hx => regParity_faults hid hx, fun quad unit word d n key c s u hd hk hu => ?_,
    fun n s => ⟨fun h => if_pos (List.contains_iff_mem.mpr h), fun h => if_neg (by simpa using h)⟩, tilePatrolPass_counts,
    fun d quad unit word s u => tilePatrolPass_zeroes⟩
  · subst hrun
    exact ⟨kernel_launches him hk hts, exec_kernel_of_refused him hk hts⟩
  · subst hd hu
    obtain ⟨hcount, hstore, hunit, hword, -⟩ := s.noteStore_spec quad unit.val word
    have hb := (s.noteStore quad unit.val word).storeBad_unchanged n key c
    refine ⟨_, exec_tileStoreUncorrectable hk, (hb.regs _ _ _ rfl).trans hcount, (hb.regs _ _ _ rfl).trans hstore,
      (hb.regs _ _ _ rfl).trans hunit, (hb.regs _ _ _ rfl).trans hword, fun hp hs => ⟨fun h => ?_, fun h => ?_⟩⟩
    · exact ⟨_, State.storeBad_of_again hp hs h, State.mem_markFailed _ c⟩
    · rw [State.storeBad_of_first hp hs h]
      exact State.markRerun_spec ..

end Sys2Proof.Machine
end

section
/-! Stream commands of kernels (R98 to R102, R126 to R130): their issue by SIN and SOUT, and their completion. -/

namespace Sys2Proof.Machine

-- One proof at a time: the package is compiled as one text under a memory limit.
set_option Elab.async false

variable {W : Parts} {s u : State} {t : TileId} {g : Fin 32} {w : W64} {op : Nat} {out : Bool} {x : Group} {d : StreamCmd}

/-! ## What a command meets -/

/-- Whether a range lies in the partition depends on the structure, the retired clusters and the partition states. -/
theorem Unchanged.addrIn (h : Unchanged W s u) (hs : W.struct = false) (hb : W.bbs = false) (hp : W.b_part = false) (n a len : Nat) :
    u.addrIn n a len = s.addrIn n a len := by
  unfold State.addrIn State.ddrOwned State.beingRemoved State.granuleOwner State.extent State.banksOf State.pagesFloor State.clusterOwner
    State.engineOwner State.bbsGet State.part
  rw [h.struct hs, h.bbs hb, h.pstate hp]

theorem Unchanged.streamCheck (h : Unchanged W s u) (hs : W.struct = false) (hb : W.bbs = false) (hp : W.b_part = false) (d : StreamCmd) :
    u.streamCheck d = s.streamCheck d := by
  unfold State.streamCheck
  rw [h.addrIn hs hb hp]

/-- R127, R128: a command in its form and in its ranges is accepted. -/
theorem State.streamCheck_of_ok (hlen : 0 < d.len) (hk : addrKind d.remote < 3) (ha : addrOk d.remote = true) (hr : d.remote % 64 = 0)
    (ho : d.off % 64 = 0) (hl : d.len % 64 = 0) (hm : d.len ≤ 16 * 2 ^ 20) (hfit : d.off + d.len ≤ 2 ^ 20)
    (hin : s.addrIn d.part d.remote d.len = true) : s.streamCheck d = 0 := by
  have hform : ¬ (3 ≤ addrKind d.remote ∨ (!addrOk d.remote) = true ∨ d.remote % 64 ≠ 0 ∨ d.off % 64 ≠ 0 ∨ d.len % 64 ≠ 0 ∨
      16 * 2 ^ 20 < d.len ∨ 2 ^ 20 ≤ d.off) := by
    rw [ha]
    simp only [Bool.not_true, Bool.false_eq_true, false_or]
    omega
  have hrange : ¬ ((!s.addrIn d.part d.remote d.len) = true ∨ 2 ^ 20 < d.off + d.len) := by
    rw [hin]
    simp only [Bool.not_true, Bool.false_eq_true, false_or]
    omega
  exact (if_neg (by omega)).trans ((if_neg hform).trans (if_neg hrange))

/-! ## SIN and SOUT -/

/-- What an accepted command makes of the state: it waits in its queue and the group goes on, or the group stays before a full queue. -/
def State.enqueueStream (s : State) (t g q : Nat) (x : Group) (d : StreamCmd) : State :=
  if 16 ≤ (s.queue t q).length then s else (s.setGroup t g x.next).setQueue t q (s.queue t q ++ [d])

theorem State.vecIssued_unchanged (s : State) (t : Nat) : Unchanged { opc := true, b_perf := true } s (s.vecIssued t) :=
  (State.vecIssued_keep (Keep.refl s)).parts

theorem streamOf_vecIssued (hd : streamOf x w out (s.run t.val).part = d) : streamOf x w out ((s.vecIssued t.val).run t.val).part = d := by
  rw [(s.vecIssued_unchanged t.val).run rfl, hd]

theorem State.streamCheck_vecIssued (s : State) (t : Nat) (d : StreamCmd) : (s.vecIssued t).streamCheck d = s.streamCheck d :=
  (s.vecIssued_unchanged t).streamCheck rfl rfl rfl d

theorem State.laneStream_of_empty (h : s.issue t g w 8 (· == op) = some x) (hd : streamOf x w out (s.run t.val).part = d)
    (hc : s.streamCheck d = 1) :
    s.laneStream t g w op out = .next (State.laneDone s ((s.vecIssued t).setGroup t g x.next) t) := by
  simp only [State.laneStream, State.laneAct, h, streamOf_vecIssued hd, State.streamCheck_vecIssued, hc]

theorem State.laneStream_of_accepted (h : s.issue t g w 8 (· == op) = some x) (hd : streamOf x w out (s.run t.val).part = d)
    (hc : s.streamCheck d = 0) :
    s.laneStream t g w op out = .next (State.laneDone s ((s.vecIssued t).enqueueStream t g (lw w 21 20) x d) t) := by
  simp only [State.laneStream, State.laneAct, h, streamOf_vecIssued hd, State.streamCheck_vecIssued, hc]
  rfl

/-- A group that a STREAM instruction lets go on, from the state in which it was issued. -/
theorem LaneNext.laneDone {v : State} {y : Group} (h : LaneNext (s.vecIssued t) v t g y) : LaneNext s (State.laneDone s v t) t g y := by
  have hrun := fun k => (s.vecIssued_unchanged t).run rfl k
  have hdone := fun k => (State.laneDone_keep' s v t).run rfl k
  exact ⟨by rw [hdone, h.1, hrun], fun k hk => by rw [hdone, h.2 k hk, hrun]⟩

/-- R126: a length of 0 moves nothing and queues nothing. -/
theorem laneStream_empty (h : s.issue t g w 8 (· == op) = some x) (hd : streamOf x w out (s.run t.val).part = d) (hlen : d.len = 0) :
    ∃ u, s.laneStream t g w op out = .next u ∧ LaneNext s u t g x.next ∧ u.fabric.queues = s.fabric.queues ∧ u.mem = s.mem := by
  refine ⟨_, State.laneStream_of_empty h hd (if_pos hlen), (LaneNext.setGroup _ _).laneDone, ?_, ?_⟩
  · rw [State.laneDone_fabric]
    show (s.vecIssued t).fabric.queues = _
    rw [State.vecIssued_fabric]
  · exact ((State.laneDone_keep' ..).mem rfl).trans (State.vecIssued_mem s t)

/-- R98, R130: an accepted command goes to the end of its queue, unless that holds 16. -/
theorem laneStream_queues (h : s.issue t g w 8 (· == op) = some x) (hd : streamOf x w out (s.run t.val).part = d)
    (hc : s.streamCheck d = 0) :
    ∃ u, s.laneStream t g w op out = .next u ∧ u.mem = s.mem ∧
      ((s.queue t (lw w 21 20)).length < 16 → LaneNext s u t g x.next ∧
        ∀ k q, q < 4 → u.queue k q = if k = t.val ∧ q = lw w 21 20 then s.queue k q ++ [d] else s.queue k q) ∧
      (16 ≤ (s.queue t (lw w 21 20)).length → u.fabric = s.fabric) := by
  have hq : lw w 21 20 < 4 := bits_lt w.toNat 21 20
  have hqueue : ∀ k q, (s.vecIssued t).queue k q = s.queue k q := State.queue_of_fabric (State.vecIssued_fabric s t)
  have hdone := State.laneDone_keep' s ((s.vecIssued t).enqueueStream t g (lw w 21 20) x d) t
  refine ⟨_, State.laneStream_of_accepted h hd hc, (hdone.mem rfl).trans (Eq.trans ?_ (State.vecIssued_mem s t)), fun hlt => ?_, fun hge => ?_⟩
  · unfold State.enqueueStream
    split <;> rfl
  · have e : (s.vecIssued t).enqueueStream t g (lw w 21 20) x d =
        ((s.vecIssued t).setGroup t g x.next).setQueue t (lw w 21 20) (s.queue t (lw w 21 20) ++ [d]) := by
      rw [State.enqueueStream, hqueue, if_neg (Nat.not_le.mpr hlt)]
    rw [e] at hdone ⊢
    refine ⟨LaneNext.laneDone (LaneNext.setGroup (s.vecIssued t) x.next), fun k q hk => ?_⟩
    rw [State.queue_of_fabric (hdone.fabric rfl), State.queue_setQueue _ _ _ hq hk]
    split
    · next hkq => rw [hkq.1, hkq.2]
    · exact hqueue k q
  · rw [hdone.fabric rfl, State.enqueueStream, hqueue, if_pos hge]
    exact State.vecIssued_fabric s t

/-! ## The bytes of a command -/

theorem State.moveStream_unchanged (s : State) (t : Nat) (d : StreamCmd) :
    Unchanged { mem := true, badUnits := true, badRecord := true } s (s.moveStream t d) :=
  (State.moveStream_keep (Keep.refl s)).parts

/-- R98: SIN writes the remote bytes into the tile stores that its mask names. -/
theorem State.byte_moveStream_in (t : Nat) (ho : d.out = false) (hfit : d.off + d.len ≤ 2 ^ 20) :
    (∀ v ∈ streamTargets t d.mask, ∀ k, k < d.len → (s.moveStream t d).byte (tileAddr v (d.off + k)) = s.byte (s.phys d.part (d.remote + k))) ∧
    ∀ a, (∀ v ∈ streamTargets t d.mask, ∀ k, k < d.len → tileAddr v (d.off + k) ≠ a) → (s.moveStream t d).byte a = s.byte a := by
  have hlen : (s.load d.part d.remote d.len).length = d.len := by simp [State.load]
  have hroom : d.off + (s.load d.part d.remote d.len).length ≤ 2 ^ 48 :=
    hlen.symm ▸ hfit.trans (Nat.pow_le_pow_right (by decide) (by decide))
  have e : s.moveStream t d = (streamTargets t d.mask).foldl (fun u v => u.putBytes (tileAddr v d.off) (s.load d.part d.remote d.len)) s := by
    unfold State.moveStream
    rw [ho]
    rfl
  obtain ⟨hsame, hother⟩ := State.byte_foldl_tiles (f := fun u v => u.putBytes (tileAddr v d.off) (s.load d.part d.remote d.len)) hroom
    (fun _ _ => rfl) (streamTargets t d.mask) s
  rw [hlen] at hother
  simp only [e, tileAddr_add]
  refine ⟨fun v hv k hk => (hsame v hv k (hlen.symm ▸ hk)).trans ?_, hother⟩
  simp [State.load]

/-- R98: SOUT writes the tile's bytes to the remote range. -/
theorem State.byte_moveStream_out (t : Nat) (ho : d.out = true) (hk : addrKind d.remote ≠ 4) :
    (∀ k, k < d.len → (∀ j, k < j → j < d.len → s.phys d.part (d.remote + j) ≠ s.phys d.part (d.remote + k)) →
      (s.moveStream t d).byte (s.phys d.part (d.remote + k)) = s.byte (tileAddr t (d.off + k))) ∧
    ∀ a, (∀ k, k < d.len → s.phys d.part (d.remote + k) ≠ a) → (s.moveStream t d).byte a = s.byte a := by
  have hlen : (s.bytesAt (tileAddr t d.off) d.len).length = d.len := by simp [State.bytesAt]
  have e : (s.moveStream t d).mem = (s.bytesAt (tileAddr t d.off) d.len).zipIdx.foldl
      (fun m p => Tab.set 0#8 m (s.phys d.part (d.remote + p.2)) p.1) s.mem := by
    unfold State.moveStream State.store
    rw [ho, if_pos rfl, if_neg hk]
  obtain ⟨hother, hsame⟩ := get_foldl_cells (fun k => s.phys d.part (d.remote + k)) (s.bytesAt (tileAddr t d.off) d.len) 0 s.mem
  simp only [Nat.zero_add, hlen] at hother hsame
  unfold State.byte
  rw [e]
  refine ⟨fun k hk hlast => (hsame k hk hlast).trans ?_, hother⟩
  simp only [State.bytesAt, List.getElem_map, List.getElem_range, tileAddr_add]
  rfl

/-! ## Completion -/

/-- The oldest command of a queue is done: its bytes have moved, it has left the queue, and it is counted. -/
def State.streamDone (s : State) (t q : Nat) (d : StreamCmd) (rest : List StreamCmd) : State :=
  ((s.moveStream t d).setQueue t q rest).count d.part 0x05 d.len { master := some 0, cls := some 1, range := some (d.remote, d.len) }

/-- R128: the groups of a launch that wait for a token go on. -/
def TileRun.release (r : TileRun) (token : Nat) : TileRun :=
  { r with groups := r.groups.map fun y => if y.wait = 8 + token then { y with wait := 0, pc := y.pc + 1 } else y }

variable {q : Fin 4} {rest : List StreamCmd}

theorem State.streamDone_fabric (s : State) (t q : Nat) (d : StreamCmd) (rest : List StreamCmd) :
    (s.streamDone t q d rest).fabric = (s.setQueue t q rest).fabric := by
  have hc : (s.streamDone t q d rest).fabric = ((s.moveStream t d).setQueue t q rest).fabric :=
    (State.count_keep (W := { b_perf := true }) (Keep.refl _)).parts.fabric rfl
  rw [hc]
  unfold State.setQueue State.setFabric
  rw [(s.moveStream_unchanged t d).fabric rfl]

theorem State.streamDone_mem (s : State) (t q : Nat) (d : StreamCmd) (rest : List StreamCmd) :
    (s.streamDone t q d rest).mem = (s.moveStream t d).mem :=
  (State.count_keep (W := { b_perf := true }) (Keep.refl _)).parts.mem rfl

theorem exec_streamCommandDone (hh : (s.unitDbg 0 t.val).state ≠ 2) (hq : s.queue t.val q.val = d :: rest) :
    exec (.streamCommandDone t q) s =
      if (s.streamDone t.val q.val d rest).tokenBusy t.val d.token then .next (s.streamDone t.val q.val d rest)
      else .next ((s.streamDone t.val q.val d rest).setRun t.val (((s.streamDone t.val q.val d rest).run t.val).release d.token)) := by
  show execStreamCommandDone t q s = _
  simp only [execStreamCommandDone, hh, hq, if_false]
  rfl

/-- R101, R128: the queues, the groups that waited, and the memory after the completion of a command. -/
theorem streamCommandDone_completes (hh : (s.unitDbg 0 t.val).state ≠ 2) (hq : s.queue t.val q.val = d :: rest) :
    ∃ u, exec (.streamCommandDone t q) s = .next u ∧
      (∀ k j, j < 4 → u.queue k j = if k = t.val ∧ j = q.val then rest else s.queue k j) ∧
      (∀ k, u.run k = if k = t.val ∧ u.tokenBusy t.val d.token = false then (s.run t.val).release d.token else s.run k) ∧
      ∀ a, u.byte a = (s.moveStream t.val d).byte a := by
  have hf := s.streamDone_fabric t.val q.val d rest
  have hqueue : ∀ k j, j < 4 → (s.streamDone t.val q.val d rest).queue k j = if k = t.val ∧ j = q.val then rest else s.queue k j :=
    fun k j hj => (State.queue_of_fabric hf k j).trans (State.queue_setQueue _ _ _ q.isLt hj)
  have hrun : ∀ k, (s.streamDone t.val q.val d rest).run k = s.run k :=
    fun k => (State.run_of_fabric hf k : _ = (s.setQueue t.val q.val rest).run k)
  have hbyte : ∀ a, (s.streamDone t.val q.val d rest).byte a = (s.moveStream t.val d).byte a :=
    State.byte_congr (s.streamDone_mem t.val q.val d rest)
  rw [exec_streamCommandDone hh hq]
  generalize s.streamDone t.val q.val d rest = v at hqueue hrun hbyte
  cases hb : v.tokenBusy t.val d.token with
  | true => exact ⟨v, if_pos rfl, hqueue, fun k => (hrun k).trans (if_neg fun h => by simp [hb] at h).symm, hbyte⟩
  | false =>
    refine ⟨_, if_neg Bool.false_ne_true, hqueue, fun k => ?_, hbyte⟩
    have hbusy : (v.setRun t.val ((v.run t.val).release d.token)).tokenBusy t.val d.token = false := hb
    rw [hbusy, State.run_setRun, hrun, hrun]
    simp only [and_true]

/-- Settles O19: SIN and SOUT are one instruction but for the direction; the completion's bytes are those of `State.moveStream`. -/
theorem streamCommands : Obligations.StreamCommands := by
  unfold Obligations.StreamCommands
  refine ⟨fun t g w s x c op out d hc h hd => ?_, fun t q s d rest hh hq hfit => ?_⟩
  · have hexec : exec c s = s.laneStream t g w op out := by
      rcases hc with ⟨rfl, rfl, rfl⟩ | ⟨rfl, rfl, rfl⟩ <;> rfl
    rw [hexec]
    exact ⟨laneStream_empty h hd.symm, fun hlen hk ha hr ho hl hm hfit hin =>
      laneStream_queues h hd.symm (State.streamCheck_of_ok hlen hk ha hr ho hl hm hfit hin)⟩
  · obtain ⟨u, hexec, hqueue, hrun, hbyte⟩ := streamCommandDone_completes hh hq
    refine ⟨u, hexec, hqueue, hrun, fun ho => ?_, fun ho hk => ?_⟩
    · simp only [hbyte]
      exact State.byte_moveStream_in t.val ho hfit
    · simp only [hbyte]
      exact State.byte_moveStream_out t.val ho hk

end Sys2Proof.Machine
end

section
/-! Lane kernels, registers (R116 to R124): FALU, FFUN, IALU, CMP, CVT and MOVE write one register or predicate of their group. -/

namespace Sys2Proof.Machine

-- One proof at a time: the package is compiled as one text under a memory limit.
set_option Elab.async false

variable {t : TileId} {g : Fin 32} {w : W64} {cls : Nat} {ops : Nat → Bool} {c : Instr}

/-- A group that wrote f to dst in its enabled lanes (R120) and goes on. -/
theorem Group.mapDst_next (x : Group) (w : W64) (f : Nat → W32) :
    (x.mapDst w f).next.pc = x.pc + 1 ∧ (x.mapDst w f).next.wait = x.wait ∧ (x.mapDst w f).next.p = x.p ∧
      (x.mapDst w f).next.s = x.s ∧
      ∀ r l, l < 64 → (x.mapDst w f).next.vreg r l = if r = lDst w ∧ x.enabled w l = true then f l else x.vreg r l :=
  have ⟨hpc, hwait, hp, hs⟩ := x.mapDst_rest w f
  ⟨congrArg (· + 1) hpc, hwait, hp, hs, x.vreg_mapDst w f⟩

theorem LaneResult.of_laneReg {f : Group → Nat → W32}
    (hexec : ∀ s, exec c s = s.laneReg t g w cls ops fun x => x.mapDst w (f x)) : LaneResult c t g w cls ops f := by
  intro s x h
  obtain ⟨u, hu, hnext⟩ := State.laneReg_next h fun x => x.mapDst w (f x)
  exact ⟨u, _, (hexec s).trans hu, hnext, x.mapDst_next w (f x)⟩

/-- Settles O11: each instruction of FALU and FFUN is its operation under `Group.mapDst`. -/
theorem laneFloatInstructions : Obligations.LaneFloatInstructions := by
  unfold Obligations.LaneFloatInstructions
  intro t g w
  refine ⟨?_, ?_, ?_, ?_, ?_, ?_, ?_, ?_, ?_, ?_, ?_, ?_, ?_, ?_, ?_, ?_, ?_, ?_, ?_, ?_⟩ <;> exact .of_laneReg fun _ => rfl

/-! ## CMP -/

/-- A predicate after a predicate was written: p7 reads true whatever is written to it. -/
theorem Group.pred_setPred (x : Group) (p m q : Nat) :
    (x.setPred p m).pred q = if q = p ∧ p ≠ 7 then m % 2 ^ 64 else x.pred q := by
  unfold Group.setPred Group.pred
  by_cases hp : p = 7
  · simp [hp]
  · by_cases hq : q = p
    · simp [hq, hp, Tab.get_set_same]
    · simp [hq, hp, Tab.get_set_other _ _ _ _ hq]

theorem Group.setPred_rest (x : Group) (p m : Nat) :
    (x.setPred p m).pc = x.pc ∧ (x.setPred p m).wait = x.wait ∧ (x.setPred p m).v = x.v ∧ (x.setPred p m).s = x.s := by
  unfold Group.setPred
  split <;> exact ⟨rfl, rfl, rfl, rfl⟩

/-- R123: a comparison's result in one lane of the predicate that dst names. -/
theorem Group.testBit_pred_setPred_cmpMask (x : Group) (f : Nat → Bool) {l : Nat} (hl : l < 64) (hd : lDst w ≠ 7) :
    ((x.setPred (lDst w) (cmpMask x w f)).pred (lDst w)).testBit l =
      if x.enabled w l = true then
        (if lw w 17 16 = 1 then (x.pred (lDst w)).testBit l && f l
         else if lw w 17 16 = 2 then (x.pred (lDst w)).testBit l || f l else f l)
      else (x.pred (lDst w)).testBit l := by
  obtain ⟨hbit, hlt⟩ := cmpMask_spec x w f l
  rw [Group.pred_setPred, if_pos ⟨rfl, hd⟩, Nat.mod_eq_of_lt hlt, hbit, decide_eq_true hl, Bool.true_and]
  rfl

/-- R123: a comparison sets its predicate and nothing else of the group. -/
theorem laneCmp_sets {s : State} {x : Group} {op : Nat} (h : s.issue t g w 4 (· == op) = some x) (f : Nat → W32 → W32 → Bool) :
    ∃ u y, s.laneCmp t g w op f = .next u ∧ LaneNext s u t g y ∧ y.pc = x.pc + 1 ∧ y.wait = x.wait ∧ y.v = x.v ∧ y.s = x.s ∧
      (∀ p, p ≠ lDst w ∨ p = 7 → y.pred p = x.pred p) ∧
      ∀ l, l < 64 → lDst w ≠ 7 → (y.pred (lDst w)).testBit l =
        if x.enabled w l = true then
          (let r := f (lw w 20 18) (x.srcA w l) (x.srcB w l)
           if lw w 17 16 = 1 then (x.pred (lDst w)).testBit l && r
           else if lw w 17 16 = 2 then (x.pred (lDst w)).testBit l || r else r)
        else (x.pred (lDst w)).testBit l := by
  obtain ⟨u, hu, hnext⟩ := State.laneReg_next h fun x =>
    x.setPred (lDst w) (cmpMask x w fun l => f (lw w 20 18) (x.srcA w l) (x.srcB w l))
  obtain ⟨hpc, hwait, hv, hs⟩ := x.setPred_rest (lDst w) (cmpMask x w fun l => f (lw w 20 18) (x.srcA w l) (x.srcB w l))
  refine ⟨u, _, hu, hnext, congrArg (· + 1) hpc, hwait, hv, hs, fun p hp => ?_, fun l hl hd =>
    x.testBit_pred_setPred_cmpMask _ hl hd⟩
  exact (x.pred_setPred _ _ p).trans (if_neg fun h => hp.elim (absurd h.1) fun h7 => h.2 (h.1 ▸ h7))

/-- Settles O12: IALU as FALU; the three comparisons are one instruction but for the condition's meaning. -/
theorem laneIntegerInstructions : Obligations.LaneIntegerInstructions := by
  unfold Obligations.LaneIntegerInstructions
  intro t g w
  refine ⟨?_, fun s x c op holds hc h => ?_⟩
  · refine ⟨?_, ?_, ?_, ?_, ?_, ?_, ?_, ?_, ?_, ?_, ?_, ?_, ?_, ?_, ?_⟩ <;> exact .of_laneReg fun _ => rfl
  · have hexec : exec c s = s.laneCmp t g w op holds := by
      rcases hc with ⟨rfl, rfl, rfl⟩ | ⟨rfl, rfl, rfl⟩ | ⟨rfl, rfl, rfl⟩ <;> rfl
    rw [hexec]
    exact laneCmp_sets h holds

/-! ## CVT and MOVE -/

/-- R124: a narrowing conversion, which counts the NaN values beside its result. -/
theorem LaneResult.of_laneNarrow {counts : Bool} {f : Group → Nat → W32}
    (hexec : ∀ s, exec c s = s.laneNarrow t g w ops counts f) : LaneResult c t g w 5 ops f := by
  intro s x h
  obtain ⟨u, hu, hnext⟩ := State.laneAct_next h (fun s x =>
      (s.countNan t (if counts then ((x.lanes w).filter fun l => (decF (x.srcA w l)).isNan).length else 0)).setGroup t g
        (x.mapDst w (f x)).next)
    (x.mapDst w (f x)).next (LaneNext.setGroup _ _)
  exact ⟨u, _, (hexec s).trans hu, hnext, x.mapDst_next w (f x)⟩

/-- The mask of a predicate in the enabled lanes, as VOTE gathers it. -/
def Group.voteMask (x : Group) (w : W64) : Nat :=
  (x.lanes w).foldl (fun m l => m + ofBool (bit (x.pred (lA w)) l) * 2 ^ l) 0

theorem Group.testBit_voteMask (x : Group) (w : W64) {l : Nat} (hl : l < 64) :
    (x.voteMask w).testBit l = (x.enabled w l && (x.pred (lA w)).testBit l) := by
  have hfold : x.voteMask w = (List.range 64).foldl
      (fun m l => m + ofBool (x.enabled w l && (x.pred (lA w)).testBit l) * 2 ^ l) 0 := by
    unfold Group.voteMask Group.lanes
    rw [List.foldl_filter]
    congr 1
    funext m l
    unfold bit
    cases x.enabled w l
    · simp [ofBool]
    · rw [if_pos rfl, Bool.true_and]
  rw [hfold, (foldl_bits _ 64 l).1, decide_eq_true hl, Bool.true_and]

/-- Settles O13: a `Group.mapDst` each, but for the narrowing conversions, VOTE and VTOS. -/
theorem laneMovesAndConversions : Obligations.LaneMovesAndConversions := by
  unfold Obligations.LaneMovesAndConversions
  intro t g w
  refine ⟨⟨.of_laneReg fun _ => rfl, .of_laneReg fun _ => rfl, .of_laneReg fun _ => rfl, .of_laneNarrow fun _ => rfl,
    .of_laneNarrow fun _ => rfl, .of_laneNarrow fun _ => rfl, ?_⟩, fun s x h => ?vote, fun s x h => ?vtos⟩
  · refine ⟨?_, ?_, ?_, ?_, ?_, ?_, ?_, ?_, ?_⟩ <;> exact .of_laneReg fun _ => rfl
  case vote =>
    obtain ⟨u, hu, hnext⟩ := State.laneReg_next h fun x => x.setS (lDst w) (BitVec.ofNat 64 (x.voteMask w))
    refine ⟨u, _, hu, hnext, rfl, rfl, rfl, rfl, fun r hr => (x.sreg_setS ..).trans (if_neg hr), fun l hl => ?_⟩
    refine (congrArg (·.getLsbD l) ((x.sreg_setS ..).trans (if_pos rfl))).trans ?_
    rw [BitVec.getLsbD_ofNat, decide_eq_true hl, Bool.true_and, x.testBit_voteMask w hl]
  case vtos =>
    obtain ⟨u, hu, hnext⟩ := State.laneReg_next h fun x =>
      if x.enabled w (lw w 5 0) then x.setS (lDst w) ((x.srcA w (lw w 5 0)).setWidth 64) else x
    refine ⟨u, _, hu, hnext, ?_⟩
    by_cases he : x.enabled w (lw w 5 0) = true
    · simp only [he, if_true, and_true]
      exact ⟨rfl, rfl, rfl, rfl, fun r => x.sreg_setS (lDst w) r _⟩
    · rw [if_neg he]
      exact ⟨rfl, rfl, rfl, rfl, fun r => (if_neg fun h => he h.2).symm⟩

end Sys2Proof.Machine
end

section
/-! Lane kernels, memory (R125, R132, R133, R136): loads, stores and atomics whose enabled lanes stay in their window. -/

namespace Sys2Proof.Machine

-- One proof at a time: the package is compiled as one text under a memory limit.
set_option Elab.async false

variable {s v : State} {t : TileId} {g : Fin 32} {w : W64} {ops : Nat → Bool} {x : Group} {quad : Bool} {size : Nat}

/-! ## The bytes that a lane reads -/

/-- No stream command of the cluster of tile t is outstanding. -/
def State.clusterQuiet (s : State) (t : TileId) : Prop := ∀ k, k < 32 → s.queue (8 * (t.val / 8) + k / 4) (k % 4) = []

theorem State.clusterQuiet_of_fabric (h : s.clusterQuiet t) (hf : v.fabric = s.fabric) : v.clusterQuiet t :=
  fun k hk => (State.queue_of_fabric hf _ _).trans (h k hk)

/-- R136: with no command outstanding a lane reads the byte of its tile store. -/
theorem State.laneByte_of_quiet (h : s.clusterQuiet t) (off : Nat) : s.laneByte t off = s.byte (tileAddr t off) := by
  have hcover : ∀ p : Nat → StreamCmd → Bool,
      (List.range 32).flatMap (fun k => (s.queue (8 * (t.val / 8) + k / 4) (k % 4)).filter (p k)) = [] := fun p =>
    List.flatMap_eq_nil_iff.mpr fun k hk => by rw [h k (List.mem_range.mp hk), List.filter_nil]
  unfold State.laneByte
  simp only
  rw [hcover, List.foldl_nil]

/-- R125, R136: what a lane reads, but for bytes that a stream command is writing, is what its cells hold. -/
theorem State.laneLoad_eq (h : quad = false → s.clusterQuiet t) (off n : Nat) :
    s.laneLoad t quad off n = (List.range n).map fun k => s.byte (s.laneCell t quad (off + k)) := by
  cases quad with
  | true =>
    unfold State.laneLoad State.load State.laneCell quadAddr
    simp only [if_true, Nat.add_assoc]
  | false => exact List.map_congr_left fun k _ => State.laneByte_of_quiet (h rfl) (off + k)

/-- The issue of an instruction and the draw of its free value move nothing that a lane access depends on. -/
theorem State.laneCell_issued (s : State) (t : TileId) (quad : Bool) (off : Nat) :
    (s.vecIssued t).draw.laneCell t quad off = s.laneCell t quad off :=
  have h := s.vecIssued_unchanged t
  State.laneCell_congr (h.fabric rfl) (h.struct rfl) (h.bbs rfl) t quad off

theorem State.byte_issued (s : State) (t : TileId) (a : Nat) : (s.vecIssued t).draw.byte a = s.byte a :=
  State.byte_congr (State.vecIssued_mem s t) a

theorem State.laneLoad_issued (h : quad = false → s.clusterQuiet t) (off n : Nat) :
    (s.vecIssued t).draw.laneLoad t quad off n = (List.range n).map fun k => s.byte (s.laneCell t quad (off + k)) := by
  rw [State.laneLoad_eq (s := (s.vecIssued t).draw) fun hq => State.clusterQuiet_of_fabric (h hq) (State.vecIssued_fabric s t)]
  simp only [State.laneCell_issued, State.byte_issued]

/-! ## Loads -/

/-- A MEM instruction that writes registers only. -/
theorem laneMem_group (f : State → Group → Nat → Nat → Group) (h : s.issue t g w 7 ops = some x) (hc : s.laneClear t x w quad size) :
    ∃ u, s.laneMem t g w ops quad size (fun s _ y l a => (s, f s y l a)) = .next u ∧ u.mem = s.mem ∧
      LaneNext s u t g ((x.lanes w).foldl (fun y l => f (s.vecIssued t).draw y l (x.memAddr w l)) x).next := by
  obtain ⟨u, y, hu, hnext, hmem, rfl⟩ := State.laneMem_next h hc (f := fun s _ y l a => (s, f s y l a))
  rw [State.laneFold_group _ x fun s y l => f s y l (x.memAddr w l)] at hmem hnext
  exact ⟨u, hu, hmem.trans (State.vecIssued_mem s t), hnext⟩

/-- A load of up to 4 bytes: dst takes the extended value in each enabled lane. -/
theorem memLoad_loads {op : Nat} (ext : Nat → W32) (h : s.issue t g w 7 (· == op) = some x) (hc : s.laneClear t x w quad size) :
    ∃ u y, s.memLoad t g w op quad size ext = .next u ∧ LaneNext s u t g y ∧ y.pc = x.pc + 1 ∧ y.wait = x.wait ∧ y.p = x.p ∧
      y.s = x.s ∧ u.mem = s.mem ∧ ∀ r l, l < 64 → y.vreg r l = if r = lDst w ∧ x.enabled w l = true then
        ext (leVal ((s.vecIssued t).draw.laneLoad t quad (x.memAddr w l) size)) else x.vreg r l := by
  obtain ⟨u, hu, hmem, hnext⟩ := laneMem_group (fun s y l a => y.setV (lDst w) l (ext (leVal (s.laneLoad t quad a size)))) h hc
  obtain ⟨hpc, hwait, hp, hs, hv⟩ := x.mapDst_next w fun l => ext (leVal ((s.vecIssued t).draw.laneLoad t quad (x.memAddr w l) size))
  exact ⟨u, _, hu, hnext, hpc, hwait, hp, hs, hmem, hv⟩

/-- A load of 16 bytes: dst to dst+3 take the four words in each enabled lane. -/
theorem memLoad128_loads {op : Nat} (h : s.issue t g w 7 (· == op) = some x) (hc : s.laneClear t x w quad 16) :
    ∃ u y, s.memLoad128 t g w op quad = .next u ∧ LaneNext s u t g y ∧ y.pc = x.pc + 1 ∧ y.wait = x.wait ∧ y.p = x.p ∧
      y.s = x.s ∧ u.mem = s.mem ∧ ∀ r l, l < 64 → y.vreg r l = if (lDst w ≤ r ∧ r < lDst w + 4) ∧ x.enabled w l = true then
        BitVec.ofNat 32 (leAt ((s.vecIssued t).draw.laneLoad t quad (x.memAddr w l) 16) (4 * (r - lDst w)) 4) else x.vreg r l := by
  obtain ⟨u, hu, hmem, hnext⟩ := laneMem_group (fun s y l a => (List.range 4).foldl
    (fun y k => y.setV (lDst w + k) l (BitVec.ofNat 32 (leAt (s.laneLoad t quad a 16) (4 * k) 4))) y) h hc
  obtain ⟨hpc, hwait, hp, hs, hv⟩ := Group.foldl_setV4
    (fun l k => BitVec.ofNat 32 (leAt ((s.vecIssued t).draw.laneLoad t quad (x.memAddr w l) 16) (4 * k) 4)) (lDst w) (x.lanes w) x
  refine ⟨u, _, hu, hnext, congrArg (· + 1) hpc, hwait, hp, hs, hmem, fun r l hl => ?_⟩
  refine (hv (fun k hk => ((x.mem_lanes w k).mp hk).1) r l hl).trans ?_
  simp only [Group.mem_lanes, hl, true_and]

/-- Settles O14: the eight loads are `State.memLoad` and `State.memLoad128`, whose bytes are those of the lanes' cells. -/
theorem laneLoads : Obligations.LaneLoads := by
  unfold Obligations.LaneLoads
  intro t g w s x
  refine ⟨fun c op size quad ext hop h hc => ?_, fun c op quad hop h hc => ?_, fun off n hq => State.laneLoad_issued (fun _ => hq) off n,
    State.laneLoad_issued fun hq => by cases hq⟩
  · have hexec : exec c s = s.memLoad t g w op quad size ext := by
      rcases hop with ⟨rfl, rfl, rfl, rfl, rfl⟩ | ⟨rfl, rfl, rfl, rfl, rfl⟩ | ⟨rfl, rfl, rfl, rfl, rfl⟩ | ⟨rfl, rfl, rfl, rfl, rfl⟩ |
        ⟨rfl, rfl, rfl, rfl, rfl⟩ | ⟨rfl, rfl, rfl, rfl, rfl⟩ <;> rfl
    rw [hexec]
    exact memLoad_loads ext h hc
  · have hexec : exec c s = s.memLoad128 t g w op quad := by
      rcases hop with ⟨rfl, rfl, rfl⟩ | ⟨rfl, rfl, rfl⟩ <;> rfl
    rw [hexec]
    exact memLoad128_loads h hc

/-! ## Stores and atomics -/

/-- What lanes that write memory in ascending order do from s to u (R125, R133): memory is `M l` before lane l, whose `size` bytes `data l`,
if the lane is enabled, go to the cells that its address names. -/
structure LaneWrites (s u : State) (t : TileId) (x : Group) (w : W64) (quad : Bool) (size : Nat) (data : Nat → List Byte)
    (M : Nat → Nat → Byte) : Prop where
  first : ∀ a, M 0 a = s.byte a
  last : ∀ a, M 64 a = u.byte a
  disabled : ∀ l, l < 64 → x.enabled w l = false → ∀ a, M (l + 1) a = M l a
  other : ∀ l, l < 64 → x.enabled w l = true → ∀ a, (∀ k, k < size → s.laneCell t quad (x.memAddr w l + k) ≠ a) → M (l + 1) a = M l a
  cell : ∀ l, l < 64 → x.enabled w l = true → ∀ k, k < size →
    (∀ j, k < j → j < size → s.laneCell t quad (x.memAddr w l + j) ≠ s.laneCell t quad (x.memAddr w l + k)) →
      M (l + 1) (s.laneCell t quad (x.memAddr w l + k)) = (data l).getD k 0#8

/-- A lane of a MEM instruction that stores: `data` gives the bytes for its cells and, if `writes` says that dst takes a value, `val` that
value, from the state that the lane meets, the group as issued, the lane and its address. -/
def laneStep (t : TileId) (w : W64) (quad : Bool) (data : State → Group → Nat → Nat → List Byte) (val : State → Group → Nat → Nat → W32)
    (writes : Bool) (s : State) (x y : Group) (l a : Nat) : State × Group :=
  (s.laneStore t quad a (data s x l a), if writes then y.setV (lDst w) l (val s x l a) else y)

theorem State.laneStore_fabric (s : State) (t : Nat) (quad : Bool) (off : Nat) (b : List Byte) : (s.laneStore t quad off b).fabric = s.fabric :=
  (State.laneStore_keep (W := { mem := true, badUnits := true, badRecord := true }) (Keep.refl s)).parts.fabric rfl

theorem foldl_laneStep_group (data : State → Group → Nat → Nat → List Byte) (val : State → Group → Nat → Nat → W32) (ls : List Nat)
    (p : State × Group) : (ls.foldl (fun p l => laneStep t w quad data val false p.1 x p.2 l (x.memAddr w l)) p).2 = p.2 := by
  induction ls generalizing p with
  | nil => rfl
  | cons l ls ih => exact ih _

/-- The lanes of a MEM instruction that stores: a chain of states `S` from the issue on that differ in memory alone. -/
theorem laneMem_writes {data : State → Group → Nat → Nat → List Byte} (val : State → Group → Nat → Nat → W32) (writes : Bool)
    (hlen : ∀ s x l a, (data s x l a).length = size)
    (h : s.issue t g w 7 ops = some x) (hc : s.laneClear t x w quad size)
    (hq : quad = true → ∀ l, l < 64 → x.enabled w l = true → x.memAddr w l < 2 ^ 48) :
    ∃ (u : State) (y : Group) (S : Nat → State), s.laneMem t g w ops quad size (laneStep t w quad data val writes) = .next u ∧
      LaneNext s u t g y ∧ y.pc = x.pc + 1 ∧ y.wait = x.wait ∧ y.p = x.p ∧ y.s = x.s ∧
      (∀ l, l < 64 → ∃ m, S l = { (s.vecIssued t).draw with mem := m }) ∧
      LaneWrites s u t x w quad size (fun l => data (S l) x l (x.memAddr w l)) (fun l => (S l).byte) ∧
      (writes = false → y = x.next) ∧
      ∀ r l, l < 64 → y.vreg r l = if writes = true ∧ r = lDst w ∧ x.enabled w l = true then val (S l) x l (x.memAddr w l) else x.vreg r l := by
  obtain ⟨u, y, hu, hnext, hmem, rfl⟩ := State.laneMem_next h hc (f := laneStep t w quad data val writes)
    (fun s _ _ _ _ => s.laneStore_fabric ..)
  obtain ⟨S, hS0, hS64, hchain, hoff, hon, hpc, hwait, hp, hs, hv⟩ := State.laneChain (t := t) (quad := quad) (s.vecIssued t).draw x w
    (fun s l => data s x l (x.memAddr w l)) (fun s l => val s x l (x.memAddr w l)) writes hq
  have hfold : (x.lanes w).foldl (fun p l => laneStep t w quad data val writes p.1 x p.2 l (x.memAddr w l)) ((s.vecIssued t).draw, x) = S 64 :=
    hS64.symm
  rw [hfold] at hmem hnext
  simp only [hlen, State.laneCell_issued] at hon
  refine ⟨u, _, fun l => (S l).1, hu, hnext, congrArg (· + 1) hpc, hwait, hp, hs, hchain,
    ⟨fun a => ?_, State.byte_congr hmem.symm, fun l hl he a => ?_, fun l hl he => (hon l hl he).1, fun l hl he k hk hlast => ?_⟩, fun hw => ?_, hv⟩
  · exact (congrArg (·.1.byte a) hS0).trans (s.byte_issued t a)
  · exact congrArg (·.1.byte a) (hoff l hl he)
  · rw [List.getD_eq_getElem _ _ ((hlen ..).symm ▸ hk)]
    exact (hon l hl he).2 k hk hlast
  · subst hw
    rw [← hfold, foldl_laneStep_group]

/-- Settles O15: the six stores are `State.laneMem` of a `laneStep` that leaves the registers. -/
theorem laneStores : Obligations.LaneStores := by
  unfold Obligations.LaneStores
  intro t g w s x c op size quad data hop h hc hq
  have hexec : ∃ D : Group → Nat → List Byte, exec c s = s.laneMem t g w (· == op) quad size
      (laneStep t w quad (fun _ x l _ => D x l) (fun _ _ _ _ => 0#32) false) ∧ data = D x ∧ ∀ x l, (D x l).length = size := by
    rcases hop with ⟨rfl, rfl, rfl, rfl, rfl⟩ | ⟨rfl, rfl, rfl, rfl, rfl⟩ | ⟨rfl, rfl, rfl, rfl, rfl⟩ | ⟨rfl, rfl, rfl, rfl, rfl⟩ |
      ⟨rfl, rfl, rfl, rfl, rfl⟩ | ⟨rfl, rfl, rfl, rfl, rfl⟩
    · exact ⟨fun x l => leBytes 1 (x.vreg (lC w) l).toNat, rfl, rfl, fun _ _ => leBytes_length ..⟩
    · exact ⟨fun x l => leBytes 2 (x.vreg (lC w) l).toNat, rfl, rfl, fun _ _ => leBytes_length ..⟩
    · exact ⟨fun x l => leBytes 4 (x.vreg (lC w) l).toNat, rfl, rfl, fun _ _ => leBytes_length ..⟩
    · exact ⟨fun x l => (List.range 4).flatMap fun k => leBytes 4 (x.vreg (lC w + k) l).toNat, rfl, rfl, fun _ _ => rfl⟩
    · exact ⟨fun x l => leBytes 4 (x.vreg (lC w) l).toNat, rfl, rfl, fun _ _ => leBytes_length ..⟩
    · exact ⟨fun x l => (List.range 4).flatMap fun k => leBytes 4 (x.vreg (lC w + k) l).toNat, rfl, rfl, fun _ _ => rfl⟩
  obtain ⟨D, hexec, rfl, hlen⟩ := hexec
  obtain ⟨u, y, S, hu, hnext, -, -, -, -, -, hM, hy, -⟩ :=
    laneMem_writes (fun _ _ _ _ => 0#32) false (fun _ x l _ => hlen x l) h hc hq
  exact ⟨u, fun l => (S l).byte, hexec.trans hu, hy rfl ▸ hnext, hM.first, hM.last, fun l hl =>
    ⟨hM.disabled l hl, fun he => ⟨hM.other l hl he, hM.cell l hl he⟩⟩⟩

/-- The old value that an atomic of a lane reads. -/
def State.atomOld (s : State) (t : TileId) (quad : Bool) (a : Nat) : W32 := BitVec.ofNat 32 (leVal (s.laneLoad t quad a 4))

/-- A lane of an atomic reads the word that the lanes before it left. -/
theorem State.atomOld_of_chain (hv : ∃ m, v = { (s.vecIssued t).draw with mem := m }) (h : quad = false → s.clusterQuiet t) (a : Nat) :
    v.atomOld t quad a = BitVec.ofNat 32 (leVal ((List.range 4).map fun k => v.byte (s.laneCell t quad (a + k)))) := by
  obtain ⟨m, hv⟩ := hv
  have hfab : v.fabric = s.fabric := hv ▸ State.vecIssued_fabric s t
  have hcell : ∀ k, v.laneCell t quad (a + k) = s.laneCell t quad (a + k) := fun k => hv ▸ State.laneCell_issued s t quad (a + k)
  unfold State.atomOld
  rw [State.laneLoad_eq fun hq => State.clusterQuiet_of_fabric (h hq) hfab]
  simp only [hcell]

/-- Settles O16: the seven atomics are `State.laneMem` of a `laneStep` that gives dst the old value. -/
theorem laneAtomics : Obligations.LaneAtomics := by
  unfold Obligations.LaneAtomics
  refine ⟨fun t g w s x c ops quad hop h hc hquiet hq => ?_, fun q old v cmp => ?_⟩
  · have hexec : exec c s = s.laneMem t g w ops quad 4 (laneStep t w quad
        (fun s x l a => leBytes 4 (atomFn (lOp w) (s.atomOld t quad a) (x.vreg (lC w) l) (x.vreg (lDst w) l)).toNat)
        (fun s _ _ a => s.atomOld t quad a) true) := by
      rcases hop with ⟨rfl, rfl, rfl⟩ | ⟨rfl, rfl, rfl⟩ | ⟨rfl, rfl, rfl⟩ | ⟨rfl, rfl, rfl⟩ | ⟨rfl, rfl, rfl⟩ | ⟨rfl, rfl, rfl⟩ |
        ⟨rfl, rfl, rfl⟩ <;> rfl
    obtain ⟨u, y, S, hu, hnext, hpc, hwait, hp, hs, hchain, hM, -, hv⟩ :=
      laneMem_writes (fun s _ _ a => s.atomOld t quad a) true (fun _ _ _ _ => leBytes_length ..) h hc hq
    refine ⟨u, y, fun l => (S l).byte, hexec.trans hu, hnext, hpc, hwait, hp, hs, hM.first, hM.last, fun r l hl hr => ?_, fun l hl =>
      ⟨hM.disabled l hl, fun he => ?_⟩⟩
    · refine (hv r l hl).trans (if_neg fun ⟨_, hd, he⟩ => hr.elim (absurd hd) fun hn => ?_)
      rw [hn] at he
      cases he
    · have hold := State.atomOld_of_chain (hchain l hl) hquiet (x.memAddr w l)
      refine ⟨((hv (lDst w) l hl).trans (if_pos ⟨rfl, rfl, he⟩)).trans hold, ?_, hM.other l hl he⟩
      simp only [← hold]
      exact hM.cell l hl he
  · have hfn : ∀ k, atomFn (16 * q + k) old v cmp = atomFn k old v cmp := fun k => by
      unfold atomFn
      rw [Nat.mul_add_mod]
    exact ⟨hfn 0, hfn 1, hfn 2, hfn 3, hfn 4, hfn 5⟩

end Sys2Proof.Machine
end

section
/-! Lane kernels, scalar and control instructions (R114, R117, R121, R128, R132, R134). -/

namespace Sys2Proof.Machine

-- One proof at a time: the package is compiled as one text under a memory limit.
set_option Elab.async false

variable {s v : State} {t : TileId} {g : Fin 32} {w : W64} {cls op : Nat} {ops : Nat → Bool} {x : Group} {c : Instr}

theorem LaneGroup.of_laneReg {f : Group → Group} (hexec : ∀ s, exec c s = s.laneReg t g w cls (· == op) f) :
    LaneGroup c t g w cls op fun _ x => (f x).next := by
  intro s x h
  obtain ⟨u, hu, hnext⟩ := State.laneReg_next h f
  exact ⟨u, (hexec s).trans hu, hnext⟩

/-- An instruction whose action replaces its group; counting the issue moves nothing that the new group depends on. -/
theorem LaneGroup.of_laneAct {f y : State → Group → Group}
    (hexec : ∀ s, exec c s = s.laneAct t g w cls (· == op) fun s x => s.setGroup t g (f s x))
    (hf : ∀ s x, f (s.vecIssued t) x = y s x) : LaneGroup c t g w cls op y := by
  intro s x h
  obtain ⟨u, hu, hnext⟩ := State.laneAct_next h (fun s x => s.setGroup t g (f s x)) _ (LaneNext.setGroup _ _)
  exact ⟨u, (hexec s).trans hu, hf s x ▸ hnext⟩

/-! ## SCALAR -/

/-- Table 5.13: the argument block's address under every selector from 5 on. -/
theorem State.sreadValue_of_ge (s : State) (t g : Nat) {sel : Nat} (h : 5 ≤ sel) : s.sreadValue t g sel = BitVec.ofNat 64 (s.run t).args := by
  obtain ⟨k, rfl⟩ := Nat.exists_eq_add_of_le' h
  rfl

/-- Table 5.13: SREAD of the group, the launch's shape and place, and its argument block. -/
theorem sread_reads (h : s.issue t g w 9 (· == 0x0A) = some x) :
    ∃ u v, exec (.sread t g w) s = .next u ∧ LaneNext s u t g (x.setS (lDst w) v).next ∧
      (lw w 31 0 = 0 → v = BitVec.ofNat 64 g) ∧ (lw w 31 0 = 1 → v = BitVec.ofNat 64 (s.run t).groups.length) ∧
      (lw w 31 0 = 3 → v = BitVec.ofNat 64 t) ∧ (5 ≤ lw w 31 0 → v = BitVec.ofNat 64 (s.run t).args) := by
  have hrun : (s.vecIssued t).draw.run t = s.run t := State.run_of_fabric (State.vecIssued_fabric s t) t
  obtain ⟨u, hu, hnext⟩ := State.laneAct_next h
    (fun s x => s.draw.setGroup t g (x.setS (lDst w) (s.draw.sreadValue t g (lw w 31 0))).next) _ (LaneNext.setGroup _ _)
  refine ⟨u, _, hu, hnext, fun h0 => ?_, fun h1 => ?_, fun h3 => ?_, fun h5 => ?_⟩
  · rw [h0]
    rfl
  · rw [h1, ← hrun]
    rfl
  · rw [h3]
    rfl
  · rw [State.sreadValue_of_ge _ _ _ h5, hrun]

theorem execSld_of_clear {a : Nat} (h : s.issue t g w 9 (· == 0x0C) = some x) (ha : (x.sreg (lA w) + (lImm w).signExtend 64).toNat = a)
    (hin : accessFault (s.run t).tileBase (s.run t).tileLen a 8 = 0) :
    execSld t g w s = .next (State.laneDone s ((s.vecIssued t).draw.setGroup t g
      (x.setS (lDst w) (BitVec.ofNat 64 (leVal ((s.vecIssued t).draw.laneLoad t false a 8)))).next) t) := by
  have hrun : (s.vecIssued t).run t = s.run t := State.run_of_fabric (State.vecIssued_fabric s t) t
  simp only [execSld, State.laneAct, h, ha, hrun, hin]

/-- R132: SLD of an aligned address in the tile-store window. -/
theorem sld_loads {a : Nat} (h : s.issue t g w 9 (· == 0x0C) = some x) (ha : a = (x.sreg (lA w) + (lImm w).signExtend 64).toNat)
    (hin : accessFault (s.run t).tileBase (s.run t).tileLen a 8 = 0) :
    ∃ u, exec (.sld t g w) s = .next u ∧ u.mem = s.mem ∧
      LaneNext s u t g (x.setS (lDst w) (BitVec.ofNat 64 (leVal ((s.vecIssued t).draw.laneLoad t false a 8)))).next :=
  ⟨_, execSld_of_clear h ha.symm hin, ((State.laneDone_keep' ..).mem rfl).trans (State.vecIssued_mem s t),
    LaneNext.laneDone (LaneNext.setGroup (s.vecIssued t) _)⟩

/-- Settles O17: the arithmetic is `State.laneReg`; SREAD and SLD have a lemma each. -/
theorem laneScalarInstructions : Obligations.LaneScalarInstructions := by
  unfold Obligations.LaneScalarInstructions
  intro t g w
  refine ⟨?_, fun s x h => sread_reads h, fun s x a h ha hin => sld_loads h ha hin⟩
  refine ⟨?_, ?_, ?_, ?_, ?_, ?_, ?_, ?_, ?_, ?_, ?_⟩ <;> exact .of_laneReg fun _ => rfl

/-! ## Branches and waits -/

/-- Table 5.4: the four conditions on a scalar register. -/
theorem scalarMeets_iff (a : W64) {k : Nat} (hk : k < 4) : scalarMeets a k = true ↔
    (k = 0 ∧ a = 0) ∨ (k = 1 ∧ a ≠ 0) ∨ (k = 2 ∧ a.toInt < 0) ∨ (k = 3 ∧ 0 ≤ a.toInt) := by
  interval_cases k <;> simp [scalarMeets]

/-- Table 5.4: the conditions on a predicate. -/
theorem predMeets_iff (m k : Nat) : predMeets m k = true ↔ (k = 0 ∧ m ≠ 0) ∨ (k = 1 ∧ m = 2 ^ 64 - 1) ∨ (2 ≤ k ∧ m = 0) := by
  match k with
  | 0 => simp [predMeets]
  | 1 => simp [predMeets]
  | k + 2 => simp [predMeets]

theorem State.tokenBusy_of_fabric (h : v.fabric = s.fabric) (t tok : Nat) : v.tokenBusy t tok = s.tokenBusy t tok := by
  unfold State.tokenBusy
  simp only [State.queue_of_fabric h]

/-! ## Barriers and the end of a launch -/

/-- What an issued instruction makes of the runs is what its action makes of them. -/
theorem State.laneAct_run (h : s.issue t g w cls ops = some x) (f : State → Group → State) :
    ∃ u, s.laneAct t g w cls ops f = .next u ∧ ∀ k, u.run k = (f (s.vecIssued t) x).run k := by
  refine ⟨State.laneDone s (f (s.vecIssued t) x) t, ?_, (State.laneDone_keep' s _ t).run rfl⟩
  unfold State.laneAct
  rw [h]

/-- The groups of a tile's launch changed by a function. -/
def State.setGroups (s : State) (t : Nat) (f : List Group → List Group) : State := s.setRun t { s.run t with groups := f (s.run t).groups }

/-- The runs after an instruction that replaces its group and then changes the groups of its tile by f. -/
theorem State.issued_groups_run (s : State) (t : TileId) (g : Fin 32) (k : Nat) (x : Group) (f : List Group → List Group) :
    (((s.vecIssued t).setGroup t g x).setGroups t f).run k =
      if k = t.val then { s.run t with groups := f ((s.run t).groups.set g x) } else s.run k := by
  simp only [State.setGroups, State.run_setRun, State.run_setGroup, if_true, State.run_of_fabric (State.vecIssued_fabric s t)]
  split <;> rfl

/-- R134: BAR makes its group wait at the barrier, which lets its groups go once every group has arrived or ended. -/
theorem bar_waits (h : s.issue t g w 0 (· == 0x05) = some x) :
    ∃ u, exec (.bar t g w) s = .next u ∧ ∀ k, u.run k = if k = t.val then
      { s.run t with groups := releaseBar ((s.run t).groups.set g { x with wait := 2 + lw w 1 0 }) (lw w 1 0) } else s.run k := by
  obtain ⟨u, hu, hrun⟩ := State.laneAct_run h fun s x =>
    (s.setGroup t g { x with wait := 2 + lw w 1 0 }).setGroups t fun gs => releaseBar gs (lw w 1 0)
  exact ⟨u, hu, fun k => (hrun k).trans (State.issued_groups_run ..)⟩

/-! ## The end of a launch (R114) -/

/-- A table without the entries of some values: a value of the other kind that was found is found. -/
theorem Tab.get_filter_eq {α : Type} (d : α) (tab : Tab α) (p : α → Bool) (n : Nat) (h : p (Tab.get d tab n) = true) :
    Tab.get d (tab.filter fun e => p e.2) n = Tab.get d tab n := by
  induction tab with
  | nil => rfl
  | cons e tab ih =>
    obtain ⟨k, a⟩ := e
    by_cases hk : n = k
    · simp only [Tab.get, hk, if_true] at h ⊢
      simp [h, Tab.get]
    · simp only [Tab.get, hk, if_false] at h ⊢
      by_cases ha : p a = true <;> simp [ha, Tab.get, hk, ih h]

theorem Tab.get_filter_meets {α : Type} (d : α) (tab : Tab α) (p : α → Bool) (n : Nat) (h : p d = true) :
    p (Tab.get d (tab.filter fun e => p e.2) n) = true := by
  induction tab with
  | nil => exact h
  | cons e tab ih =>
    obtain ⟨k, a⟩ := e
    by_cases ha : p a = true
    · by_cases hk : n = k <;> simp [ha, Tab.get, hk, ih]
    · simpa [ha] using ih

theorem State.run_endLaunch_id (s : State) {id : Nat} (h : id ≠ 0) (k : Nat) : ((s.endLaunch id).run k).id ≠ id :=
  of_decide_eq_true (Tab.get_filter_meets ({} : TileRun) s.fabric.runs (fun r => decide (r.id ≠ id)) k (decide_eq_true (Ne.symm h)))

theorem State.run_endLaunch_other (s : State) {id k : Nat} (h : (s.run k).id ≠ id) : (s.endLaunch id).run k = s.run k :=
  Tab.get_filter_eq ({} : TileRun) s.fabric.runs (fun r => decide (r.id ≠ id)) k (decide_eq_true h)

/-- Whether every group of the launch on tile t has executed EXIT. -/
def State.allExited (s : State) (t : Nat) : Bool := (s.run t).tiles.all fun k => (s.run k).groups.all fun y => decide (y.wait = 1)

theorem State.launchOver_of_running (h : s.allExited t = false) : s.launchOver t = s :=
  if_neg fun hover => Bool.false_ne_true (h.symm.trans hover.2)

theorem State.launchOver_run (hid : (s.run t).id ≠ 0) (h : s.allExited t = true) (k : Nat) :
    (s.launchOver t).run k = (s.endLaunch (s.run t).id).run k := by
  have hover : s.launchOver t = if ((s.endLaunch (s.run t).id).serving (s.run t).part).isNone then
      (s.endLaunch (s.run t).id).clearReruns (s.run t).part else s.endLaunch (s.run t).id := if_pos ⟨hid, h⟩
  rw [hover]
  split <;> rfl

/-- An instruction issues only in a launch. -/
theorem State.issue_id {t g : Nat} (h : s.issue t g w cls ops = some x) : (s.run t).id ≠ 0 := by
  intro hid
  unfold State.issue at h
  rw [if_pos (Or.inl hid)] at h
  cases h

/-- The groups of a launch on its tile once group g has ended, which counts as arrived at every barrier (R134). -/
def TileRun.exitGroups (r : TileRun) (g : Nat) (x : Group) : List Group :=
  (List.range 4).foldl releaseBar (r.groups.set g { x with wait := 1 })

/-- R114, R134: EXIT ends its group, and then the launch if that was its last one. -/
theorem exit_ends (h : s.issue t g w 0 (· == 0x01) = some x) :
    ∃ u v : State, exec (.exit t g w) s = .next u ∧ (∀ k, u.run k = (v.launchOver t).run k) ∧
      ∀ k, v.run k = if k = t.val then { s.run t with groups := (s.run t).exitGroups g x } else s.run k := by
  obtain ⟨u, hu, hrun⟩ := State.laneAct_run h fun s x =>
    ((s.setGroup t g { x with wait := 1 }).setGroups t ((List.range 4).foldl releaseBar)).launchOver t
  exact ⟨u, _, hu, hrun, fun k => State.issued_groups_run ..⟩

section launchOver
variable {gs : List Group} (hv : ∀ k, v.run k = if k = t.val then { s.run t with groups := gs } else s.run k)
include hv

theorem State.allExited_of_groups : v.allExited t =
    (s.run t).tiles.all fun k => (if k = t.val then gs else (s.run k).groups).all fun y => decide (y.wait = 1) := by
  have hgroups : ∀ k, (v.run k).groups = if k = t.val then gs else (s.run k).groups := fun k => by rw [hv]; split <;> rfl
  have htiles : (v.run t).tiles = (s.run t).tiles := by rw [hv, if_pos rfl]
  unfold State.allExited
  rw [htiles]
  simp only [hgroups]

/-- R114: a launch whose groups have all ended ends on every tile that runs it, and no other launch changes. -/
theorem State.launchOver_ends (hid : (s.run t).id ≠ 0) (hall : v.allExited t = true) (k : Nat) :
    ((v.launchOver t).run k).id ≠ (s.run t).id ∧ ((s.run k).id ≠ (s.run t).id → (v.launchOver t).run k = s.run k) := by
  have hvid : (v.run t).id = (s.run t).id := by rw [hv, if_pos rfl]
  have hover := State.launchOver_run (hvid.symm ▸ hid) hall k
  rw [hvid] at hover
  rw [hover]
  refine ⟨v.run_endLaunch_id hid k, fun hk => ?_⟩
  have hvk : v.run k = s.run k := (hv k).trans (if_neg fun h => hk (by rw [h]))
  rw [v.run_endLaunch_other (hvk.symm ▸ hk), hvk]

end launchOver

/-- Settles O18: branches and SWAIT replace their group; BAR and EXIT have a lemma each, and a launch that is over leaves every tile. -/
theorem laneControlInstructions : Obligations.LaneControlInstructions := by
  unfold Obligations.LaneControlInstructions
  intro t g w
  refine ⟨.of_laneReg (f := id) fun _ => rfl, .of_laneAct (f := fun _ x => x.branch w) (fun _ => rfl) fun _ _ => rfl,
    .of_laneAct (f := fun _ x => if scalarMeets (x.sreg (lA w)) (lAux2 w) then x.branch w else x.next) (fun _ => rfl) fun _ x => ?brs,
    .of_laneAct (f := fun _ x => if predMeets (x.pred (lA w)) (lAux2 w) then x.branch w else x.next) (fun _ => rfl) fun _ x => ?brp,
    .of_laneAct (f := fun s x => if s.tokenBusy t (lw w 2 0) then { x with wait := 8 + lw w 2 0 } else x.next) (fun _ => rfl)
      fun s x => ?swait, fun s x h => ?bar, fun s x gs h hgs => ?exit⟩
  case brs => exact if_congr (scalarMeets_iff _ (bits_lt w.toNat 33 32)) rfl rfl
  case brp => exact if_congr (predMeets_iff _ _) rfl rfl
  case swait => simp only [State.tokenBusy_of_fabric (State.vecIssued_fabric s t)]
  case bar =>
    obtain ⟨u, hu, hrun⟩ := bar_waits h
    exact ⟨u, hu, fun k hk => (hrun k).trans (if_neg hk), (hrun t).trans (if_pos rfl)⟩
  case exit =>
    obtain ⟨u, v, hu, hover, hrun⟩ := exit_ends h
    obtain rfl : gs = (s.run t).exitGroups g x := hgs
    rw [← State.allExited_of_groups hrun]
    refine ⟨u, hu, fun hrunning => ?_, fun hall k => ?_⟩
    · rw [State.launchOver_of_running hrunning] at hover
      exact ⟨(hover t).trans ((hrun t).trans (if_pos rfl)), fun k hk => (hover k).trans ((hrun k).trans (if_neg hk))⟩
    · rw [hover k]
      exact State.launchOver_ends hrun (State.issue_id h) hall k

end Sys2Proof.Machine
end

section
/-! The operator catalogue (06): an operator on valid tensors changes the bytes of its output alone. -/

namespace Sys2Proof.Machine

-- One proof at a time: the package is compiled as one text under a memory limit.
set_option Elab.async false

variable {s t : State} {n : Nat} {P : Nat → Prop}

/-! ## What an operator does beside its stores: it draws a number and raises counters -/

theorem WritesIn.draw (h : WritesIn s n P t) : WritesIn s n P t.draw :=
  h.keep (W := {}) (State.draw_keep (Keep.refl t)).parts

theorem WritesIn.countFree (h : WritesIn s n P t) (m code k : Nat) : WritesIn s n P (t.countFree m code k) :=
  h.keep (W := { b_perf := true }) (State.countFree_keep (Keep.refl t)).parts

theorem WritesIn.countNanOp (h : WritesIn s n P t) (m d k : Nat) : WritesIn s n P (t.countNanOp m d k) :=
  h.keep (W := { b_vector := true }) (State.countNanOp_keep (Keep.refl t)).parts

theorem WritesIn.matmulBusy (h : WritesIn s n P t) (m d : Nat) : WritesIn s n P (t.matmulBusy m d) :=
  h.keep (W := { opc := true, b_perf := true }) (State.matmulBusy_keep (Keep.refl t)).parts

theorem WritesIn.indexEvents (h : WritesIn s n P t) (m k : Nat) : WritesIn s n P (t.indexEvents m k) :=
  h.keep (W := { b_perf := true }) (State.indexEvents_keep (Keep.refl t)).parts

/-- What may be written may be taken wider. -/
theorem WritesIn.mono {Q : Nat → Prop} (h : WritesIn s n P t) (hPQ : ∀ a, P a → Q a) : WritesIn s n Q t :=
  ⟨h.struct, h.bbs, fun a ha => h.byte a fun hp => ha (hPQ a hp)⟩

/-- The state on which an operator's action begins. -/
theorem State.draw_writes (s : State) (n : Nat) (P : Nat → Prop) : WritesIn s n P s.draw := (WritesIn.refl P).draw

/-- FP32 results written to a tensor change its bytes alone. -/
theorem State.putF_writes (d rm : Nat) (y : TRef) (sat : Option Bool) (f : List Nat → W32) :
    WritesIn s n (s.tensorByte n y y.lastAxis) (s.draw.putF n d y rm sat f) :=
  (State.putValues_writes y y.lastAxis rm sat _ (s.draw_writes n _)).countNanOp n d _

/-- R140, R141: an operator whose check passes runs, and writes what its action writes. -/
theorem State.operator_writes {refs : List (TRef × Nat)} {valid : Bool} {run : State → Nat → State} (h : s.operatorReady n refs)
    (hvalid : valid = true) (hrun : WritesIn s n P (run s.draw s.fresh)) :
    ∃ u, s.operator n refs valid run = .next u ∧ ∀ a, ¬ P a → u.byte a = s.byte a :=
  ⟨_, State.operator_run h hvalid, (hrun.countFree n 0x05 s.fresh).byte⟩

/-- An operator of a partition that may not run, or with an empty operand, leaves the state (R140). -/
theorem State.operator_idle {refs : List (TRef × Nat)} {valid : Bool} {run : State → Nat → State}
    (h : s.pstate n ≠ 2 ∨ s.stopped n = true ∨ ∃ r ∈ refs, r.1.ext.contains 0 = true) : s.operator n refs valid run = .next s := by
  unfold State.operator
  rcases h with hp | hs | ⟨r, hr, h0⟩
  · rw [if_pos (.inl hp)]
  · rw [if_pos (.inr (.inl hs))]
  · rw [if_pos (List.any_eq_true.mpr ⟨r, hr, h0⟩), ite_self]

/-- A byte stored at an address that names a byte of P. -/
theorem WritesIn.storeByte (h : WritesIn s n P t) {p : Nat} (hp : P (s.phys n p)) (b : Byte) : WritesIn s n P (t.store n p [b]) := by
  have hstore := State.store_writes (s := t) (n := n) p [b]
  refine ⟨hstore.struct.trans h.struct, hstore.bbs.trans h.bbs, fun a ha => (hstore.byte a ?_).trans (h.byte a ha)⟩
  rintro ⟨k, hk, rfl⟩
  obtain rfl : k = 0 := Nat.lt_one_iff.mp hk
  rw [State.phys_congr h.struct h.bbs] at ha
  exact ha hp

/-! ## The catalogue: which operator a command is -/

theorem exec_matmul (n : PartId) (a b : TRef) (bias : Option TRef) (y : TRef) (transA transB : Bool) (outScale : W32) (epi : Option Chain)
    (s : State) : exec (.matmul n a b bias y transA transB outScale epi) s = execMatmul n a b bias y transA transB outScale epi s := rfl

theorem exec_conv (n : PartId) (x wt : TRef) (bias : Option TRef) (y : TRef) (p : ConvParam) (outScale : W32) (epi : Option Chain)
    (s : State) : exec (.conv n x wt bias y p outScale epi) s = execConv n x wt bias y p outScale epi s := rfl

theorem exec_pool (n : PartId) (x y : TRef) (p : ConvParam) (avg countPad : Bool) (s : State) :
    exec (.pool n x y p avg countPad) s = execPool n x y p avg countPad s := rfl

theorem exec_chain (n : PartId) (x y : TRef) (c : Chain) (s : State) : exec (.chain n x y c) s = execChain n x y c s := rfl

theorem exec_reduce (n : PartId) (x y : TRef) (axes : BitVec 6) (fn : Fin 7) (s : State) :
    exec (.reduce n x y axes fn) s = execReduce n x y axes fn s := rfl

theorem exec_softmax (n : PartId) (x y : TRef) (scale : W32) (s : State) : exec (.softmax n x y scale) s = execSoftmax n x y scale s := rfl

theorem exec_norm (n : PartId) (x y : TRef) (form : Fin 3) (eps : W32) (gn : Nat) (gamma beta : Option TRef) (s : State) :
    exec (.norm n x y form eps gn gamma beta) s = execNorm n x y form eps gn gamma beta s := rfl

theorem exec_gather (n : PartId) (tb idx y : TRef) (s : State) : exec (.gather n tb idx y) s = execGather n tb idx y s := rfl

theorem exec_scatter (n : PartId) (d idx u : TRef) (mode : Fin 3) (s : State) :
    exec (.scatter n d idx u mode) s = execScatter n d idx u mode s := rfl

theorem exec_fft (n : PartId) (x y : TRef) (axes : Nat) (inverse realInput : Bool) (s : State) :
    exec (.fft n x y axes inverse realInput) s = execFft n x y axes inverse realInput s := rfl

theorem exec_convert (n : PartId) (x y : TRef) (scale : W32) (rm : Fin 4) (sat : Option Bool) (mxAxis : Nat) (s : State) :
    exec (.convert n x y scale rm sat mxAxis) s = execConvert n x y scale rm sat mxAxis s := rfl

/-! ## The scale bytes that GATHER and SCATTER move -/

/-- R165: a gather changes the bytes of its output alone, the scale bytes of an MX format among them. -/
theorem gather_writes {n : PartId} {tb idx y : TRef} (hidx : idx.fmt = 13) (hy : y.ext = idx.ext ++ tb.ext.drop 1) (hfmt : y.fmt = tb.fmt)
    (hrow : tb.ext.drop 1 ≠ []) (htl : tb.layout = 0) (hyl : y.layout = 0) (hts : tb.sparse = false) (hys : y.sparse = false)
    (hready : s.operatorReady n.val [tb.ax, idx.ax, y.ax]) : WritesTensor (.gather n tb idx y) s n.val y y.lastAxis := by
  rw [WritesTensor, exec_gather, execGather]
  refine State.operator_writes hready (decide_eq_true ⟨hidx, hy, hfmt, hrow, htl, hyl, hts, hys⟩) (.indexEvents ?_ ..)
  have hcodes := fun code => State.putCodes_writes (n := n.val) y y.lastAxis code (s.draw_writes n _)
  dsimp only
  split
  case isTrue hmx =>
    refine (hcodes _).foldl _ _ fun u i hi hu => ?_
    split
    · exact State.scale_writes y y.lastAxis i _ hmx hi hu
    · exact hu
  case isFalse => exact hcodes _

/-- Bytes that a scatter may change: the tensor's, and in an MX format the scale bytes of its rows. -/
def State.scatterByte (s : State) (n : Nat) (d : TRef) (a : Nat) : Prop :=
  s.tensorByte n d d.lastAxis a ∨ (fmtMx d.fmt = true ∧
    ∃ r e, r < d.ext.headD 1 ∧ e ∈ allIdx (d.ext.drop 1) ∧ s.phys n (d.scaleAt d.lastAxis (r :: e)) = a)

/-- R166: a scatter changes bytes of the rows that it names, with their scale bytes in an MX format. -/
theorem scatter_writes {n : PartId} {d idx u : TRef} {mode : Fin 3} (hidx : idx.fmt = 13) (hu : u.ext = idx.ext ++ d.ext.drop 1)
    (hrow : d.ext.drop 1 ≠ []) (hfmt : if mode.val = 0 then u.fmt = d.fmt else u.fmt = 0 ∧ d.fmt = 0) (hdl : d.layout = 0)
    (hul : u.layout = 0) (hds : d.sparse = false) (hus : u.sparse = false) (hready : s.operatorReady n.val [d.ax, idx.ax, u.ax]) :
    ∃ t, exec (.scatter n d idx u mode) s = .next t ∧ ∀ a, ¬ s.scatterByte n d a → t.byte a = s.byte a := by
  rw [exec_scatter, execScatter]
  refine State.operator_writes hready (decide_eq_true ⟨hidx, hu, hrow, hfmt, hdl, hul, hds, hus⟩) (.indexEvents ?_ ..)
  have hcodes := fun code =>
    (State.putCodes_writes (n := n.val) d d.lastAxis code (s.draw_writes n _)).mono (Q := s.scatterByte n d) fun _ => .inl
  dsimp only
  split
  case isTrue hmx =>
    refine (hcodes _).foldl _ _ fun v i hi hv => hv.foldl _ _ fun w e he hw => ?_
    split
    · have hrange := (List.mem_filter.mp hi).2
      simp only [decide_eq_true_eq] at hrange
      exact hw.storeByte (.inr ⟨hmx, _, e, by omega, he, rfl⟩) _
    · exact hw
  case isFalse => exact hcodes _

/-! ## Every operator of the catalogue -/

/-- Settles O37: each case passes the operator's own check (log 55) and names what its action writes; where the scale bytes and the filter lie
is the model's reading (log 50, 51), and so is that any halted unit would hold the operator (log 120). -/
theorem operatorsWriteTheirOutput : Obligations.OperatorsWriteTheirOutput := by
  unfold Obligations.OperatorsWriteTheirOutput
  intro n s
  refine ⟨?matmul, ?conv, ?pool, ?chain, ?reduce, ?softmax, ?norm, ?gather, ?scatter, ?scatterMx, ?fft, ?convert, ?idle⟩
  case matmul =>
    rintro a b y bias transA transB outScale epi la lb batch m k c rfl rfl rfl rfl rfl rfl ha hb hal hbl hk hy hkmax has hbs hba hbb hpair hbias
      hepi hready
    rw [WritesTensor, exec_matmul, execMatmul]
    refine State.operator_writes hready ?_ (.matmulBusy (State.putF_writes ..) ..)
    simp only [Bool.and_eq_true, decide_eq_true_eq, and_assoc]
    exact ⟨ha, hb, hal, hbl, hk, hy, hkmax, has, hbs, hba, hbb, hpair, hbias, hepi⟩
  case conv =>
    rintro x wt y bias p outScale epi ni c h w k ph pw hx hwt hy hp hg hgc hcg hkg hc hk rfl rfl hxs hpair hbias hepi hxmx hymx hpad hready
    rw [WritesTensor, exec_conv, execConv]
    simp only [hx, hwt, hy]
    refine State.operator_writes hready ?_ (.matmulBusy (State.putF_writes ..) ..)
    simp only [Bool.and_eq_true, Bool.or_eq_true, Bool.not_eq_true', or_iff_not_imp_left, Bool.not_eq_false, decide_eq_true_eq, and_assoc, true_and]
    exact ⟨hp, hg, hgc, hcg, hkg, hc, hk, hxs, hpair, hbias, hy ▸ hepi, hxmx, hymx, hpad⟩
  case pool =>
    rintro x y p avg countPad ni c h w ph pw hx hy hp rfl rfl hpt hpb hpl hpr hxmx hymx hready
    rw [WritesTensor, exec_pool, execPool]
    simp only [hx, hy]
    refine State.operator_writes hready ?_ (State.putF_writes ..)
    simp only [Bool.and_eq_true, Bool.or_eq_true, Bool.not_eq_true', or_iff_not_imp_left, Bool.not_eq_false, decide_eq_true_eq, and_assoc, true_and]
    exact ⟨hp, hpt, hpb, hpl, hpr, hxmx, hymx⟩
  case chain =>
    intro x y c hc hxy hready
    rw [WritesTensor, exec_chain, execChain]
    exact State.operator_writes hready (by simp [hc, hxy]) (State.putF_writes ..)
  case reduce =>
    intro x y axes fn hax hy hlt hfmt hready
    rw [WritesTensor, exec_reduce, execReduce]
    refine State.operator_writes hready (decide_eq_true ⟨hax, hy, hlt, hfmt⟩) ?_
    dsimp only
    split
    · exact State.putCodes_writes y _ _ (s.draw_writes n _)
    · exact State.putCodes_writes y _ _ (s.draw_writes n _)
    · exact State.putF_writes ..
  case softmax =>
    intro x y scale hxy hready
    rw [WritesTensor, exec_softmax, execSoftmax]
    exact State.operator_writes hready (decide_eq_true hxy) (State.putF_writes ..)
  case norm =>
    rintro x y form eps gn c gamma beta hxy rfl hform hgamma hbeta hnan hneg hle hready
    rw [WritesTensor, exec_norm, execNorm]
    refine State.operator_writes hready ?_ (State.putF_writes ..)
    simp only [Bool.and_eq_true, Bool.not_eq_true', decide_eq_true_eq, and_assoc]
    exact ⟨hxy, hform, hgamma, hbeta, hnan, hneg, hle⟩
  case gather =>
    intro tb idx y hidx hy hfmt hrow htl hyl hts hys hready
    exact gather_writes hidx hy hfmt hrow htl hyl hts hys hready
  case scatter =>
    intro d idx u mode hidx hu hrow hfmt hdl hul hds hus hmx hready
    obtain ⟨t, ht, hbyte⟩ := scatter_writes hidx hu hrow hfmt hdl hul hds hus hready
    refine ⟨t, ht, fun a ha => hbyte a ?_⟩
    rintro (h | ⟨h, -⟩)
    · exact ha h
    · exact absurd h (Bool.eq_false_iff.mp hmx)
  case scatterMx =>
    intro d idx u hidx hu hrow hfmt hmx hdl hul hds hus hready
    obtain ⟨t, ht, hbyte⟩ := scatter_writes (mode := 0) hidx hu hrow hfmt hdl hul hds hus hready
    refine ⟨t, ht, fun a ha hscale => hbyte a ?_⟩
    rintro (h | ⟨-, r, e, hr, he, h⟩)
    · exact ha h
    · exact hscale r e hr he h
  case fft =>
    intro x y axes inverse realInput haxes hle hxy hyf hxf hxl hyl hxs hys hlen hready
    rw [WritesTensor, exec_fft, execFft]
    refine State.operator_writes hready ?_ (State.putCodes_writes y _ _ (s.draw_writes n _))
    simp only [Bool.and_eq_true, decide_eq_true_eq, and_assoc, List.all_map, List.all_eq_true, Function.comp_apply]
    exact ⟨haxes, hle, hxy, hyf, hxf, hxl, hyl, hxs, hys, hlen⟩
  case convert =>
    intro x y scale rm sat mxAxis ax hmxAxis hxy hax hxf hyf hys hready
    rw [WritesTensor, exec_convert, execConvert]
    simp only [hmxAxis]
    refine State.operator_writes hready (decide_eq_true ⟨hxy, hax, hxf, hyf, hys⟩) ?_
    split
    · exact State.putCodes_writes y _ _ (s.draw_writes n _)
    · exact (State.putValues_writes y _ _ _ _ (s.draw_writes n _)).countNanOp ..
  case idle =>
    intro x y scale c h
    rw [exec_softmax, execSoftmax, exec_chain, execChain]
    exact ⟨State.operator_idle (h.imp_right (.imp_right fun hempty => ⟨x.ax, List.mem_cons_self, hempty⟩)),
      State.operator_idle (h.imp_right (.imp_right fun hempty => ⟨x.ax, List.mem_cons_self, hempty⟩))⟩

end Sys2Proof.Machine
end

section
/-! Boot from the end of DDR4 training to the runtime's start (18: Table 18.4 steps 6 to 9, R345, R450, R453, R455; 02: R596). -/

namespace Sys2Proof.Machine

-- One proof at a time: the package is compiled as one text under a memory limit.
set_option Elab.async false

variable {s u : State} {k : Nat}

/-! ## The first slot in a state -/

theorem State.firstSlot_eq_some {v : Nat} (hk : k < 2) (h : s.slotState k = v) (hf : ∀ j, j < k → s.slotState j ≠ v) :
    [0, 1].find? (fun j => s.slotState j = v) = some k :=
  List.find?_range_eq_some.mpr ⟨decide_eq_true h, List.mem_range.mpr hk, fun j hj => congrArg not (decide_eq_false (hf j hj))⟩

theorem State.firstSlot_eq_none {v : Nat} (h : ∀ j, j < 2 → s.slotState j ≠ v) : [0, 1].find? (fun j => s.slotState j = v) = none :=
  List.find?_range_eq_none.mpr fun j hj => congrArg not (decide_eq_false (h j hj))

/-- A fold that acts on the members of a list with a property does nothing when none has it. -/
theorem foldl_ite_of_not {α β : Type} {P : α → β → Prop} [∀ a b, Decidable (P a b)] (f : α → β → α) {a : α} {l : List β}
    (h : ∀ b ∈ l, ¬ P a b) : l.foldl (fun a b => if P a b then f a b else a) a = a := by
  induction l with
  | nil => rfl
  | cons b l ih => rw [List.foldl_cons, if_neg (h b List.mem_cons_self), ih fun c hc => h c (List.mem_cons_of_mem _ hc)]

/-! ## Choosing the slot (R453) -/

/-- Neither slot was left WRITING or in TRIAL by the reset. -/
def State.SlotsSettled (s : State) : Prop := ∀ k, k < 2 → s.slotState k ≠ 1 ∧ s.slotState k ≠ 4

/-- With settled slots the choice is that of rule 2 and what follows it. -/
theorem State.chooseSlot_of_settled (h : s.SlotsSettled) {r : Option Nat} (hr : [0, 1].find? (fun k => s.slotState k = 3) = r) :
    s.chooseSlot = r.elim s.chooseActive fun k =>
      (s.slotCheck k).elim (s.takeSlot k true) fun c => ((s.failSlot k c).setB F.FW_BOOT_fallback).chooseActive := by
  obtain ⟨h0, h0'⟩ := h 0 (by decide)
  obtain ⟨h1, h1'⟩ := h 1 (by decide)
  have hw := foldl_ite_of_not (P := fun (s : State) k => s.slotState k = 1) (fun s k => s.setSlotState k 0) (a := s) (l := [0, 1])
    (by simp [h0, h1])
  have ht := foldl_ite_of_not (P := fun (s : State) k => s.slotState k = 4)
    (fun s k => (s.setSlotState k 6).setB F.FW_BOOT_fallback) (a := s) (l := [0, 1]) (by simp [h0', h1'])
  unfold State.chooseSlot
  simp only [hw, ht, hr]
  cases r with
  | none => rfl
  | some k => cases hc : s.slotCheck k <;> simp only [Option.elim, hc]

theorem State.chooseActive_of_active (h : [0, 1].find? (fun k => s.slotState k = 5) = some k) (hc : s.slotCheck k = none) :
    s.chooseActive = s.takeSlot k false := by
  simp only [State.chooseActive, h, hc, if_true]

/-- Rule 5: no slot is ACTIVE or VALID, and the module stays in RECOVERY. -/
theorem State.chooseActive_of_none (h5 : ∀ k, k < 2 → s.slotState k ≠ 5) (h2 : ∀ k, k < 2 → s.slotState k ≠ 2) :
    s.chooseActive = s.setStage 6 := by
  simp [State.chooseActive, State.firstSlot_eq_none h5, h2 0, h2 1]

/-- The chosen set waits for its copy in stage RUNTIME_CHECK, limited unless both qualifications hold (R455). -/
theorem State.takeSlot_spec (s : State) (k : Nat) (trial : Bool) :
    (s.takeSlot k trial).rd F.FW_BOOT_stage = 3 ∧ (s.takeSlot k trial).fw.chosen = some k ∧ (s.takeSlot k trial).fw.trial = trial ∧
    (s.takeSlot k trial).fw.limited = !(qualified s.fw.mgmt (fwVersion (s.slotBytes k)) (s.rd F.FW_CAP_stepping) &&
      qualified (s.slotBytes k) (s.rd F.FW_VERSIONS_mgmt) (s.rd F.FW_CAP_stepping)) :=
  ⟨State.rd_wr_same .., rfl, rfl, rfl⟩

theorem State.rd_setStage (s : State) (v : Nat) : (s.setStage v).rd F.FW_BOOT_stage = v % 16 := State.rd_wr_same ..

theorem State.rd_setStage_other (s : State) (v : Nat) {g : Fld} (i j : Nat) (h : g.reg ≠ .FW_BOOT ∨ g.lo ≠ 60) :
    (s.setStage v).rd g i j = s.rd g i j := State.rd_wr_ne _ _ _ _ _ _ h

theorem State.rd_takeSlot (s : State) (k : Nat) (trial : Bool) {g : Fld} (h : g.reg ≠ .FW_BOOT) : (s.takeSlot k trial).rd g = s.rd g :=
  State.rd_setStage_other _ _ _ _ (.inl h)

/-! ## DDR4_TRAINING_DONE -/

/-- The result of training stands in DDR4_STATE with a mode (R345). -/
def State.trained (s : State) (m mode : Nat) : State :=
  (({ s with fw := { s.fw with cold := false } } : State).wr F.DDR4_STATE_trained m).wr F.DDR4_STATE_mode mode

theorem State.trained_spec (s : State) (m mode : Nat) :
    (s.trained m mode).rd F.DDR4_STATE_trained = m % 256 ∧ (s.trained m mode).rd F.DDR4_STATE_mode = mode % 4 ∧
    (s.trained m mode).fw.cold = false :=
  ⟨(State.rd_wr_ne _ _ _ _ _ _ (.inr (by decide))).trans (State.rd_wr_same ..), State.rd_wr_same .., rfl⟩

theorem State.rd_trained_other (s : State) (m mode : Nat) {g : Fld} (h : g.reg ≠ .DDR4_STATE) : (s.trained m mode).rd g = s.rd g :=
  (State.rd_wr_ne _ _ _ _ _ _ (.inl h)).trans (State.rd_wr_ne _ _ _ _ _ _ (.inl h))

theorem State.slotState_trained (s : State) (m mode j : Nat) : (s.trained m mode).slotState j = s.slotState j := State.slotState_congr rfl j

variable {passed : BitVec 8} {m : Nat}

theorem exec_ddr4TrainingDone (hs : s.rd F.FW_BOOT_stage = 2) (hm : (if s.fw.cold then passed.toNat else s.rd F.DDR4_STATE_trained) = m) :
    exec (.ddr4TrainingDone passed) s = .next (if m = 255 then (s.trained m 1).chooseSlot else (s.trained m 3).setStage 7) := by
  show execDdr4TrainingDone passed s = _
  simp only [execDdr4TrainingDone, hs, hm, ne_eq, not_true, if_false]
  split <;> rfl

/-- A channel is untrained: DDR4_STATE reads FAILED and boot stops in DDR4_FAILED. -/
theorem ddr4TrainingDone_fails (hs : s.rd F.FW_BOOT_stage = 2)
    (hm : (if s.fw.cold then passed.toNat else s.rd F.DDR4_STATE_trained) = m) (hne : m ≠ 255) (hlt : m < 256) :
    ∃ t, exec (.ddr4TrainingDone passed) s = .next t ∧ t.rd F.DDR4_STATE_trained = m ∧ t.rd F.DDR4_STATE_mode = 3 ∧
      t.rd F.FW_BOOT_stage = 7 ∧ t.fw.cold = false := by
  obtain ⟨htr, hmo, hco⟩ := s.trained_spec m 3
  refine ⟨(s.trained m 3).setStage 7, ?_, ?_, ?_, State.rd_setStage .., hco⟩
  · rw [exec_ddr4TrainingDone hs hm, if_neg hne]
  · exact (State.rd_setStage_other _ _ _ _ (.inl (by decide))).trans (htr.trans (Nat.mod_eq_of_lt hlt))
  · exact (State.rd_setStage_other _ _ _ _ (.inl (by decide))).trans hmo

section
variable (hs : s.rd F.FW_BOOT_stage = 2) (hm : (if s.fw.cold then passed.toNat else s.rd F.DDR4_STATE_trained) = 255)
  (hset : s.SlotsSettled)
include hs hm hset

/-- Every channel is trained and the slots are settled: the choice by the first ARMED slot. -/
theorem ddr4TrainingDone_chooses {r : Option Nat} (hr : [0, 1].find? (fun k => s.slotState k = 3) = r) :
    exec (.ddr4TrainingDone passed) s = .next (r.elim (s.trained 255 1).chooseActive fun k =>
      ((s.trained 255 1).slotCheck k).elim ((s.trained 255 1).takeSlot k true) fun c =>
        (((s.trained 255 1).failSlot k c).setB F.FW_BOOT_fallback).chooseActive) := by
  rw [exec_ddr4TrainingDone hs hm, if_pos rfl]
  refine congrArg _ (State.chooseSlot_of_settled (fun j hj => ?_) ?_)
  · rw [State.slotState_trained]; exact hset j hj
  · simpa only [State.slotState_trained] using hr

theorem ddr4TrainingDone_takes_armed (hk : k < 2) (h3 : s.slotState k = 3) (hf : ∀ j, j < k → s.slotState j ≠ 3)
    (hc : (s.trained 255 1).slotCheck k = none) :
    exec (.ddr4TrainingDone passed) s = .next ((s.trained 255 1).takeSlot k true) := by
  rw [ddr4TrainingDone_chooses hs hm hset (State.firstSlot_eq_some hk h3 hf), Option.elim_some, hc, Option.elim_none]

theorem ddr4TrainingDone_falls_back {c : Nat} (hk : k < 2) (h3 : s.slotState k = 3) (hf : ∀ j, j < k → s.slotState j ≠ 3)
    (hc : (s.trained 255 1).slotCheck k = some c) :
    exec (.ddr4TrainingDone passed) s = .next (((s.trained 255 1).failSlot k c).setB F.FW_BOOT_fallback).chooseActive := by
  rw [ddr4TrainingDone_chooses hs hm hset (State.firstSlot_eq_some hk h3 hf), Option.elim_some, hc, Option.elim_some]

theorem ddr4TrainingDone_takes_active (hk : k < 2) (h3 : ∀ j, j < 2 → s.slotState j ≠ 3) (h5 : s.slotState k = 5)
    (hf : ∀ j, j < k → s.slotState j ≠ 5) (hc : (s.trained 255 1).slotCheck k = none) :
    exec (.ddr4TrainingDone passed) s = .next ((s.trained 255 1).takeSlot k false) := by
  rw [ddr4TrainingDone_chooses hs hm hset (State.firstSlot_eq_none h3), Option.elim_none]
  refine congrArg _ (State.chooseActive_of_active ?_ hc)
  simpa only [State.slotState_trained] using State.firstSlot_eq_some hk h5 hf

theorem ddr4TrainingDone_recovers (h : ∀ k, k < 2 → s.slotState k ≠ 3 ∧ s.slotState k ≠ 5 ∧ s.slotState k ≠ 2) :
    exec (.ddr4TrainingDone passed) s = .next ((s.trained 255 1).setStage 6) := by
  rw [ddr4TrainingDone_chooses hs hm hset (State.firstSlot_eq_none fun j hj => (h j hj).1), Option.elim_none]
  exact congrArg _ (State.chooseActive_of_none (fun j hj => by rw [State.slotState_trained]; exact (h j hj).2.1)
    fun j hj => by rw [State.slotState_trained]; exact (h j hj).2.2)

end

/-! ## RUNTIME_COPY_DONE -/

/-- The boot record and the registers name the running set (Table 18.4 step 9). -/
def State.recordRunning (s : State) (b : List Byte) (k : Nat) (trial : Bool) : State :=
  (((s.setSlotState k (if trial then 4 else 5)).bbsWr 0x72 1 k).wr F.FW_VERSIONS_runtime (fwVersion b)).setStage (if trial then 5 else 4)

/-- No copy is under way any more, a trial has its end, and the set its digest. -/
def State.endCopy (s : State) (b : List Byte) (trial : Bool) : State :=
  { s with fw := { s.fw with chosen := none, trialEnd := if trial then s.resetAt + 600000000000 else 0 }
           sec := { s.sec with runtimeDigest := sha (b.take (leAt b 0xC 4)) } }

/-- The components of the set in slot k are in place and the set is recorded as the running one. -/
def State.runtimeCopied (s : State) (k : Nat) : State :=
  ((s.copyRuntime (s.slotBytes k)).recordRunning (s.slotBytes k) k s.fw.trial).endCopy (s.slotBytes k) s.fw.trial

/-- FW_BOOT shows limited mode, and the event is reported (R455). -/
def State.noteLimited (s : State) : State := ((s.setB F.FW_BOOT_limited).setB F.FW_BOOT_limited_seen).event Src.boot 4

/-- Limited mode begins, where the qualifications ask for it (R455). -/
def State.enterLimited (s : State) : State :=
  if s.fw.limited then s.noteLimited.setStruct (fun x => { x with limited := true }) else s

/-- The runtime's settings are settled against its image (R457). -/
def State.settleRuntime (s : State) (b : List Byte) : State := s.settleRegion 0x400 1024 (fwLayout b) b F.FW_BOOT_reset_runtime

/-- The entry of a set's program. -/
def runtimeEntry (b : List Byte) : Nat := (((components b).find? (fun c => c.kind = 1)).map (fun c => leAt (c.bytes b) 24 8)).getD 0

/-- SC0 starts at an address. -/
def State.startSc0 (s : State) (entry : Nat) : State := { (s.wr F.SC_STATE_state 1 0) with cores := Tab.set {} s.cores 0 { pc := entry } }

theorem exec_runtimeCopyDone_of_ok (hs : s.rd F.FW_BOOT_stage = 3) (hc : s.fw.chosen = some k) :
    exec (.runtimeCopyDone true) s =
      .next (((s.runtimeCopied k).enterLimited.settleRuntime (s.slotBytes k)).startSc0 (runtimeEntry (s.slotBytes k))) := by
  show execRuntimeCopyDone true s = _
  simp only [execRuntimeCopyDone, hc, hs, ne_eq, not_true, if_false, Bool.not_true, Bool.false_eq_true]
  rfl

/-- What the event of a boot's step may change, with the step itself. -/
def Parts.bootStep : Parts := { Parts.event with struct := true, b_firmware := true }

theorem State.failSlot_unchanged (s : State) (k check : Nat) : Unchanged Parts.bootStep s (s.failSlot k check) :=
  (State.failSlot_keep (Keep.refl s)).parts

/-- A digest fails: the slot is FAILED, and a trial sets fallback. -/
theorem exec_runtimeCopyDone_of_bad (hs : s.rd F.FW_BOOT_stage = 3) (hc : s.fw.chosen = some k)
    (hu : ({ s with fw := { s.fw with chosen := none } } : State).failSlot k 6 = u) :
    exec (.runtimeCopyDone false) s = .next (if s.fw.trial then u.setB F.FW_BOOT_fallback else u).chooseActive := by
  have hfw : u.fw = { s.fw with chosen := none } := hu ▸ (State.failSlot_unchanged _ k 6).fw rfl
  show execRuntimeCopyDone false s = _
  simp only [execRuntimeCopyDone, hc, hs, ne_eq, not_true, if_false, Bool.not_false, if_true, hu, hfw]

/-- What the copy of the components leaves: all but memory. -/
theorem State.copyRuntime_unchanged (s : State) (b : List Byte) :
    Unchanged { mem := true, badUnits := true, badRecord := true } s (s.copyRuntime b) :=
  (State.copyRuntime_keep (Keep.refl s)).parts

theorem State.recordRunning_spec (s : State) (b : List Byte) (k : Nat) (trial : Bool) :
    (s.recordRunning b k trial).rd F.FW_BOOT_stage = (if trial then 5 else 4) ∧
    (s.recordRunning b k trial).rd F.FW_VERSIONS_runtime = fwVersion b % 2 ^ 32 := by
  refine ⟨(State.rd_setStage ..).trans (by cases trial <;> rfl), ?_⟩
  exact (State.rd_setStage_other _ _ _ _ (.inl (by decide))).trans (State.rd_wr_same ..)

/-- The boot record after the copy: the running slot, its state, and the other slot's. -/
theorem State.recordRunning_bootRecord (s : State) (b : List Byte) (hk : k < 2) (trial : Bool) :
    (s.recordRunning b k trial).runningSlot = k ∧ (s.recordRunning b k trial).slotState k = (if trial then 4 else 5) ∧
    (s.recordRunning b k trial).slotState (1 - k) = s.slotState (1 - k) := by
  have hbbs : (s.recordRunning b k trial).bbs = ((s.setSlotState k (if trial then 4 else 5)).bbsWr 0x72 1 k).bbs := rfl
  have hslot : ∀ j, j < 2 → (s.recordRunning b k trial).slotState j = (s.setSlotState k (if trial then 4 else 5)).slotState j :=
    fun j hj => (State.slotState_congr hbbs j).trans (State.bbsRd_other _ _ _ _ _ (by omega) (by omega))
  refine ⟨?_, ?_, ?_⟩
  · exact (State.bbsRd_congr hbbs ..).trans ((State.bbsRd_same _ _ _ (by omega)).trans (Nat.mod_eq_of_lt (by omega)))
  · rw [hslot k hk, State.slotState_set _ _ _ hk hk, if_pos rfl]
    cases trial <;> rfl
  · rw [hslot _ (by omega), State.slotState_set _ _ _ hk (by omega), if_neg (by omega)]

theorem State.recordRunning_unchanged (s : State) (b : List Byte) (k : Nat) (trial : Bool) :
    Unchanged { bbs := true, b_firmware := true } s (s.recordRunning b k trial) :=
  (State.setStage_keep (State.wr_keep (State.bbsWr_keep (State.setSlotState_keep (Keep.refl s))) rfl)).parts

theorem State.rd_endCopy (s : State) (b : List Byte) (trial : Bool) (g : Fld) : (s.endCopy b trial).rd g = s.rd g := rfl

theorem State.bbs_endCopy (s : State) (b : List Byte) (trial : Bool) : (s.endCopy b trial).bbs = s.bbs := rfl

theorem State.fw_endCopy (s : State) (b : List Byte) (trial : Bool) :
    (s.endCopy b trial).fw = { s.fw with chosen := none, trialEnd := if trial then s.resetAt + 600000000000 else 0 } := rfl

theorem State.digest_endCopy (s : State) (b : List Byte) (trial : Bool) :
    (s.endCopy b trial).sec.runtimeDigest = sha (b.take (leAt b 0xC 4)) := rfl

theorem State.runtimeCopied_spec (s : State) (k : Nat) :
    (s.runtimeCopied k).rd F.FW_BOOT_stage = (if s.fw.trial then 5 else 4) ∧
    (s.runtimeCopied k).rd F.FW_VERSIONS_runtime = fwVersion (s.slotBytes k) % 2 ^ 32 ∧
    (s.runtimeCopied k).fw = { s.fw with chosen := none, trialEnd := if s.fw.trial then s.resetAt + 600000000000 else 0 } ∧
    (s.runtimeCopied k).sec.runtimeDigest = sha ((s.slotBytes k).take (leAt (s.slotBytes k) 0xC 4)) := by
  have hk := s.copyRuntime_unchanged (s.slotBytes k)
  have hr := (s.copyRuntime (s.slotBytes k)).recordRunning_unchanged (s.slotBytes k) k s.fw.trial
  obtain ⟨hst, hver⟩ := (s.copyRuntime (s.slotBytes k)).recordRunning_spec (s.slotBytes k) k s.fw.trial
  unfold State.runtimeCopied
  refine ⟨(State.rd_endCopy ..).trans hst, (State.rd_endCopy ..).trans hver, ?_, State.digest_endCopy ..⟩
  rw [State.fw_endCopy, hr.fw rfl, hr.resetAt rfl, hk.fw rfl, hk.resetAt rfl]

theorem State.runtimeCopied_bootRecord (s : State) (hk : k < 2) :
    (s.runtimeCopied k).runningSlot = k ∧ (s.runtimeCopied k).slotState k = (if s.fw.trial then 4 else 5) ∧
    (s.runtimeCopied k).slotState (1 - k) = s.slotState (1 - k) := by
  obtain ⟨hrun, hst, hoth⟩ := (s.copyRuntime (s.slotBytes k)).recordRunning_bootRecord (s.slotBytes k) hk s.fw.trial
  unfold State.runtimeCopied
  refine ⟨(State.bbsRd_congr (State.bbs_endCopy ..) ..).trans hrun, (State.slotState_congr (State.bbs_endCopy ..) _).trans hst, ?_⟩
  rw [State.slotState_congr (State.bbs_endCopy ..), hoth]
  exact State.slotState_congr ((s.copyRuntime_unchanged _).bbs rfl) _

/-- An event leaves the registers of the firmware. -/
theorem State.rd_event_firmware (s : State) (i detail : Nat) {g : Fld} (hg : g.reg.block = .firmware) (k l : Nat) :
    (s.event i detail).rd g k l = s.rd g k l :=
  (State.event_keep (W := Parts.event) (Keep.refl s)).parts.regs g k l (by rw [hg]; rfl)

theorem State.rd_noteLimited_other (s : State) {g : Fld} (hg : g.reg.block = .firmware)
    (h : g.reg ≠ .FW_BOOT ∨ g.lo ≠ 50 ∧ g.lo ≠ 49) : s.noteLimited.rd g = s.rd g :=
  (State.rd_event_firmware _ _ _ hg 0 0).trans
    ((State.rd_wr_ne _ _ _ _ _ _ (h.imp_right (·.2))).trans (State.rd_wr_ne _ _ _ _ _ _ (h.imp_right (·.1))))

theorem State.noteLimited_spec (s : State) : s.noteLimited.rd F.FW_BOOT_limited = 1 ∧ s.noteLimited.rd F.FW_BOOT_limited_seen = 1 :=
  ⟨(State.rd_event_firmware _ _ _ rfl 0 0).trans ((State.rd_wr_ne _ _ _ _ _ _ (.inr (by decide))).trans (State.rd_wr_same ..)),
    (State.rd_event_firmware _ _ _ rfl 0 0).trans (State.rd_wr_same ..)⟩

theorem State.rd_setStruct (s : State) (f : Struct → Struct) (g : Fld) : (s.setStruct f).rd g = s.rd g := rfl

theorem State.rd_enterLimited_other (s : State) {g : Fld} (hg : g.reg.block = .firmware)
    (h : g.reg ≠ .FW_BOOT ∨ g.lo ≠ 50 ∧ g.lo ≠ 49) : s.enterLimited.rd g = s.rd g := by
  unfold State.enterLimited
  split
  · exact (State.rd_setStruct ..).trans (s.rd_noteLimited_other hg h)
  · rfl

theorem State.enterLimited_unchanged (s : State) : Unchanged Parts.bootStep s s.enterLimited :=
  (Keep.ite (State.setStruct_keep (State.event_keep (State.setB_keep (State.setB_keep (Keep.refl s) rfl) rfl))) (Keep.refl s)).parts

theorem State.enterLimited_of_limited (h : s.fw.limited = true) :
    s.enterLimited.rd F.FW_BOOT_limited = 1 ∧ s.enterLimited.rd F.FW_BOOT_limited_seen = 1 ∧ s.enterLimited.struct.limited = true := by
  obtain ⟨hl, hls⟩ := s.noteLimited_spec
  rw [State.enterLimited, if_pos h]
  exact ⟨(State.rd_setStruct ..).trans hl, (State.rd_setStruct ..).trans hls, rfl⟩

theorem State.enterLimited_of_not_limited (h : s.fw.limited = false) : s.enterLimited = s := by
  simp [State.enterLimited, h]

theorem State.rd_settleRuntime_other (s : State) (b : List Byte) {g : Fld} (hg : g.reg.block = .firmware)
    (h : g.reg ≠ .FW_BOOT ∨ g.lo ≠ 47) : (s.settleRuntime b).rd g = s.rd g := by
  unfold State.settleRuntime State.settleRegion
  dsimp only
  split
  · rfl
  · refine (State.rd_event_firmware _ _ _ hg 0 0).trans ((State.rd_wr_ne _ _ _ _ _ _ h).trans ?_)
    exact (State.bbsPut_keep (W := { bbs := true }) (Keep.refl s)).parts.regs g 0 0 (by rw [hg]; rfl)

theorem State.settleRuntime_unchanged (s : State) (b : List Byte) :
    Unchanged { Parts.event with b_firmware := true } s (s.settleRuntime b) :=
  (State.settleRegion_keep (Keep.refl s) rfl).parts

theorem State.settleRuntime_of_no_layout {b : List Byte} (h : fwLayout b = 0) (s : State) : s.settleRuntime b = s := if_pos (.inl h)

theorem State.startSc0_spec (s : State) (entry : Nat) :
    (s.startSc0 entry).rd F.SC_STATE_state 0 = 1 ∧ (Tab.get {} (s.startSc0 entry).cores 0).pc = entry := by
  have hst : (s.wr F.SC_STATE_state 1 0).rd F.SC_STATE_state 0 = 1 := State.rd_wr_same ..
  exact ⟨hst, congrArg Core.pc (Tab.get_set_same {} s.cores 0 ({ pc := entry } : Core))⟩

theorem State.rd_startSc0 (s : State) (entry : Nat) {g : Fld} (hg : g.reg.block = .firmware) : (s.startSc0 entry).rd g = s.rd g := by
  have hne : g.reg ≠ .SC_STATE := fun e => by rw [e] at hg; exact absurd hg (by decide)
  exact State.rd_wr_ne s (f := F.SC_STATE_state) 1 0 0 0 0 (.inl hne)

/-- The copy has ended with every digest right: the set runs. -/
theorem runtimeCopyDone_runs (hs : s.rd F.FW_BOOT_stage = 3) (hc : s.fw.chosen = some k) (hk : k < 2) :
    ∃ t, exec (.runtimeCopyDone true) s = .next t ∧ t.rd F.FW_BOOT_stage = (if s.fw.trial then 5 else 4) ∧ t.rd F.SC_STATE_state 0 = 1 ∧
      t.rd F.FW_VERSIONS_runtime = fwVersion (s.slotBytes k) % 2 ^ 32 ∧ t.fw.chosen = none ∧
      t.fw.trialEnd = (if s.fw.trial then s.resetAt + 600000000000 else 0) ∧
      t.sec.runtimeDigest = sha ((s.slotBytes k).take (leAt (s.slotBytes k) 0xC 4)) ∧
      (Tab.get {} t.cores 0).pc = runtimeEntry (s.slotBytes k) ∧
      (s.fw.limited = true → t.rd F.FW_BOOT_limited = 1 ∧ t.rd F.FW_BOOT_limited_seen = 1 ∧ t.struct.limited = true) ∧
      (s.fw.limited = false → fwLayout (s.slotBytes k) = 0 →
        t.runningSlot = k ∧ t.slotState k = (if s.fw.trial then 4 else 5) ∧ t.slotState (1 - k) = s.slotState (1 - k)) := by
  generalize hb : s.slotBytes k = b
  obtain ⟨hstage, hver, hfw, hdig⟩ := s.runtimeCopied_spec k
  obtain ⟨hsc, hpc⟩ := ((s.runtimeCopied k).enterLimited.settleRuntime b).startSc0_spec (runtimeEntry b)
  have hset := (s.runtimeCopied k).enterLimited.settleRuntime_unchanged b
  have hlim := (s.runtimeCopied k).enterLimited_unchanged
  have hfw' : ((s.runtimeCopied k).enterLimited.settleRuntime b).fw = _ := (hset.fw rfl).trans ((hlim.fw rfl).trans hfw)
  have hrd : ∀ g : Fld, g.reg.block = .firmware → (g.reg ≠ .FW_BOOT ∨ g.lo ≠ 47) →
      (((s.runtimeCopied k).enterLimited.settleRuntime b).startSc0 (runtimeEntry b)).rd g = (s.runtimeCopied k).enterLimited.rd g :=
    fun g hg h => (State.rd_startSc0 _ _ hg).trans (State.rd_settleRuntime_other _ _ hg h)
  rw [hb] at hver hdig
  refine ⟨_, hb ▸ exec_runtimeCopyDone_of_ok hs hc, ?stage, hsc, ?version, congrArg Firmware.chosen hfw', congrArg Firmware.trialEnd hfw', ?digest, hpc,
    fun hl => ?limited, fun hl h0 => ?record⟩
  case stage => exact (hrd _ rfl (.inr (by decide))).trans ((State.rd_enterLimited_other _ rfl (.inr (by decide))).trans hstage)
  case version => exact (hrd _ rfl (.inl (by decide))).trans ((State.rd_enterLimited_other _ rfl (.inl (by decide))).trans hver)
  case digest =>
    show ((s.runtimeCopied k).enterLimited.settleRuntime b).sec.runtimeDigest = _
    rw [hset.sec rfl, hlim.sec rfl, hdig]
  case limited =>
    obtain ⟨h1, h2, h3⟩ := State.enterLimited_of_limited (s := s.runtimeCopied k) (by rw [hfw]; exact hl)
    refine ⟨(hrd _ rfl (.inr (by decide))).trans h1, (hrd _ rfl (.inr (by decide))).trans h2, ?_⟩
    show ((s.runtimeCopied k).enterLimited.settleRuntime b).struct.limited = true
    rw [hset.struct rfl, h3]
  case record =>
    rw [State.settleRuntime_of_no_layout h0, State.enterLimited_of_not_limited (by rw [hfw]; exact hl)]
    exact s.runtimeCopied_bootRecord hk

/-! ## BOOT_SCRUB_DONE and PARTITION_BECOMES_EMPTY -/

theorem exec_partitionBecomesEmpty (n : PartId) (s : State) :
    exec (.partitionBecomesEmpty n) s =
      .next (if (s.part n.val).present = true ∧ s.pstate n.val = 0 ∧ s.heldBack = false ∧ s.struct.scrubbing.contains n.val = false
        then s.setPstate n.val 1 else s) := by
  show execPartitionBecomesEmpty n s = _
  unfold execPartitionBecomesEmpty
  simp only [Bool.and_eq_true, decide_eq_true_eq, Bool.not_eq_true', and_assoc]
  split <;> rfl

/-- Settles O24: training's end chooses by the first ARMED slot, then by the first ACTIVE one; the copy's end is the boot record, limited
mode, the settings and SC0's start, one after the other. -/
theorem bootEvents : Obligations.BootEvents := by
  unfold Obligations.BootEvents
  refine ⟨?training, ?copy, fun _ => rfl, ?empty, ?stays⟩
  case training =>
    rintro passed m s u hs hm rfl
    refine ⟨ddr4TrainingDone_fails hs hm, ?_⟩
    rintro rfl hset
    obtain ⟨htr, hmo, -⟩ := s.trained_spec 255 1
    refine ⟨fun k hk h3 hf hc => ?armed, fun k c => ddr4TrainingDone_falls_back hs hm hset, fun k hk h3 h5 hf hc => ?active, fun h => ?recovery⟩
    case armed =>
      obtain ⟨hst, hch, htl, hli⟩ := (s.trained 255 1).takeSlot_spec k true
      rw [State.rd_trained_other _ _ _ (by decide), State.rd_trained_other _ _ _ (by decide)] at hli
      exact ⟨_, ddr4TrainingDone_takes_armed hs hm hset hk h3 hf hc, hst, hch, htl, hli,
        (State.rd_takeSlot _ _ _ (by decide)).trans htr, (State.rd_takeSlot _ _ _ (by decide)).trans hmo⟩
    case active =>
      obtain ⟨hst, hch, htl, -⟩ := (s.trained 255 1).takeSlot_spec k false
      exact ⟨_, ddr4TrainingDone_takes_active hs hm hset hk h3 h5 hf hc, hst, hch, htl, (State.rd_takeSlot _ _ _ (by decide)).trans htr⟩
    case recovery =>
      exact ⟨_, ddr4TrainingDone_recovers hs hm hset h, State.rd_setStage .., (State.rd_setStage_other _ _ _ _ (.inl (by decide))).trans htr,
        (State.rd_setStage_other _ _ _ _ (.inl (by decide))).trans hmo⟩
  case copy =>
    intro k s hs hc hk
    exact ⟨runtimeCopyDone_runs hs hc hk, fun u => exec_runtimeCopyDone_of_bad hs hc⟩
  case empty =>
    intro n s hp h0 hn
    refine ⟨fun hh => ⟨_, (exec_partitionBecomesEmpty n s).trans (by rw [if_pos ⟨hp, h0, hh, hn⟩]), ?_, fun m hm => ?_⟩, fun hh => ?_⟩
    · rw [State.pstate_setPstate, if_pos rfl]
    · rw [State.pstate_setPstate, if_neg (Fin.val_ne_of_ne hm)]
    · rw [exec_partitionBecomesEmpty, if_neg (by simp [hh])]
  case stays =>
    rintro n s h
    rw [exec_partitionBecomesEmpty, if_neg]
    rintro ⟨hp, h0, -, hn⟩
    rcases h with h | h | h
    · exact absurd (hp.symm.trans h) nofun
    · exact h h0
    · exact absurd (h.symm.trans hn) nofun

end Sys2Proof.Machine
end

section
/-! The windows of the security commands (17: R430 to R438, R442) and what lies behind them: the link key table, consent tokens, the
attestation report. -/

namespace Sys2Proof.Machine

-- One proof at a time: the package is compiled as one text under a memory limit.
set_option Elab.async false

variable {s t : State} {m : Master} {n : PartId}

/-! ## A window and its result -/

theorem State.secCommand_of_free (ht : s.isTenant n m = true) (hb : s.rd F.SEC_STATUS_busy n = 0) (f : State → State × Nat) :
    s.secCommand m n f = .next ((f s).1.secStatus n (f s).2) := by
  simp [State.secCommand, guardHcs, State.rdB, ht, hb]

theorem State.secCommand_of_busy (ht : s.isTenant n m = true) (hb : s.rd F.SEC_STATUS_busy n ≠ 0) (f : State → State × Nat) :
    s.secCommand m n f = .next (s.wr F.SEC_STATUS_result 4 n) := by
  simp [State.secCommand, guardHcs, State.rdB, ht, hb]

theorem State.secStatus_done (s : State) (n : Nat) :
    (s.secStatus n 0).rd F.SEC_STATUS_result n = 1 ∧ (s.secStatus n 0).rd F.SEC_STATUS_reason n = 0 :=
  ⟨(State.rd_wr_ne _ _ _ _ _ _ (by decide)).trans (State.rd_wr_same ..), State.rd_wr_same ..⟩

theorem State.secStatus_refused (s : State) (n reason : Nat) (h0 : reason ≠ 0) (h : reason < 256) :
    (s.secStatus n reason).rd F.SEC_STATUS_result n = 3 ∧ (s.secStatus n reason).rd F.SEC_STATUS_reason n = reason := by
  unfold State.secStatus
  rw [if_neg h0]
  exact ⟨(State.rd_wr_ne _ _ _ _ _ _ (by decide)).trans (State.rd_wr_same ..), (State.rd_wr_same ..).trans (Nat.mod_eq_of_lt h)⟩

@[simp] theorem State.secStatus_sec (s : State) (n reason : Nat) : (s.secStatus n reason).sec = s.sec := rfl

theorem State.rd_secStatus_other (s : State) (n reason : Nat) {g : Fld} (k l : Nat) (h : g.reg ≠ .SEC_STATUS) :
    (s.secStatus n reason).rd g k l = s.rd g k l :=
  (State.rd_wr_ne _ _ _ _ _ _ (.inl h)).trans (State.rd_wr_ne _ _ _ _ _ _ (.inl h))

/-! ## The attestation report (R434, Table 17.7) -/

theorem slice_of_length {bs : List Byte} {len : Nat} (h : bs.length = len) : slice bs 0 len = bs := by
  subst h
  simp [slice]

/-- The fields of a report before its nonce. -/
def State.reportHead (s : State) (req : Nat) : List Byte :=
  leBytes 4 0x54535441 ++ leBytes 1 1 ++ leBytes 1 req ++ leBytes 2 0 ++ leBytes 4 2816 ++
    leBytes 4 (s.rd F.NYPRA_STATUS_structure_epoch) ++ leBytes 8 s.modTime ++ leBytes 8 (s.rd F.NYPRA_ACTIVE_ID_image_id)

theorem State.length_reportHead (s : State) (req : Nat) : (s.reportHead req).length = 0x20 := by
  simp only [State.reportHead, List.length_append, leBytes_length]

theorem State.reportHead_nonce_prefix (s : State) (req : Nat) (nonce : List Byte) : s.reportHead req ++ slice nonce 0 64 <+: s.report req nonce := by
  unfold State.report
  dsimp only
  -- seventeen pieces of the report follow the nonce
  iterate 17 refine List.IsPrefix.trans ?_ (List.prefix_append _ _)
  exact List.prefix_rfl

/-- Table 17.7: the nonce stands at 0x20 of the report. -/
theorem State.getElem_report_nonce (s : State) (req : Nat) {nonce : List Byte} (h : nonce.length = 64) {k : Nat} (hk : k < 64) :
    (s.report req nonce)[0x20 + k]? = nonce[k]? := by
  obtain ⟨rest, e⟩ := s.reportHead_nonce_prefix req nonce
  rw [← e, slice_of_length h, List.append_assoc, List.getElem?_append_right (by rw [State.length_reportHead]; omega),
    State.length_reportHead, Nat.add_sub_cancel_left, List.getElem?_append_left (by omega)]

theorem State.byte_ddrPut (s : State) (a : Nat) (bs : List Byte) :
    (∀ k, (h : k < bs.length) → (s.ddrPut a bs).byte (ddr (a + k)) = bs[k]) ∧
    ∀ k, k < ddr a ∨ ddr a + bs.length ≤ k → (s.ddrPut a bs).byte k = s.byte k := by
  obtain ⟨hother, hsame⟩ := State.byte_putBytes s (ddr a) bs
  refine ⟨fun k h => ?_, fun k hk => hother k fun j hj => by omega⟩
  rw [show ddr (a + k) = ddr a + k from (Nat.add_assoc ..).symm]
  exact hsame k h

/-- The state of a window when its buffer holds a report. -/
def State.reported (s : State) (n a : Nat) (rep : List Byte) : State := (({ s with fresh := s.fresh + 1 } : State).ddrPut a rep).secStatus n 0

theorem State.byte_reported (s : State) (n a : Nat) (rep : List Byte) :
    (∀ k, (h : k < rep.length) → (s.reported n a rep).byte (ddr (a + k)) = rep[k]) ∧
    ∀ k, k < ddr a ∨ ddr a + rep.length ≤ k → (s.reported n a rep).byte k = s.byte k := State.byte_ddrPut s a rep

/-- The buffer keeps its nonce. -/
theorem State.byte_reported_nonce (s : State) (n a req : Nat) {k : Nat} (hk : k < 64) :
    (s.reported n a (s.report req (s.bytesAt (ddr (a + 0x20)) 64))).byte (ddr (a + 0x20 + k)) = s.byte (ddr (a + 0x20 + k)) := by
  have hlen : (s.bytesAt (ddr (a + 0x20)) 64).length = 64 := by simp only [State.bytesAt, List.length_map, List.length_range]
  obtain ⟨hr, e⟩ := List.getElem?_eq_some_iff.mp
    ((s.getElem_report_nonce req hlen hk).trans (List.getElem?_eq_getElem (by rwa [hlen])))
  rw [Nat.add_assoc]
  refine ((s.byte_reported n a _).1 (0x20 + k) hr).trans (e.trans ?_)
  simp only [State.bytesAt, List.getElem_map, List.getElem_range]
  exact congrArg s.byte (by unfold ddr; omega)

/-- Whom a report names: 0xFF for MGC, a core's partition otherwise. -/
def State.reportRequester (s : State) : Master → Nat
  | .mgc => 0xFF
  | m => s.requester m

theorem exec_attest (m : Master) (n : PartId) (s : State) : exec (.attest m n) s = execAttest m n s := rfl

theorem exec_attest_of_buffer (ht : s.isTenant n m = true) (hb : s.rd F.SEC_STATUS_busy n = 0) {a : Nat}
    (ha : s.secBuffer m n 2816 true = some a) (hu : s.badUnit (a + 0x20) 64 = none) (hk : s.blockedUnit a 2816 = false) :
    exec (.attest m n) s = .next (s.reported n a (s.report (s.reportRequester m) (s.bytesAt (ddr (a + 0x20)) 64))) := by
  refine (exec_attest m n s).trans ((State.secCommand_of_free ht hb _).trans ?_)
  simp only [ha, hu, hk, Bool.false_eq_true, if_false, State.reported]
  cases m <;> rfl

/-! ## The link key table (R430 to R433) -/

/-- What an import for Pn with flags `fl` makes of another entry: one of Pn yields SEAL and LEASE. -/
def LinkKey.yields (n fl : Nat) (k : LinkKey) : LinkKey :=
  if k.part = n then { k with isSeal := k.isSeal && ! bit fl 0, isLease := k.isLease && ! bit fl 1 } else k

theorem LinkKey.yields_keeps (n fl : Nat) (k : LinkKey) : (k.yields n fl).id = k.id ∧ (k.yields n fl).part = k.part ∧
    (k.yields n fl).epoch = k.epoch ∧ (k.yields n fl).secret = k.secret ∧ (k.yields n fl).tomb = k.tomb := by
  unfold LinkKey.yields
  split <;> exact ⟨rfl, rfl, rfl, rfl, rfl⟩

/-- The entry that an import makes. -/
def LinkKey.imported (n id ep fl : Nat) (secret : List Byte) : LinkKey :=
  { part := n, id := id, epoch := ep, isSeal := bit fl 0, isLease := bit fl 1, secret := secret }

/-- The table after an import. -/
def importTable (n id ep fl : Nat) (secret : List Byte) (old : List LinkKey) : List LinkKey :=
  (old.filter (fun k => k.id ≠ id)).map (LinkKey.yields n fl) ++ [.imported n id ep fl secret]

theorem mem_importTable {n id ep fl : Nat} {secret : List Byte} {old : List LinkKey} {k : LinkKey} :
    k ∈ importTable n id ep fl secret old ↔ (∃ o ∈ old, o.id ≠ id ∧ o.yields n fl = k) ∨ k = .imported n id ep fl secret := by
  simp [importTable, and_assoc]

theorem LinkKeyImported.importTable (n id ep fl : Nat) (secret : List Byte) (old : List LinkKey) :
    LinkKeyImported n id ep fl secret old (importTable n id ep fl secret old) := by
  refine ⟨?_, fun k hk hp hi => ?_, fun k hk hi => ?_, fun hf k hk hp hs => ?_, fun hf k hk hp hs => ?_⟩
  · have hnil : ((old.filter (fun k => k.id ≠ id)).map (LinkKey.yields n fl)).filter (fun k => k.id = id) = [] := by
      rw [List.filter_eq_nil_iff]
      intro k hk
      obtain ⟨o, ho, rfl⟩ := List.mem_map.mp hk
      have hne := (List.mem_filter.mp ho).2
      rw [(o.yields_keeps n fl).1]
      simpa using hne
    unfold Machine.importTable
    rw [List.filter_append, hnil, List.nil_append]
    exact List.filter_cons_of_pos (decide_eq_true rfl)
  · exact mem_importTable.mpr (.inl ⟨k, hk, hi, if_neg hp⟩)
  all_goals rcases mem_importTable.mp hk with ⟨o, ho, hne, rfl⟩ | rfl
  · obtain ⟨h1, h2, h3, h4, h5⟩ := o.yields_keeps n fl
    exact ⟨o, ho, h1.symm, h2.symm, h3.symm, h4.symm, h5.symm⟩
  · exact absurd rfl hi
  · rw [(o.yields_keeps n fl).2.1] at hp
    simp [LinkKey.yields, hp, hf] at hs
  · rfl
  · rw [(o.yields_keeps n fl).2.1] at hp
    simp [LinkKey.yields, hp, hf] at hs
  · rfl

/-- The state after a blob is imported. -/
def State.keyImported (s : State) (n : Nat) (b secret : List Byte) : State :=
  { s with sec := { s.sec with linkKeys := importTable n (leAt b 6 2) (leAt b 8 2) (leAt b 0xA 2) secret s.sec.linkKeys } }

theorem State.importKey_of_ok {n : Nat} {b : List Byte} (h : s.importOk n b) :
    (Config.unwrap b = none → s.importKey n b = (s, 6)) ∧
    (∀ secret, Config.unwrap b = some secret → s.importKey n b = (s.keyImported n b secret, 0)) := by
  obtain ⟨hl, ⟨f1, f2, f3, f4, f5, f6⟩, hid, ⟨hn, p0, p3, p4, hlease⟩, ⟨hk, hold⟩, hroom⟩ := h
  have hlock : s.rdB F.SEC_STATE_table_locked = false := by simp [State.rdB, hl]
  have hpart : ¬ (leAt b 5 1 ≠ n ∨ s.pstate n = 0 ∨ s.pstate n = 3 ∨ s.pstate n = 4 ∨ (bit (leAt b 0xA 2) 1 ∧ n ≠ 0)) := by
    rintro (e | e | e | e | ⟨e, e0⟩)
    exacts [e hn, p0 e, p3 e, p4 e, e0 (hlease e)]
  have hkey : (s.sec.linkKeys.find? (fun k => k.id = leAt b 6 2)).any (fun k => k.part ≠ n || k.tomb || leAt b 8 2 ≤ k.epoch) = false := by
    rw [Option.any_eq_false]
    intro k hf
    obtain ⟨e1, e2, e3⟩ := hold k hf
    simp [e1, e2, e3]
  have hfull : ¬ ((s.sec.linkKeys.find? (fun k => k.id = leAt b 6 2)).isNone ∧
      (256 ≤ s.sec.linkKeys.length ∨ 64 ≤ (s.sec.linkKeys.filter (fun k => k.part = n)).length)) := by
    rintro ⟨e, e'⟩
    obtain ⟨h1, h2⟩ := hroom (Option.isNone_iff_eq_none.mp e)
    omega
  have hform : ¬ (leAt b 0 4 ≠ 0x4259454B ∨ leAt b 4 1 ≠ 1 ∨ 3 < leAt b 0xA 2 ∨ leAt b 0xC 4 ≠ 0 ∨ leVal (slice b 0xA5 3) ≠ 0 ∨
      leVal (slice b 0xD8 40) ≠ 0) := by
    simp only [f1, f2, f4, f5, f6, ne_eq, not_true_eq_false, or_false, false_or]
    omega
  unfold State.importKey
  simp only [hlock, Bool.false_eq_true, if_false, if_neg hform, ne_eq, hid, not_true_eq_false, if_neg hpart, hkey, hk, or_self, if_neg hfull]
  exact ⟨fun hu => by rw [hu], fun secret hu => by rw [hu]; rfl⟩

theorem State.deleteKey_of_mem {n id : Nat} (hp : s.pstate n = 1 ∨ s.pstate n = 2)
    (h : ∃ e ∈ s.sec.linkKeys, e.part = n ∧ e.id = id ∧ e.tomb = false) : s.deleteKey n id =
      ({ s with sec := { s.sec with linkKeys := s.sec.linkKeys.filter (fun k => ! (k.part = n && k.id = id)) } }, 0) := by
  unfold State.deleteKey
  dsimp only
  rw [if_neg (by omega), if_pos (by simpa [and_assoc] using h)]

theorem State.deleteKey_of_not_mem {n id : Nat} (hp : s.pstate n = 1 ∨ s.pstate n = 2)
    (h : ¬ ∃ e ∈ s.sec.linkKeys, e.part = n ∧ e.id = id ∧ e.tomb = false) : s.deleteKey n id = (s, 7) := by
  unfold State.deleteKey
  dsimp only
  rw [if_neg (by omega), if_neg (by simpa [and_assoc] using h)]

theorem State.deleteKey_of_refusing {n id : Nat} (hp : s.pstate n = 0 ∨ s.pstate n = 3 ∨ s.pstate n = 4) : s.deleteKey n id = (s, 4) :=
  if_pos hp

/-! ## Consent tokens (R437, R438) -/

/-- The fields of a token as they are shown, the time at which it ends, and a new nonce. -/
def State.setConsent (s : State) (n active scopes shown na : Nat) : State :=
  let u := ((s.wr F.CONSENT_STATE_active active n).wr F.CONSENT_STATE_scopes scopes n).wr F.CONSENT_STATE_not_after shown n
  ({ u with sec := { u.sec with notAfter := Tab.set 0 u.sec.notAfter n na } } : State).newNonce n

theorem State.setConsent_spec (s : State) (n active scopes shown na : Nat) :
    (s.setConsent n active scopes shown na).rd F.CONSENT_STATE_active n = active % 2 ∧
    (s.setConsent n active scopes shown na).rd F.CONSENT_STATE_scopes n = scopes % 16 ∧
    (s.setConsent n active scopes shown na).rd F.CONSENT_STATE_not_after n = shown % 2 ^ 44 ∧
    Tab.get 0 (s.setConsent n active scopes shown na).sec.notAfter n = na := by
  have e : ∀ g : Fld, g.reg ≠ .CONSENT_NONCE → (s.setConsent n active scopes shown na).rd g n =
      (((s.wr F.CONSENT_STATE_active active n).wr F.CONSENT_STATE_scopes scopes n).wr F.CONSENT_STATE_not_after shown n).rd g n :=
    fun g h => State.rd_wr_ne _ _ _ _ _ _ (.inl h)
  refine ⟨(e _ (by decide)).trans ?_, (e _ (by decide)).trans ?_, (e _ (by decide)).trans (State.rd_wr_same ..), Tab.get_set_same 0 _ n na⟩
  · exact (State.rd_wr_ne _ _ _ _ _ _ (by decide)).trans ((State.rd_wr_ne _ _ _ _ _ _ (by decide)).trans (State.rd_wr_same ..))
  · exact (State.rd_wr_ne _ _ _ _ _ _ (by decide)).trans (State.rd_wr_same ..)

/-- A consent token becomes the active one. -/
def State.grantConsent (s : State) (n : Nat) (b : List Byte) : State :=
  s.setConsent n 1 (leAt b 6 2) (leAt b 0x28 8 / 2 ^ 20) (leAt b 0x28 8)

theorem State.submitConsent_of_ok {n : Nat} {b : List Byte} (h : s.consentOk n b) : s.submitConsent n b =
    if s.verifies (if n = 0 then 3 else 5) n (slice b 0 256) (slice b 256 256) then (s.grantConsent n b, 0) else (s, 5) := by
  obtain ⟨⟨hl, hlife⟩, ⟨f1, f2, f3, f4, f5⟩, ⟨hn, hp⟩, hid, hnonce, ⟨hclk, hnb, hna, hweek⟩, himg⟩ := h
  have hlock : ¬ (s.rdB F.SEC_STATE_table_locked ∨ (n ≠ 0 ∧ s.rd F.SEC_STATE_lifecycle = 2)) := by
    simp only [State.rdB, hl, bne_self_eq_false, Bool.false_eq_true, false_or]
    omega
  have hform : ¬ (leAt b 0 4 ≠ 0x534E4F43 ∨ leAt b 4 1 ≠ 1 ∨ 15 < leAt b 6 2 ∨ leVal (slice b 0x38 200) ≠ 0 ∨
      ! blockOk (slice b 0x100 256)) := by
    simp only [f1, f2, f4, f5, ne_eq, not_true_eq_false, Bool.not_true, Bool.false_eq_true, or_false, false_or]
    omega
  unfold State.submitConsent
  dsimp only
  rw [if_neg hlock, if_neg hform, if_neg (by omega), if_neg (not_not.mpr hid), if_neg (not_not.mpr hnonce), if_neg (by omega), if_neg (by omega)]
  cases s.verifies (if n = 0 then 3 else 5) n (slice b 0 256) (slice b 256 256) <;> rfl

/-- The scopes of a token that passes the checks fit their field. -/
theorem State.grantConsent_of_ok {n : Nat} {b : List Byte} (h : s.consentOk n b) : (s.grantConsent n b).rd F.CONSENT_STATE_active n = 1 ∧
    (s.grantConsent n b).rd F.CONSENT_STATE_scopes n = leAt b 6 2 ∧ Tab.get 0 (s.grantConsent n b).sec.notAfter n = leAt b 0x28 8 := by
  obtain ⟨-, ⟨-, -, hscopes, -⟩, -⟩ := h
  obtain ⟨ha, hs, -, hn⟩ := s.setConsent_spec n 1 (leAt b 6 2) (leAt b 0x28 8 / 2 ^ 20) (leAt b 0x28 8)
  exact ⟨ha, hs.trans (Nat.mod_eq_of_lt (by omega)), hn⟩

/-- The debug port leaves the partition of an active token. -/
def State.leaveUnits (s : State) (n : Nat) : State := if s.rdB F.CONSENT_STATE_active n then s.debugDetach n else s

theorem State.endConsent_eq (s : State) (n : Nat) : s.endConsent n = (s.leaveUnits n).setConsent n 0 0 0 0 := rfl

theorem State.endConsent_clears (s : State) (n : Nat) : (s.endConsent n).rd F.CONSENT_STATE_active n = 0 ∧
    (s.endConsent n).rd F.CONSENT_STATE_scopes n = 0 ∧ (s.endConsent n).rd F.CONSENT_STATE_not_after n = 0 ∧
    Tab.get 0 (s.endConsent n).sec.notAfter n = 0 := (s.leaveUnits n).setConsent_spec n 0 0 0 0

theorem State.haltedUnits_congr (hu : t.dbg.units = s.dbg.units) (hs : t.struct = s.struct) (n : Nat) : t.haltedUnits n = s.haltedUnits n := by
  simp only [State.haltedUnits, State.unitPart, State.clusterOwner, State.engineOwner, hu, hs]

theorem State.haltedUnits_releaseUnits (s : State) (n : Nat) : (s.releaseUnits n).haltedUnits n = false := by
  refine (List.any_filter ..).trans (List.any_eq_false.mpr fun e _ => ?_)
  show ¬ (decide (s.unitPart _ _ ≠ n) && (e.2.state != 0 && s.unitPart _ _ == n)) = true
  simp only [Bool.and_eq_true, decide_eq_true_eq, beq_iff_eq]
  exact fun h => h.1 h.2.2

theorem State.debugDetach_units (s : State) (n : Nat) : (s.debugDetach n).dbg.units = (s.releaseUnits n).dbg.units := by
  unfold State.debugDetach
  dsimp only
  refine List.foldlRecOn (motive := fun u : State => u.dbg.units = (s.releaseUnits n).dbg.units) _ _ ?_ fun u hu c _ => ?_
  · split <;> split <;> rfl
  · split <;> exact hu

/-- R438: no unit of the partition stays halted. -/
theorem State.haltedUnits_endConsent {n : Nat} (h : s.rd F.CONSENT_STATE_active n ≠ 0) : (s.endConsent n).haltedUnits n = false := by
  have hs : (s.endConsent n).struct = s.struct :=
    (State.endConsent_keep (W := { sec := true, dbg := true, b_security := true, b_core := true }) (Keep.refl s)).parts.struct rfl
  have hd : s.leaveUnits n = s.debugDetach n := if_pos (bne_iff_ne.mpr h)
  have hu : (s.endConsent n).dbg = (s.debugDetach n).dbg := by
    rw [State.endConsent_eq, hd]
    rfl
  exact (State.haltedUnits_congr (s := s.releaseUnits n) (by rw [hu, s.debugDetach_units n]) hs n).trans (s.haltedUnits_releaseUnits n)

/-! ## The commands -/

theorem exec_keyImport (m : Master) (n : PartId) (s : State) : exec (.keyImport m n) s = execKeyImport m n s := rfl

theorem exec_keyDelete (m : Master) (n : PartId) (k : BitVec 16) (s : State) : exec (.keyDelete m n k) s = execKeyDelete m n k s := rfl

theorem exec_consentSubmit (m : Master) (n : PartId) (s : State) : exec (.consentSubmit m n) s = execConsentSubmit m n s := rfl

theorem exec_consentRevoke (m : Master) (n : PartId) (s : State) : exec (.consentRevoke m n) s = execConsentRevoke m n s := rfl

theorem exec_consentExpiry (n : PartId) (s : State) : exec (.consentExpiry n) s = execConsentExpiry n s := rfl

theorem exec_keyImport_of_buffer (ht : s.isTenant n m = true) (hb : s.rd F.SEC_STATUS_busy n = 0) {a : Nat}
    (ha : s.secBuffer m n 256 false = some a) (hu : s.badUnit a 256 = none) : exec (.keyImport m n) s =
      .next ((s.importKey n (s.bytesAt (ddr a) 256)).1.secStatus n (s.importKey n (s.bytesAt (ddr a) 256)).2) := by
  refine (exec_keyImport m n s).trans ((State.secCommand_of_free ht hb _).trans ?_)
  simp only [ha, hu]

theorem exec_keyDelete_of_free (ht : s.isTenant n m = true) (hb : s.rd F.SEC_STATUS_busy n = 0) (k : BitVec 16) :
    exec (.keyDelete m n k) s = .next ((s.deleteKey n k.toNat).1.secStatus n (s.deleteKey n k.toNat).2) :=
  (exec_keyDelete m n k s).trans (State.secCommand_of_free ht hb _)

theorem exec_consentSubmit_of_buffer (ht : s.isTenant n m = true) (hb : s.rd F.SEC_STATUS_busy n = 0) (ho : s.isOperator m = true) {a : Nat}
    (ha : s.secBuffer m n 512 false = some a) (hu : s.badUnit a 512 = none) : exec (.consentSubmit m n) s =
      .next ((s.submitConsent n (s.bytesAt (ddr a) 512)).1.secStatus n (s.submitConsent n (s.bytesAt (ddr a) 512)).2) := by
  refine (exec_consentSubmit m n s).trans ((State.secCommand_of_free ht hb _).trans ?_)
  simp only [ho, Bool.not_true, Bool.false_eq_true, if_false, ha, hu]

theorem exec_consentSubmit_of_not_operator (ht : s.isTenant n m = true) (hb : s.rd F.SEC_STATUS_busy n = 0) (ho : s.isOperator m = false) :
    exec (.consentSubmit m n) s = .next (s.secStatus n 1) := by
  refine (exec_consentSubmit m n s).trans ((State.secCommand_of_free ht hb _).trans ?_)
  simp only [ho, Bool.not_false, if_true]

theorem exec_consentRevoke_of_free (ht : s.isTenant n m = true) (hb : s.rd F.SEC_STATUS_busy n = 0) :
    exec (.consentRevoke m n) s = .next ((s.endConsent n).secStatus n 0) :=
  (exec_consentRevoke m n s).trans (State.secCommand_of_free ht hb _)

theorem exec_security_of_busy (k : BitVec 16) (ht : s.isTenant n m = true) (hb : s.rd F.SEC_STATUS_busy n ≠ 0) :
    ∀ c ∈ [Instr.attest m n, .keyImport m n, .keyDelete m n k, .consentSubmit m n, .consentRevoke m n],
      exec c s = .next (s.wr F.SEC_STATUS_result 4 n) := by
  simp only [List.forall_mem_cons]
  exact ⟨(exec_attest m n s).trans (State.secCommand_of_busy ht hb _), (exec_keyImport m n s).trans (State.secCommand_of_busy ht hb _),
    (exec_keyDelete m n k s).trans (State.secCommand_of_busy ht hb _), (exec_consentSubmit m n s).trans (State.secCommand_of_busy ht hb _),
    (exec_consentRevoke m n s).trans (State.secCommand_of_busy ht hb _), nofun⟩

/-- Module time when a token expires. -/
def State.toExpiry (s : State) (n : Nat) : State :=
  if s.modTime < Tab.get 0 s.sec.notAfter n then s.pass (Tab.get 0 s.sec.notAfter n - s.modTime) else s

theorem State.pass_modTime (h : s.ptp.slew = 0) (dt : Nat) : (s.pass dt).modTime = s.modTime + dt := by
  have hu : Unchanged { b_perf := true } s (s.countCycles dt) := (State.countCycles_keep (Keep.refl s)).parts
  unfold State.pass
  dsimp only
  rw [if_pos ((congrArg Ptp.slew (hu.ptp rfl)).trans h)]
  exact congrArg (· + dt) (hu.modTime rfl)

theorem State.toExpiry_modTime (h : s.ptp.slew = 0) (n : Nat) : (s.toExpiry n).modTime = max s.modTime (Tab.get 0 s.sec.notAfter n) := by
  unfold State.toExpiry
  split
  · rw [State.pass_modTime h]; omega
  · omega

theorem State.toExpiry_unchanged (s : State) (n : Nat) : Unchanged Parts.pass s (s.toExpiry n) :=
  (Keep.ite (State.pass_keep (Keep.refl s)) (Keep.refl s)).parts

theorem exec_consentExpiry_of_active (h : s.rd F.CONSENT_STATE_active n ≠ 0) :
    exec (.consentExpiry n) s = .next ((s.toExpiry n).endConsent n) :=
  (exec_consentExpiry n s).trans (if_pos (show s.rdB F.CONSENT_STATE_active n = true from bne_iff_ne.mpr h))

/-! ## What each command leaves -/

theorem attest_writes_report (ht : s.isTenant n m = true) (hb : s.rd F.SEC_STATUS_busy n = 0) {a : Nat}
    (ha : s.secBuffer m n 2816 true = some a) (hu : s.badUnit (a + 0x20) 64 = none) (hk : s.blockedUnit a 2816 = false) :
    ∃ (t : State) (rep : List Byte), exec (.attest m n) s = .next t ∧
      rep = s.report (s.reportRequester m) (s.bytesAt (ddr (a + 0x20)) 64) ∧
      (∀ k, (h : k < rep.length) → t.byte (ddr (a + k)) = rep[k]) ∧ (∀ k, k < ddr a ∨ ddr a + rep.length ≤ k → t.byte k = s.byte k) ∧
      (∀ k, k < 64 → t.byte (ddr (a + 0x20 + k)) = s.byte (ddr (a + 0x20 + k))) ∧
      t.rd F.SEC_STATUS_result n = 1 ∧ t.rd F.SEC_STATUS_reason n = 0 := by
  obtain ⟨hput, hother⟩ := s.byte_reported n a (s.report (s.reportRequester m) (s.bytesAt (ddr (a + 0x20)) 64))
  exact ⟨_, _, exec_attest_of_buffer ht hb ha hu hk, rfl, hput, hother, fun k hk => s.byte_reported_nonce n a _ hk, State.secStatus_done _ n⟩

theorem keyImport_imports (ht : s.isTenant n m = true) (hb : s.rd F.SEC_STATUS_busy n = 0) {a : Nat} {b : List Byte}
    (ha : s.secBuffer m n 256 false = some a) (hu : s.badUnit a 256 = none) (he : s.bytesAt (ddr a) 256 = b) (hok : s.importOk n b) :
    ∃ t, exec (.keyImport m n) s = .next t ∧
      (∀ secret, Config.unwrap b = some secret →
        LinkKeyImported n (leAt b 6 2) (leAt b 8 2) (leAt b 0xA 2) secret s.sec.linkKeys t.sec.linkKeys ∧
        t.rd F.SEC_STATUS_result n = 1 ∧ t.rd F.SEC_STATUS_reason n = 0) ∧
      (Config.unwrap b = none → t.sec = s.sec ∧ t.rd F.SEC_STATUS_result n = 3 ∧ t.rd F.SEC_STATUS_reason n = 6) := by
  obtain ⟨hnone, hsome⟩ := State.importKey_of_ok hok
  refine ⟨_, exec_keyImport_of_buffer ht hb ha hu, fun secret h => ?_, fun h => ?_⟩
  · rw [he, hsome secret h]
    exact ⟨LinkKeyImported.importTable .., State.secStatus_done _ n⟩
  · rw [he, hnone h]
    exact ⟨rfl, s.secStatus_refused n 6 (by decide) (by decide)⟩

theorem keyDelete_deletes (ht : s.isTenant n m = true) (hb : s.rd F.SEC_STATUS_busy n = 0) (k : BitVec 16) :
    ∃ t, exec (.keyDelete m n k) s = .next t ∧
      (s.pstate n = 1 ∨ s.pstate n = 2 →
        ((∃ e ∈ s.sec.linkKeys, e.part = n ∧ e.id = k.toNat ∧ e.tomb = false) →
          t.sec = { s.sec with linkKeys := s.sec.linkKeys.filter (fun e => ! (e.part = n.val && e.id = k.toNat)) } ∧
          t.rd F.SEC_STATUS_result n = 1 ∧ t.rd F.SEC_STATUS_reason n = 0) ∧
        (¬ (∃ e ∈ s.sec.linkKeys, e.part = n ∧ e.id = k.toNat ∧ e.tomb = false) →
          t.sec = s.sec ∧ t.rd F.SEC_STATUS_result n = 3 ∧ t.rd F.SEC_STATUS_reason n = 7)) ∧
      (s.pstate n = 0 ∨ s.pstate n = 3 ∨ s.pstate n = 4 →
        t.sec = s.sec ∧ t.rd F.SEC_STATUS_result n = 3 ∧ t.rd F.SEC_STATUS_reason n = 4) := by
  refine ⟨_, exec_keyDelete_of_free ht hb k, fun hp => ⟨fun h => ?_, fun h => ?_⟩, fun hp => ?_⟩
  · rw [State.deleteKey_of_mem hp h]
    exact ⟨rfl, State.secStatus_done _ n⟩
  · rw [State.deleteKey_of_not_mem hp h]
    exact ⟨rfl, s.secStatus_refused n 7 (by decide) (by decide)⟩
  · rw [State.deleteKey_of_refusing hp]
    exact ⟨rfl, s.secStatus_refused n 4 (by decide) (by decide)⟩

theorem consentSubmit_grants (ht : s.isTenant n m = true) (hb : s.rd F.SEC_STATUS_busy n = 0) (ho : s.isOperator m = true) {a : Nat}
    {b : List Byte} (ha : s.secBuffer m n 512 false = some a) (hu : s.badUnit a 512 = none) (he : s.bytesAt (ddr a) 512 = b)
    (hok : s.consentOk n b) : ∃ t, exec (.consentSubmit m n) s = .next t ∧
      (s.verifies (if n.val = 0 then 3 else 5) n (slice b 0 256) (slice b 256 256) = true →
        t.rd F.CONSENT_STATE_active n = 1 ∧ t.rd F.CONSENT_STATE_scopes n = leAt b 6 2 ∧
        Tab.get 0 t.sec.notAfter n = leAt b 0x28 8 ∧ t.rd F.SEC_STATUS_result n = 1 ∧ t.rd F.SEC_STATUS_reason n = 0) ∧
      (s.verifies (if n.val = 0 then 3 else 5) n (slice b 0 256) (slice b 256 256) = false →
        t.sec = s.sec ∧ t.rd F.CONSENT_STATE_active n = s.rd F.CONSENT_STATE_active n ∧
        t.rd F.CONSENT_NONCE_nonce n = s.rd F.CONSENT_NONCE_nonce n ∧
        t.rd F.SEC_STATUS_result n = 3 ∧ t.rd F.SEC_STATUS_reason n = 5) := by
  refine ⟨_, exec_consentSubmit_of_buffer ht hb ho ha hu, fun hv => ?_, fun hv => ?_⟩
  · obtain ⟨hact, hsc, hna⟩ := State.grantConsent_of_ok hok
    rw [he, State.submitConsent_of_ok hok, hv, if_pos rfl]
    exact ⟨(State.rd_secStatus_other _ n 0 n 0 (by decide)).trans hact, (State.rd_secStatus_other _ n 0 n 0 (by decide)).trans hsc, hna,
      State.secStatus_done _ n⟩
  · rw [he, State.submitConsent_of_ok hok, hv, if_neg Bool.false_ne_true]
    exact ⟨rfl, State.rd_secStatus_other s n 5 n 0 (by decide), State.rd_secStatus_other s n 5 n 0 (by decide),
      s.secStatus_refused n 5 (by decide) (by decide)⟩

theorem consentRevoke_ends (ht : s.isTenant n m = true) (hb : s.rd F.SEC_STATUS_busy n = 0) :
    ∃ t, exec (.consentRevoke m n) s = .next t ∧ t.rd F.CONSENT_STATE_active n = 0 ∧ t.rd F.CONSENT_STATE_scopes n = 0 ∧
      t.rd F.CONSENT_STATE_not_after n = 0 ∧ Tab.get 0 t.sec.notAfter n = 0 ∧
      t.rd F.SEC_STATUS_result n = 1 ∧ t.rd F.SEC_STATUS_reason n = 0 ∧
      (s.rd F.CONSENT_STATE_active n ≠ 0 → t.haltedUnits n = false) := by
  obtain ⟨hact, hsc, hshown, hna⟩ := s.endConsent_clears n
  obtain ⟨hres, hrea⟩ := (s.endConsent n).secStatus_done n
  have hother : ∀ g : Fld, g.reg ≠ .SEC_STATUS → ((s.endConsent n).secStatus n 0).rd g n = (s.endConsent n).rd g n :=
    fun g h => State.rd_secStatus_other _ n 0 n 0 h
  exact ⟨_, exec_consentRevoke_of_free ht hb, (hother _ (by decide)).trans hact, (hother _ (by decide)).trans hsc,
    (hother _ (by decide)).trans hshown, hna, hres, hrea, State.haltedUnits_endConsent⟩

theorem consentExpiry_ends (h : s.rd F.CONSENT_STATE_active n ≠ 0) : ∃ t, exec (.consentExpiry n) s = .next t ∧
    t.rd F.CONSENT_STATE_active n = 0 ∧ t.rd F.CONSENT_STATE_scopes n = 0 ∧ t.rd F.CONSENT_STATE_not_after n = 0 ∧ t.haltedUnits n = false ∧
    (s.ptp.slew = 0 → t.modTime = max s.modTime (Tab.get 0 s.sec.notAfter n)) := by
  obtain ⟨hact, hsc, hshown, -⟩ := (s.toExpiry n).endConsent_clears n
  have ha : (s.toExpiry n).rd F.CONSENT_STATE_active n ≠ 0 := by
    rwa [(s.toExpiry_unchanged n).regs F.CONSENT_STATE_active n 0 rfl]
  have hm : ((s.toExpiry n).endConsent n).modTime = (s.toExpiry n).modTime :=
    (State.endConsent_keep (W := { sec := true, dbg := true, b_security := true, b_core := true }) (Keep.refl _)).parts.modTime rfl
  exact ⟨_, exec_consentExpiry_of_active h, hact, hsc, hshown, State.haltedUnits_endConsent ha,
    fun hslew => hm.trans (State.toExpiry_modTime hslew n)⟩

/-- Settles O20: one lemma for each command of the window and one for the expiry; log entries 25, 26 and 2 stand behind the single SEAL and
LEASE entry, the completion at once and the time of the expiry. -/
theorem securityWindowCommands : Obligations.SecurityWindowCommands := by
  unfold Obligations.SecurityWindowCommands
  refine ⟨fun m n s ht hb => ⟨fun a ha hu hk => ?_, fun a b ha hu he hok => ?_, keyDelete_deletes ht hb,
    fun ho a b ha hu he hok => consentSubmit_grants ht hb ho ha hu he hok, exec_consentSubmit_of_not_operator ht hb, consentRevoke_ends ht hb⟩,
    fun m n k s ht hb => exec_security_of_busy k ht hb, fun n s h => consentExpiry_ends h⟩
  · obtain ⟨t, rep, hexec, hrep, hrest⟩ := attest_writes_report ht hb ha hu hk
    exact ⟨t, rep, hexec, hrep.trans (by cases m <;> rfl), hrest⟩
  · obtain ⟨t, hexec, hsome, hnone⟩ := keyImport_imports ht hb ha hu he hok
    refine ⟨t, hexec, ?_⟩
    cases h : Config.unwrap b with
    | none => exact hnone h
    | some secret => exact hsome secret h

end Sys2Proof.Machine
end

section
/-! Requests to MGC (22: R548, R551 to R554, R597): the order in which each is judged, and the commands of status, log, faults and power. -/

namespace Sys2Proof.Machine

-- One proof at a time: the package is compiled as one text under a memory limit.
set_option Elab.async false

variable {s : State} {r : Req} {op : Nat} {g : Gate}

/-! ## The order of judgement (R552) -/

/-- An answer to a request that is judged by its path, then by its head and body. -/
def Judged (x : Res) (s : State) (r : Req) (op : Nat) (g : Gate) : Prop :=
  (s.before r = false → x = .next s) ∧
  (s.before r = true → s.permits r g = false → x = .next ((s.taken r).reply r op 0x30 0 [])) ∧
  (s.before r = true → s.permits r g = true → r.malformed = true → x = .next ((s.taken r).reply r op 0x33 0 []))

theorem State.serveReq_judged (s : State) (r : Req) (op : Nat) (g : Gate) (ok : Bool) (f : State → State × Nat × Nat × List Byte) :
    Judged (s.serveReq r op g ok f) s r op g := by
  refine ⟨fun hb => ?_, fun hb hp => ?_, fun hb hp hm => ?_⟩
  · simp only [State.serveReq, hb, Bool.not_false, if_true]
  · simp only [State.serveReq, State.taken_permits, hb, hp, Bool.not_true, Bool.not_false, Bool.false_eq_true, if_true, if_false]
    rfl
  · simp only [State.serveReq, State.taken_permits, hb, hp, hm, Bool.not_true, Bool.true_or, Bool.false_eq_true, if_true, if_false]
    rfl

/-- POWER_ON and RESET: a request in order may take another way. -/
theorem Judged.of_ite {x y : Res} (p : Bool) (h : Judged y s r op g) :
    Judged (if s.before r && s.permits r g && !r.malformed && p then x else y) s r op g := by
  obtain ⟨h1, h2, h3⟩ := h
  refine ⟨fun hb => (if_neg ?_).trans (h1 hb), fun hb hp => (if_neg ?_).trans (h2 hb hp), fun hb hp hm => (if_neg ?_).trans (h3 hb hp hm)⟩
  · simp [hb]
  · simp [hp]
  · simp [hm]

theorem exec_judged {c : Instr} (h : mgmtOp c = some (r, op, g)) (s : State) : Judged (exec c s) s r op g := by
  cases c <;> cases h
  case powerOn => exact (State.serveReq_judged ..).of_ite s.powerOnOk
  case reset => exact (State.serveReq_judged ..).of_ite (!s.mgmtWriting r)
  all_goals
    dsimp only [exec, execFwCtrl]
    exact State.serveReq_judged ..

/-! ## Requests that are admitted -/

theorem State.serveReq_of_body {ok : Bool} (h : s.admits r g) (hok : ok = true) (op : Nat) (f : State → State × Nat × Nat × List Byte) :
    s.serveReq r op g ok f = .next ((f (s.taken r)).1.reply r op (f (s.taken r)).2.1 (f (s.taken r)).2.2.1 (f (s.taken r)).2.2.2) := by
  subst hok
  exact State.serveReq_of_admits h op f

theorem State.serveReq_of_bad_body {ok : Bool} (h : s.admits r g) (hok : ok = false) (op : Nat) (f : State → State × Nat × Nat × List Byte) :
    s.serveReq r op g ok f = .next ((s.taken r).reply r op 0x33 0 []) := by
  obtain ⟨hb, hp, -⟩ := h
  subst hok
  simp only [State.serveReq, State.taken_permits, hb, hp, Bool.not_true, Bool.not_false, Bool.or_true, Bool.false_eq_true, if_true, if_false]
  rfl

/-! ## STATUS and the Amber log -/

theorem exec_status (h : s.admits r { sdio := true, locked := true }) : exec (.status r) s = .next ((s.taken r).reply r 0x01 0 0
    ([RegId.FAULT_SUMMARY, .FW_BOOT, .FW_VERSIONS, .PWR_LIMIT, .PWR_INPUT, .REDUN_STATE].flatMap
      (fun k => leBytes 8 ((s.taken r).readReg .mgc k 0 0)))) :=
  show execStatus r s = _ from State.serveReq_of_admits h 0x01 _

theorem exec_amberRead (h : s.admits r { sdio := true, locked := true }) (first : Byte) : exec (.amberRead r first) s =
    .next ((s.taken r).reply r 0x02 0 0 (leBytes 8 ((s.taken r).readReg .mgc .AMBER_STATE 0 0) ++ (List.range 32).flatMap (fun k =>
      leBytes 8 (if first.toNat + k < 256 then (s.taken r).amberSlot (first.toNat + k) else 0)))) := by
  have hle : ∀ k, (first.toNat + k < 256) = (first.toNat + k ≤ 255) := fun k => propext Nat.lt_succ_iff
  simp only [hle]
  exact show execAmberRead r first s = _ from State.serveReq_of_admits h 0x02 _

theorem State.bbsGet_bbsZero (s : State) (a n k : Nat) :
    (s.bbsZero a n).bbsGet k = if a ≤ k ∧ k < a + n then 0#8 else s.bbsGet k := by
  refine (Tab.get_keep 0#8 s.bbs (fun k => ! decide (a ≤ k ∧ k < a + n)) k).trans ?_
  by_cases h : a ≤ k ∧ k < a + n <;> simp [h, State.bbsGet]

theorem leVal_of_zero {bs : List Byte} (h : ∀ b ∈ bs, b = 0#8) : leVal bs = 0 := by
  induction bs with
  | nil => rfl
  | cons b bs ih =>
    rw [leVal, h b List.mem_cons_self, ih fun c hc => h c (List.mem_cons_of_mem b hc)]
    rfl

/-- R477: the log with every slot empty and no entry lost. -/
def State.clearAmber (s : State) : State := (s.bbsZero 0x800 2048).wr F.AMBER_STATE_lost 0

theorem State.clearAmber_spec (s : State) : (∀ i, i < 256 → s.clearAmber.amberSlot i = 0) ∧ s.clearAmber.rd F.AMBER_STATE_lost = 0 ∧
    ∀ a, a < 0x800 ∨ 0x1000 ≤ a → s.clearAmber.bbsGet a = s.bbsGet a := by
  refine ⟨fun i hi => leVal_of_zero ?_, State.rd_wr_same .., fun a ha => ?_⟩
  · simp only [List.mem_map, List.mem_range]
    rintro b ⟨k, hk, rfl⟩
    exact (s.bbsGet_bbsZero 0x800 2048 _).trans (if_pos (by omega))
  · exact (s.bbsGet_bbsZero 0x800 2048 a).trans (if_neg (by omega))

theorem exec_amberClear (h : s.admits r { sdio := true }) : exec (.amberClear r) s = .next ((s.taken r).clearAmber.reply r 0x03 0 0 []) :=
  show execAmberClear r s = _ from State.serveReq_of_admits h 0x03 _

/-! ## FAULT -/

theorem State.faultWrite_ack {v : Nat} (h : bits v 3 0 = 1) (s : State) (m : Master) :
    s.faultWrite m v = nextOf s (exec (.faultAck m (Fin.ofNat 256 (bits v 15 8))) s) := by
  unfold State.faultWrite
  rw [h]
  rfl

theorem State.faultWrite_clear {v : Nat} (h : bits v 3 0 = 2) (s : State) (m : Master) :
    s.faultWrite m v = nextOf s (exec (.faultClear m (Fin.ofNat 256 (bits v 15 8))) s) := by
  unfold State.faultWrite
  rw [h]
  rfl

theorem State.faultWrite_ackAll {v : Nat} (h : bits v 3 0 = 3) (s : State) (m : Master) :
    s.faultWrite m v = nextOf s (exec (.ackAll m) s) := by
  unfold State.faultWrite
  rw [h]
  rfl

/-- A value of FAULT_CMD does what its command does (Table 19.11). -/
theorem State.faultWrite_of_command {w : W64} {c : Instr} {v : State} (hc : CommandOf .mgc .FAULT_CMD 0 0 w c) (he : exec c s = .next v) :
    s.faultWrite .mgc w.toNat = v := by
  unfold CommandOf at hc
  dsimp only at hc
  split at hc
  next h => subst hc; exact (s.faultWrite_ack h .mgc).trans (congrArg (nextOf s) he)
  next h => subst hc; exact (s.faultWrite_clear h .mgc).trans (congrArg (nextOf s) he)
  next h => subst hc; exact (s.faultWrite_ackAll h .mgc).trans (congrArg (nextOf s) he)
  next => exact hc.elim

theorem exec_fault (h : s.admits r {}) {w : W64} {v : State} (hw : (s.taken r).faultWrite .mgc w.toNat = v) : exec (.fault r w) s =
    .next (v.reply r 0x04 (if v.rd F.FAULT_CMD_STATUS_result = 1 then 0 else 0x33)
      (if v.rd F.FAULT_CMD_STATUS_result = 1 then 0 else v.rd F.FAULT_CMD_STATUS_reason) []) := by
  refine (show execFault r w s = _ from State.serveReq_of_admits h 0x04 _).trans ?_
  simp only [hw]
  split <;> rfl

/-! ## POWER_OFF (R516) -/

/-- What the removal of core power clears and what it keeps. -/
theorem State.clearCore_of_removal (s : State) : (s.clearCore false).mem = [] ∧ (s.clearCore false).struct = {} ∧
    (s.clearCore false).modTime = s.modTime ∧ (s.clearCore false).mgmt = s.mgmt := by
  obtain ⟨u, -, -, hmod, hmem, hstruct, -, -, -, -, -, -, -, -, -, -, hmgmt, -, -, -, hu⟩ := State.clearCore_parts (s := s) false
  exact ⟨(hu.mem rfl).trans hmem, (hu.struct rfl).trans hstruct, (hu.modTime rfl).trans hmod, (hu.mgmt rfl).trans hmgmt⟩

/-- OFF: the cause is shown, the version of the management image stays, and the stage is MGMT. -/
def State.enterOff (s : State) (cause version : Nat) : State :=
  ((({ s with power := { s.power with off := true, cause := cause, rails := false }, fw := { s.fw with cold := true } } : State).wr
    F.PWR_LIMIT_last_off cause).wr F.FW_VERSIONS_mgmt version).setStage 1

theorem State.enterOff_power (s : State) (cause version : Nat) : (s.enterOff cause version).power.off = true ∧
    (s.enterOff cause version).power.rails = false ∧ (s.enterOff cause version).power.cause = cause := ⟨rfl, rfl, rfl⟩

theorem State.rd_enterOff (s : State) (cause version : Nat) : (s.enterOff cause version).rd F.PWR_LIMIT_last_off = cause % 16 ∧
    (s.enterOff cause version).rd F.FW_BOOT_stage = 1 ∧
    (s.enterOff cause version).rd F.FW_VERSIONS_mgmt = version % 2 ^ F.FW_VERSIONS_mgmt.width := by
  refine ⟨?_, State.rd_wr_same .., ?_⟩
  · exact (State.rd_wr_ne _ _ _ _ _ _ (by decide)).trans ((State.rd_wr_ne _ _ _ _ _ _ (by decide)).trans (State.rd_wr_same ..))
  · exact (State.rd_wr_ne _ _ _ _ _ _ (by decide)).trans (State.rd_wr_same ..)

theorem State.removePower_of_rails (h : s.power.rails = true) (cause : Nat) :
    s.removePower cause = (s.clearCore false).enterOff cause (s.rd F.FW_VERSIONS_mgmt) := if_neg (by simp [h])

theorem State.enterOff_kept (s : State) (cause version : Nat) : (s.enterOff cause version).struct = s.struct ∧
    (s.enterOff cause version).mem = s.mem ∧ (s.enterOff cause version).modTime = s.modTime ∧ (s.enterOff cause version).mgmt = s.mgmt :=
  ⟨rfl, rfl, rfl, rfl⟩

theorem State.removePower_off (h : s.power.rails = true) (cause : Nat) : CorePowerOff s (s.removePower cause) cause := by
  obtain ⟨hmem, hstruct, hmod, hmgmt⟩ := s.clearCore_of_removal
  obtain ⟨kstruct, kmem, kmod, kmgmt⟩ := (s.clearCore false).enterOff_kept cause (s.rd F.FW_VERSIONS_mgmt)
  obtain ⟨hlast, hstage, -⟩ := (s.clearCore false).rd_enterOff cause (s.rd F.FW_VERSIONS_mgmt)
  rw [State.removePower_of_rails h]
  exact ⟨State.enterOff_power .., hlast, hstage, ⟨kstruct.trans hstruct, kmem.trans hmem⟩, kmod.trans hmod, kmgmt.trans hmgmt⟩

theorem State.taken_rails (s : State) (r : Req) : (s.taken r).power.rails = s.power.rails := by
  unfold State.taken State.wakeS4
  cases r.path <;> split <;> rfl

theorem State.taken_mgmtWriting (s : State) (r : Req) : (s.taken r).mgmtWriting r = s.mgmtWriting r := by
  unfold State.mgmtWriting
  rw [(s.taken_unchanged r).fw rfl]

theorem exec_powerOff_of_writing (h : s.admits r { sdio := true }) (hw : s.mgmtWriting r = true) :
    exec (.powerOff r) s = .next ((s.taken r).reply r 0x11 0x32 0 []) := by
  refine (show execPowerOff r s = _ from State.serveReq_of_admits h 0x11 _).trans ?_
  simp only [State.taken_mgmtWriting, hw, if_true]
  rfl

theorem exec_powerOff_of_free (h : s.admits r { sdio := true }) (hw : s.mgmtWriting r = false) :
    exec (.powerOff r) s = .next (((s.taken r).removePower 7).reply r 0x11 0 0 []) := by
  refine (show execPowerOff r s = _ from State.serveReq_of_admits h 0x11 _).trans ?_
  simp only [State.taken_mgmtWriting, hw, Bool.false_eq_true, if_false]
  rfl

theorem powerOff_removes_power (h : s.admits r { sdio := true }) (hr : s.power.rails = true) (hw : s.mgmtWriting r = false) :
    ∃ v : State, exec (.powerOff r) s = .next (v.reply r 0x11 0 0 []) ∧
      v.power.off = true ∧ v.power.rails = false ∧ v.power.cause = 7 ∧ v.rd F.PWR_LIMIT_last_off = 7 ∧ v.rd F.FW_BOOT_stage = 1 ∧
      v.rd F.FW_VERSIONS_mgmt = s.rd F.FW_VERSIONS_mgmt % 2 ^ F.FW_VERSIONS_mgmt.width ∧ v.struct = {} ∧ v.mem = [] ∧
      v.modTime = s.modTime ∧ v.mgmt = (s.taken r).mgmt := by
  have hu := s.taken_unchanged r
  have hr' : (s.taken r).power.rails = true := (s.taken_rails r).trans hr
  obtain ⟨⟨hoff, hrails, hcause⟩, hlast, hstage, ⟨hstruct, hmem⟩, hmod, hmgmt⟩ := State.removePower_off hr' 7
  have hver : ((s.taken r).removePower 7).rd F.FW_VERSIONS_mgmt = s.rd F.FW_VERSIONS_mgmt % 2 ^ F.FW_VERSIONS_mgmt.width := by
    rw [State.removePower_of_rails hr', hu.regs F.FW_VERSIONS_mgmt 0 0 rfl]
    exact (State.rd_enterOff _ 7 _).2.2
  exact ⟨_, exec_powerOff_of_free h hw, hoff, hrails, hcause, hlast, hstage, hver, hstruct, hmem, hmod.trans (hu.modTime rfl), hmgmt⟩

/-! ## SET_CAP, HANDOVER and ATTEST -/

theorem exec_setCap_of_range (h : s.admits r {}) {w : Nat} (hw : 250 ≤ w ∧ w ≤ 2000) :
    exec (.setCap r w) s = .next (((s.taken r).wr F.PWR_CTRL_mgmt_cap_w w).plan.reply r 0x13 0 0 []) := by
  refine (show execSetCap r w s = _ from State.serveReq_of_body h (decide_eq_true hw) 0x13 _).trans ?_
  simp only [served, stOk]

theorem exec_setCap_of_not_range (h : s.admits r {}) {w : Nat} (hw : ¬ (250 ≤ w ∧ w ≤ 2000)) :
    exec (.setCap r w) s = .next ((s.taken r).reply r 0x13 0x33 0 []) :=
  show execSetCap r w s = _ from State.serveReq_of_bad_body h (decide_eq_false hw) 0x13 _

theorem exec_handover_mgc (s : State) :
    exec (.handover .mgc) s = .next (s.handOver.1.wr F.REDUN_STATE_cmd_result (if s.handOver.2 then 1 else 3)) := rfl

theorem exec_mgmtHandover (h : s.admits r {}) {v : State} (hv : exec (.handover .mgc) (s.taken r) = .next v) :
    exec (.mgmtHandover r) s = .next (v.reply r 0x14 (if v.rd F.REDUN_STATE_cmd_result = 1 then 0 else 0x33) 0 []) := by
  obtain rfl := Host.Outcome.next.inj ((exec_handover_mgc _).symm.trans hv)
  refine (show execMgmtHandover r s = _ from State.serveReq_of_admits h 0x14 _).trans ?_
  rw [State.rd_wr_same]
  dsimp only
  cases (s.taken r).handOver.2 <;> rfl

theorem exec_mgmtAttest (h : s.admits r {}) {nonce : List Byte} (hn : nonce.length = 64) : exec (.mgmtAttest r nonce) s =
    .next (({ s.taken r with fresh := (s.taken r).fresh + 1 } : State).reply r 0x20 0 0 ((s.taken r).report 0xFF nonce)) :=
  show execMgmtAttest r nonce s = _ from State.serveReq_of_body h (decide_eq_true hn) 0x20 _

/-- Settles O28: every command of Table 22.4 is `State.serveReq`, beside which POWER_ON and RESET have a way of their own; then one lemma for
each command (log entries 145 to 147 for the path and the reasons, 101 for what core power takes with it). -/
theorem managementStatusAndPower : Obligations.ManagementStatusAndPower := by
  unfold Obligations.ManagementStatusAndPower
  refine ⟨fun c r op g s h => exec_judged h s, ?_⟩
  rintro r s _ rfl
  refine ⟨exec_status, fun first h => exec_amberRead h first, fun h => ?_, fun w c v h hc he => exec_fault h (State.faultWrite_of_command hc he),
    fun h => ⟨powerOff_removes_power h, exec_powerOff_of_writing h⟩, fun w h h1 h2 => exec_setCap_of_range h ⟨h1, h2⟩,
    fun w h hw => exec_setCap_of_not_range h hw, fun v h hv => exec_mgmtHandover h hv, fun nonce h hn => exec_mgmtAttest h hn⟩
  exact ⟨_, exec_amberClear h, (s.taken r).clearAmber_spec⟩

end Sys2Proof.Machine
end

section
/-! Keys over the management network (17: R423, R426 to R428; 22: Table 22.4): CLAIM, the key table, UNLOCK, LIFECYCLE, and the commands that do
what those of the security windows do. -/

namespace Sys2Proof.Machine

-- One proof at a time: the package is compiled as one text under a memory limit.
set_option Elab.async false

variable {s : State} {r : Req}

/-! ## The public key table -/

/-- The table is sealed with a new generation; nothing else of the root of trust changes. -/
theorem State.sealKeys_sec (s : State) : s.sealKeys.sec = { s.sec with generation := (s.bbsRd 0x2C 4 + 1) % 2 ^ 32 } := by
  unfold State.sealKeys
  dsimp only
  exact ((State.bbsPut_keep (W := { bbs := true }) (Keep.refl _)).parts.sec rfl).trans
    ((State.setCounter_keep (W := { bbs := true, fw := true }) (Keep.refl _)).parts.sec rfl)

theorem State.sealKeys_unchanged (s : State) : Unchanged { bbs := true, sec := true, fw := true } s s.sealKeys :=
  (State.sealKeys_keep (Keep.refl s)).parts

theorem State.rd_sealKeys (s : State) (g : Fld) (k l : Nat) : s.sealKeys.rd g k l = s.rd g k l :=
  s.sealKeys_unchanged.regs g k l (by cases g.reg.block <;> rfl)

theorem State.setClaimed_unchanged (s : State) (v : Nat) : Unchanged { bbs := true, b_lifecycle := true } s (s.setClaimed v) :=
  (State.setClaimed_keep (Keep.refl s)).parts

theorem State.rd_setClaimed (s : State) (v : Nat) (g : Fld) (k l : Nat) :
    (s.setClaimed v).rd g k l = (s.wr F.SEC_STATE_claimed v).rd g k l :=
  (State.bbsWr_keep (W := { bbs := true }) (Keep.refl _)).parts.regs g k l (by cases g.reg.block <;> rfl)

/-- The table with an entry more. -/
def State.addKey (s : State) (e : PubKey) : State := { s with sec := { s.sec with keys := s.sec.keys ++ [e] } }.sealKeys

theorem State.addKey_keys (s : State) (e : PubKey) : (s.addKey e).sec.keys = s.sec.keys ++ [e] := by
  unfold State.addKey
  rw [State.sealKeys_sec]

/-! ## CLAIM (R428) -/

/-- The client's root joins the table as OPERATOR_CA, and its session is trusted. -/
def State.takeRoot (s : State) (r : Req) (root : PubKey) : State :=
  { s with
    sec := { s.sec with keys := s.sec.keys ++ [tableEntry { root with role := 2 }] }
    mgmt := { s.mgmt with trusted := s.mgmt.trusted ++ (if s.mgmt.trusted.contains r.session.val then [] else [r.session.val]) } }

/-- The module is claimed by a client. -/
def State.claimedBy (s : State) (r : Req) (root : PubKey) : State := ((s.takeRoot r root).setClaimed 1).sealKeys

theorem State.claimedBy_spec (s : State) (r : Req) (root : PubKey) : (s.claimedBy r root).rd F.SEC_STATE_claimed = 1 ∧
    (s.claimedBy r root).sec.keys = s.sec.keys ++ [tableEntry { root with role := 2 }] ∧
    (s.claimedBy r root).mgmt.trusted.contains r.session.val = true := by
  refine ⟨?_, ?_, ?_⟩
  · exact (State.rd_sealKeys ..).trans ((State.rd_setClaimed ..).trans (State.rd_wr_same ..))
  · unfold State.claimedBy
    rw [State.sealKeys_sec, (State.setClaimed_unchanged _ 1).sec rfl]
    rfl
  · unfold State.claimedBy
    rw [(State.sealKeys_unchanged _).mgmt rfl, (State.setClaimed_unchanged _ 1).mgmt rfl]
    unfold State.takeRoot
    dsimp only
    split
    · next h => rwa [List.append_nil]
    · simp

theorem exec_claim_of_unclaimed (h : s.admits r { claim := true }) (root : PubKey) (hc : (s.taken r).rd F.SEC_STATE_claimed = 0)
    (hl : (s.taken r).sec.keys.length < 64) : exec (.claim r root) s = .next (((s.taken r).claimedBy r root).reply r 0x21 0 0 []) := by
  refine (show execClaim r root s = _ from State.serveReq_of_admits h 0x21 _).trans ?_
  have hn : ¬ ((s.taken r).rdB F.SEC_STATE_claimed ∨ 64 ≤ (s.taken r).sec.keys.length) := by
    simp only [State.rdB, hc, bne_self_eq_false, Bool.false_eq_true, false_or]
    omega
  simp only [if_neg hn]
  rfl

theorem exec_claim_of_claimed (h : s.admits r { claim := true }) (root : PubKey) (hc : (s.taken r).rd F.SEC_STATE_claimed ≠ 0) :
    exec (.claim r root) s = .next ((s.taken r).reply r 0x21 0x33 0 []) := by
  refine (show execClaim r root s = _ from State.serveReq_of_admits h 0x21 _).trans ?_
  have hp : (s.taken r).rdB F.SEC_STATE_claimed ∨ 64 ≤ (s.taken r).sec.keys.length := .inl (bne_iff_ne.mpr hc)
  simp only [if_pos hp]
  rfl

theorem claim_claims (h : s.admits r { claim := true }) (root : PubKey) :
    ((s.taken r).rd F.SEC_STATE_claimed = 0 → (s.taken r).sec.keys.length < 64 → ∃ v : State,
      exec (.claim r root) s = .next (v.reply r 0x21 0 0 []) ∧ v.rd F.SEC_STATE_claimed = 1 ∧
      (∃ e : PubKey, e.role = 2 ∧ e.part = 0 ∧ e.key = root.key ∧ v.sec.keys = (s.taken r).sec.keys ++ [e]) ∧
      v.mgmt.trusted.contains r.session.val = true) ∧
    ((s.taken r).rd F.SEC_STATE_claimed ≠ 0 → exec (.claim r root) s = .next ((s.taken r).reply r 0x21 0x33 0 [])) := by
  refine ⟨fun hc hl => ?_, exec_claim_of_claimed h root⟩
  obtain ⟨hclaimed, hkeys, htrusted⟩ := (s.taken r).claimedBy_spec r root
  exact ⟨_, exec_claim_of_unclaimed h root hc hl, hclaimed,
    ⟨tableEntry { root with role := 2 }, rfl, rfl, rfl, hkeys⟩, htrusted⟩

/-! ## KEY_ENROL and KEY_REMOVE (R428) -/

theorem exec_keyEnrol (h : s.admits r {}) {k : PubKey} (hk : 1 ≤ k.role ∧ k.role ≤ 5 ∧ k.part < 16) :
    exec (.keyEnrol r k) s =
      if (s.taken r).sec.keys.contains (tableEntry k) then .next ((s.taken r).reply r 0x22 0 0 [])
      else if 64 ≤ (s.taken r).sec.keys.length then .next ((s.taken r).reply r 0x22 0x33 0 [])
      else .next (((s.taken r).addKey (tableEntry k)).reply r 0x22 0 0 []) := by
  refine (show execKeyEnrol r k s = _ from State.serveReq_of_body h (decide_eq_true hk) 0x22 _).trans ?_
  dsimp only
  split
  · rfl
  · split <;> rfl

theorem keyEnrol_enrols (h : s.admits r {}) {k : PubKey} (hk : 1 ≤ k.role ∧ k.role ≤ 5 ∧ k.part < 16) :
    ∃ (v : State) (st : Nat), exec (.keyEnrol r k) s = .next (v.reply r 0x22 st 0 []) ∧
      ((s.taken r).sec.keys.contains (tableEntry k) = true → v = s.taken r ∧ st = 0) ∧
      ((s.taken r).sec.keys.contains (tableEntry k) = false → 64 ≤ (s.taken r).sec.keys.length → v = s.taken r ∧ st = 0x33) ∧
      ((s.taken r).sec.keys.contains (tableEntry k) = false → (s.taken r).sec.keys.length < 64 →
        v.sec.keys = (s.taken r).sec.keys ++ [tableEntry k] ∧ st = 0) := by
  rw [exec_keyEnrol h hk]
  cases hc : (s.taken r).sec.keys.contains (tableEntry k) with
  | true => exact ⟨_, _, if_pos rfl, fun _ => ⟨rfl, rfl⟩, nofun, nofun⟩
  | false =>
    rw [if_neg Bool.false_ne_true]
    by_cases hl : 64 ≤ (s.taken r).sec.keys.length
    · exact ⟨_, _, if_pos hl, nofun, fun _ _ => ⟨rfl, rfl⟩, fun _ hn => absurd hl (Nat.not_le.mpr hn)⟩
    · exact ⟨_, _, if_neg hl, nofun, fun _ h' => absurd h' hl, fun _ _ => ⟨State.addKey_keys .., rfl⟩⟩

/-- An entry that KEY_REMOVE names. -/
def keyHit (digest : List Byte) (role part : Nat) (k : PubKey) : Bool :=
  k.role = role && (role < 4 || k.part = part) && digestEq k.digest digest

theorem keyHit_iff {digest : List Byte} {role part : Nat} {k : PubKey} :
    keyHit digest role part k = true ↔ k.role = role ∧ (role < 4 ∨ k.part = part) ∧ digestEq k.digest digest = true := by
  simp [keyHit, and_assoc]

/-- The table without the entries that KEY_REMOVE names. -/
def State.dropKeys (s : State) (digest : List Byte) (role part : Nat) : State :=
  { s with sec := { s.sec with keys := s.sec.keys.filter (fun k => !keyHit digest role part k) } }.sealKeys

theorem State.dropKeys_keys (s : State) (digest : List Byte) (role part : Nat) :
    (s.dropKeys digest role part).sec.keys = s.sec.keys.filter (fun k => !keyHit digest role part k) := by
  unfold State.dropKeys
  rw [State.sealKeys_sec]

theorem exec_keyRemove (h : s.admits r {}) (digest : List Byte) {role part : Nat} (hk : 1 ≤ role ∧ role ≤ 5 ∧ part < 16) :
    exec (.keyRemove r digest role part) s =
      if (s.taken r).sec.keys.any (keyHit digest role part) then .next (((s.taken r).dropKeys digest role part).reply r 0x23 0 0 [])
      else .next ((s.taken r).reply r 0x23 0x33 0 []) := by
  refine (show execKeyRemove r digest role part s = _ from State.serveReq_of_body h (decide_eq_true hk) 0x23 _).trans ?_
  unfold State.dropKeys keyHit
  dsimp only
  split <;> rfl

theorem keyRemove_removes (h : s.admits r {}) (digest : List Byte) {role part : Nat} (hk : 1 ≤ role ∧ role ≤ 5 ∧ part < 16) :
    ∃ (v : State) (st : Nat), exec (.keyRemove r digest role part) s = .next (v.reply r 0x23 st 0 []) ∧
      v.sec.keys = (s.taken r).sec.keys.filter (fun k => ¬ (k.role = role ∧ (role < 4 ∨ k.part = part) ∧ digestEq k.digest digest = true)) ∧
      (st = 0 ↔ ∃ k ∈ (s.taken r).sec.keys, k.role = role ∧ (role < 4 ∨ k.part = part) ∧ digestEq k.digest digest = true) := by
  simp only [exec_keyRemove h digest hk, ← keyHit_iff]
  by_cases hany : (s.taken r).sec.keys.any (keyHit digest role part) = true
  · refine ⟨_, _, if_pos hany, ?_, fun _ => List.any_eq_true.mp hany, fun _ => rfl⟩
    simp [State.dropKeys_keys]
  · have hnone : ∀ k ∈ (s.taken r).sec.keys, ¬ keyHit digest role part k = true := fun k hk hh => hany (List.any_eq_true.mpr ⟨k, hk, hh⟩)
    refine ⟨_, _, if_neg hany, (List.filter_eq_self.mpr fun k hk => decide_eq_true (hnone k hk)).symm, nofun, ?_⟩
    rintro ⟨k, hk, hh⟩
    exact absurd hh (hnone k hk)

/-! ## UNLOCK (R427) -/

/-- The table is no longer locked. -/
def State.unlocked (s : State) : State := if s.rdB F.SEC_STATE_table_locked then (s.wr F.SEC_STATE_table_locked 0).sealKeys else s

theorem State.unlocked_spec (s : State) : s.unlocked.rd F.SEC_STATE_table_locked = 0 ∧ s.unlocked.sec.keys = s.sec.keys := by
  unfold State.unlocked
  split
  · rw [State.sealKeys_sec]
    exact ⟨(State.rd_sealKeys ..).trans (State.rd_wr_same ..), rfl⟩
  · next h => exact ⟨by simpa [State.rdB] using h, rfl⟩

/-- The bytes that the signature of UNLOCK covers. -/
def State.unlockMsg (s : State) : List Byte := leBytes 2 0x24 ++ leBytes 16 s.identity

theorem exec_unlock (h : s.admits r { locked := true }) (slot : Fin 4) (sig : List Byte) : exec (.unlock r slot sig) s =
    if (s.taken r).rootSigned slot (s.taken r).unlockMsg sig then .next ((s.taken r).unlocked.reply r 0x24 0 0 [])
    else .next ((s.taken r).reply r 0x24 0x33 5 []) := by
  refine (show execUnlock r slot sig s = _ from State.serveReq_of_admits h 0x24 _).trans ?_
  unfold State.unlocked State.unlockMsg
  cases (s.taken r).rootSigned slot (leBytes 2 0x24 ++ leBytes 16 (s.taken r).identity) sig with
  | true =>
    simp only [Bool.not_true, Bool.false_eq_true, if_false, if_true]
    split <;> rfl
  | false => rfl

/-! ## LIFECYCLE (R423) -/

/-- The bytes that the signature of LIFECYCLE covers. -/
def State.lifecycleMsg (s : State) (target : Fin 3) : List Byte := leBytes 2 0x25 ++ leBytes 1 target.val ++ leBytes 16 s.identity

/-- FACTORY to PRODUCTION. -/
def State.leaveFactory (s : State) : State := { s.wr F.SEC_STATE_lifecycle 1 with faults := { s.faults with inject := [] } }

/-- PRODUCTION to DEPOT. -/
def State.enterDepot (s : State) : State := (s.wr F.SEC_STATE_lifecycle 2).wr F.SEC_STATE_depot_returns (s.rd F.SEC_STATE_depot_returns + 1)

/-- DEPOT to PRODUCTION. -/
def State.leaveDepot (s : State) : State :=
  ((({ s.wr F.SEC_STATE_lifecycle 1 with sec := { s.sec with keys := [], linkKeys := [] } } : State).setCounter 2 0).setClaimed 0).sealKeys

theorem State.leaveFactory_spec (s : State) :
    s.leaveFactory.rd F.SEC_STATE_lifecycle = 1 ∧ s.leaveFactory.faults.inject = [] ∧ s.leaveFactory.sec = s.sec :=
  ⟨State.rd_wr_same s F.SEC_STATE_lifecycle 1 0 0, rfl, rfl⟩

theorem State.enterDepot_spec (h : s.rd F.SEC_STATE_depot_returns < 7) : s.enterDepot.rd F.SEC_STATE_lifecycle = 2 ∧
    s.enterDepot.rd F.SEC_STATE_depot_returns = s.rd F.SEC_STATE_depot_returns + 1 ∧ s.enterDepot.sec = s.sec := by
  have hw : 2 ^ F.SEC_STATE_depot_returns.width = 16 := rfl
  exact ⟨(State.rd_wr_ne _ _ _ _ _ _ (by decide)).trans (State.rd_wr_same ..), (State.rd_wr_same ..).trans (Nat.mod_eq_of_lt (by omega)), rfl⟩

theorem State.leaveDepot_spec (s : State) : s.leaveDepot.rd F.SEC_STATE_lifecycle = 1 ∧ s.leaveDepot.rd F.SEC_STATE_claimed = 0 ∧
    s.leaveDepot.sec.keys = [] ∧ s.leaveDepot.sec.linkKeys = [] := by
  have hc : ∀ (u : State) (g : Fld), (u.setCounter 2 0).rd g = u.rd g := fun u g =>
    (State.setCounter_keep (W := { bbs := true, fw := true }) (Keep.refl u)).parts.regs g 0 0 (by cases g.reg.block <;> rfl)
  have hs : ∀ u : State, (u.setCounter 2 0).sec = u.sec := fun u =>
    (State.setCounter_keep (W := { bbs := true, fw := true }) (Keep.refl u)).parts.sec rfl
  have hsec : s.leaveDepot.sec.keys = [] ∧ s.leaveDepot.sec.linkKeys = [] := by
    unfold State.leaveDepot
    rw [State.sealKeys_sec, (State.setClaimed_unchanged _ 0).sec rfl, hs]
    exact ⟨rfl, rfl⟩
  refine ⟨?_, (State.rd_sealKeys ..).trans ((State.rd_setClaimed ..).trans (State.rd_wr_same ..)), hsec⟩
  exact (State.rd_sealKeys ..).trans ((State.rd_setClaimed ..).trans ((State.rd_wr_ne _ _ _ _ _ _ (by decide)).trans
    ((hc _ _).trans (State.rd_wr_same s F.SEC_STATE_lifecycle 1 0 0))))

theorem exec_lifecycle_of_unsigned (h : s.admits r {}) (target : Fin 3) {slot : Fin 4} {sig : List Byte}
    (hs : (s.taken r).rootSigned slot ((s.taken r).lifecycleMsg target) sig = false) :
    exec (.lifecycle r target slot sig) s = .next ((s.taken r).reply r 0x25 0x33 5 []) := by
  refine (show execLifecycle r target slot sig s = _ from State.serveReq_of_admits h 0x25 _).trans ?_
  unfold State.lifecycleMsg at hs
  simp only [hs, Bool.not_false, if_true]
  rfl

theorem exec_lifecycle_of_signed (h : s.admits r {}) (target : Fin 3) {slot : Fin 4} {sig : List Byte}
    (hs : (s.taken r).rootSigned slot ((s.taken r).lifecycleMsg target) sig = true) : exec (.lifecycle r target slot sig) s =
      if (s.taken r).rd F.SEC_STATE_lifecycle = 0 ∧ target = 1 then .next ((s.taken r).leaveFactory.reply r 0x25 0 0 [])
      else if (s.taken r).rd F.SEC_STATE_lifecycle = 1 ∧ target = 2 ∧ (s.taken r).rd F.SEC_STATE_depot_returns < 7 then
        .next ((s.taken r).enterDepot.reply r 0x25 0 0 [])
      else if (s.taken r).rd F.SEC_STATE_lifecycle = 2 ∧ target = 1 then .next ((s.taken r).leaveDepot.reply r 0x25 0 0 [])
      else .next ((s.taken r).reply r 0x25 0x33 12 []) := by
  refine (show execLifecycle r target slot sig s = _ from State.serveReq_of_admits h 0x25 _).trans ?_
  unfold State.lifecycleMsg at hs
  unfold State.leaveFactory State.enterDepot State.leaveDepot
  simp only [hs, Bool.not_true, Bool.false_eq_true, if_false, served, refusedWith]
  split
  · rfl
  · split
    · rfl
    · split <;> rfl

section signed
variable {target : Fin 3} {slot : Fin 4} {sig : List Byte} (h : s.admits r {})
  (hs : (s.taken r).rootSigned slot ((s.taken r).lifecycleMsg target) sig = true)
include h hs

theorem lifecycle_leaves_factory (hl : (s.taken r).rd F.SEC_STATE_lifecycle = 0) (ht : target = 1) :
    exec (.lifecycle r target slot sig) s = .next ((s.taken r).leaveFactory.reply r 0x25 0 0 []) :=
  (exec_lifecycle_of_signed h target hs).trans (if_pos ⟨hl, ht⟩)

theorem lifecycle_enters_depot (hl : (s.taken r).rd F.SEC_STATE_lifecycle = 1) (ht : target = 2)
    (hn : (s.taken r).rd F.SEC_STATE_depot_returns < 7) :
    exec (.lifecycle r target slot sig) s = .next ((s.taken r).enterDepot.reply r 0x25 0 0 []) := by
  rw [exec_lifecycle_of_signed h target hs, if_neg (by omega), if_pos ⟨hl, ht, hn⟩]

theorem lifecycle_leaves_depot (hl : (s.taken r).rd F.SEC_STATE_lifecycle = 2) (ht : target = 1) :
    exec (.lifecycle r target slot sig) s = .next ((s.taken r).leaveDepot.reply r 0x25 0 0 []) := by
  rw [exec_lifecycle_of_signed h target hs, if_neg (by omega), if_neg (by omega), if_pos ⟨hl, ht⟩]

/-- The depot takes a module at most seven times. -/
theorem lifecycle_refuses_depot (hl : (s.taken r).rd F.SEC_STATE_lifecycle = 1) (hn : 7 ≤ (s.taken r).rd F.SEC_STATE_depot_returns) :
    exec (.lifecycle r target slot sig) s = .next ((s.taken r).reply r 0x25 0x33 12 []) := by
  rw [exec_lifecycle_of_signed h target hs, if_neg (by omega), if_neg (by omega), if_neg (by omega)]

end signed

/-- The state in which the module leaves a lifecycle state. -/
def State.lifecycleNext (s : State) : State :=
  if s.rd F.SEC_STATE_lifecycle = 0 then s.leaveFactory else if s.rd F.SEC_STATE_lifecycle = 1 then s.enterDepot else s.leaveDepot

theorem lifecycle_moves (h : s.admits r {}) (target : Fin 3) (slot : Fin 4) (sig : List Byte) :
    ∃ v : State,
      ((s.taken r).rootSigned slot ((s.taken r).lifecycleMsg target) sig = true →
        ((s.taken r).rd F.SEC_STATE_lifecycle = 0 → target = 1 → exec (.lifecycle r target slot sig) s = .next (v.reply r 0x25 0 0 []) ∧
          v.rd F.SEC_STATE_lifecycle = 1 ∧ v.faults.inject = [] ∧ v.sec = (s.taken r).sec) ∧
        ((s.taken r).rd F.SEC_STATE_lifecycle = 1 → target = 2 → (s.taken r).rd F.SEC_STATE_depot_returns < 7 →
          exec (.lifecycle r target slot sig) s = .next (v.reply r 0x25 0 0 []) ∧ v.rd F.SEC_STATE_lifecycle = 2 ∧
          v.rd F.SEC_STATE_depot_returns = (s.taken r).rd F.SEC_STATE_depot_returns + 1 ∧ v.sec = (s.taken r).sec) ∧
        ((s.taken r).rd F.SEC_STATE_lifecycle = 2 → target = 1 → exec (.lifecycle r target slot sig) s = .next (v.reply r 0x25 0 0 []) ∧
          v.rd F.SEC_STATE_lifecycle = 1 ∧ v.rd F.SEC_STATE_claimed = 0 ∧ v.sec.keys = [] ∧ v.sec.linkKeys = []) ∧
        ((s.taken r).rd F.SEC_STATE_lifecycle = 1 → target = 2 → 7 ≤ (s.taken r).rd F.SEC_STATE_depot_returns →
          exec (.lifecycle r target slot sig) s = .next ((s.taken r).reply r 0x25 0x33 12 []))) ∧
      ((s.taken r).rootSigned slot ((s.taken r).lifecycleMsg target) sig = false →
        exec (.lifecycle r target slot sig) s = .next ((s.taken r).reply r 0x25 0x33 5 [])) := by
  refine ⟨(s.taken r).lifecycleNext, fun hs => ⟨fun hl ht => ?_, fun hl ht hn => ?_, fun hl ht => ?_, fun hl _ hn => ?_⟩,
    exec_lifecycle_of_unsigned h target⟩
  · rw [State.lifecycleNext, if_pos hl]
    exact ⟨lifecycle_leaves_factory h hs hl ht, State.leaveFactory_spec _⟩
  · rw [State.lifecycleNext, if_neg (by omega), if_pos hl]
    exact ⟨lifecycle_enters_depot h hs hl ht hn, State.enterDepot_spec hn⟩
  · rw [State.lifecycleNext, if_neg (by omega), if_neg (by omega)]
    exact ⟨lifecycle_leaves_depot h hs hl ht, State.leaveDepot_spec _⟩
  · exact lifecycle_refuses_depot h hs hl hn

/-! ## The commands of the security windows -/

/-- The status of an answer with a reason, and the reason. -/
theorem byReason_eq (v : State) {re st : Nat} (hst : (if re = 0 then 0 else 0x33) = st) : byReason (v, re) = (v, st, re, []) := by
  subst hst
  unfold byReason
  by_cases h : re = 0
  · subst h; rfl
  · simp only [if_neg h, refusedWith, stInvalid]

theorem exec_linkKeyImport (h : s.admits r {}) {blob : List Byte} (hl : blob.length = 256) {v : State} {re st : Nat}
    (hx : (s.taken r).importKey (leAt blob 5 1) blob = (v, re)) (hst : (if re = 0 then 0 else 0x33) = st) :
    exec (.linkKeyImport r blob) s = .next (v.reply r 0x26 st re []) := by
  refine (show execLinkKeyImport r blob s = _ from State.serveReq_of_body h (decide_eq_true hl) 0x26 _).trans ?_
  simp only [hx, byReason_eq v hst]

theorem exec_linkKeyDelete (h : s.admits r {}) (n : PartId) (k : BitVec 16) {v : State} {re st : Nat}
    (hx : (s.taken r).deleteKey n k.toNat = (v, re)) (hst : (if re = 0 then 0 else 0x33) = st) :
    exec (.linkKeyDelete r n k) s = .next (v.reply r 0x27 st re []) := by
  refine (show execLinkKeyDelete r n k s = _ from State.serveReq_of_admits h 0x27 _).trans ?_
  simp only [hx, byReason_eq v hst]

theorem exec_mgmtConsentSubmit (h : s.admits r {}) {token : List Byte} {n : PartId} (hl : token.length = 512) (hn : leAt token 5 1 = n)
    {v : State} {re st : Nat} (hx : (s.taken r).submitConsent n token = (v, re)) (hst : (if re = 0 then 0 else 0x33) = st) :
    exec (.mgmtConsentSubmit r token) s = .next (v.reply r 0x28 st re []) := by
  refine (show execMgmtConsentSubmit r token s = _ from State.serveReq_of_body h (decide_eq_true hl) 0x28 _).trans ?_
  simp only [hn, if_neg (Nat.not_le.mpr n.isLt), hx, byReason_eq v hst]

theorem linkKeyImport_imports (h : s.admits r {}) {blob : List Byte} (hl : blob.length = 256) (hok : (s.taken r).importOk (leAt blob 5 1) blob) :
    ∃ (v : State) (st re : Nat), exec (.linkKeyImport r blob) s = .next (v.reply r 0x26 st re []) ∧
      (∀ secret, Config.unwrap blob = some secret → LinkKeyImported (leAt blob 5 1) (leAt blob 6 2) (leAt blob 8 2) (leAt blob 0xA 2) secret
        (s.taken r).sec.linkKeys v.sec.linkKeys ∧ st = 0) ∧
      (Config.unwrap blob = none → v = s.taken r ∧ st = 0x33 ∧ re = 6) := by
  obtain ⟨hnone, hsome⟩ := State.importKey_of_ok hok
  cases hu : Config.unwrap blob with
  | none => exact ⟨_, _, _, exec_linkKeyImport h hl (hnone hu) (if_neg (by decide)), nofun, fun _ => ⟨rfl, rfl, rfl⟩⟩
  | some secret =>
    refine ⟨_, _, _, exec_linkKeyImport h hl (hsome secret hu) (if_pos rfl), fun secret' he => ?_, nofun⟩
    cases he
    exact ⟨LinkKeyImported.importTable .., rfl⟩

theorem exec_mgmtConsentRevoke (h : s.admits r {}) (n : PartId) :
    exec (.mgmtConsentRevoke r n) s = .next (((s.taken r).endConsent n).reply r 0x29 0 0 []) :=
  show execMgmtConsentRevoke r n s = _ from State.serveReq_of_admits h 0x29 _

theorem mgmtConsentSubmit_grants (h : s.admits r {}) {token : List Byte} {n : PartId} (hl : token.length = 512) (hn : leAt token 5 1 = n)
    (hok : (s.taken r).consentOk n token) :
    ((s.taken r).verifies (if n.val = 0 then 3 else 5) n (slice token 0 256) (slice token 256 256) = true →
      ∃ v : State, exec (.mgmtConsentSubmit r token) s = .next (v.reply r 0x28 0 0 []) ∧ v.rd F.CONSENT_STATE_active n = 1 ∧
        v.rd F.CONSENT_STATE_scopes n = leAt token 6 2 ∧ Tab.get 0 v.sec.notAfter n = leAt token 0x28 8) ∧
    ((s.taken r).verifies (if n.val = 0 then 3 else 5) n (slice token 0 256) (slice token 256 256) = false →
      exec (.mgmtConsentSubmit r token) s = .next ((s.taken r).reply r 0x28 0x33 5 [])) := by
  have hx := State.submitConsent_of_ok hok
  refine ⟨fun hv => ?_, fun hv => ?_⟩
  · rw [hv, if_pos rfl] at hx
    exact ⟨_, exec_mgmtConsentSubmit h hl hn hx (if_pos rfl), State.grantConsent_of_ok hok⟩
  · rw [hv, if_neg Bool.false_ne_true] at hx
    exact exec_mgmtConsentSubmit h hl hn hx (if_neg (by decide))

/-- Settles O29: one lemma for each command; the last four are the operations that the security windows run (log entries 148 to 150 for the
table and the transitions, 147 for the reasons, 25 for the single SEAL and LEASE entry). -/
theorem managementKeys : Obligations.ManagementKeys := by
  unfold Obligations.ManagementKeys
  rintro r s _ rfl
  refine ⟨fun root h => claim_claims h root, fun k h h1 h5 hp => keyEnrol_enrols h ⟨h1, h5, hp⟩,
    fun digest role part h h1 h5 hp => keyRemove_removes h digest ⟨h1, h5, hp⟩,
    fun slot sig h => ⟨(s.taken r).unlocked, fun hs => ?_, fun hs => ?_⟩,
    fun target slot sig h => lifecycle_moves h target slot sig, fun blob h hl hok => ?_, fun n k h hp => ⟨fun hk => ?_, fun hk => ?_⟩,
    fun token n h hl hn hok => mgmtConsentSubmit_grants h hl hn hok, fun n h => ?_⟩
  · exact ⟨(exec_unlock h slot sig).trans (if_pos hs), State.unlocked_spec _⟩
  · exact (exec_unlock h slot sig).trans (if_neg (by rw [State.unlockMsg, hs]; exact Bool.false_ne_true))
  · obtain ⟨v, st, re, hexec, hsome, hnone⟩ := linkKeyImport_imports h hl hok
    refine ⟨v, st, re, hexec, ?_⟩
    cases hu : Config.unwrap blob with
    | none => exact hnone hu
    | some secret => exact hsome secret hu
  · exact exec_linkKeyDelete h n k (State.deleteKey_of_mem hp hk) (if_pos rfl)
  · exact exec_linkKeyDelete h n k (State.deleteKey_of_not_mem hp hk) (if_neg (by decide))
  · exact ⟨_, exec_mgmtConsentRevoke h n, State.endConsent_clears _ n⟩

end Sys2Proof.Machine
end

section
/-! The flashes, the boot record and FW_STATUS (18: Tables 18.6 and 18.7; 22: Table 22.5): what each operation of the firmware commands leaves
in a slot's state, in a counter, in a flash and in the result. -/

namespace Sys2Proof.Machine

-- One proof at a time: the package is compiled as one text under a memory limit.
set_option Elab.async false

variable {s : State} {k : Nat}

/-! ## FW_STATUS -/

@[simp] theorem State.fwResult_fw (s : State) (result reason : Nat) : (s.fwResult result reason).fw = s.fw := rfl
@[simp] theorem State.fwResult_bbs (s : State) (result reason : Nat) : (s.fwResult result reason).bbs = s.bbs := rfl

@[simp] theorem State.slotState_fwResult (s : State) (result reason j : Nat) : (s.fwResult result reason).slotState j = s.slotState j :=
  State.slotState_congr rfl j

@[simp] theorem State.rd_fwResult_result (s : State) (result reason : Nat) :
    (s.fwResult result reason).rd F.FW_STATUS_result = result % 16 :=
  (State.rd_wr_ne _ _ _ _ _ _ (.inr (by decide))).trans (State.rd_wr_same ..)

@[simp] theorem State.rd_fwResult_reason (s : State) (result reason : Nat) :
    (s.fwResult result reason).rd F.FW_STATUS_reason = reason % 256 := State.rd_wr_same ..

theorem State.rd_fwResult_other (s : State) (result reason : Nat) {g : Fld} (h : g.reg ≠ .FW_STATUS ∨ g.lo ≠ 0 ∧ g.lo ≠ 24) :
    (s.fwResult result reason).rd g = s.rd g :=
  (State.rd_wr_ne _ _ _ _ _ _ (h.imp_right (·.2))).trans (State.rd_wr_ne _ _ _ _ _ _ (h.imp_right (·.1)))

/-! ## The states of the slots -/

theorem State.setSlotState_unchanged (s : State) (k v : Nat) : Unchanged { bbs := true } s (s.setSlotState k v) :=
  (State.setSlotState_keep (Keep.refl s)).parts

@[simp] theorem State.setSlotState_fw (s : State) (k v : Nat) : (s.setSlotState k v).fw = s.fw := (s.setSlotState_unchanged k v).fw rfl

/-- The slot beside slot k becomes VALID when it is in state v. -/
def State.demoteOther (s : State) (k v : Nat) : State := if s.slotState (1 - k) = v then s.setSlotState (1 - k) 2 else s

/-- Slot k takes a state that one slot at most is in. -/
def State.setSoleSlot (s : State) (k v : Nat) : State := (s.demoteOther k v).setSlotState k v

@[simp] theorem State.demoteOther_fw (s : State) (k v : Nat) : (s.demoteOther k v).fw = s.fw := by
  unfold State.demoteOther
  split
  · exact State.setSlotState_fw ..
  · rfl

theorem State.slotState_demoteOther (s : State) (hk : k < 2) (v : Nat) :
    (s.demoteOther k v).slotState (1 - k) = if s.slotState (1 - k) = v then 2 else s.slotState (1 - k) := by
  unfold State.demoteOther
  split
  · rw [State.slotState_set _ _ _ (by omega) (by omega), if_pos rfl]
  · rfl

theorem State.slotState_setSlotState_same (s : State) (hk : k < 2) (v : Nat) : (s.setSlotState k v).slotState k = v % 256 := by
  rw [State.slotState_set _ _ _ hk hk, if_pos rfl]

theorem State.slotState_setSlotState_other (s : State) (hk : k < 2) (v : Nat) :
    (s.setSlotState k v).slotState (1 - k) = s.slotState (1 - k) := by
  rw [State.slotState_set _ _ _ hk (by omega), if_neg (by omega)]

theorem State.setSoleSlot_spec (s : State) (hk : k < 2) (v : Nat) : (s.setSoleSlot k v).slotState k = v % 256 ∧
    (s.setSoleSlot k v).slotState (1 - k) = if s.slotState (1 - k) = v then 2 else s.slotState (1 - k) :=
  ⟨State.slotState_setSlotState_same _ hk v, (State.slotState_setSlotState_other _ hk v).trans (s.slotState_demoteOther hk v)⟩

/-! ## The counters (R459) -/

/-- A counter follows a version upwards. -/
def State.raiseCounter (s : State) (i v : Nat) : State := if s.bbsRd (0x20 + 4 * i) 4 < v then s.setCounter i v else s

theorem State.setCounter_mirror (s : State) (i v : Nat) : (s.setCounter i v).fw.mirror = some ((s.fw.mirror.getD [0, 0, 0, 0]).set i v) := by
  have hfw : (s.bbsWr (0x20 + 4 * i) 4 v).fw = s.fw := (State.bbsWr_keep (W := { bbs := true }) (Keep.refl s)).parts.fw rfl
  show some (((s.bbsWr (0x20 + 4 * i) 4 v).fw.mirror.getD [0, 0, 0, 0]).set i v) = _
  rw [hfw]

theorem State.raiseCounter_spec (s : State) {i v : Nat} (hi : i < 4) (hv : v < 2 ^ 32) :
    (s.raiseCounter i v).bbsRd (0x20 + 4 * i) 4 = max (s.bbsRd (0x20 + 4 * i) 4) v ∧
    (∀ j, j ≠ i → j < 4 → (s.raiseCounter i v).bbsRd (0x20 + 4 * j) 4 = s.bbsRd (0x20 + 4 * j) 4) ∧
    (s.bbsRd (0x20 + 4 * i) 4 < v → (s.raiseCounter i v).fw.mirror = some ((s.fw.mirror.getD [0, 0, 0, 0]).set i v)) := by
  unfold State.raiseCounter
  split
  · next h =>
    refine ⟨?_, fun j hj hj4 => ?_, fun _ => s.setCounter_mirror i v⟩
    · rw [State.counter_set _ _ _ hi hi, if_pos rfl, Nat.mod_eq_of_lt hv, Nat.max_eq_right (Nat.le_of_lt h)]
    · rw [State.counter_set _ _ _ hi hj4, if_neg hj]
  · next h => exact ⟨(Nat.max_eq_left (Nat.le_of_not_lt h)).symm, fun _ _ _ => rfl, fun hlt => absurd hlt h⟩

/-! ## FW_CMD (R461, R462) -/

theorem State.fwCommand_of_free (h : s.fwBusy = false) (f : State → State) : s.fwCommand true f = .next (f s) := by
  simp [State.fwCommand, guardHcs, h]

theorem State.fwCommand_of_busy (h : s.fwBusy = true) (f : State → State) : s.fwCommand true f = .next (s.fwResult 4 0) := by
  simp [State.fwCommand, guardHcs, h]

end Sys2Proof.Machine
end

section
/-! Firmware commands without a write (18: R454, R459, R461, R462, Table 18.6), FW_CTRL and SET_NETWORK (22: R553, R554, Table 22.5). -/

namespace Sys2Proof.Machine

-- One proof at a time: the package is compiled as one text under a memory limit.
set_option Elab.async false

variable {s : State} {r : Req} {w : W64}

/-! ## The operations -/

/-- CONFIRM: the running slot is the ACTIVE one, the trial has no end any more, and the stage is RUNNING (R454). -/
def State.confirmed (s : State) : State :=
  (({ s.demoteOther s.runningSlot 5 with fw := { s.fw with trialEnd := 0 } } : State).setSlotState s.runningSlot 5).setStage 4

theorem State.fwOp_arm (s : State) (k : Nat) : s.fwOp 3 k = if s.slotState k = 2 then (s.setSoleSlot k 3, 1, 0) else (s, 3, 3) := rfl

theorem State.fwOp_disarm (s : State) (k : Nat) : s.fwOp 4 k = if s.slotState k = 3 then (s.setSlotState k 2, 1, 0) else (s, 3, 3) := rfl

theorem State.fwOp_confirm (s : State) (k : Nat) :
    s.fwOp 5 k = if s.rd F.FW_BOOT_stage = 5 then (s.confirmed, 1, 0) else (s, 3, 3) := by
  have hfw := s.demoteOther_fw s.runningSlot 5
  unfold State.confirmed
  rw [← hfw]
  rfl

theorem State.fwOp_commitMgmt (s : State) (k : Nat) : s.fwOp 6 k = (s.raiseCounter 0 (s.rd F.FW_VERSIONS_mgmt), 1, 0) := rfl

theorem State.fwOp_commitRuntime (s : State) (k : Nat) :
    s.fwOp 7 k = if s.rd F.FW_BOOT_stage = 5 then (s, 4, 0)
      else if s.rd F.FW_BOOT_stage = 4 then (s.raiseCounter 1 (s.rd F.FW_VERSIONS_runtime), 1, 0) else (s, 3, 3) := rfl

theorem State.confirmed_spec (hr : s.runningSlot < 2) :
    s.confirmed.slotState s.runningSlot = 5 ∧
    s.confirmed.slotState (1 - s.runningSlot) = (if s.slotState (1 - s.runningSlot) = 5 then 2 else s.slotState (1 - s.runningSlot)) ∧
    s.confirmed.rd F.FW_BOOT_stage = 4 ∧ s.confirmed.fw.trialEnd = 0 := by
  refine ⟨?_, ?_, State.rd_setStage .., ?_⟩
  · exact (State.slotState_congr rfl _).trans (State.slotState_setSlotState_same _ hr 5)
  · refine (State.slotState_congr rfl _).trans ((State.slotState_setSlotState_other _ hr 5).trans ?_)
    exact (State.slotState_congr rfl _).trans (s.slotState_demoteOther hr 5)
  · exact congrArg Firmware.trialEnd (State.setSlotState_fw _ _ 5)

/-- DONE, REFUSED with SLOT_STATE, or REJECTED (Table 18.7). -/
theorem State.fwOp_code (s : State) (op k : Nat) : (s.fwOp op k).2 ∈ [(1, 0), (3, 3), (4, 0)] := by
  match op with
  | 0 | 1 | 2 => simp [State.fwOp]
  | 3 => rw [State.fwOp_arm]; split <;> simp
  | 4 => rw [State.fwOp_disarm]; split <;> simp
  | 5 => rw [State.fwOp_confirm]; split <;> simp
  | 6 => rw [State.fwOp_commitMgmt]; simp
  | 7 =>
    rw [State.fwOp_commitRuntime]
    split
    · simp
    · split <;> simp
  | _ + 8 => simp [State.fwOp]

/-- What FW_STATUS shows after an operation is the operation's result. -/
theorem State.rd_fwPlain (s : State) (op k : Nat) : (s.fwPlain op k).rd F.FW_STATUS_result = (s.fwOp op k).2.1 ∧
    (s.fwPlain op k).rd F.FW_STATUS_reason = (s.fwOp op k).2.2 := by
  have hfits : ∀ x ∈ [(1, 0), (3, 3), (4, 0)], x.1 % 16 = x.1 ∧ x.2 % 256 = x.2 := by decide
  obtain ⟨hresult, hreason⟩ := hfits _ (s.fwOp_code op k)
  exact ⟨(State.rd_fwResult_result ..).trans hresult, (State.rd_fwResult_reason ..).trans hreason⟩

theorem State.fwPlain_of_fwOp {op k result reason : Nat} {t : State} (h : s.fwOp op k = (t, result, reason)) :
    s.fwPlain op k = t.fwResult result reason := by
  unfold State.fwPlain
  rw [h]

/-! ## The commands by MGC -/

/-- A command without a write, and the operation and the slot that FW_CMD names it by (Table 18.6). -/
inductive PlainFwCommand : Instr → Nat → Nat → Prop
  | arm (k : Fin 2) : PlainFwCommand (.arm .mgc k) 3 k
  | disarm (k : Fin 2) : PlainFwCommand (.disarm .mgc k) 4 k
  | confirm (k : Nat) : PlainFwCommand (.confirm .mgc) 5 k
  | commitMgmt (k : Nat) : PlainFwCommand (.commitMgmt .mgc) 6 k
  | commitRuntime (k : Nat) : PlainFwCommand (.commitRuntime .mgc) 7 k

theorem PlainFwCommand.exec_eq {c : Instr} {op k : Nat} (hc : PlainFwCommand c op k) (s : State) :
    exec c s = s.fwCommand true fun s => s.fwPlain op k := by
  cases hc <;> rfl

theorem PlainFwCommand.exec_of_free {c : Instr} {op k : Nat} (hc : PlainFwCommand c op k) (h : s.fwBusy = false) :
    exec c s = .next (s.fwPlain op k) := (hc.exec_eq s).trans (State.fwCommand_of_free h _)

theorem PlainFwCommand.exec_of_busy {c : Instr} {op k : Nat} (hc : PlainFwCommand c op k) (h : s.fwBusy = true) :
    exec c s = .next (s.fwResult 4 0) := (hc.exec_eq s).trans (State.fwCommand_of_busy h _)

theorem PlainFwCommand.exec_of_fwOp {c : Instr} {op k result reason : Nat} {t : State} (hc : PlainFwCommand c op k) (h : s.fwBusy = false)
    (ht : s.fwOp op k = (t, result, reason)) : exec c s = .next (t.fwResult result reason) :=
  (hc.exec_of_free h).trans (congrArg _ (State.fwPlain_of_fwOp ht))

/-- CONFIRM is P0's cores' too. -/
theorem exec_confirm_of_operator {m : Master} (hm : s.isOperator m = true) : exec (.confirm m) s = exec (.confirm .mgc) s := by
  show execConfirm m s = execConfirm .mgc s
  unfold execConfirm
  rw [hm]
  rfl

/-- The values 3 to 7 of FW_CMD's operation are the commands without a write. -/
theorem plainFwCommand_of_command {c : Instr} (hc : CommandOf .mgc .FW_CMD 0 0 w c) (hop : 3 ≤ bits w.toNat 3 0) :
    PlainFwCommand c (bits w.toNat 3 0) (bits w.toNat 4 4) := by
  have hslot : (Fin.ofNat 2 (bits w.toNat 4 4)).val = bits w.toNat 4 4 := Nat.mod_eq_of_lt (bits_lt _ 4 4)
  have harm := PlainFwCommand.arm (Fin.ofNat 2 (bits w.toNat 4 4))
  have hdisarm := PlainFwCommand.disarm (Fin.ofNat 2 (bits w.toNat 4 4))
  rw [hslot] at harm hdisarm
  unfold CommandOf at hc
  dsimp only at hc
  split at hc
  next h => omega
  next h => omega
  next h => subst hc; rw [h]; exact harm
  next h => subst hc; rw [h]; exact hdisarm
  next h => subst hc; rw [h]; exact .confirm _
  next h => subst hc; rw [h]; exact .commitMgmt _
  next h => subst hc; rw [h]; exact .commitRuntime _
  next => exact hc.elim

/-! ## ARM, DISARM and CONFIRM -/

theorem arm_of_valid {k : Fin 2} (hf : s.fwBusy = false) (h : s.slotState k = 2) :
    ∃ t, exec (.arm .mgc k) s = .next t ∧ t.slotState k = 3 ∧
      t.slotState (1 - k.val) = (if s.slotState (1 - k.val) = 3 then 2 else s.slotState (1 - k.val)) ∧
      t.rd F.FW_STATUS_result = 1 ∧ t.rd F.FW_STATUS_reason = 0 := by
  obtain ⟨hsame, hother⟩ := s.setSoleSlot_spec k.isLt 3
  exact ⟨_, (PlainFwCommand.arm k).exec_of_fwOp hf ((s.fwOp_arm k).trans (if_pos h)), (State.slotState_fwResult ..).trans hsame,
    (State.slotState_fwResult ..).trans hother, State.rd_fwResult_result .., State.rd_fwResult_reason ..⟩

theorem disarm_of_armed {k : Fin 2} (hf : s.fwBusy = false) (h : s.slotState k = 3) :
    ∃ t, exec (.disarm .mgc k) s = .next t ∧ t.slotState k = 2 ∧ t.slotState (1 - k.val) = s.slotState (1 - k.val) ∧
      t.rd F.FW_STATUS_result = 1 ∧ t.rd F.FW_STATUS_reason = 0 :=
  ⟨_, (PlainFwCommand.disarm k).exec_of_fwOp hf ((s.fwOp_disarm k).trans (if_pos h)),
    (State.slotState_fwResult ..).trans (s.slotState_setSlotState_same k.isLt 2),
    (State.slotState_fwResult ..).trans (s.slotState_setSlotState_other k.isLt 2), State.rd_fwResult_result .., State.rd_fwResult_reason ..⟩

theorem confirm_in_trial {m : Master} (hm : s.isOperator m = true) (hf : s.fwBusy = false) (h5 : s.rd F.FW_BOOT_stage = 5)
    (hr : s.runningSlot < 2) : ∃ t, exec (.confirm m) s = .next t ∧ t.slotState s.runningSlot = 5 ∧
      t.slotState (1 - s.runningSlot) = (if s.slotState (1 - s.runningSlot) = 5 then 2 else s.slotState (1 - s.runningSlot)) ∧
      t.rd F.FW_BOOT_stage = 4 ∧ t.fw.trialEnd = 0 ∧ t.rd F.FW_STATUS_result = 1 := by
  obtain ⟨hrun, hother, hstage, hend⟩ := State.confirmed_spec hr
  exact ⟨_, (exec_confirm_of_operator hm).trans ((PlainFwCommand.confirm 0).exec_of_fwOp hf ((s.fwOp_confirm 0).trans (if_pos h5))),
    (State.slotState_fwResult ..).trans hrun, (State.slotState_fwResult ..).trans hother,
    (State.rd_fwResult_other _ _ _ (.inl (by decide))).trans hstage, hend, State.rd_fwResult_result ..⟩

/-! ## COMMIT_MGMT and COMMIT_RUNTIME -/

/-- A counter was raised and the command is DONE. -/
theorem State.raiseCounter_done (s : State) {i : Nat} (hi : i < 4) (x : Nat) :
    ((s.raiseCounter i x).fwResult 1 0).rd F.FW_STATUS_result = 1 ∧ ∀ v, x = v → v < 2 ^ 32 →
      ((s.raiseCounter i x).fwResult 1 0).bbsRd (0x20 + 4 * i) 4 = max (s.bbsRd (0x20 + 4 * i) 4) v ∧
      (∀ j, j ≠ i → j < 4 → ((s.raiseCounter i x).fwResult 1 0).bbsRd (0x20 + 4 * j) 4 = s.bbsRd (0x20 + 4 * j) 4) ∧
      (s.bbsRd (0x20 + 4 * i) 4 < v → ((s.raiseCounter i x).fwResult 1 0).fw.mirror = some ((s.fw.mirror.getD [0, 0, 0, 0]).set i v)) := by
  refine ⟨State.rd_fwResult_result .., ?_⟩
  rintro v rfl hv
  obtain ⟨hraised, hothers, hmirror⟩ := s.raiseCounter_spec hi hv
  exact ⟨hraised, hothers, hmirror⟩

theorem exec_commitMgmt (hf : s.fwBusy = false) :
    exec (.commitMgmt .mgc) s = .next ((s.raiseCounter 0 (s.rd F.FW_VERSIONS_mgmt)).fwResult 1 0) :=
  (PlainFwCommand.commitMgmt 0).exec_of_fwOp hf (s.fwOp_commitMgmt 0)

theorem exec_commitRuntime_running (hf : s.fwBusy = false) (h4 : s.rd F.FW_BOOT_stage = 4) :
    exec (.commitRuntime .mgc) s = .next ((s.raiseCounter 1 (s.rd F.FW_VERSIONS_runtime)).fwResult 1 0) :=
  (PlainFwCommand.commitRuntime 0).exec_of_fwOp hf (by rw [State.fwOp_commitRuntime, h4]; rfl)

theorem exec_commitRuntime_in_trial (hf : s.fwBusy = false) (h5 : s.rd F.FW_BOOT_stage = 5) :
    exec (.commitRuntime .mgc) s = .next (s.fwResult 4 0) :=
  (PlainFwCommand.commitRuntime 0).exec_of_fwOp hf (by rw [State.fwOp_commitRuntime, if_pos h5])

theorem exec_commitRuntime_outside (hf : s.fwBusy = false) (h4 : s.rd F.FW_BOOT_stage ≠ 4) (h5 : s.rd F.FW_BOOT_stage ≠ 5) :
    exec (.commitRuntime .mgc) s = .next (s.fwResult 3 3) :=
  (PlainFwCommand.commitRuntime 0).exec_of_fwOp hf (by rw [State.fwOp_commitRuntime, if_neg h5, if_neg h4])

/-! ## FW_CTRL -/

theorem exec_fwCtrl_of_busy (h : s.admits r { locked := true }) (hop : 3 ≤ bits w.toNat 3 0 ∧ bits w.toNat 3 0 ≤ 7)
    (hb : (s.taken r).fwBusy = true) : exec (.fwCtrl r w) s = .next ((s.taken r).reply r 0x41 0x32 0 []) := by
  show execFwCtrl r w s = _
  unfold execFwCtrl
  simp only [State.serveReq_of_body h (decide_eq_true hop), hb, if_true]
  rfl

/-- FW_CTRL answers the result of its operation. -/
theorem exec_fwCtrl_of_free (h : s.admits r { locked := true }) (hop : 3 ≤ bits w.toNat 3 0 ∧ bits w.toNat 3 0 ≤ 7)
    (hf : (s.taken r).fwBusy = false) {v : State} (hv : (s.taken r).fwPlain (bits w.toNat 3 0) (bits w.toNat 4 4) = v) :
    exec (.fwCtrl r w) s = .next (v.reply r 0x41 (if v.rd F.FW_STATUS_result = 1 then 0 else 0x33)
      (if v.rd F.FW_STATUS_result = 1 then 0 else v.rd F.FW_STATUS_reason) []) := by
  subst hv
  obtain ⟨hresult, hreason⟩ := (s.taken r).rd_fwPlain (bits w.toNat 3 0) (bits w.toNat 4 4)
  show execFwCtrl r w s = _
  unfold execFwCtrl
  simp only [State.serveReq_of_body h (decide_eq_true hop), hf, hresult, hreason, Bool.false_eq_true, if_false]
  split <;> rfl

/-! ## SET_NETWORK (R554) -/

theorem slice_eq_zero {bs : List Byte} {first len : Nat} (h : ∀ k, first ≤ k → k < first + len → bs.getD k 0#8 = 0#8) :
    ∀ b ∈ slice bs first len, b = 0#8 := by
  intro b hb
  rcases List.mem_append.mp hb with hb | hb
  · obtain ⟨i, hi, rfl⟩ := List.mem_iff_getElem.mp hb
    have hlen : i < len ∧ first + i < bs.length := by
      rw [List.length_take, List.length_drop] at hi
      omega
    rw [List.getElem_take, List.getElem_drop, ← h (first + i) (by omega) (by omega), List.getD_eq_getElem _ _ hlen.2]
  · exact List.eq_of_mem_replicate hb

theorem exec_setNetwork (h : s.admits r {}) {record : List Byte} (hl : record.length = 32)
    (hz : ∀ k, 16 ≤ k → k < 32 → record.getD k 0#8 = 0#8) :
    exec (.setNetwork r record) s = .next (((s.taken r).bbsPut 0xA0 record).reply r 0x50 0 0 []) :=
  show execSetNetwork r record s = _ from
    State.serveReq_of_body h (decide_eq_true ⟨hl, leVal_of_zero (slice_eq_zero hz)⟩) 0x50 _

/-- The network record takes 32 bytes at 0xA0 of the store (Table 22.5). -/
theorem State.bbsPut_network (s : State) {record : List Byte} (hl : record.length = 32) :
    (∀ k, k < 32 → (s.bbsPut 0xA0 record).bbsGet (0xA0 + k) = record.getD k 0#8) ∧
    ∀ a, 0x10 ≤ a → (a < 0xA0 ∨ 0xC0 ≤ a) → (s.bbsPut 0xA0 record).bbsGet a = s.bbsGet a := by
  refine ⟨fun k hk => ?_, fun a ha hout => ?_⟩
  · rw [State.bbsPut_get _ _ _ (by omega), dif_pos (by omega), List.getD_eq_getElem _ _ (by omega)]
    simp only [Nat.add_sub_cancel_left]
  · rw [State.bbsPut_get _ _ _ (.inr ha), dif_neg (by omega)]

/-- Settles O22: every command without a write is `State.fwPlain` behind `State.fwCommand`, FW_CTRL the same behind `State.serveReq`; then the
operation's equation says which case it is (log entry 112 for COMMIT_RUNTIME outside RUNNING, 147 for the reasons in the replies). -/
theorem firmwareSlots : Obligations.FirmwareSlots := by
  unfold Obligations.FirmwareSlots
  refine ⟨?slots, ?confirm, ?commit, ?busy, ?control, ?network⟩
  case slots =>
    intro k s hf
    exact ⟨arm_of_valid hf, fun h => (PlainFwCommand.arm k).exec_of_fwOp hf ((s.fwOp_arm k).trans (if_neg h)),
      disarm_of_armed hf, fun h => (PlainFwCommand.disarm k).exec_of_fwOp hf ((s.fwOp_disarm k).trans (if_neg h))⟩
  case confirm =>
    intro m s hm hf
    exact ⟨confirm_in_trial hm hf, fun h =>
      (exec_confirm_of_operator hm).trans ((PlainFwCommand.confirm 0).exec_of_fwOp hf ((s.fwOp_confirm 0).trans (if_neg h)))⟩
  case commit =>
    intro s hf
    exact ⟨⟨_, exec_commitMgmt hf, s.raiseCounter_done (i := 0) (by decide) _⟩,
      fun h4 => ⟨_, exec_commitRuntime_running hf h4, s.raiseCounter_done (i := 1) (by decide) _⟩,
      exec_commitRuntime_in_trial hf, exec_commitRuntime_outside hf⟩
  case busy =>
    intro k s hb c hc
    simp only [List.mem_cons, List.not_mem_nil, or_false] at hc
    rcases hc with rfl | rfl | rfl | rfl | rfl
    · exact (PlainFwCommand.arm k).exec_of_busy hb
    · exact (PlainFwCommand.disarm k).exec_of_busy hb
    · exact (PlainFwCommand.confirm 0).exec_of_busy hb
    · exact (PlainFwCommand.commitMgmt 0).exec_of_busy hb
    · exact (PlainFwCommand.commitRuntime 0).exec_of_busy hb
  case control =>
    rintro r w c s _ v rfl h h3 h7
    refine ⟨fun hf hc hv => exec_fwCtrl_of_free h ⟨h3, h7⟩ hf ?_, exec_fwCtrl_of_busy h ⟨h3, h7⟩⟩
    exact Host.Outcome.next.inj (((plainFwCommand_of_command hc h3).exec_of_free hf).symm.trans hv)
  case network =>
    rintro r record s _ rfl h hl hz
    exact ⟨_, exec_setNetwork h hl hz, (s.taken r).bbsPut_network hl⟩

end Sys2Proof.Machine
end

section
/-! Writes to the flashes (18: R460, R462, Tables 18.6 and 18.7; 22: R549, R554): by FW_CMD from DDR4, in chunks by FW_WRITE, and over SDIO in
stage RECOVERY. -/

namespace Sys2Proof.Machine

-- One proof at a time: the package is compiled as one text under a memory limit.
set_option Elab.async false

variable {s : State} {w : FlashWrite} {k target len : Nat}

/-! ## The stages of a write -/

/-- The bytes that a target holds. -/
def flashSize (target : Nat) : Nat := if target = 0 then 16777216 else 1610612736

theorem State.beginWrite_fw (s : State) (w : FlashWrite) : (s.beginWrite w).fw = { s.fw with write := some w } := by
  unfold State.beginWrite
  dsimp only
  split
  · rfl
  · exact State.setSlotState_fw ..

theorem State.slotState_beginWrite (s : State) (ht : w.target = k + 1) (hk : k < 2) : (s.beginWrite w).slotState k = 1 := by
  obtain ⟨target, origin, bytes, len⟩ := w
  cases ht
  exact State.slotState_setSlotState_same _ hk 1

theorem State.programmed_mgmt (s : State) (ht : w.target = 0) (v : Nat) :
    (s.programmed w v).fw = { s.fw with write := none, mgmt := w.bytes, mgmtBad := false } := by
  unfold State.programmed
  rw [if_pos ht]

/-- The bytes of a write to a slot are in its flash, and the slot has its new state. -/
theorem State.programmed_slot (s : State) (ht : w.target = k + 1) (hk : k < 2) (v : Nat) : (s.programmed w v).fw.write = none ∧
    (s.programmed w v).slotBytes k = w.bytes ∧ (s.programmed w v).slotState k = v % 256 ∧
    (s.programmed w v).slotState (1 - k) = s.slotState (1 - k) := by
  obtain ⟨target, origin, bytes, len⟩ := w
  cases ht
  obtain rfl | rfl : k = 0 ∨ k = 1 := by omega
  · exact ⟨congrArg Firmware.write (State.setSlotState_fw _ 0 v), congrArg Firmware.slotA (State.setSlotState_fw _ 0 v),
      State.slotState_setSlotState_same _ hk v, State.slotState_setSlotState_other _ hk v⟩
  · exact ⟨congrArg Firmware.write (State.setSlotState_fw _ 1 v), congrArg Firmware.slotB (State.setSlotState_fw _ 1 v),
      State.slotState_setSlotState_same _ hk v, State.slotState_setSlotState_other _ hk v⟩

theorem State.writeFails_mgmt (s : State) (ht : target = 0) :
    (s.writeFails target).fw = { s.fw with write := none, mgmtBad := true } := by
  subst ht
  rfl

theorem State.writeFails_slot (s : State) (ht : target = k + 1) (hk : k < 2) : (s.writeFails target).fw = { s.fw with write := none } ∧
    (s.writeFails target).slotState k = 6 ∧ (s.writeFails target).slotState (1 - k) = s.slotState (1 - k) := by
  subst ht
  exact ⟨State.setSlotState_fw _ _ 6, State.slotState_setSlotState_same _ hk 6, State.slotState_setSlotState_other _ hk 6⟩

/-! ## Why a write is refused (Table 18.7) -/

theorem State.writeReason_of_length (s : State) (h : len = 0 ∨ flashSize target < len) : s.writeReason target len = 2 := if_pos h

theorem State.writeReason_of_slot (h : 0 < len ∧ len ≤ flashSize target) (ht : target ≠ 0)
    (hs : s.slotState (target - 1) = 5 ∨ s.slotState (target - 1) = 4 ∨ s.slotRuns (target - 1) = true) : s.writeReason target len = 3 :=
  (if_neg (show ¬ (len = 0 ∨ flashSize target < len) by omega)).trans (if_pos ⟨ht, hs⟩)

theorem State.writeReason_of_free (h : 0 < len ∧ len ≤ flashSize target)
    (hs : target = 0 ∨ s.slotState (target - 1) ≠ 5 ∧ s.slotState (target - 1) ≠ 4 ∧ s.slotRuns (target - 1) = false) :
    s.writeReason target len = 0 := by
  refine (if_neg (show ¬ (len = 0 ∨ flashSize target < len) by omega)).trans (if_neg ?_)
  rintro ⟨ht, hu⟩
  obtain ⟨h5, h4, hr⟩ := hs.resolve_left ht
  rcases hu with hu | hu | hu
  · exact h5 hu
  · exact h4 hu
  · exact absurd (hr.symm.trans hu) nofun

theorem State.length_of_writeReason_eq_zero (h : s.writeReason target len = 0) : len ≤ flashSize target := by
  by_contra hl
  exact absurd ((s.writeReason_of_length (.inr (Nat.lt_of_not_le hl))).symm.trans h) (by decide)

/-! ## WRITE_MGMT and WRITE_SLOT -/

/-- FW_CMD's commands that write a target from DDR4. -/
theorem exec_flashCopy {c : Instr} (hc : c = .writeMgmt .mgc ∧ target = 0 ∨ ∃ k : Fin 2, c = .writeSlot .mgc k ∧ target = k.val + 1)
    (hf : s.fwBusy = false) : exec c s = .next (s.fwCopy target) := by
  rcases hc with ⟨rfl, rfl⟩ | ⟨k, rfl, rfl⟩
  · exact State.fwCommand_of_free hf fun s => s.fwCopy 0
  · exact State.fwCommand_of_free hf fun s => s.fwCopy (k.val + 1)

/-- A write from DDR4 is under way. -/
def State.copyBegun (s : State) (w : FlashWrite) : State :=
  (((s.beginWrite w).setB F.FW_STATUS_busy).wr F.FW_STATUS_progress 0).fwResult 0 0

theorem State.copyBegun_spec (s : State) (w : FlashWrite) : (s.copyBegun w).fw.write = some w ∧ (s.copyBegun w).rd F.FW_STATUS_busy = 1 ∧
    (s.copyBegun w).rd F.FW_STATUS_progress = 0 ∧ (s.copyBegun w).rd F.FW_STATUS_result = 0 := by
  refine ⟨congrArg Firmware.write (s.beginWrite_fw w), ?_, ?_, State.rd_fwResult_result ..⟩
  · exact (State.rd_fwResult_other _ _ _ (.inr (by decide))).trans ((State.rd_wr_ne _ _ _ _ _ _ (.inr (by decide))).trans (State.rd_wr_same ..))
  · exact (State.rd_fwResult_other _ _ _ (.inr (by decide))).trans (State.rd_wr_same ..)

theorem State.slotState_copyBegun (s : State) (ht : w.target = k + 1) (hk : k < 2) : (s.copyBegun w).slotState k = 1 :=
  (State.slotState_congr rfl k).trans (s.slotState_beginWrite ht hk)

section source
variable {a : Nat} (ha : s.rd F.FW_SRC_ADDR_addr * 4096 = a) (hl : s.rd F.FW_SRC_LEN_len = len)
include ha hl

theorem State.fwCopy_of_not_owned (ho : s.ddrOwned 0 a len = false) : s.fwCopy target = s.fwResult 3 1 := by
  simp only [State.fwCopy, ha, hl, ho, Bool.not_false, if_true]

theorem State.fwCopy_of_reason (ho : s.ddrOwned 0 a len = true) {reason : Nat} (hr : s.writeReason target len = reason) (h0 : reason ≠ 0) :
    s.fwCopy target = s.fwResult 3 reason := by
  simp only [State.fwCopy, ha, hl, ho, hr, Bool.not_true, Bool.false_eq_true, if_false, if_pos h0]

theorem State.fwCopy_of_bad (ho : s.ddrOwned 0 a len = true) (hr : s.writeReason target len = 0) {u : Nat} (hb : s.badUnit a len = some u) :
    s.fwCopy target = (s.meetUnit (max a (u * 256))).fwResult 3 4 := by
  simp only [State.fwCopy, ha, hl, ho, hr, hb, Bool.not_true, Bool.false_eq_true, ne_eq, not_true, if_false]

theorem State.fwCopy_of_good (ho : s.ddrOwned 0 a len = true) (hr : s.writeReason target len = 0) (hb : s.badUnit a len = none) :
    s.fwCopy target = s.copyBegun { target := target, origin := 0, bytes := s.bytesAt (ddr a) len, len := len } := by
  simp only [State.fwCopy, ha, hl, ho, hr, hb, Bool.not_true, Bool.false_eq_true, ne_eq, not_true, if_false]
  rfl

end source

/-! ## FLASH_WRITE_DONE -/

/-- A write ends, done or failed. -/
def State.writeEnded (s : State) (w : FlashWrite) (ok : Bool) : State :=
  if ok then (((s.wr F.FW_STATUS_busy 0).programmed w 2).wr F.FW_STATUS_progress 100).fwResult 1 0
  else ((s.wr F.FW_STATUS_busy 0).writeFails w.target).fwResult 3 5

theorem exec_flashWriteDone (h : s.fw.write = some w) (ho : w.origin = 0 ∨ w.origin = 1 ∧ w.bytes.length = w.len) (ok : Bool) :
    exec (.flashWriteDone ok) s = .next (s.writeEnded w ok) := by
  have h2 : ¬ w.origin = 2 := by omega
  have h1 : ¬ (w.origin = 1 ∧ w.bytes.length < w.len) := by omega
  show execFlashWriteDone ok s = _
  unfold execFlashWriteDone State.writeEnded
  simp only [h, if_neg h2, if_neg h1]
  split <;> rfl

theorem State.writeEnded_status (s : State) (w : FlashWrite) (ok : Bool) : (s.writeEnded w ok).rd F.FW_STATUS_busy = 0 ∧
    (s.writeEnded w ok).rd F.FW_STATUS_result = (if ok then 1 else 3) ∧ (s.writeEnded w ok).rd F.FW_STATUS_reason = (if ok then 0 else 5) ∧
    (ok = true → (s.writeEnded w ok).rd F.FW_STATUS_progress = 100) := by
  have hbusy : (s.wr F.FW_STATUS_busy 0).rd F.FW_STATUS_busy = 0 := State.rd_wr_same ..
  cases ok with
  | true =>
    have hp := (State.programmed_keep (W := { bbs := true, fw := true }) (a1 := w) (a2 := 2) (Keep.refl (s.wr F.FW_STATUS_busy 0))).parts
    refine ⟨?_, State.rd_fwResult_result .., State.rd_fwResult_reason .., fun _ => ?_⟩
    · exact (State.rd_fwResult_other _ _ _ (.inr (by decide))).trans ((State.rd_wr_ne _ _ _ _ _ _ (.inr (by decide))).trans
        ((hp.regs _ 0 0 rfl).trans hbusy))
    · exact (State.rd_fwResult_other _ _ _ (.inr (by decide))).trans (State.rd_wr_same ..)
  | false =>
    have hf := (State.writeFails_keep (W := { bbs := true, fw := true }) (a1 := w.target) (Keep.refl (s.wr F.FW_STATUS_busy 0))).parts
    refine ⟨?_, State.rd_fwResult_result .., State.rd_fwResult_reason .., nofun⟩
    exact (State.rd_fwResult_other _ _ _ (.inr (by decide))).trans ((hf.regs _ 0 0 rfl).trans hbusy)

theorem State.writeEnded_mgmt (s : State) (ht : w.target = 0) (ok : Bool) : (s.writeEnded w ok).fw.write = none ∧
    (s.writeEnded w ok).fw.mgmtBad = !ok ∧ (s.writeEnded w ok).fw.mgmt = if ok then w.bytes else s.fw.mgmt := by
  cases ok with
  | true =>
    have hfw := State.programmed_mgmt (s.wr F.FW_STATUS_busy 0) ht 2
    exact ⟨congrArg Firmware.write hfw, congrArg Firmware.mgmtBad hfw, congrArg Firmware.mgmt hfw⟩
  | false =>
    have hfw := State.writeFails_mgmt (s.wr F.FW_STATUS_busy 0) ht
    exact ⟨congrArg Firmware.write hfw, congrArg Firmware.mgmtBad hfw, (congrArg Firmware.mgmt hfw :)⟩

theorem State.slotBytes_congr {t : State} (h : t.fw.slotA = s.fw.slotA ∧ t.fw.slotB = s.fw.slotB) (k : Nat) : t.slotBytes k = s.slotBytes k := by
  unfold State.slotBytes
  rw [h.1, h.2]

theorem State.writeEnded_slot (s : State) (ht : w.target = k + 1) (hk : k < 2) (ok : Bool) : (s.writeEnded w ok).fw.write = none ∧
    (s.writeEnded w ok).slotState k = (if ok then 2 else 6) ∧ (s.writeEnded w ok).slotState (1 - k) = s.slotState (1 - k) ∧
    (s.writeEnded w ok).slotBytes k = if ok then w.bytes else s.slotBytes k := by
  cases ok with
  | true =>
    obtain ⟨hw, hbytes, hslot, hother⟩ := State.programmed_slot (s.wr F.FW_STATUS_busy 0) ht hk 2
    exact ⟨hw, (State.slotState_congr rfl k).trans hslot, (State.slotState_congr rfl _).trans hother, hbytes⟩
  | false =>
    obtain ⟨hfw, hslot, hother⟩ := State.writeFails_slot (s.wr F.FW_STATUS_busy 0) ht hk
    exact ⟨congrArg Firmware.write hfw, (State.slotState_congr rfl k).trans hslot, (State.slotState_congr rfl _).trans hother,
      (State.slotBytes_congr ⟨(congrArg Firmware.slotA hfw :), (congrArg Firmware.slotB hfw :)⟩ k :)⟩

theorem flashWriteDone_ends (h : s.fw.write = some w) (ht : w.target < 3) (ho : w.origin = 0 ∨ w.origin = 1 ∧ w.bytes.length = w.len)
    (ok : Bool) : ∃ t, exec (.flashWriteDone ok) s = .next t ∧ t.fw.write = none ∧ t.rd F.FW_STATUS_busy = 0 ∧
      t.rd F.FW_STATUS_result = (if ok then 1 else 3) ∧ t.rd F.FW_STATUS_reason = (if ok then 0 else 5) ∧
      (ok = true → t.rd F.FW_STATUS_progress = 100) ∧
      (w.target = 0 → t.fw.mgmtBad = !ok ∧ t.fw.mgmt = (if ok then w.bytes else s.fw.mgmt)) ∧
      (w.target = 1 → t.slotState 0 = (if ok then 2 else 6) ∧ t.slotState 1 = s.slotState 1 ∧ t.fw.slotA = (if ok then w.bytes else s.fw.slotA)) ∧
      (w.target = 2 → t.slotState 1 = (if ok then 2 else 6) ∧ t.slotState 0 = s.slotState 0 ∧ t.fw.slotB = (if ok then w.bytes else s.fw.slotB)) := by
  obtain ⟨hbusy, hresult, hreason, hprogress⟩ := s.writeEnded_status w ok
  refine ⟨_, exec_flashWriteDone h ho ok, ?_, hbusy, hresult, hreason, hprogress, fun h0 => (s.writeEnded_mgmt h0 ok).2,
    fun h1 => (s.writeEnded_slot (k := 0) h1 (by decide) ok).2, fun h2 => (s.writeEnded_slot (k := 1) h2 (by decide) ok).2⟩
  obtain h0 | h0 := Nat.eq_zero_or_pos w.target
  · exact (s.writeEnded_mgmt h0 ok).1
  · exact (s.writeEnded_slot (Nat.sub_add_cancel h0).symm (by omega) ok).1

/-! ## FW_WRITE (R554) -/

section chunks
variable {r : Req} {t : Fin 3} {off : Nat} {final : Bool} {data : List Byte}

/-- The write under way. -/
def State.withWrite (s : State) (w : FlashWrite) : State := { s with fw := { s.fw with write := some w } }

/-- A write with a chunk more: its length is reached by the final one. -/
def FlashWrite.join (w : FlashWrite) (final : Bool) (data : List Byte) : FlashWrite :=
  { w with
    bytes := w.bytes ++ data
    len := if final then w.bytes.length + data.length else w.bytes.length + data.length + 1 }

theorem State.fwChunk_of_room (s : State) (hd : 0 < data.length) (hroom : w.bytes.length + data.length ≤ flashSize w.target) :
    s.fwChunk w final data = served (s.withWrite (w.join final data)) := by
  unfold State.fwChunk FlashWrite.join State.withWrite
  dsimp only
  rw [List.length_append]
  exact if_neg (show ¬ (flashSize w.target < _ ∨ _) by omega)

theorem exec_fwWrite_begins (h : s.admits r { locked := true }) (hw : (s.taken r).fw.write = none)
    (hb : (s.taken r).rd F.FW_STATUS_busy = 0) (hr : (s.taken r).writeReason t (max 1 data.length) = 0) (hd : 0 < data.length) :
    exec (.fwWrite r t 0 final data) s = .next ((((s.taken r).beginWrite { target := t, origin := 1 }).withWrite
      (FlashWrite.join { target := t, origin := 1 } final data)).reply r 0x40 0 0 []) := by
  have hroom : data.length ≤ flashSize t := Nat.le_trans (Nat.le_max_right 1 _) (State.length_of_writeReason_eq_zero hr)
  refine (show execFwWrite r t 0 final data s = _ from State.serveReq_of_admits h 0x40 _).trans ?_
  have hb' : (s.taken r).rdB F.FW_STATUS_busy = false := by rw [State.rdB, hb]; rfl
  simp only [hw, hb', hr, ne_eq, not_true, Bool.false_eq_true, if_false]
  rw [State.fwChunk_of_room _ hd (by simpa using hroom)]
  rfl

theorem exec_fwWrite_goes_on (h : s.admits r { locked := true }) (hw : (s.taken r).fw.write = some w) (h1 : w.origin = 1)
    (hn : w.len ≠ w.bytes.length) (ht : w.target = t) (hd : 0 < data.length) (hroom : w.bytes.length + data.length ≤ flashSize w.target) :
    exec (.fwWrite r t w.bytes.length final data) s = .next (((s.taken r).withWrite (w.join final data)).reply r 0x40 0 0 []) := by
  refine (show execFwWrite r t w.bytes.length final data s = _ from State.serveReq_of_admits h 0x40 _).trans ?_
  simp only [hw, h1, hn, ht, ne_eq, not_true, or_self, if_false]
  rw [State.fwChunk_of_room _ hd hroom]
  rfl

theorem exec_fwWrite_out_of_order (h : s.admits r { locked := true }) (hw : (s.taken r).fw.write = some w) (h1 : w.origin = 1)
    (hn : w.len ≠ w.bytes.length) (ho : off ≠ w.bytes.length) :
    exec (.fwWrite r t off final data) s = .next (((s.taken r).writeFails w.target).reply r 0x40 0x33 0 []) := by
  refine (show execFwWrite r t off final data s = _ from State.serveReq_of_admits h 0x40 _).trans ?_
  simp only [hw, h1, hn, ho, ne_eq, not_true, not_false_eq_true, or_true, or_self, if_false, if_true]
  rfl

end chunks

/-! ## RECOVERY_START (R460, R549) -/

/-- START is written with a LENGTH. -/
def State.recoveryAsked (s : State) (len : Nat) : State := s.wakeS4.setSdio (fun x => { x with length := len, ctrl := 1 })

/-- Function 2 reads FAILED with a reason. -/
def State.recoveryRefused (s : State) (reason : Nat) : State := s.setSdio (fun x => { x with recvState := 4, recvReason := reason })

/-- Function 2 takes data for slot k. -/
def State.recoveryBegun (s : State) (k len : Nat) : State :=
  (s.beginWrite { target := k + 1, origin := 2, len := len }).setSdio (fun x => { x with recvState := 1, recvReason := 0, received := 0 })

theorem State.recoveryAsked_unchanged (s : State) (len : Nat) : Unchanged { power := true, sdio := true } s (s.recoveryAsked len) :=
  (State.setSdio_keep (State.wakeS4_keep (Keep.refl s))).parts

/-- What RECOVERY_START is judged by is as it was before. -/
theorem State.recoveryAsked_judged (s : State) (len : Nat) : (s.recoveryAsked len).rd F.FW_BOOT_stage = s.rd F.FW_BOOT_stage ∧
    (s.recoveryAsked len).fwBusy = s.fwBusy ∧ (s.recoveryAsked len).slotState 0 = s.slotState 0 := by
  have hu := s.recoveryAsked_unchanged len
  refine ⟨hu.regs _ 0 0 rfl, ?_, State.slotState_congr (hu.bbs rfl) 0⟩
  unfold State.fwBusy State.rdB
  rw [hu.regs _ 0 0 rfl, hu.fw rfl]

theorem exec_recoveryStart_of_stage (len : W32) (h : s.rd F.FW_BOOT_stage ≠ 6 ∨ s.fwBusy = true) :
    exec (.recoveryStart len) s = .next ((s.recoveryAsked len.toNat).recoveryRefused 3) := by
  obtain ⟨hstage, hbusy, -⟩ := s.recoveryAsked_judged len.toNat
  refine (show execRecoveryStart len s = _ from if_pos ?_).trans rfl
  rwa [← hstage, ← hbusy] at h

theorem exec_recoveryStart_of_idle (len : W32) (hs : s.rd F.FW_BOOT_stage = 6) (hf : s.fwBusy = false) :
    exec (.recoveryStart len) s = .next (if len.toNat = 0 ∨ 1610612736 < len.toNat then (s.recoveryAsked len.toNat).recoveryRefused 2
      else (s.recoveryAsked len.toNat).recoveryBegun (if s.slotState 0 = 5 then 1 else 0) len.toNat) := by
  obtain ⟨hstage, hbusy, hslot⟩ := s.recoveryAsked_judged len.toNat
  rw [← hslot]
  refine (show execRecoveryStart len s = _ from if_neg ?_).trans ?_
  · rintro (h | h)
    · exact h (hstage.trans hs)
    · exact absurd (hf.symm.trans (hbusy.symm.trans h)) nofun
  · have htarget : ∀ p : Prop, [Decidable p] → (if p then 1 else 0) + 1 = if p then 2 else 1 := by
      intro p _
      split <;> rfl
    unfold State.recoveryBegun
    rw [htarget]
    split <;> rfl

theorem State.recoveryRefused_spec (s : State) (len reason : Nat) : ((s.recoveryAsked len).recoveryRefused reason).fw = s.fw ∧
    ((s.recoveryAsked len).recoveryRefused reason).bbs = s.bbs ∧ ((s.recoveryAsked len).recoveryRefused reason).sdio.recvState = 4 ∧
    ((s.recoveryAsked len).recoveryRefused reason).sdio.recvReason = reason :=
  ⟨(s.recoveryAsked_unchanged len).fw rfl, (s.recoveryAsked_unchanged len).bbs rfl, rfl, rfl⟩

theorem State.recoveryBegun_spec (s : State) (hk : k < 2) (len : Nat) :
    ((s.recoveryAsked len).recoveryBegun k len).fw.write = some { target := k + 1, origin := 2, len := len } ∧
    ((s.recoveryAsked len).recoveryBegun k len).slotState k = 1 ∧ ((s.recoveryAsked len).recoveryBegun k len).sdio.recvState = 1 ∧
    ((s.recoveryAsked len).recoveryBegun k len).sdio.received = 0 ∧ ((s.recoveryAsked len).recoveryBegun k len).sdio.length = len := by
  refine ⟨congrArg Firmware.write (State.beginWrite_fw ..), (State.slotState_congr rfl k).trans (State.slotState_beginWrite _ rfl hk), rfl, rfl, ?_⟩
  exact congrArg Sdio.length ((State.beginWrite_keep (W := { bbs := true, fw := true }) (Keep.refl (s.recoveryAsked len))).parts.sdio rfl)

/-! ## RECOVERY_DATA and RECOVERY_ABORT (R549) -/

/-- Function 2 shows how many bytes of the image have come. -/
def State.recoveryCounted (s : State) (n : Nat) : State := s.setSdio (fun x => { x with received := n })

/-- The data have reached LENGTH: slot k is ARMED with them. -/
def State.recovered (s : State) (w : FlashWrite) (k : Nat) : State :=
  ((s.demoteOther k 3).programmed w 3).setSdio (fun x => { x with recvState := 3 })

theorem exec_recoveryData (h : s.fw.write = some w) (ho : w.origin = 2) (ht : w.target = k + 1) {block b : List Byte}
    (hb : (w.bytes ++ block).take w.len = b) : exec (.recoveryData block) s = .next (
      if b.length < w.len then { s.recoveryCounted b.length with fw := { s.fw with write := some { w with bytes := b } } }
      else (s.recoveryCounted b.length).recovered { w with bytes := b } k) := by
  subst hb
  have hother : 2 - w.target = 1 - k := by omega
  show execRecoveryData block s = _
  unfold execRecoveryData State.recovered State.demoteOther
  simp only [h, ho, hother, ne_eq, not_true, if_false]
  split <;> rfl

theorem State.recovered_spec (s : State) (ht : w.target = k + 1) (hk : k < 2) (n : Nat) :
    ((s.recoveryCounted n).recovered w k).fw.write = none ∧ ((s.recoveryCounted n).recovered w k).slotBytes k = w.bytes ∧
    ((s.recoveryCounted n).recovered w k).slotState k = 3 ∧
    ((s.recoveryCounted n).recovered w k).slotState (1 - k) = (if s.slotState (1 - k) = 3 then 2 else s.slotState (1 - k)) ∧
    ((s.recoveryCounted n).recovered w k).sdio.received = n ∧ ((s.recoveryCounted n).recovered w k).sdio.recvState = 3 := by
  obtain ⟨hw, hbytes, hslot, hother⟩ := State.programmed_slot ((s.recoveryCounted n).demoteOther k 3) ht hk 3
  refine ⟨hw, hbytes, (State.slotState_congr rfl k).trans hslot, ?_, ?_, rfl⟩
  · exact (State.slotState_congr rfl _).trans (hother.trans ((s.recoveryCounted n).slotState_demoteOther hk 3))
  · have hd : Keep { bbs := true, fw := true } (s.recoveryCounted n) ((s.recoveryCounted n).demoteOther k 3) :=
      Keep.ite (State.setSlotState_keep (Keep.refl _)) (Keep.refl _)
    exact congrArg Sdio.received ((State.programmed_keep hd).parts.sdio rfl)

theorem exec_recoveryAbort (h : s.fw.write = some w) (ho : w.origin = 2) : exec .recoveryAbort s =
    .next (((s.wakeS4.setSdio (fun x => { x with ctrl := 2 })).writeFails w.target).setSdio (fun x => { x with recvState := 0 })) := by
  have hw : (s.wakeS4.setSdio (fun x => { x with ctrl := 2 })).fw.write = some w :=
    (congrArg Firmware.write ((State.wakeS4_keep (W := { power := true }) (Keep.refl s)).parts.fw rfl)).trans h
  show execRecoveryAbort s = _
  unfold execRecoveryAbort
  simp only [hw, if_pos ho]

/-- Settles O23: FW_CMD's writes are `State.fwCopy` behind `State.fwCommand`, FW_WRITE's chunks `State.fwChunk` behind `State.serveReq`; what
their ends leave is that of `State.programmed` and `State.writeFails` (log entry 111 for the order of the refusals, 113 for START while a write
runs and ABORT, 151 for the chunks). -/
theorem firmwareWrites : Obligations.FirmwareWrites := by
  unfold Obligations.FirmwareWrites
  refine ⟨?copy, fun ok w s h ht ho => flashWriteDone_ends h ht ho ok, ?chunks, ?start, ?data, ?abort⟩
  case copy =>
    intro c target a len s hc hf ha hl
    have hexec := exec_flashCopy hc hf
    refine ⟨fun ho => hexec.trans (congrArg _ (State.fwCopy_of_not_owned ha hl ho)), fun ho => ⟨fun h2 => ?_, fun h0 hm =>
      ⟨fun ht h3 => ?_, fun hfree => ⟨fun u hb => ?_, fun hb => ?_⟩⟩⟩⟩
    · exact hexec.trans (congrArg _ (State.fwCopy_of_reason ha hl ho (s.writeReason_of_length h2) (by decide)))
    · exact hexec.trans (congrArg _ (State.fwCopy_of_reason ha hl ho (State.writeReason_of_slot ⟨h0, hm⟩ ht h3) (by decide)))
    · exact hexec.trans (congrArg _ (State.fwCopy_of_bad ha hl ho (State.writeReason_of_free ⟨h0, hm⟩ hfree) hb))
    · obtain ⟨hw, hbusy, hprogress, hresult⟩ :=
        s.copyBegun_spec { target := target, origin := 0, bytes := s.bytesAt (ddr a) len, len := len }
      refine ⟨_, hexec.trans (congrArg _ (State.fwCopy_of_good ha hl ho (State.writeReason_of_free ⟨h0, hm⟩ hfree) hb)),
        hw, hbusy, hprogress, hresult, fun ht => ?_⟩
      obtain ⟨-, rfl⟩ | ⟨k, -, rfl⟩ := hc
      · exact absurd rfl ht
      · exact s.slotState_copyBegun rfl k.isLt
  case chunks =>
    rintro r target off final data s _ rfl h
    refine ⟨?_, fun w hw h1 hn ht => ⟨?_, exec_fwWrite_out_of_order h hw h1 hn⟩⟩
    · rintro hw hb rfl hr hd
      exact ⟨_, exec_fwWrite_begins h hw hb hr hd, by simp [State.withWrite, FlashWrite.join]⟩
    · rintro rfl hd hroom
      exact ⟨_, exec_fwWrite_goes_on h hw h1 hn ht hd hroom, rfl⟩
  case start =>
    intro len s
    refine ⟨?_, fun hs => ⟨_, exec_recoveryStart_of_stage len hs, s.recoveryRefused_spec _ 3⟩,
      fun hs hf hl => ⟨_, (exec_recoveryStart_of_idle len hs hf).trans (by rw [if_pos hl]), s.recoveryRefused_spec _ 2⟩⟩
    rintro hs hf h0 hm k rfl
    refine ⟨_, (exec_recoveryStart_of_idle len hs hf).trans (by rw [if_neg (by omega)]), s.recoveryBegun_spec ?_ len.toNat⟩
    split <;> decide
  case data =>
    intro block b w k s h ho ht hk hb
    refine ⟨fun hl => ⟨_, (exec_recoveryData h ho ht hb).trans (by rw [if_pos hl]), rfl, rfl⟩, fun hl => ⟨_,
      (exec_recoveryData h ho ht hb).trans (by rw [if_neg (by omega), hl]), s.recovered_spec (w := { w with bytes := b }) ht hk w.len⟩⟩
  case abort =>
    intro w k s h ho ht hk
    obtain ⟨hfw, hslot, -⟩ := State.writeFails_slot (s.wakeS4.setSdio (fun x => { x with ctrl := 2 })) ht hk
    exact ⟨_, exec_recoveryAbort h ho, congrArg Firmware.write hfw, (State.slotState_congr rfl k).trans hslot, rfl⟩

end Sys2Proof.Machine
end

section
/-! The fault registers and the Amber log (19: R467, R469, R470, R477, R478): ACK, CLEAR and ACK_ALL, injected events, the end of the FAULT_N
pulse, and the clearing of the log. -/

namespace Sys2Proof.Machine

-- One proof at a time: the package is compiled as one text under a memory limit.
set_option Elab.async false

variable {s : State} {m : Master} {i : SourceId}

theorem guardHcs_of_ok {ok : Bool} (h : ok = true) (s : State) (f : State → State) : guardHcs ok s f = .next (f s) :=
  congrArg Host.Outcome.next (if_pos h)

theorem State.rdB_iff (s : State) (f : Fld) (i j : Nat) : s.rdB f i j = true ↔ s.rd f i j ≠ 0 := bne_iff_ne

/-! ## FAULT_CMD_STATUS -/

theorem State.rd_faultCmd (s : State) (result reason : Nat) : (s.faultCmd result reason).rd F.FAULT_CMD_STATUS_result = result % 16 ∧
    (s.faultCmd result reason).rd F.FAULT_CMD_STATUS_reason = reason % 256 :=
  ⟨(State.rd_wr_ne _ _ _ _ _ _ (by decide)).trans (State.rd_wr_same ..), State.rd_wr_same ..⟩

theorem State.rd_faultCmd_other (s : State) (result reason : Nat) {f : Fld} (h : f.reg ≠ .FAULT_CMD_STATUS) (k j : Nat) :
    (s.faultCmd result reason).rd f k j = s.rd f k j :=
  (State.rd_wr_ne _ _ _ _ _ _ (.inl h)).trans (State.rd_wr_ne _ _ _ _ _ _ (.inl h))

/-! ## ACK and ACK_ALL (R470) -/

theorem exec_faultAck (ho : s.isOperator m = true) : exec (.faultAck m i) s =
    .next (if 106 ≤ i.val then s.faultCmd 3 3 else (s.wr F.FAULT_SRC_STATUS_pending 0 i.val).faultCmd 1 0) :=
  show execFaultAck m i s = _ from guardHcs_of_ok ho s _

/-- One value written to a field at each index of a list. -/
theorem State.rd_foldl_wr (f g : Fld) (v : Nat) (l : List Nat) (s : State) (k j : Nat) :
    (l.foldl (fun s i => s.wr f v i) s).rd g k j =
      if g.reg = f.reg ∧ g.lo = f.lo ∧ k ∈ l ∧ j = 0 then v % 2 ^ f.width else s.rd g k j := by
  induction l generalizing s with
  | nil => simp
  | cons i l ih =>
    rw [List.foldl_cons, ih, State.rd_wr, ← ite_or]
    refine if_congr ?_ rfl rfl
    rw [List.mem_cons]
    tauto

/-- R470: every source is acknowledged. -/
def State.ackSources (s : State) : State := (List.range 106).foldl (fun s i => s.wr F.FAULT_SRC_STATUS_pending 0 i) s

theorem State.pending_ackSources (s : State) {k : Nat} (hk : k < 106) : s.ackSources.rd F.FAULT_SRC_STATUS_pending k = 0 :=
  (State.rd_foldl_wr ..).trans (if_pos ⟨rfl, rfl, List.mem_range.mpr hk, rfl⟩)

theorem State.rd_ackSources_other (s : State) {f : Fld} (h : f.reg ≠ .FAULT_SRC_STATUS ∨ f.lo ≠ 7) (k j : Nat) :
    s.ackSources.rd f k j = s.rd f k j :=
  (State.rd_foldl_wr ..).trans (if_neg fun ⟨hr, hl, _⟩ => h.elim (· hr) (· hl))

theorem exec_ackAll (ho : s.isOperator m = true) : exec (.ackAll m) s = .next (s.ackSources.faultCmd 1 0) :=
  show execAckAll m s = _ from guardHcs_of_ok ho s _

/-! ## CLEAR (R470) -/

/-- A CLEAR that finds its source pending or its cause active is counted and refused. -/
def State.refuseClear (s : State) (reason : Nat) : State := (s.inc F.FAULT_SUMMARY_clear_refused).faultCmd 3 reason

theorem exec_faultClear_of_reserved (ho : s.isOperator m = true) (hi : 106 ≤ i.val) : exec (.faultClear m i) s = .next (s.faultCmd 3 3) :=
  (show execFaultClear m i s = _ from guardHcs_of_ok ho s _).trans (congrArg _ (if_pos hi))

theorem exec_faultClear (ho : s.isOperator m = true) (hi : i.val < 106) : exec (.faultClear m i) s =
    .next (if s.rd F.FAULT_SRC_STATUS_pending i ≠ 0 then s.refuseClear 2
      else if s.rd F.FAULT_SRC_STATUS_cause_active i ≠ 0 then s.refuseClear 1 else (s.clearSource i).faultCmd 1 0) := by
  refine (show execFaultClear m i s = _ from guardHcs_of_ok ho s _).trans (congrArg _ ((if_neg (Nat.not_le.mpr hi)).trans ?_))
  simp only [State.rdB_iff]
  rfl

theorem exec_faultClear_of_ended (ho : s.isOperator m = true) (hi : i.val < 106) (hp : s.rd F.FAULT_SRC_STATUS_pending i = 0)
    (hc : s.rd F.FAULT_SRC_STATUS_cause_active i = 0) : exec (.faultClear m i) s = .next ((s.clearSource i).faultCmd 1 0) := by
  rw [exec_faultClear ho hi, if_neg (not_not_intro hp), if_neg (not_not_intro hc)]

theorem exec_faultClear_of_held (ho : s.isOperator m = true) (hi : i.val < 106)
    (h : s.rd F.FAULT_SRC_STATUS_pending i ≠ 0 ∨ s.rd F.FAULT_SRC_STATUS_cause_active i ≠ 0) :
    exec (.faultClear m i) s = .next (s.refuseClear (if s.rd F.FAULT_SRC_STATUS_pending i ≠ 0 then 2 else 1)) := by
  rw [exec_faultClear ho hi]
  by_cases hp : s.rd F.FAULT_SRC_STATUS_pending i ≠ 0
  · rw [if_pos hp, if_pos hp]
  · rw [if_neg hp, if_neg hp, if_pos (h.resolve_left hp)]

theorem State.refuseClear_spec (s : State) (reason : Nat) : (s.refuseClear reason).rd F.FAULT_CMD_STATUS_result = 3 ∧
    (s.refuseClear reason).rd F.FAULT_CMD_STATUS_reason = reason % 256 ∧
    (s.refuseClear reason).rd F.FAULT_SUMMARY_clear_refused = min (s.rd F.FAULT_SUMMARY_clear_refused + 1) 65535 ∧
    (s.refuseClear reason).faults = s.faults ∧
    ∀ (k : Nat) (f : Fld), f.reg = .FAULT_SRC_STATUS → (s.refuseClear reason).rd f k = s.rd f k := by
  obtain ⟨hresult, hreason⟩ := (s.inc F.FAULT_SUMMARY_clear_refused).rd_faultCmd 3 reason
  refine ⟨hresult, hreason, ?_, rfl, fun k f hf => ?_⟩
  · exact (State.rd_faultCmd_other _ _ _ (by decide) ..).trans (State.rd_inc ..)
  · exact (State.rd_faultCmd_other _ _ _ (by simp [hf]) ..).trans (State.rd_wr_ne _ _ _ _ _ _ (.inl (by simp [hf, F.FAULT_SUMMARY_clear_refused])))

/-- What CLEAR writes to registers: three fields of its source. -/
theorem State.rd_clearSource (s : State) (i : Nat) (f : Fld) (k j : Nat) : (s.clearSource i).rd f k j =
    (((s.wr F.FAULT_SRC_STATUS_level 0 i).wr F.FAULT_SRC_STATUS_window_count 0 i).wr F.FAULT_SRC_STATUS_events 0 i).rd f k j := rfl

theorem State.clearSource_spec (s : State) (i : Nat) : (s.clearSource i).rd F.FAULT_SRC_STATUS_level i = 0 ∧
    (s.clearSource i).rd F.FAULT_SRC_STATUS_window_count i = 0 ∧ (s.clearSource i).rd F.FAULT_SRC_STATUS_events i = 0 ∧
    Tab.get 0 (s.clearSource i).faults.windows i = 0 := by
  simp only [State.rd_clearSource]
  refine ⟨?_, (State.rd_wr_ne _ _ _ _ _ _ (by decide)).trans (State.rd_wr_same ..), State.rd_wr_same .., Tab.get_set_same 0 s.faults.windows i 0⟩
  exact (State.rd_wr_ne _ _ _ _ _ _ (by decide)).trans ((State.rd_wr_ne _ _ _ _ _ _ (by decide)).trans (State.rd_wr_same ..))

/-- CLEAR reaches no other register and no other source. -/
theorem State.rd_clearSource_other (s : State) {i k : Nat} {f : Fld} (h : f.reg ≠ .FAULT_SRC_STATUS ∨ k ≠ i) (j : Nat) :
    (s.clearSource i).rd f k j = s.rd f k j := by
  have hk {g : Fld} (hg : g.reg = .FAULT_SRC_STATUS) : f.key k j ≠ g.key i 0 := fun e => by
    obtain ⟨hr, -, hi, -⟩ := Fld.key_eq.mp e
    exact h.elim (· (hr.trans hg)) (· hi)
  rw [State.rd_clearSource, State.rd_wr_other _ _ (hk rfl), State.rd_wr_other _ _ (hk rfl), State.rd_wr_other _ _ (hk rfl)]

/-- Settles O25: one equation for each command of FAULT_CMD, and what its end state reads; that a reserved source is refused uncounted is log
entry 9. -/
theorem faultCommands : Obligations.FaultCommands := by
  unfold Obligations.FaultCommands
  intro m i s ho
  refine ⟨fun hi => ?ack, ⟨_, exec_ackAll ho, fun k hk => ?pending, (State.rd_faultCmd ..).1, fun f k j hs hf => ?kept⟩,
    fun hi hp hc => ⟨_, exec_faultClear_of_ended ho hi hp hc, ?cleared⟩, fun hi h => ⟨_, exec_faultClear_of_held ho hi h, ?refused⟩,
    fun hi => ⟨exec_faultClear_of_reserved ho hi, ?reserved⟩⟩
  case ack => rw [exec_faultAck ho, if_neg (Nat.not_le.mpr hi)]; rfl
  case pending => exact (State.rd_faultCmd_other _ _ _ (by decide) ..).trans (s.pending_ackSources hk)
  case kept => exact (State.rd_faultCmd_other _ _ _ hs ..).trans (s.rd_ackSources_other hf k j)
  case cleared =>
    obtain ⟨hlevel, hcount, hevents, hwindow⟩ := s.clearSource_spec i
    obtain ⟨hresult, hreason⟩ := (s.clearSource i).rd_faultCmd 1 0
    have hother {f : Fld} (hf : f.reg ≠ .FAULT_CMD_STATUS) (k : Nat) := (s.clearSource i).rd_faultCmd_other 1 0 hf k 0
    refine ⟨(hother (by decide) _).trans hlevel, (hother (by decide) _).trans hcount, (hother (by decide) _).trans hevents, hwindow, hresult,
      hreason, (hother (by decide) _).trans (s.rd_clearSource_other (.inl (by decide)) 0), fun k f hk hf => ?_⟩
    exact (hother (by simp [hf]) k).trans (s.rd_clearSource_other (.inr hk) 0)
  case refused =>
    obtain ⟨hresult, hreason, hcount, hfaults, hsources⟩ := s.refuseClear_spec (if s.rd F.FAULT_SRC_STATUS_pending i ≠ 0 then 2 else 1)
    refine ⟨hresult, hreason.trans (Nat.mod_eq_of_lt ?_), hcount, hfaults, hsources⟩
    split <;> decide
  case reserved => rw [exec_faultAck ho, if_pos hi]; rfl

/-! ## FAULT_INJECT (R478) -/

/-- What a value of FAULT_INJECT queues, judged on the written fields (log entry 11). -/
def injectionOf (w now : Nat) : List Injection :=
  if w.testBit 63 = true ∧ bits w 55 48 < 106 ∧ 1 ≤ bits w 47 45 ∧ bits w 47 45 ≤ 5 ∧ bits w 44 29 ≠ 0 then
    [⟨bits w 55 48, bits w 47 45, bits w 12 0, bits w 44 29, now⟩] else []

/-- The queue of injections replaced. -/
def State.withInject (s : State) (l : List Injection) : State := { s with faults := { s.faults with inject := l } }

theorem exec_faultInject_of_not_factory (ho : s.isOperator m = true) (hl : s.rd F.SEC_STATE_lifecycle ≠ 0) (v : W64) :
    exec (.faultInject m v) s = .next s :=
  (show execFaultInject m v s = _ from guardHcs_of_ok ho s _).trans (congrArg _ (if_pos hl))

theorem exec_faultInject_of_factory (ho : s.isOperator m = true) (hl : s.rd F.SEC_STATE_lifecycle = 0) (v : W64) : exec (.faultInject m v) s =
    .next ((s.applyWrite .FAULT_INJECT v.toNat 0 0).withInject (s.faults.inject ++ injectionOf v.toNat s.clk)) := by
  obtain ⟨R, hR⟩ := State.applyWrite_regs s .FAULT_INJECT v.toNat 0 0
  refine (show execFaultInject m v s = _ from guardHcs_of_ok ho s _).trans (congrArg _ ((if_neg (not_not_intro hl)).trans ?_))
  simp only [hR, bit, Bool.and_eq_true, decide_eq_true_eq, injectionOf, apply_ite (s.faults.inject ++ ·), List.append_nil]
  split <;> rfl

/-- Each plain field of FAULT_INJECT takes the written bits. -/
theorem State.rd_injectWrite (s : State) (w : Nat) : (s.applyWrite .FAULT_INJECT w 0 0).rd F.FAULT_INJECT_source = bits w 55 48 ∧
    (s.applyWrite .FAULT_INJECT w 0 0).rd F.FAULT_INJECT_count = bits w 44 29 ∧
    (s.applyWrite .FAULT_INJECT w 0 0).rd F.FAULT_INJECT_detail = bits w 12 0 :=
  ⟨State.rd_applyWrite_rw (z := 0) _ _ _ _ _ (by decide), State.rd_applyWrite_rw (z := 0) _ _ _ _ _ (by decide),
    State.rd_applyWrite_rw (z := 0) _ _ _ _ _ (by decide)⟩

/-! ## Injected events -/

/-- The queue when the next event of its first injection has run: a further one follows 1 us later. -/
def Injection.thenQueued (j : Injection) (rest : List Injection) : List Injection :=
  if 1 < j.left then rest ++ [{ j with left := j.left - 1, due := j.due + 1000 }] else rest

/-- Counting an event does not look at the queue of injections. -/
theorem State.countEvent_withInject (s : State) (l : List Injection) (i : Nat) : ((s.withInject l).countEvent i).2 = (s.countEvent i).2 := by
  unfold State.countEvent
  simp only [apply_ite Prod.snd]
  rfl

/-- The level of an event does not depend on the queue of injections. -/
theorem State.eventLevel_withInject (s : State) (l : List Injection) (i base : Nat) :
    ((s.withInject l).eventLevel i base).2 = (s.eventLevel i base).2 := by
  unfold State.eventLevel
  simp only [apply_ite Prod.snd, State.countEvent_withInject]
  rfl

theorem exec_injectedEvent {j : Injection} {rest : List Injection} (h : s.faults.inject = j :: rest) (hd : j.due ≤ s.clk) :
    exec .injectedEvent s = .next ((s.withInject (j.thenQueued rest)).eventAt j.source j.detail j.level true false) := by
  have hnow : s.advanceTo j.due = s := if_neg (Nat.not_lt.mpr hd)
  show execInjectedEvent s = _
  unfold execInjectedEvent
  rw [h]
  simp only [hnow]
  rfl

/-- Settles O26: the write is `State.applyWrite` beside what `injectionOf` queues (log entry 11); a due event below FATAL is its record alone,
whose level does not depend on the queue. -/
theorem faultInjection : Obligations.FaultInjection := by
  unfold Obligations.FaultInjection
  refine ⟨fun m v s ho => ⟨fun hl => exec_faultInject_of_not_factory ho hl v, fun hl => ?_⟩, fun s j rest l hq hd hl h5 => ?_⟩
  · obtain ⟨hsource, hcount, hdetail⟩ := s.rd_injectWrite v.toNat
    exact ⟨_, exec_faultInject_of_factory ho hl v, hsource, hcount, hdetail, rfl⟩
  · have hl' : ((s.withInject (j.thenQueued rest)).eventLevel j.source j.level).2 = l := (s.eventLevel_withInject ..).trans hl
    obtain ⟨-, hlevel, hevents, hinjected, hdetail, hpending, hpin⟩ :=
      State.record_status (detail := j.detail) (inj := true) (persist := false) hl'
    refine ⟨_, exec_injectedEvent hq hd, ?_⟩
    rw [State.eventAt, State.eventFuel_record (by omega)]
    exact ⟨hlevel, hevents, hinjected, fun h3 => ⟨hdetail.trans (if_pos h3), hpending.trans (if_pos h3)⟩, hpin, State.record_inject ..⟩

/-! ## The end of the FAULT_N pulse (R469) -/

theorem exec_faultNPulseEnd (h : s.rd F.FAULT_CTRL_pulse ≠ 0) :
    exec .faultNPulseEnd s = .next (s.advanceTo s.faults.pulseEnd).pulseOver :=
  show execFaultNPulseEnd s = _ from if_pos ((s.rdB_iff ..).mpr h)

theorem State.rd_pulseOver (s : State) (f : Fld) (k j : Nat) : s.pulseOver.rd f k j = (s.wr F.FAULT_CTRL_pulse 0).rd f k j := rfl

theorem State.pulseOver_spec (s : State) : s.pulseOver.rd F.FAULT_CTRL_pulse = 0 ∧
    s.pulseOver.rd F.FAULT_CTRL_fault_n_low = s.rd F.FAULT_CTRL_fault_n_low ∧ s.pulseOver.clk = s.clk :=
  ⟨(s.rd_pulseOver ..).trans (State.rd_wr_same ..), (s.rd_pulseOver ..).trans (State.rd_wr_ne _ _ _ _ _ _ (by decide)), rfl⟩

/-- R451, R469: once the pulse is over, FAULT_N is high unless fault_n_low holds it low or the ROM has halted. -/
theorem State.pin_pulseOver (s : State) : s.pulseOver.faults.pin = true ↔ s.rd F.FAULT_CTRL_fault_n_low = 0 ∧ s.fw.halt = 0 := by
  obtain ⟨hpulse, hlow, -⟩ := s.pulseOver_spec
  have hpin : s.pulseOver.faults.pin =
      !(s.pulseOver.rdB F.FAULT_CTRL_pulse || s.pulseOver.rdB F.FAULT_CTRL_fault_n_low || s.fw.halt != 0) := rfl
  rw [hpin, State.rdB, State.rdB, hpulse, hlow]
  simp

/-! ## AMBER_IDX (R477) -/

theorem exec_amberLogClear (ho : s.isOperator m = true) (v : W64) : exec (.amberLogClear m v) s =
    .next (if v.toNat.testBit 63 = true then (s.applyWrite .AMBER_IDX v.toNat 0 0).clearAmber else s.applyWrite .AMBER_IDX v.toNat 0 0) :=
  show execAmberLogClear m v s = _ from guardHcs_of_ok ho s _

/-- A write of AMBER_IDX as a register takes the written index, and leaves lost and the store. -/
theorem State.rd_amberIdxWrite (s : State) (v : Nat) : (s.applyWrite .AMBER_IDX v 0 0).rd F.AMBER_IDX_index = bits v 7 0 ∧
    (s.applyWrite .AMBER_IDX v 0 0).rd F.AMBER_STATE_lost = s.rd F.AMBER_STATE_lost ∧ (s.applyWrite .AMBER_IDX v 0 0).bbs = s.bbs :=
  ⟨State.rd_applyWrite_rw (z := 0) _ _ _ _ _ (by decide), State.rd_applyWrite_other _ _ _ _ _ (fun h => absurd h.1 (by decide)),
    (State.applyWrite_keep (W := { b_amber := true }) (Keep.refl s) rfl).parts.bbs rfl⟩

theorem State.amberIdxWrite_keep (s : State) (v : Nat) : Keep { bbs := true, b_amber := true } s (s.applyWrite .AMBER_IDX v 0 0) :=
  State.applyWrite_keep (Keep.refl s) rfl

/-- Settles O27: the pulse's end is `State.pulseOver` with the clock at that end or later (log entry 2; the ROM's halt holds the pin by R451), and the
write of AMBER_IDX is `State.applyWrite`, behind which clear empties the log as the MGC request does. -/
theorem faultPinAndAmberClear : Obligations.FaultPinAndAmberClear := by
  unfold Obligations.FaultPinAndAmberClear
  refine ⟨fun s h => ?pulse, fun m v s ho => ?amber⟩
  case pulse =>
    have ha : Unchanged Parts.pass s (s.advanceTo s.faults.pulseEnd) := (State.advanceTo_keep (Keep.refl s)).parts
    have hlow : (s.advanceTo s.faults.pulseEnd).rd F.FAULT_CTRL_fault_n_low = s.rd F.FAULT_CTRL_fault_n_low := ha.regs _ 0 0 rfl
    obtain ⟨hpulse, hfollows, hclk⟩ := (s.advanceTo s.faults.pulseEnd).pulseOver_spec
    refine ⟨_, exec_faultNPulseEnd h, hpulse, hfollows.trans hlow, ?_, hclk.trans (State.advanceTo_clk ..),
      (State.pulseOver_keep (State.advanceTo_keep (Keep.refl s))).parts⟩
    rw [State.pin_pulseOver, hlow, ha.fw rfl]
  case amber =>
    obtain ⟨hindex, hlost, hbbs⟩ := s.rd_amberIdxWrite v.toNat
    have hk := s.amberIdxWrite_keep v.toNat
    refine ⟨_, exec_amberLogClear ho v, ?_⟩
    by_cases h : v.toNat.testBit 63 = true
    · obtain ⟨hslots, hlost', hrest⟩ := (s.applyWrite .AMBER_IDX v.toNat 0 0).clearAmber_spec
      rw [if_pos h]
      refine ⟨(State.rd_wr_ne _ _ _ _ _ _ (by decide)).trans hindex, fun _ => ⟨hslots, hlost', fun a ha => ?_⟩,
        fun hf => absurd (h.symm.trans hf) nofun, (State.wr_keep (State.bbsZero_keep hk) rfl).parts⟩
      exact (hrest a ha).trans (congrArg (Tab.get 0#8 · a) hbbs)
    · rw [if_neg h]
      exact ⟨hindex, fun ht => absurd ht h, fun _ => ⟨hbbs, hlost⟩, hk.parts⟩

end Sys2Proof.Machine
end

section
/-! Counters and bandwidth windows (23: R561 to R564): the writes of PERF_CTRL, PERF_CNT, OPC_IDX, BW_CTRL and BW_PEAK, the latch of coarsened
readings, and the end of a window. -/

namespace Sys2Proof.Machine

-- One proof at a time: the package is compiled as one text under a memory limit.
set_option Elab.async false

variable {s : State} {m : Master} {n : PartId}

/-! ## PERF_CTRL and PERF_CNT (R561, R562) -/

/-- A field of one bit. -/
theorem bits_self (v k : Nat) : bits v k k = (v.testBit k).toNat := by
  rw [Nat.toNat_testBit, ← Nat.shiftRight_eq_div_pow, bits, Nat.add_sub_cancel_left, pow_one]

/-- A one-bit field that clears on a written 1. -/
theorem State.rd_applyWrite_w1c_bit (s : State) (r : RegId) (v i j : Nat) {k : Nat} (hd : fd k k .w1c ∈ r.fields) :
    (s.applyWrite r v i j).rd ⟨r, k, k⟩ i j = if v.testBit k then 0 else s.rd ⟨r, k, k⟩ i j % 2 := by
  refine (State.rd_applyWrite s r v i j hd).trans ?_
  have hw : k + 1 - k = 1 := Nat.add_sub_cancel_left k 1
  show (s.rd ⟨r, k, k⟩ i j &&& (2 ^ (k + 1 - k) - 1 - bits v k k)) % 2 ^ (k + 1 - k) = _
  rw [hw, bits_self]
  cases v.testBit k <;> simp [Nat.and_one_is_mod]

theorem exec_freeze (ht : s.isTenant n m = true) (v : W64) : exec (.freeze m n v) s = .next (s.applyWrite .PERF_CTRL v.toNat n 0) :=
  show execFreeze m n v s = _ from guardHcs_of_ok ht s _

theorem State.rd_perfCtrlWrite (s : State) (n v : Nat) : (s.applyWrite .PERF_CTRL v n 0).rd F.PERF_CTRL_freeze n = bits v 0 0 ∧
    ∀ j, j < 8 → (s.applyWrite .PERF_CTRL v n 0).rd (F.PERF_CTRL_ovf j) n =
      if v.testBit (8 + j) then 0 else s.rd (F.PERF_CTRL_ovf j) n % 2 := by
  have hovf : ∀ j, j < 8 → fd (8 + j) (8 + j) .w1c ∈ RegId.PERF_CTRL.fields := by decide
  exact ⟨State.rd_applyWrite_rw (z := 0) _ _ _ _ _ (by decide), fun j hj => s.rd_applyWrite_w1c_bit _ _ _ _ (hovf j hj)⟩

/-- R562: what a write of a count stores before it is cut to 48 bits. -/
def State.countWritten (s : State) (m : Master) (n v : Nat) : Nat :=
  if s.coarse n 2 && !s.isOperator m then v / 1024 * 1024 else v

theorem exec_perfCntWrite (ht : s.isTenant n m = true) (j : Fin 8) (v : W64) :
    exec (.perfCntWrite m n j v) s = .next (s.applyWrite .PERF_CNT (s.countWritten m n v.toNat) n j) :=
  show execPerfCntWrite m n j v s = _ from guardHcs_of_ok ht s _

theorem State.coarse_iff (s : State) (n b : Nat) : s.coarse n b = true ↔ n ≠ 0 ∧ s.scope n b = false := by
  simp [State.coarse]

/-- Rounding down to 1024 and the cut to 48 bits may change places. -/
theorem State.bits_countWritten (s : State) (m : Master) (n v : Nat) : bits (s.countWritten m n v) 47 0 =
    if n ≠ 0 ∧ s.scope n 2 = false ∧ s.isOperator m = false then v % 2 ^ 48 / 1024 * 1024 else v % 2 ^ 48 := by
  have hc : (s.coarse n 2 && !s.isOperator m) = true ↔ n ≠ 0 ∧ s.scope n 2 = false ∧ s.isOperator m = false := by
    rw [Bool.and_eq_true, State.coarse_iff, Bool.not_eq_true', and_assoc]
  rw [State.countWritten, ← if_congr hc rfl rfl, apply_ite (bits · 47 0)]
  refine ite_congr rfl (fun _ => ?_) fun _ => rfl
  show v / 1024 * 1024 % 2 ^ 48 = _
  omega

/-! ## The latch of coarsened readings (R562) -/

/-- What coarsened reads of Pn's counters show once they are latched. -/
def State.perfView (s : State) (n : Nat) : PerfView := Tab.get {} (s.perfLatch n).perf n

theorem State.perfView_cycles (s : State) (n : Nat) : (s.perfView n).cycles = s.rd F.PERF_CYCLE_cycles n :=
  congrArg PerfView.cycles (Tab.get_set_same ..)

theorem State.perfView_counts (s : State) (n : Nat) {j : Nat} (hj : j < 8) :
    (s.perfView n).counts[j]? = some (s.rd F.PERF_CNT_count n j) := by
  have hc : (s.perfView n).counts = (List.range 8).map (fun j => s.rd F.PERF_CNT_count n j) := congrArg PerfView.counts (Tab.get_set_same ..)
  rw [hc, List.getElem?_map, List.getElem?_range hj]
  rfl

/-- A latch reads registers and writes views, so latches do not disturb one another. -/
theorem State.foldl_perfLatch (s : State) (k : Nat) : ∃ P, (List.range k).foldl (fun s n => s.perfLatch n) s = { s with perf := P } ∧
    ∀ n, n < k → Tab.get {} P n = s.perfView n := by
  induction k with
  | zero => exact ⟨s.perf, rfl, fun n hn => absurd hn (Nat.not_lt_zero n)⟩
  | succ k ih =>
    obtain ⟨P, hP, hviews⟩ := ih
    rw [List.range_succ, List.foldl_append, hP]
    refine ⟨_, rfl, fun n hn => ?_⟩
    by_cases h : n = k
    · subst h
      exact (Tab.get_set_same ..).trans (Tab.get_set_same ..).symm
    · exact (Tab.get_set_other _ _ _ _ h).trans (hviews n (by omega))

/-- Module time up to the next multiple of 100 us. -/
def State.toBoundary (s : State) : State := s.pass ((s.modTime / 100000 + 1) * 100000 - s.modTime)

theorem State.toBoundary_modTime (h : s.ptp.slew = 0) : s.toBoundary.modTime = (s.modTime / 100000 + 1) * 100000 := by
  rw [State.toBoundary, State.pass_modTime h]
  omega

theorem exec_coarseUpdate (s : State) :
    exec .coarseUpdate s = .next ((List.range 16).foldl (fun s n => s.perfLatch n) s.toBoundary) := rfl

/-! ## OPC_IDX (R563) -/

theorem exec_snap (ho : s.isOperator m = true) (v : W64) : exec (.snap m v) s =
    .next { s.applyWrite .OPC_IDX v.toNat 0 0 with opcShadow := if v.toNat.testBit 63 then s.opc else s.opcShadow } := by
  obtain ⟨R, hR⟩ := State.applyWrite_regs s .OPC_IDX v.toNat 0 0
  refine (show execSnap m v s = _ from guardHcs_of_ok ho s _).trans (congrArg _ ?_)
  simp only [hR, bit]
  split <;> rfl

/-- The write takes index and shadow and leaves the operator counters. -/
theorem State.opcIdxWrite_spec (s : State) (v : Nat) : (s.applyWrite .OPC_IDX v 0 0).opc = s.opc ∧
    (s.applyWrite .OPC_IDX v 0 0).rd F.OPC_IDX_index = bits v 9 0 ∧ (s.applyWrite .OPC_IDX v 0 0).rd F.OPC_IDX_shadow = bits v 10 10 := by
  obtain ⟨R, hR⟩ := State.applyWrite_regs s .OPC_IDX v 0 0
  exact ⟨by rw [hR], State.rd_applyWrite_rw (z := 0) _ _ _ _ _ (by decide), State.rd_applyWrite_rw (z := 0) _ _ _ _ _ (by decide)⟩

/-! ## The end of a bandwidth window (R564) -/

/-- One port latches its bytes, and its peak follows. -/
def State.latchPort (tx rx : List Nat) (s : State) (q : Nat) : State :=
  ((s.wr F.BW_TX_bytes (tx.getD q 0) q).wr F.BW_RX_bytes (rx.getD q 0) q).wr F.BW_PEAK_peak
    (max (((s.wr F.BW_TX_bytes (tx.getD q 0) q).wr F.BW_RX_bytes (rx.getD q 0) q).rd F.BW_PEAK_peak q) (max (tx.getD q 0) (rx.getD q 0))) q

variable {tx rx : List Nat}

theorem State.latchPort_spec (s : State) (q : Nat) : (s.latchPort tx rx q).rd F.BW_TX_bytes q = tx.getD q 0 % 2 ^ F.BW_TX_bytes.width ∧
    (s.latchPort tx rx q).rd F.BW_RX_bytes q = rx.getD q 0 % 2 ^ F.BW_RX_bytes.width ∧
    (s.latchPort tx rx q).rd F.BW_PEAK_peak q = max (s.rd F.BW_PEAK_peak q) (max (tx.getD q 0) (rx.getD q 0)) % 2 ^ 63 := by
  refine ⟨?_, (State.rd_wr_ne _ _ _ _ _ _ (by decide)).trans (State.rd_wr_same ..), (State.rd_wr_same ..).trans ?_⟩
  · exact (State.rd_wr_ne _ _ _ _ _ _ (by decide)).trans ((State.rd_wr_ne _ _ _ _ _ _ (by decide)).trans (State.rd_wr_same ..))
  · rw [State.rd_wr_ne _ _ _ _ _ _ (by decide), State.rd_wr_ne _ _ _ _ _ _ (by decide)]
    rfl

/-- A port's latch reaches its own three registers alone. -/
theorem State.rd_latchPort_other (s : State) {q k : Nat} {f : Fld} (h : f.reg ∉ [RegId.BW_TX, .BW_RX, .BW_PEAK] ∨ k ≠ q) (j : Nat) :
    (s.latchPort tx rx q).rd f k j = s.rd f k j := by
  have hk {g : Fld} (hg : g.reg ∈ [RegId.BW_TX, .BW_RX, .BW_PEAK]) : f.key k j ≠ g.key q 0 := fun e => by
    obtain ⟨hr, -, hi, -⟩ := Fld.key_eq.mp e
    exact h.elim (· (hr ▸ hg)) (· hi)
  rw [State.latchPort, State.rd_wr_other _ _ (hk (by decide)), State.rd_wr_other _ _ (hk (by decide)), State.rd_wr_other _ _ (hk (by decide))]

/-- The first k ports latch. -/
def State.latchPorts (tx rx : List Nat) (s : State) (k : Nat) : State := (List.range k).foldl (State.latchPort tx rx) s

theorem State.latchPorts_succ (s : State) (k : Nat) : s.latchPorts tx rx (k + 1) = (s.latchPorts tx rx k).latchPort tx rx k := by
  rw [State.latchPorts, List.range_succ, List.foldl_append]
  rfl

theorem State.rd_latchPorts_other (s : State) (k : Nat) {i : Nat} {f : Fld} (h : f.reg ∉ [RegId.BW_TX, .BW_RX, .BW_PEAK] ∨ k ≤ i) (j : Nat) :
    (s.latchPorts tx rx k).rd f i j = s.rd f i j := by
  induction k with
  | zero => rfl
  | succ k ih => rw [State.latchPorts_succ, State.rd_latchPort_other _ (h.imp_right (by omega)), ih (h.imp_right (by omega))]

theorem State.latchPorts_bwStart (s : State) (k : Nat) : (s.latchPorts tx rx k).bwStart = s.bwStart := by
  induction k with
  | zero => rfl
  | succ k ih => exact (congrArg State.bwStart (s.latchPorts_succ k)).trans ih

theorem State.latchPorts_spec (s : State) {q k : Nat} (hq : q < k) :
    (s.latchPorts tx rx k).rd F.BW_TX_bytes q = tx.getD q 0 % 2 ^ F.BW_TX_bytes.width ∧
    (s.latchPorts tx rx k).rd F.BW_RX_bytes q = rx.getD q 0 % 2 ^ F.BW_RX_bytes.width ∧
    (s.latchPorts tx rx k).rd F.BW_PEAK_peak q = max (s.rd F.BW_PEAK_peak q) (max (tx.getD q 0) (rx.getD q 0)) % 2 ^ 63 := by
  induction k with
  | zero => exact absurd hq (Nat.not_lt_zero q)
  | succ k ih =>
    rw [State.latchPorts_succ]
    by_cases h : q = k
    · subst h
      rw [← s.rd_latchPorts_other (tx := tx) (rx := rx) (f := F.BW_PEAK_peak) q (.inr le_rfl)]
      exact (s.latchPorts tx rx q).latchPort_spec q
    · simp only [State.rd_latchPort_other _ (.inr h)]
      exact ih (by omega)

/-- The clock at the window's end, where the next one starts. -/
def State.windowOver (s : State) : State :=
  { s.advanceTo (s.bwStart + s.rd F.BW_CTRL_window_us * 1000) with bwStart := s.bwStart + s.rd F.BW_CTRL_window_us * 1000 }

theorem State.incWrap_bwStart (s : State) (f : Fld) (i j k : Nat) : (s.incWrap f i j k).bwStart = s.bwStart := rfl

/-- The clock's move counts cycles and leaves the bandwidth registers. -/
theorem State.rd_windowOver (s : State) {f : Fld} (h : Parts.pass.blk f.reg.block = false) (i j : Nat) :
    s.windowOver.rd f i j = s.rd f i j :=
  (State.advanceTo_keep (W := Parts.pass) (Keep.refl s)).parts.regs f i j h

theorem exec_bwWindow (tx rx : List Nat) (s : State) :
    exec (.bwWindow tx rx) s = .next ((s.windowOver.latchPorts tx rx 46).incWrap F.BW_CTRL_seq) := rfl

/-! ## BW_CTRL and BW_PEAK (R564) -/

theorem exec_bwWindowWrite (ho : s.isOperator m = true) (v : W64) : exec (.bwWindowWrite m v) s =
    .next (if 1 ≤ v.toNat % 2 ^ 20 ∧ v.toNat % 2 ^ 20 ≤ 1000000 then
      { s.applyWrite .BW_CTRL v.toNat 0 0 with bwStart := roundUp (s.clk + 1) 10 } else s) := by
  obtain ⟨R, hR⟩ := State.applyWrite_regs s .BW_CTRL v.toNat 0 0
  refine (show execBwWindowWrite m v s = _ from guardHcs_of_ok ho s _).trans (congrArg _ ?_)
  show (if 1 ≤ v.toNat % 2 ^ 20 ∧ v.toNat % 2 ^ 20 ≤ 1000000 then _ else s) = _
  rw [hR]

/-- A length within its limit is taken; seq is read-only. -/
theorem State.rd_bwCtrlWrite (s : State) {v : Nat} (h : 1 ≤ v % 2 ^ 20 ∧ v % 2 ^ 20 ≤ 1000000) :
    (s.applyWrite .BW_CTRL v 0 0).rd F.BW_CTRL_window_us = v % 2 ^ 20 ∧
    (s.applyWrite .BW_CTRL v 0 0).rd F.BW_CTRL_seq = s.rd F.BW_CTRL_seq :=
  ⟨(State.rd_applyWrite s .BW_CTRL v 0 0 (d := fl 19 0 .rw 1000 1 1000000) (by decide)).trans (if_pos h),
    State.rd_applyWrite s .BW_CTRL v 0 0 (d := fd 63 32 .ro) (by decide)⟩

/-- The next edge of the reference lies within 10 ns and on a multiple of 10 ns. -/
theorem roundUp_succ_ten (c : Nat) : c < roundUp (c + 1) 10 ∧ roundUp (c + 1) 10 ≤ c + 10 ∧ roundUp (c + 1) 10 % 10 = 0 := by
  unfold roundUp
  omega

theorem exec_peakClear (ho : s.isOperator m = true) (q : BwId) (v : W64) :
    exec (.peakClear m q v) s = .next (if v.toNat.testBit 63 then s.wr F.BW_PEAK_peak 0 q else s) :=
  guardHcs_of_ok ho s _

/-- Settles O30: the writes are `State.applyWrite` under the limits above; the latches read registers that no latch writes; the clock reaches the
boundary by `State.pass` (log entry 2), and the window's bytes are operands of its end (log entry 125). -/
theorem counterCommands : Obligations.CounterCommands := by
  unfold Obligations.CounterCommands
  refine ⟨fun m n v s ht => ⟨?freeze, fun j => ?count⟩, fun s => ?coarse, fun m v s ho => ?snap, fun tx rx s => ?window,
    fun m v s ho => ⟨fun h => ?length, fun h => (exec_bwWindowWrite ho v).trans (by rw [if_neg h]),
      fun q => ⟨fun h => (exec_peakClear ho q v).trans (by rw [if_pos h]), fun h => (exec_peakClear ho q v).trans (by simp [h])⟩⟩⟩
  case freeze =>
    obtain ⟨hfreeze, hovf⟩ := s.rd_perfCtrlWrite n v.toNat
    exact ⟨_, exec_freeze ht v, hfreeze, hovf, State.applyWrite_regs ..⟩
  case count =>
    refine ⟨_, exec_perfCntWrite ht j v, ?_, State.applyWrite_regs ..⟩
    exact (State.rd_applyWrite_rw (z := 0) _ _ _ _ _ (by decide)).trans (s.bits_countWritten m n v.toNat)
  case coarse =>
    obtain ⟨P, hP, hviews⟩ := s.toBoundary.foldl_perfLatch 16
    refine ⟨_, (exec_coarseUpdate s).trans (congrArg _ hP), fun n hn => ?_, State.toBoundary_modTime⟩
    rw [show Tab.get {} ({ s.toBoundary with perf := P } : State).perf n = _ from hviews n hn]
    exact ⟨s.toBoundary.perfView_cycles n, fun j hj => s.toBoundary.perfView_counts n hj⟩
  case snap =>
    obtain ⟨hopc, hindex, hshadow⟩ := s.opcIdxWrite_spec v.toNat
    exact ⟨_, exec_snap ho v, hopc, rfl, hindex, hshadow⟩
  case window =>
    refine ⟨_, exec_bwWindow tx rx s, fun q hq => ?_, ?_, (State.incWrap_bwStart ..).trans (s.windowOver.latchPorts_bwStart 46)⟩
    · have hseq {f : Fld} (h : f.reg ≠ .BW_CTRL) (k : Nat) :=
        State.rd_wr_ne (s.windowOver.latchPorts tx rx 46) (f := F.BW_CTRL_seq) (g := f)
          ((s.windowOver.latchPorts tx rx 46).rd F.BW_CTRL_seq + 1) 0 0 k 0 (.inl h)
      obtain ⟨htx, hrx, hpeak⟩ := s.windowOver.latchPorts_spec (tx := tx) (rx := rx) hq
      rw [s.rd_windowOver rfl] at hpeak
      exact ⟨(hseq (by decide) q).trans htx, (hseq (by decide) q).trans hrx, (hseq (by decide) q).trans hpeak⟩
    · refine (State.rd_wr_same ..).trans ?_
      rw [State.rd_latchPorts_other _ _ (.inl (by decide)), s.rd_windowOver rfl]
      rfl
  case length =>
    obtain ⟨hwindow, hseq⟩ := s.rd_bwCtrlWrite h
    exact ⟨_, (exec_bwWindowWrite ho v).trans (congrArg _ (if_pos h)), hwindow, hseq, roundUp_succ_ten s.clk⟩

end Sys2Proof.Machine
end

section
/-! The serial debug port (23: R565 to R567): the TAP instructions, unit debug words and the debug module's halt and resume requests. -/

namespace Sys2Proof.Machine

-- One proof at a time: the package is compiled as one text under a memory limit.
set_option Elab.async false

variable {s : State} {a : BitVec 9} {v : W32} {h : CoreId}

/-! ## The boundary scan register (R565) -/

/-- R565: where EXTEST may drive the pins. -/
def State.ScanOpen (s : State) : Prop := (s.rd F.SEC_STATE_lifecycle = 0 ∨ s.rd F.SEC_STATE_lifecycle = 2) ∧ s.power.off = true

theorem exec_extest_of_open (h : s.ScanOpen) (v : List Bool) : exec (.extest v) s = .next ((s.tap 0x00).sampled v) := if_pos h

theorem exec_extest_of_closed (h : ¬ s.ScanOpen) (v : List Bool) :
    exec (.extest v) s = .next ((s.tap 0x00).bypassed (v.getLastD false)) := if_neg h

/-! ## DMI accesses, by the range of the address (R565 to R567) -/

theorem exec_dmi_write_unit (ha : 0x100 ≤ a.toNat) (v : W32) (s : State) :
    exec (.dmi true a v) s = .next ((s.tap 0x11).unitPut a.toNat v.toNat) := if_pos ha

theorem exec_dmi_write_module (ha : a.toNat < 0x80) (v : W32) (s : State) :
    exec (.dmi true a v) s = .next ((s.tap 0x11).dmWrite a.toNat v.toNat) :=
  (if_neg (by omega)).trans (if_pos ha)

theorem exec_dmi_read_nowhere (hlo : 0x80 ≤ a.toNat) (hhi : a.toNat < 0x100) (v : W32) (s : State) :
    exec (.dmi false a v) s = .next { s.tap 0x11 with lastRead := 0 } :=
  (if_neg (by omega)).trans (if_neg (by omega))

/-- Each of the four breakpoint words keeps its defined bits. -/
theorem State.unitPut_breakpoint (s : State) (b : Fin 4) (v : Nat) :
    s.unitPut (0x103 + b.val) v = s.setDbg (fun d => { d with bps := Tab.set 0 d.bps b (v &&& 0x80FFFFFF) }) :=
  match b with
  | 0 => rfl
  | 1 => rfl
  | 2 => rfl
  | 3 => rfl

theorem exec_dmi_breakpoint (b : Fin 4) (v : W32) (s : State) : exec (.dmi true (BitVec.ofNat 9 (0x103 + b.val)) v) s =
    .next { s with dbg := { s.dbg with ir := 17, bps := Tab.set 0 s.dbg.bps b (v.toNat &&& 0x80FFFFFF) } } := by
  have ha : (BitVec.ofNat 9 (0x103 + b.val)).toNat = 0x103 + b.val := (BitVec.toNat_ofNat ..).trans (Nat.mod_eq_of_lt (by omega))
  rw [exec_dmi_write_unit (by omega), ha, State.unitPut_breakpoint]
  simp only [State.tap, State.setDbg]

/-- The two words of UDBG_ADDR, the low one first, make up the address. -/
theorem addr_of_words (x : Nat) (v w : W32) : (x / 2 ^ 32 * 2 ^ 32 + v.toNat) % 2 ^ 32 + w.toNat * 2 ^ 32 = v.toNat + w.toNat * 2 ^ 32 := by
  have := v.isLt
  omega

theorem exec_dmi_addrLow (v : W32) (s : State) : exec (.dmi true 0x107 v) s =
    .next ((s.tap 0x11).setDbg (fun d => { d with addr := d.addr / 2 ^ 32 * 2 ^ 32 + v.toNat })) := rfl

theorem exec_dmi_addrHigh (v : W32) (s : State) : exec (.dmi true 0x108 v) s =
    .next ((s.tap 0x11).setDbg (fun d => { d with addr := d.addr % 2 ^ 32 + v.toNat * 2 ^ 32 })) := rfl

theorem exec_dmi_addr (v w : W32) (s : State) : ∃ t, exec (.dmi true 0x107 v) s = .next t ∧
    exec (.dmi true 0x108 w) t = .next { s with dbg := { s.dbg with ir := 17, addr := v.toNat + w.toNat * 2 ^ 32 } } :=
  ⟨_, exec_dmi_addrLow v s, (exec_dmi_addrHigh w _).trans (by simp only [State.tap, State.setDbg, addr_of_words])⟩

/-! ## dmcontrol (R566) -/

/-- Bits that a mask holds whole. -/
theorem bits_and_of_mask {k hi lo : Nat} (hk : bits k hi lo = 2 ^ (hi + 1 - lo) - 1) (v : Nat) : bits (v &&& k) hi lo = bits v hi lo := by
  unfold bits at hk ⊢
  rw [Nat.shiftRight_and_distrib, Nat.and_mod_two_pow, hk, Nat.and_two_pow_sub_one_eq_mod, Nat.mod_mod]

/-- dmcontrol is written with dmactive set. -/
def State.dmSelect (s : State) (v : Nat) : State := (s.tap 0x11).setDm 0x10 (v &&& 0x03FFFFC1)

theorem State.dmHart_dmSelect (s : State) (v : Nat) : (s.dmSelect v).dmHart = bits v 25 16 + bits v 15 6 * 1024 := by
  have hw : (s.dmSelect v).dmWord 0x10 = v &&& 0x03FFFFC1 := Tab.get_set_same ..
  rw [State.dmHart, hw, bits_and_of_mask (by decide), bits_and_of_mask (by decide)]

/-- Whether a hart exists for the debugger does not depend on what the module keeps. -/
theorem State.hartOpen_dmSelect (s : State) (v h k : Nat) : (s.dmSelect v).hartOpen h k = s.hartOpen h k := rfl

/-- R566: what follows the write is judged on the hart that it selects. -/
theorem exec_dmi_dmcontrol (hact : v.toNat.testBit 0 = true) (hsel : bits v.toNat 25 16 + bits v.toNat 15 6 * 1024 = h) (s : State) :
    exec (.dmi true 0x10 v) s = .next (
      if !s.hartOpen h 0 then s.dmSelect v.toNat
      else if v.toNat.testBit 31 then (s.dmSelect v.toNat).hartHalt h
      else if v.toNat.testBit 30 then ((s.dmSelect v.toNat).setDm (0x3000 + h) 0).hartResume h
      else s.dmSelect v.toNat) := by
  have hh : (s.dmSelect v.toNat).dmHart = h := (s.dmHart_dmSelect v.toNat).trans hsel
  refine (exec_dmi_write_module (by decide) v s).trans (congrArg _ (show (s.tap 0x11).dmControl v.toNat = _ from ?_))
  have hs : (s.tap 0x11).setDm 0x10 (v.toNat &&& 0x03FFFFC1) = s.dmSelect v.toNat := rfl
  simp only [State.dmControl, bit, hact, hs, hh, State.hartOpen_dmSelect, Bool.not_true, Bool.false_eq_true, if_false]

/-- A service core in RUN or WFI halts. -/
theorem State.hartHalt_of_runs (hr : s.rd F.SC_STATE_state h = 1 ∨ s.rd F.SC_STATE_state h = 2) :
    s.hartHalt h = s.wr F.SC_STATE_state 3 h := by
  have hne : h.val ≠ 16 := by omega
  have hruns : s.hartRuns h = true := by simpa [State.hartRuns, hne] using hr
  rw [State.hartHalt, hruns, if_neg hne]
  rfl

/-- A halted service core returns to RUN and acknowledges. -/
theorem State.hartResume_of_halted (hh : s.rd F.SC_STATE_state h = 3) :
    s.hartResume h = (s.wr F.SC_STATE_state 1 h).setDm (0x3000 + h) 1 := by
  have hne : h.val ≠ 16 := by omega
  have hhalted : s.hartHalted h = true := by simpa [State.hartHalted, hne] using hh
  rw [State.hartResume, hhalted, if_neg hne]
  rfl

theorem exec_dmi_haltreq (hact : v.toNat.testBit 0 = true) (hsel : bits v.toNat 25 16 + bits v.toNat 15 6 * 1024 = h)
    (ho : s.hartOpen h 0 = true) (h31 : v.toNat.testBit 31 = true) (hr : s.rd F.SC_STATE_state h = 1 ∨ s.rd F.SC_STATE_state h = 2) :
    exec (.dmi true 0x10 v) s = .next ((s.dmSelect v.toNat).wr F.SC_STATE_state 3 h) := by
  rw [exec_dmi_dmcontrol hact hsel, ho, h31, State.hartHalt_of_runs (s := s.dmSelect v.toNat) hr]
  rfl

theorem exec_dmi_resumereq (hact : v.toNat.testBit 0 = true) (hsel : bits v.toNat 25 16 + bits v.toNat 15 6 * 1024 = h)
    (ho : s.hartOpen h 0 = true) (h31 : v.toNat.testBit 31 = false) (h30 : v.toNat.testBit 30 = true) (hh : s.rd F.SC_STATE_state h = 3) :
    exec (.dmi true 0x10 v) s = .next ((((s.dmSelect v.toNat).setDm (0x3000 + h) 0).wr F.SC_STATE_state 1 h).setDm (0x3000 + h) 1) := by
  rw [exec_dmi_dmcontrol hact hsel, ho, h31, h30, State.hartResume_of_halted (s := (s.dmSelect v.toNat).setDm (0x3000 + h) 0) hh]
  rfl

theorem exec_dmi_dmcontrol_of_closed (hact : v.toNat.testBit 0 = true) (hsel : bits v.toNat 25 16 + bits v.toNat 15 6 * 1024 = h)
    (ho : s.hartOpen h 0 = false) : exec (.dmi true 0x10 v) s = .next (s.dmSelect v.toNat) := by
  rw [exec_dmi_dmcontrol hact hsel, ho]
  rfl

/-- A core's state is written, and no other register. -/
theorem State.wr_coreState_spec (s : State) {x : Nat} (hx : x < 2 ^ F.SC_STATE_state.width) :
    (s.wr F.SC_STATE_state x h).rd F.SC_STATE_state h = x ∧
    ∀ f i j, (f.reg ≠ .SC_STATE ∨ i ≠ h.val) → (s.wr F.SC_STATE_state x h).rd f i j = s.rd f i j := by
  refine ⟨(State.rd_wr_same ..).trans (Nat.mod_eq_of_lt hx), fun f i j hf => State.rd_wr_other _ _ fun e => ?_⟩
  obtain ⟨hr, -, hi, -⟩ := Fld.key_eq.mp e
  exact hf.elim (· hr) (· hi)

/-- Settles O31: each access is one arm of the port's model (log entries 122 to 124 for the debug module, BYPASS and DTMCS); that addresses 0x80 to
0xFF read zero is the DMI's remaining range. -/
theorem debugPortInstructions : Obligations.DebugPortInstructions := by
  unfold Obligations.DebugPortInstructions
  refine ⟨fun s => rfl, fun b s => rfl, fun v s => ⟨⟨_, rfl⟩, fun h => ⟨_, exec_extest_of_open h v⟩, fun h => exec_extest_of_closed h v⟩,
    fun v s => ⟨_, Nat.mod_lt _ (by decide), rfl⟩,
    fun v s => ⟨rfl, rfl, rfl, rfl, fun w => exec_dmi_addr v w s, fun b => exec_dmi_breakpoint b v s,
      fun a hlo hhi => exec_dmi_read_nowhere hlo hhi v s⟩, fun v h s hact hsel => ⟨fun ho h31 hr => ?halt, fun ho h31 h30 hh => ?resume,
      fun ho => ⟨_, exec_dmi_dmcontrol_of_closed hact hsel ho, rfl⟩⟩⟩
  case halt => exact ⟨_, exec_dmi_haltreq hact hsel ho h31 hr, (s.dmSelect v.toNat).wr_coreState_spec (by decide)⟩
  case resume =>
    exact ⟨_, exec_dmi_resumereq hact hsel ho h31 h30 hh, ((s.dmSelect v.toNat).setDm (0x3000 + h) 0).wr_coreState_spec (x := 1) (by decide)⟩

end Sys2Proof.Machine
end

section
/-! The debug of a selected unit (23: R567 to R569): HALT, RESUME, STEP, the report that a unit is still, and its memory. -/

namespace Sys2Proof.Machine

-- One proof at a time: the package is compiled as one text under a memory limit.
set_option Elab.async false

variable {s : State} {d : UnitDbg} {n a : Nat}

/-! ## HALT, RESUME and STEP (R568) -/

/-- The gate before each of the three. -/
theorem State.ite_selOpen (s t : State) : (if !s.selOpen then s else t) = if s.selOpen then t else s := by
  cases s.selOpen <;> rfl

section
variable (ho : s.selOpen = true) (hd : s.unitDbg s.dbgKind s.dbgUnit = d)
include ho hd

theorem exec_unitHalt_of_running (h : d.state = 0) : exec .unitHalt s =
    .next ((s.setUnitDbg s.dbgKind s.dbgUnit { d with state := 1, hit := false, steps := 0 }).dbgResult 0) := by
  subst hd
  exact congrArg _ (((s.ite_selOpen _).trans (if_pos ho)).trans (congrArg (State.dbgResult · 0) (if_pos h)))

theorem exec_unitHalt_of_not_running (h : d.state ≠ 0) : exec .unitHalt s = .next (s.dbgResult 0) := by
  subst hd
  exact congrArg _ (((s.ite_selOpen _).trans (if_pos ho)).trans (congrArg (State.dbgResult · 0) (if_neg h)))

/-- An engine that goes on keeps the hit that stopped it, so that it passes its breakpoint. -/
theorem exec_unitResume_of_not_running (h : d.state ≠ 0) : exec .unitResume s =
    .next ((s.setUnitDbg s.dbgKind s.dbgUnit { d with state := 0, steps := 0, hit := d.hit && s.dbgKind == 1 }).dbgResult 0) := by
  subst hd
  exact congrArg _ (((s.ite_selOpen _).trans (if_pos ho)).trans (congrArg (State.dbgResult · 0) (if_neg h)))

theorem exec_unitResume_of_running (h : d.state = 0) : exec .unitResume s = .next (s.dbgResult 0) := by
  subst hd
  exact congrArg _ (((s.ite_selOpen _).trans (if_pos ho)).trans (congrArg (State.dbgResult · 0) (if_pos h)))

theorem exec_unitStep_of_halted (h : d.state = 2) : exec .unitStep s =
    .next ((s.setUnitDbg s.dbgKind s.dbgUnit { d with steps := d.steps + 1, group := s.dbgGroup }).dbgResult 0) := by
  subst hd
  exact congrArg _ (((s.ite_selOpen _).trans (if_pos ho)).trans (congrArg (State.dbgResult · 0) (if_pos h)))

end

/-- R567: without the token none of the three does anything. -/
theorem exec_unitOps_of_closed (ho : s.selOpen = false) :
    exec .unitHalt s = .next s ∧ exec .unitResume s = .next s ∧ exec .unitStep s = .next s := by
  have hclosed (t : State) : (if !s.selOpen then s else t) = s := (s.ite_selOpen t).trans (if_neg (by simp [ho]))
  exact ⟨congrArg _ (hclosed _), congrArg _ (hclosed _), congrArg _ (hclosed _)⟩

/-! ## The report that a unit is still (R568) -/

theorem exec_unitHalted_of_found {k : Nat} (h : s.dbg.units.find? (fun e => e.2.state = 1) = some (k, d)) : exec .unitHalted s =
    .next { s with dbg := { s.dbg with units := Tab.set {} s.dbg.units k { d with state := 2 } } } := by
  show execUnitHalted s = _
  rw [execUnitHalted, h]
  show Host.Outcome.next (s.setUnitDbg (k / 4096) (k % 4096) { d with state := 2 }) = _
  rw [State.setUnitDbg, Nat.div_add_mod]

/-! ## Unit memory (R569) -/

section
variable (hn : s.unitPart s.dbgKind s.dbgUnit = n) (ha : s.dbg.addr = a) (ho : s.selOpen = true) (hs : s.scope n 1 = true)
  (hok : addrOk a = true) (h4 : a % 4 = 0) (hu : s.unreadable a 4 = none)
include hn ha ho hs hok h4 hu

/-- R569: a read may also reach a whole pseudo-channel of the partition's engines. -/
theorem State.unitAccess_read
    (hin : s.addrIn n a 4 = true ∨ (addrKind a = 2 ∧ s.engineOwner (a % 2 ^ 60 / 2 ^ 48 / 2) = n ∧ s.beingRemoved n = false)) :
    s.unitAccess false = 0 := by
  unfold State.unitAccess
  dsimp only
  rw [hn, show s.dbgAddr = a from ha]
  rcases hin with hin | ⟨hk, he, hr⟩
  · simp [ho, hs, hok, h4, hu, hin]
  · simp [-Nat.reducePow, ho, hs, hok, h4, hu, hk, he, hr]

theorem State.unitAccess_write (hin : s.addrIn n a 4 = true)
    (him : addrKind a = 4 → s.inImage n (a % 2 ^ 60) 4 = false ∧ s.blockedUnit (a % 2 ^ 60) 4 = false)
    (hh : s.storeHalted n a = true) : s.unitAccess true = 0 := by
  unfold State.unitAccess
  dsimp only
  rw [hn, show s.dbgAddr = a from ha]
  by_cases hk : addrKind a = 4
  · obtain ⟨himage, hblocked⟩ := him hk
    simp [-Nat.reducePow, ho, hs, hok, h4, hu, hin, hh, himage, hblocked]
  · simp [ho, hs, hok, h4, hu, hin, hh, hk]

end

theorem exec_unitMemRead_of_ok (h : s.unitAccess false = 0) : exec .unitMemRead s =
    .next { s with dbg := { s.dbg with
      data := leVal (s.load (s.unitPart s.dbgKind s.dbgUnit) s.dbg.addr 4), addr := (s.dbg.addr + 4) % 2 ^ 64, result := 0 } } := by
  refine (show exec .unitMemRead s = .next s.unitRead from rfl).trans (congrArg _ ?_)
  unfold State.unitRead
  dsimp only
  rw [if_neg (not_not_intro h)]
  simp only [State.dbgResult, State.dbgAdvance, State.setDbg, State.dbgAddr]

theorem State.store_dbg (s : State) (n a : Nat) (bs : List Byte) : (s.store n a bs).dbg = s.dbg := by
  unfold State.store
  split <;> rfl

theorem exec_unitMemWrite_of_ok (h : s.unitAccess true = 0) : exec .unitMemWrite s =
    .next { s.store (s.unitPart s.dbgKind s.dbgUnit) s.dbg.addr (leBytes 4 s.dbg.data) with
      dbg := { s.dbg with addr := (s.dbg.addr + 4) % 2 ^ 64, result := 0 } } := by
  rw [← s.store_dbg (s.unitPart s.dbgKind s.dbgUnit) s.dbg.addr (leBytes 4 s.dbg.data)]
  exact congrArg _ ((if_neg (not_not_intro h)).trans (by simp [State.dbgResult, State.dbgAdvance, State.setDbg, State.dbgAddr, State.store_dbg]))

/-- Settles O32: one equation for each operation on an open unit (a STEP of an engine grants one page by log entry 119; RESUME of a halting
unit is that of a halted one), and an access whose status is 0 moves its four bytes. -/
theorem unitDebugCommands : Obligations.UnitDebugCommands := by
  unfold Obligations.UnitDebugCommands
  refine ⟨fun s d hd => ?operations, fun s k d hf => ?still,
    fun s n a hn ha ho hs hok h4 => ⟨fun hin hu => ?read, fun hin him hh hu => ?write⟩⟩
  case operations =>
    exact ⟨fun ho h => exec_unitHalt_of_running ho hd h, fun ho h => exec_unitHalt_of_not_running ho hd h,
      fun ho h => ⟨_, _, exec_unitResume_of_not_running ho hd h, rfl⟩, fun ho h => exec_unitResume_of_running ho hd h,
      fun ho h => exec_unitStep_of_halted ho hd h, exec_unitOps_of_closed⟩
  case still =>
    exact ⟨_, exec_unitHalted_of_found hf, Tab.get_set_same {} s.dbg.units k { d with state := 2 },
      fun l hl => Tab.get_set_other {} {} s.dbg.units { d with state := 2 } hl, _, rfl⟩
  case read =>
    have hexec := exec_unitMemRead_of_ok (State.unitAccess_read hn ha ho hs hok h4 hu hin)
    rwa [hn, ha] at hexec
  case write =>
    have hexec := exec_unitMemWrite_of_ok (State.unitAccess_write hn ha ho hs hok h4 hu hin him hh)
    rwa [hn, ha] at hexec

end Sys2Proof.Machine
end

section
/-! What every command and every step does (00_scope; 95): a command answers a next state that keeps what `Keep` says, with
`commandMayChange c` as the parts it may change. The order, the runs, the frame, the queue and the identity are read off that. -/

namespace Sys2Proof.Machine

/-! ## One command -/

/-- One arm for each arm of `exec`: what the command's meaning keeps, with the parts that `commandMayChange` gives it. -/
theorem exec_keep (c : Instr) (s : State) : KeepR (commandMayChange c) s (exec c s) := by
  -- A `Keep` lemma asks that each part it changes is named in the set; with the command known every such claim reduces to this one.
  have part_named : true = true := rfl
  cases c with dsimp only [exec]
  | registerWrite => exact execRegisterWrite_keep (.refl s)
  | accessError => exact execAccessError_keep (.refl s)
  | undefinedOffsetAccess => exact execUndefinedOffsetAccess_keep (.refl s)
  | forbiddenMasterAccess => exact execForbiddenMasterAccess_keep (.refl s)
  | vinMate => exact execVinMate_keep (.refl s)
  | powerOnResetRelease => exact execPowerOnResetRelease_keep (.refl s)
  | moduleReset => exact execModuleReset_keep (.refl s)
  | ddr4TrainingDone => exact execDdr4TrainingDone_keep (.refl s)
  | runtimeCopyDone => exact execRuntimeCopyDone_keep (.refl s)
  | bootScrubDone => exact execBootScrubDone_keep (.refl s)
  | partitionBecomesEmpty => exact execPartitionBecomesEmpty_keep (.refl s)
  | verify => exact execVerify_keep (.refl s)
  | verifyDone => exact execVerifyDone_keep (.refl s)
  | apply => exact execApply_keep (.refl s)
  | applyScrubDone => exact execApplyScrubDone_keep (.refl s)
  | applyDone => exact execApplyDone_keep (.refl s)
  | discard => exact execDiscard_keep (.refl s)
  | remove => exact execRemove_keep (.refl s)
  | removalDrainDone => exact execRemovalDrainDone_keep (.refl s)
  | removalTimeout => exact execRemovalTimeout_keep (.refl s)
  | removalScrubDone => exact execRemovalScrubDone_keep (.refl s)
  | commitVersion => exact execCommitVersion_keep (.refl s)
  | streamCommandDone => exact execStreamCommandDone_keep (.refl s)
  | tileStoreUncorrectable => exact execTileStoreUncorrectable_keep (.refl s)
  | tileReloadDone => exact execTileReloadDone_keep (.refl s)
  | tilePatrolPass => exact execTilePatrolPass_keep (.refl s)
  | selftestStart => exact execSelftestStart_keep (.refl s)
  | tileSelftestStart => exact execTileSelftestStart_keep (.refl s)
  | selftestDone => exact execSelftestDone_keep (.refl s)
  | selftestAbortDone => exact execSelftestAbortDone_keep (.refl s)
  | kernel => exact execKernel_keep (.refl s)
  | budget => exact execBudget_keep (.refl s)
  | regParity => exact execRegParity_keep (.refl s)
  | nop => exact execNop_keep (.refl s)
  | exit => exact execExit_keep (.refl s)
  | bra => exact execBra_keep (.refl s)
  | brs => exact execBrs_keep (.refl s)
  | brp => exact execBrp_keep (.refl s)
  | bar => exact execBar_keep (.refl s)
  | swait => exact execSwait_keep (.refl s)
  | fadd => exact execFadd_keep (.refl s)
  | fsub => exact execFsub_keep (.refl s)
  | fmul => exact execFmul_keep (.refl s)
  | ffma => exact execFfma_keep (.refl s)
  | fmin => exact execFmin_keep (.refl s)
  | fmax => exact execFmax_keep (.refl s)
  | fabs => exact execFabs_keep (.refl s)
  | fneg => exact execFneg_keep (.refl s)
  | fsqrt => exact execFsqrt_keep (.refl s)
  | fldexp => exact execFldexp_keep (.refl s)
  | frint => exact execFrint_keep (.refl s)
  | fclamp => exact execFclamp_keep (.refl s)
  | frcp => exact execFrcp_keep (.refl s)
  | frsq => exact execFrsq_keep (.refl s)
  | fdiv => exact execFdiv_keep (.refl s)
  | fexp2 => exact execFexp2_keep (.refl s)
  | fexp => exact execFexp_keep (.refl s)
  | flog2 => exact execFlog2_keep (.refl s)
  | ftanh => exact execFtanh_keep (.refl s)
  | fsigm => exact execFsigm_keep (.refl s)
  | iadd => exact execIadd_keep (.refl s)
  | isub => exact execIsub_keep (.refl s)
  | imul => exact execImul_keep (.refl s)
  | imad => exact execImad_keep (.refl s)
  | and => exact execAnd_keep (.refl s)
  | or => exact execOr_keep (.refl s)
  | xor => exact execXor_keep (.refl s)
  | not => exact execNot_keep (.refl s)
  | shl => exact execShl_keep (.refl s)
  | shru => exact execShru_keep (.refl s)
  | shrs => exact execShrs_keep (.refl s)
  | imin => exact execImin_keep (.refl s)
  | imax => exact execImax_keep (.refl s)
  | umin => exact execUmin_keep (.refl s)
  | umax => exact execUmax_keep (.refl s)
  | fcmp => exact execFcmp_keep (.refl s)
  | icmp => exact execIcmp_keep (.refl s)
  | ucmp => exact execUcmp_keep (.refl s)
  | f32Fmt => exact execF32Fmt_keep (.refl s)
  | f32S32 => exact execF32S32_keep (.refl s)
  | f32Mxi8 => exact execF32Mxi8_keep (.refl s)
  | fmtF32 => exact execFmtF32_keep (.refl s)
  | s32F32 => exact execS32F32_keep (.refl s)
  | mxi8F32 => exact execMxi8F32_keep (.refl s)
  | mxscale => exact execMxscale_keep (.refl s)
  | mov => exact execMov_keep (.refl s)
  | sel => exact execSel_keep (.refl s)
  | laneid => exact execLaneid_keep (.refl s)
  | bcast => exact execBcast_keep (.refl s)
  | shflIdx => exact execShflIdx_keep (.refl s)
  | shflXor => exact execShflXor_keep (.refl s)
  | shflUp => exact execShflUp_keep (.refl s)
  | shflDown => exact execShflDown_keep (.refl s)
  | vote => exact execVote_keep (.refl s)
  | vtos => exact execVtos_keep (.refl s)
  | ldU8 => exact execLdU8_keep (.refl s)
  | ldS8 => exact execLdS8_keep (.refl s)
  | ldU16 => exact execLdU16_keep (.refl s)
  | ldS16 => exact execLdS16_keep (.refl s)
  | ld32 => exact execLd32_keep (.refl s)
  | ld128 => exact execLd128_keep (.refl s)
  | st8 => exact execSt8_keep (.refl s)
  | st16 => exact execSt16_keep (.refl s)
  | st32 => exact execSt32_keep (.refl s)
  | st128 => exact execSt128_keep (.refl s)
  | qld32 => exact execQld32_keep (.refl s)
  | qld128 => exact execQld128_keep (.refl s)
  | qst32 => exact execQst32_keep (.refl s)
  | qst128 => exact execQst128_keep (.refl s)
  | atomFadd => exact execAtomFadd_keep (.refl s)
  | atomIadd => exact execAtomIadd_keep (.refl s)
  | atomFmax => exact execAtomFmax_keep (.refl s)
  | atomImax => exact execAtomImax_keep (.refl s)
  | atomXchg => exact execAtomXchg_keep (.refl s)
  | atomCas => exact execAtomCas_keep (.refl s)
  | qatom => exact execQatom_keep (.refl s)
  | sin => exact execSin_keep (.refl s)
  | sout => exact execSout_keep (.refl s)
  | sadd => exact execSadd_keep (.refl s)
  | ssub => exact execSsub_keep (.refl s)
  | smul => exact execSmul_keep (.refl s)
  | sand => exact execSand_keep (.refl s)
  | sor => exact execSor_keep (.refl s)
  | sxor => exact execSxor_keep (.refl s)
  | sshl => exact execSshl_keep (.refl s)
  | sshr => exact execSshr_keep (.refl s)
  | ssar => exact execSsar_keep (.refl s)
  | smov => exact execSmov_keep (.refl s)
  | smovhi => exact execSmovhi_keep (.refl s)
  | sread => exact execSread_keep (.refl s)
  | sld => exact execSld_keep (.refl s)
  | matmul => exact execMatmul_keep (.refl s)
  | conv => exact execConv_keep (.refl s)
  | pool => exact execPool_keep (.refl s)
  | chain => exact execChain_keep (.refl s)
  | reduce => exact execReduce_keep (.refl s)
  | softmax => exact execSoftmax_keep (.refl s)
  | norm => exact execNorm_keep (.refl s)
  | gather => exact execGather_keep (.refl s)
  | scatter => exact execScatter_keep (.refl s)
  | fft => exact execFft_keep (.refl s)
  | convert => exact execConvert_keep (.refl s)
  | attnPrefill => exact execAttnPrefill_keep (.refl s)
  | attnDecode => exact execAttnDecode_keep (.refl s)
  | load => exact execLoad_keep (.refl s)
  | loadSectionsRead => exact execLoadSectionsRead_keep (.refl s)
  | planBuilt => exact execPlanBuilt_keep (.refl s)
  | weightsCopied => exact execWeightsCopied_keep (.refl s)
  | replace => exact execReplace_keep (.refl s)
  | unload => exact execUnload_keep (.refl s)
  | unloadDone => exact execUnloadDone_keep (.refl s)
  | abort => exact execAbort_keep (.refl s)
  | check => exact execCheck_keep (.refl s)
  | checkDone => exact execCheckDone_keep (.refl s)
  | kvWrite => exact execKvWrite_keep (.refl s)
  | expandedRead => exact execExpandedRead_keep (.refl s)
  | vetiverQuery => exact execVetiverQuery_keep (.refl s)
  | queryAccepted => exact execQueryAccepted_keep (.refl s)
  | engineWalk => exact execEngineWalk_keep (.refl s)
  | pageBufferParity => exact execPageBufferParity_keep (.refl s)
  | stackUncorrectable => exact execStackUncorrectable_keep (.refl s)
  | stackBlockReloadDone => exact execStackBlockReloadDone_keep (.refl s)
  | stackPatrolPass => exact execStackPatrolPass_keep (.refl s)
  | stepCommit => exact execStepCommit_keep (.refl s)
  | stepDiscard => exact execStepDiscard_keep (.refl s)
  | standingEditAdvance => exact execStandingEditAdvance_keep (.refl s)
  | zeroAndCheck => exact execZeroAndCheck_keep (.refl s)
  | zeroAndCheckDone => exact execZeroAndCheckDone_keep (.refl s)
  | auditSweep => exact execAuditSweep_keep (.refl s)
  | auditSweepDone => exact execAuditSweepDone_keep (.refl s)
  | pagePatrolPass => exact execPagePatrolPass_keep (.refl s)
  | quarantine => exact execQuarantine_keep (.refl s)
  | pageRelease => exact execPageRelease_keep (.refl s)
  | fence => exact execFence_keep (.refl s)
  | submit => exact execSubmit_keep (.refl s)
  | cancel => exact execCancel_keep (.refl s)
  | reqPause => exact execReqPause_keep (.refl s)
  | reqResume => exact execReqResume_keep (.refl s)
  | reqRead => exact execReqRead_keep (.refl s)
  | deadlineSettlement => exact execDeadlineSettlement_keep (.refl s)
  | recordRetry => exact execRecordRetry_keep (.refl s)
  | create => exact execCreate_keep (.refl s)
  | createDone => exact execCreateDone_keep (.refl s)
  | destroy => exact execDestroy_keep (.refl s)
  | ringPause => exact execRingPause_keep (.refl s)
  | ringResume => exact execRingResume_keep (.refl s)
  | drain => exact execDrain_keep (.refl s)
  | ringReset => exact execRingReset_keep (.refl s)
  | ringResetDone => exact execRingResetDone_keep (.refl s)
  | ringRead => exact execRingRead_keep (.refl s)
  | producerDoorbell => exact execProducerDoorbell_keep (.refl s)
  | consumerDoorbell => exact execConsumerDoorbell_keep (.refl s)
  | completionReservation => exact execCompletionReservation_keep (.refl s)
  | dmaNop => exact execDmaNop_keep (.refl s)
  | copy => exact execCopy_keep (.refl s)
  | fill => exact execFill_keep (.refl s)
  | strided => exact execStrided_keep (.refl s)
  | linkWrite => exact execLinkWrite_keep (.refl s)
  | descriptorComplete => exact execDescriptorComplete_keep (.refl s)
  | entryWriteRetry => exact execEntryWriteRetry_keep (.refl s)
  | ringAuditCheck => exact execRingAuditCheck_keep (.refl s)
  | ringIrqTimer => exact execRingIrqTimer_keep (.refl s)
  | ddr4Uncorrectable => exact execDdr4Uncorrectable_keep (.refl s)
  | weightsUnitRestored => exact execWeightsUnitRestored_keep (.refl s)
  | ddr4PatrolPass => exact execDdr4PatrolPass_keep (.refl s)
  | dataCell => exact execDataCell_keep (.refl s)
  | leaseCell => exact execLeaseCell_keep (.refl s)
  | credit => exact execCredit_keep (.refl s)
  | replayReq => exact execReplayReq_keep (.refl s)
  | audit => exact execAudit_keep (.refl s)
  | auditReply => exact execAuditReply_keep (.refl s)
  | negotiate => exact execNegotiate_keep (.refl s)
  | vcReset => exact execVcReset_keep (.refl s)
  | ack => exact execAck_keep (.refl s)
  | nack => exact execNack_keep (.refl s)
  | creditReportTimer => exact execCreditReportTimer_keep (.refl s)
  | auditPeriod => exact execAuditPeriod_keep (.refl s)
  | signalDetected => exact execSignalDetected_keep (.refl s)
  | linkTrainingDone => exact execLinkTrainingDone_keep (.refl s)
  | linkTrainingTimeout => exact execLinkTrainingTimeout_keep (.refl s)
  | linkRetry => exact execLinkRetry_keep (.refl s)
  | negotiateTimer => exact execNegotiateTimer_keep (.refl s)
  | portEnable => exact execPortEnable_keep (.refl s)
  | portDisable => exact execPortDisable_keep (.refl s)
  | retrain => exact execRetrain_keep (.refl s)
  | laneLockLost => exact execLaneLockLost_keep (.refl s)
  | retrainDone => exact execRetrainDone_keep (.refl s)
  | retrainTimeout => exact execRetrainTimeout_keep (.refl s)
  | signalLost => exact execSignalLost_keep (.refl s)
  | ackTimeout => exact execAckTimeout_keep (.refl s)
  | vcResetResend => exact execVcResetResend_keep (.refl s)
  | routeEntryWrite => exact execRouteEntryWrite_keep (.refl s)
  | plantFrame => exact execPlantFrame_keep (.refl s)
  | plantLinkChange => exact execPlantLinkChange_keep (.refl s)
  | ptpMessage => exact execPtpMessage_keep (.refl s)
  | announceTimeout => exact execAnnounceTimeout_keep (.refl s)
  | poTx => exact execPoTx_keep (.refl s)
  | poCopyDone => exact execPoCopyDone_keep (.refl s)
  | poPeriod => exact execPoPeriod_keep (.refl s)
  | cvCfgWrite => exact execCvCfgWrite_keep (.refl s)
  | scanStart => exact execScanStart_keep (.refl s)
  | scanDone => exact execScanDone_keep (.refl s)
  | vidOpen => exact execVidOpen_keep (.refl s)
  | close => exact execClose_keep (.refl s)
  | feed => exact execFeed_keep (.refl s)
  | flush => exact execFlush_keep (.refl s)
  | vidRead => exact execVidRead_keep (.refl s)
  | packetLossTimeout => exact execPacketLossTimeout_keep (.refl s)
  | pictureDecoded => exact execPictureDecoded_keep (.refl s)
  | encodeDone => exact execEncodeDone_keep (.refl s)
  | attest => exact execAttest_keep (.refl s)
  | keyImport => exact execKeyImport_keep (.refl s)
  | keyDelete => exact execKeyDelete_keep (.refl s)
  | consentSubmit => exact execConsentSubmit_keep (.refl s)
  | consentRevoke => exact execConsentRevoke_keep (.refl s)
  | consentExpiry => exact execConsentExpiry_keep (.refl s)
  | writeMgmt => exact execWriteMgmt_keep (.refl s)
  | writeSlot => exact execWriteSlot_keep (.refl s)
  | flashWriteDone => exact execFlashWriteDone_keep (.refl s)
  | arm => exact execArm_keep (.refl s)
  | disarm => exact execDisarm_keep (.refl s)
  | confirm => exact execConfirm_keep (.refl s)
  | commitMgmt => exact execCommitMgmt_keep (.refl s)
  | commitRuntime => exact execCommitRuntime_keep (.refl s)
  | trialExpiry => exact execTrialExpiry_keep (.refl s)
  | faultNPulseEnd => exact execFaultNPulseEnd_keep (.refl s)
  | faultAck => exact execFaultAck_keep (.refl s)
  | faultClear => exact execFaultClear_keep (.refl s)
  | ackAll => exact execAckAll_keep (.refl s)
  | faultInject => exact execFaultInject_keep (.refl s)
  | injectedEvent => exact execInjectedEvent_keep (.refl s)
  | amberLogClear => exact execAmberLogClear_keep (.refl s)
  | renew => exact execRenew_keep (.refl s)
  | grant => exact execGrant_keep (.refl s)
  | deny => exact execDeny_keep (.refl s)
  | release => exact execRelease_keep (.refl s)
  | renewTimer => exact execRenewTimer_keep (.refl s)
  | leaseDoubt => exact execLeaseDoubt_keep (.refl s)
  | leaseExpiry => exact execLeaseExpiry_keep (.refl s)
  | takeoverTimer => exact execTakeoverTimer_keep (.refl s)
  | partnerSilent => exact execPartnerSilent_keep (.refl s)
  | releaseResend => exact execReleaseResend_keep (.refl s)
  | handover => exact execHandover_keep (.refl s)
  | watchdogKick => exact execWatchdogKick_keep (.refl s)
  | watchdog => exact execWatchdog_keep (.refl s)
  | pathSilent => exact execPathSilent_keep (.refl s)
  | removalWarning => exact execRemovalWarning_keep (.refl s)
  | sagStart => exact execSagStart_keep (.refl s)
  | sagEnd => exact execSagEnd_keep (.refl s)
  | supplyLoss => exact execSupplyLoss_keep (.refl s)
  | surge => exact execSurge_keep (.refl s)
  | surgeOff => exact execSurgeOff_keep (.refl s)
  | capLvlChange => exact execCapLvlChange_keep (.refl s)
  | mgmtCapWrite => exact execMgmtCapWrite_keep (.refl s)
  | plannerTick => exact execPlannerTick_keep (.refl s)
  | recallDone => exact execRecallDone_keep (.refl s)
  | loweringSettled => exact execLoweringSettled_keep (.refl s)
  | powerWindow => exact execPowerWindow_keep (.refl s)
  | flowReport => exact execFlowReport_keep (.refl s)
  | flowStale => exact execFlowStale_keep (.refl s)
  | flowOff => exact execFlowOff_keep (.refl s)
  | temperatureSample => exact execTemperatureSample_keep (.refl s)
  | softLimitTick => exact execSoftLimitTick_keep (.refl s)
  | eoff => exact execEoff_keep (.refl s)
  | eoffRelease => exact execEoffRelease_keep (.refl s)
  | powerBooksAudit => exact execPowerBooksAudit_keep (.refl s)
  | idleChoice => exact execIdleChoice_keep (.refl s)
  | idleExit => exact execIdleExit_keep (.refl s)
  | idleExitDone => exact execIdleExitDone_keep (.refl s)
  | clockChangeDone => exact execClockChangeDone_keep (.refl s)
  | crossTimeout => exact execCrossTimeout_keep (.refl s)
  | scInstruction => exact execScInstruction_keep (.refl s)
  | scIrqRead => exact execScIrqRead_keep (.refl s)
  | consoleWrite => exact execConsoleWrite_keep (.refl s)
  | consoleRead => exact execConsoleRead_keep (.refl s)
  | trayConsoleData => exact execTrayConsoleData_keep (.refl s)
  | bbsWrite => exact execBbsWrite_keep (.refl s)
  | mailboxDoorbell => exact execMailboxDoorbell_keep (.refl s)
  | recoveryStart => exact execRecoveryStart_keep (.refl s)
  | recoveryAbort => exact execRecoveryAbort_keep (.refl s)
  | recoveryData => exact execRecoveryData_keep (.refl s)
  | status => exact execStatus_keep (.refl s)
  | amberRead => exact execAmberRead_keep (.refl s)
  | amberClear => exact execAmberClear_keep (.refl s)
  | fault => exact execFault_keep (.refl s)
  | powerOn => exact execPowerOn_keep (.refl s)
  | powerOff => exact execPowerOff_keep (.refl s)
  | reset => exact execReset_keep (.refl s)
  | setCap => exact execSetCap_keep (.refl s)
  | mgmtHandover => exact execMgmtHandover_keep (.refl s)
  | mgmtAttest => exact execMgmtAttest_keep (.refl s)
  | claim => exact execClaim_keep (.refl s)
  | keyEnrol => exact execKeyEnrol_keep (.refl s)
  | keyRemove => exact execKeyRemove_keep (.refl s)
  | unlock => exact execUnlock_keep (.refl s)
  | lifecycle => exact execLifecycle_keep (.refl s)
  | linkKeyImport => exact execLinkKeyImport_keep (.refl s)
  | linkKeyDelete => exact execLinkKeyDelete_keep (.refl s)
  | mgmtConsentSubmit => exact execMgmtConsentSubmit_keep (.refl s)
  | mgmtConsentRevoke => exact execMgmtConsentRevoke_keep (.refl s)
  | nypra => exact execNypra_keep (.refl s)
  | fwWrite => exact execFwWrite_keep (.refl s)
  | fwCtrl => exact execFwCtrl_keep (.refl s)
  | setNetwork => exact execSetNetwork_keep (.refl s)
  | mgmtSessionOpen => exact execMgmtSessionOpen_keep (.refl s)
  | sessionIdleTimeout => exact execSessionIdleTimeout_keep (.refl s)
  | leaseSessionRetry => exact execLeaseSessionRetry_keep (.refl s)
  | cellMeasure => exact execCellMeasure_keep (.refl s)
  | cellReplaced => exact execCellReplaced_keep (.refl s)
  | freeze => exact execFreeze_keep (.refl s)
  | perfCntWrite => exact execPerfCntWrite_keep (.refl s)
  | coarseUpdate => exact execCoarseUpdate_keep (.refl s)
  | snap => exact execSnap_keep (.refl s)
  | bwWindow => exact execBwWindow_keep (.refl s)
  | bwWindowWrite => exact execBwWindowWrite_keep (.refl s)
  | peakClear => exact execPeakClear_keep (.refl s)
  | extest => exact execExtest_keep (.refl s)
  | idcode => exact execIdcode_keep (.refl s)
  | samplePreload => exact execSamplePreload_keep (.refl s)
  | dtmcs => exact execDtmcs_keep (.refl s)
  | dmi => exact execDmi_keep (.refl s)
  | bypass => exact execBypass_keep (.refl s)
  | unitHalt => exact execUnitHalt_keep (.refl s)
  | unitHalted => exact execUnitHalted_keep (.refl s)
  | unitResume => exact execUnitResume_keep (.refl s)
  | unitStep => exact execUnitStep_keep (.refl s)
  | unitMemRead => exact execUnitMemRead_keep (.refl s)
  | unitMemWrite => exact execUnitMemWrite_keep (.refl s)
  | alwaysOnSupplyFail => exact execAlwaysOnSupplyFail_keep (.refl s)
  | supplyRestored => exact execSupplyRestored_keep (.refl s)

theorem Keep.ok {W : Parts} {s t : State} (h : Keep W s t) (hs : s.ok = true) : t.ok = true := by
  unfold State.ok State.queueOk at hs ⊢
  simp only [Bool.and_eq_true] at hs ⊢
  obtain ⟨⟨⟨hmem, hbbs⟩, hregs⟩, hqueue⟩ := hs
  exact ⟨⟨⟨h.mem hmem, h.bbs hbbs⟩, h.regs hregs⟩, h.pending ▸ hqueue⟩

/-- Taking commands off the front of the queue keeps the order. -/
theorem State.ok_pending_tail {s : State} {c : Instr} {rest : List Instr} (hp : s.pending = c :: rest) (hs : s.ok = true) :
    State.ok { s with pending := rest } = true := by
  unfold State.ok State.queueOk at hs ⊢
  rw [hp, List.all_cons] at hs
  simp only [Bool.and_eq_true] at hs ⊢
  obtain ⟨hstate, -, hrest⟩ := hs
  exact ⟨hstate, hrest⟩

/-! ## One step -/

theorem step_of_empty {s : State} (hp : s.pending = []) : step s = .next s.tick := by
  unfold step
  rw [hp]

theorem step_of_front {s : State} {c : Instr} {rest : List Instr} (hp : s.pending = c :: rest) :
    step s = exec c { s with pending := rest } := by
  unfold step
  rw [hp]

theorem State.tick_keep (s : State) : Keep Parts.pass s s.tick := State.pass_keep (.refl s)

/-- From a state in order a step answers a next state, which is in order. -/
theorem step_next_ok {s : State} (hs : s.ok = true) : ∃ t, step s = .next t ∧ t.ok = true := by
  cases hp : s.pending with
  | nil => exact ⟨s.tick, step_of_empty hp, s.tick_keep.ok hs⟩
  | cons c rest =>
    obtain ⟨t, hexec, hkeep⟩ := exec_keep c { s with pending := rest }
    exact ⟨t, (step_of_front hp).trans hexec, hkeep.ok (State.ok_pending_tail hp hs)⟩

/-- Settles O4: a step answers one next state, and that is in order. -/
theorem stepKeepsOrder : Obligations.StepKeepsOrder := by
  unfold Obligations.StepKeepsOrder
  intro s t hs hstep
  obtain ⟨u, hu, hok⟩ := step_next_ok hs
  cases hstep.symm.trans hu
  exact hok

/-- Settles O5, by induction on the length of the run. -/
theorem runsNeverStop : Obligations.RunsNeverStop := by
  unfold Obligations.RunsNeverStop
  intro k
  induction k with
  | zero => exact fun s hs => ⟨s, rfl, hs⟩
  | succ k ih =>
    intro s hs
    obtain ⟨u, hstep, hu⟩ := step_next_ok hs
    obtain ⟨t, hreach, ht⟩ := ih u hu
    exact ⟨t, ⟨u, hstep, hreach⟩, ht⟩

/-- Settles O1: the front of the queue is the command that the step runs. -/
theorem frontCommandRuns : Obligations.FrontCommandRuns := by
  unfold Obligations.FrontCommandRuns
  exact fun c rest s => step_of_front (s := { s with pending := c :: rest }) rfl

/-- Settles O6: the frame of each command is that of its `Keep` lemma. -/
theorem commandFrame : Obligations.CommandFrame := by
  unfold Obligations.CommandFrame
  intro c s
  obtain ⟨t, hexec, hkeep⟩ := exec_keep c s
  exact ⟨t, hexec, hkeep.parts⟩

/-- Settles O7: every command's `Keep` holds the queue, the identity and the count of free values. -/
theorem queueAndIdentityKept : Obligations.QueueAndIdentityKept := by
  unfold Obligations.QueueAndIdentityKept
  intro c s
  obtain ⟨t, hexec, hkeep⟩ := exec_keep c s
  exact ⟨t, hexec, hkeep.pending, hkeep.identity, hkeep.fresh⟩

/-! ## The tick (R378, R381, R561) -/

/-- With no offset outstanding the PTP engine is as before. -/
theorem State.pass_ptp {s : State} (h : s.ptp.slew = 0) (dt : Nat) : (s.pass dt).ptp = s.ptp := by
  have hptp : (s.countCycles dt).ptp = s.ptp := (State.countCycles_keep (W := { b_perf := true }) (.refl s)).parts.ptp rfl
  unfold State.pass
  dsimp only
  rw [if_pos (hptp ▸ h)]
  exact hptp

/-- Settles O2: the step on an empty queue is the tick, 10 ns of `State.pass`. -/
theorem emptyQueueTicks : Obligations.EmptyQueueTicks := by
  unfold Obligations.EmptyQueueTicks
  exact fun s hp => ⟨s.tick, step_of_empty hp, State.pass_clk s 10, State.pass_unchanged s 10,
    fun hslew => ⟨State.pass_modTime hslew 10, State.pass_ptp hslew 10⟩⟩

end Sys2Proof.Machine
end

section
/-! Writes of command registers (Tables 2.14, 7.7, 10.8, 11.2, 12.9, 16.11, 17.14, 18.6 and 19.11, and the rows of the opcode table that are
writes of one register): the write is the command that its value spells. -/

namespace Sys2Proof.Machine

theorem word_toNat (w : W64) : word w.toNat = w := by
  rw [word, BitVec.ofNat_toNat, BitVec.setWidth_eq]

theorem exec_eq_next_nextOf (c : Instr) (s : State) : exec c s = .next (nextOf s (exec c s)) := by
  obtain ⟨t, hexec, -⟩ := exec_keep c s
  rw [hexec]
  rfl

/-- The write of a command register leads to the state that its command leads to: for an op register by the op, for a register whose write is a
row of its own with the word written as the command's operand. -/
theorem State.writeReg_of_commandOf {m : Master} {r : RegId} {i j : Nat} {w : W64} {c : Instr} (s : State) :
    CommandOf m r i j w c → s.writeReg m r i j w.toNat = nextOf s (exec c s) := by
  cases r with
  | NYPRA_CMD | WIMG_CMD | PAGE_CMD | REQ_CMD | RING_CMD | VID_CMD | SEC_CMD | FW_CMD | FAULT_CMD =>
    intro h
    dsimp only [CommandOf] at h
    -- One case for each op of the register's table, and one for the reserved ops, which spell no command.
    split at h <;> cases h
    all_goals next hop =>
      refine congrArg (nextOf s) ?_
      rw [hop]
      rfl
  | REDUN_CMD =>
    intro h
    dsimp only [CommandOf] at h
    split at h
    next hop => exact (if_pos hop).trans (h ▸ rfl)
    next => exact h.elim
  | TILE_SELFTEST | RING_PI | RING_CI | LINK_ROUTE_DATA | CV_CFG | CV_SCAN_LEN | FAULT_INJECT | AMBER_IDX | REDUN_CTRL | PWR_CTRL
  | BBS_DATA | PERF_CNT | PERF_CTRL | OPC_IDX | BW_CTRL | BW_PEAK =>
    intro h
    rw [← word_toNat w] at h
    exact h ▸ rfl
  | PO_TX => exact fun h => h ▸ rfl
  | _ => exact False.elim

/-- Settles O9: a master that reaches the register gets the register's write, which is the command's next state. -/
theorem commandRegisterWrites : Obligations.CommandRegisterWrites := by
  unfold Obligations.CommandRegisterWrites
  intro m sp off w s r i j c ha hr hm hc
  rw [exec_registerWrite, State.writeAt_eq_writeReg _ ha hr hm, State.writeReg_of_commandOf s hc, ← exec_eq_next_nextOf]

end Sys2Proof.Machine
end
